-- ==== Sys2Proof/Word.lean ====
section
/-! DEFINITION. The words of the SCM-2048's packets, registers and records. -/
namespace Sys2Proof

/-- One byte of a packet, a record or a bank. -/
abbrev Byte := BitVec 8

/-- A 16-bit field: an opcode, a tag, a two-wire word. -/
abbrev Half := BitVec 16

/-- A 32-bit host-port register or parameter word. -/
abbrev Word := BitVec 32

end Sys2Proof
end

