-- ==== Sys2Proof/Syntax.lean ====
section
/-! DEFINITION. The commands of the SCM-2048: one constructor per row of the opcode table, with their operands. -/
namespace Sys2Proof

/-- The transports that carry command packets: the host SPI port and the CAN command channel. -/
inductive Port where
  | spi | can
  deriving DecidableEq, Repr

/-- Modes and states (R104). -/
inductive Mode where
  | start | loader | standby | run | service | hollow | lockout | thermalLock | hibernate
  deriving DecidableEq, Repr

/-- Engines that report quiescent (R29, R30). -/
inductive Engine where
  | supervisor | ac0 | ac1 | array
  deriving DecidableEq, Repr

/-- Cores that take events from a router interface (R45). -/
inductive CoreDest where
  | supervisor | ac0 | ac1
  deriving DecidableEq, Repr

/-- The two feeds and their converters (chapter 03). -/
inductive FeedId where
  | a | b
  deriving DecidableEq, Repr

/-- Feed states, codes 0 to 7 (chapter 03). -/
inductive FeedCode where
  | aActive | bActive | toB | toA | holdOnly | commit | single | proof
  deriving DecidableEq, Repr

/-- Wake sources of `SYS.WAKE_MASK`, bits 0 to 6; a ring wake tone names its ring, a CAN wake its channel. -/
inductive WakeSource where
  | strandCurrent | can (channel : Nat) | twoWire | wakeIn | hostSelect | wakeTone (ring : Nat) | alarm
  deriving DecidableEq, Repr

/-- What the feed monitor sees when a start from unpowered begins (R72, R75). -/
structure PowerTests where
  mvA : Nat
  mvB : Nat
  reversedA : Bool := false
  reversedB : Bool := false
  deriving DecidableEq, Repr

/-- Outcomes of the tests of steps 5 to 14 of R114. -/
structure StartTests where
  /-- TB1 is enabled and within its tolerance (R39, R40). -/
  tb1 : Bool := false
  /-- Main image present and its signature valid (step 8). -/
  signature : Bool := true
  /-- A valid applied parameter set was found (step 7, R116). -/
  params : Bool := true
  /-- Rows that fail the March C− test, as (bank, row) pairs (step 9). -/
  rows : List (Nat × Nat) := []
  /-- Self-tests of the estimation array and AC1 (step 14, R108). -/
  array : Bool := true
  ac1 : Bool := true
  /-- Guard die self-test and enable paths (step 14, R492). -/
  guard : Bool := true
  /-- The second copy of the field repair table is good (R643). -/
  repairCopy : Bool := true
  /-- A valid copy of the guarded set was found (step 12, R495). -/
  guardedSet : Bool := true
  /-- A safety output fault of step 14 (R492): the output. -/
  output : Option Nat := none
  deriving DecidableEq, Repr

/-- Loop operation states of a ring (chapter 06). -/
inductive RingOp where
  | disabled | enumerating | loop | split | down
  deriving DecidableEq, Repr

/-- Loop modes (chapter 12). -/
inductive LoopMode where
  | off | manual | auto | hold | track
  deriving DecidableEq, Repr

/-- A satellite's identity entry (R204). -/
structure SatIdentity where
  address : Nat
  device : Nat := 0xE6
  revision : Nat := 0
  /-- Running image: 0 A, 1 B. -/
  image : Nat := 0
  versionA : Nat := 0
  versionB : Nat := 0
  serial : List Byte := List.replicate 8 0x30
  deriving DecidableEq, Repr

/-- A satellite's part of a COLLECT as it arrives: the bytes of its block and its 16-bit flag lane (R196, R197). -/
structure RawSlot where
  block : List Byte
  lane : Half
  deriving DecidableEq, Repr

/-- One COLLECT frame as it comes back (R192, R196). -/
structure CollectFrame where
  /-- The six header bytes. -/
  header : List Byte
  slots : List RawSlot
  deriving DecidableEq, Repr

/-- The COLLECT of one snapshot: one frame, in split operation one per half that has a satellite, near half first (R212). -/
structure CollectData where
  /-- The module's return receiver sees reversed polarity (R220). -/
  reversed : Bool := false
  frames : List CollectFrame
  deriving DecidableEq, Repr

/-- One response entry of a COMMAND frame that passes its CRC-32 (R201). -/
structure RingReply where
  addr : Nat
  code : Nat
  tag : Nat
  /-- 0 done, 1 CRC failed, 2 unknown code, 3 refused, 4 busy. -/
  status : Nat
  /-- Response bytes 1 to 7. -/
  result : List Byte
  deriving DecidableEq, Repr

/-- Readings of the HV die at one instant: the pairs of R271 in mV, and the shunt in µV. -/
structure HvSample where
  /-- Strand, positive and negative contactor, bus. -/
  volt : Int := 0
  pos : Int := 0
  neg : Int := 0
  bus : Int := 0
  shunt : Int := 0
  deriving DecidableEq, Repr

/-- The HV die's series around the sampling instant of a snapshot (R273, R278). -/
structure IntakeData where
  /-- The samples that bracket the instant, of the 2 kS/s pair series and of the 8 kS/s shunt series. -/
  older : HvSample := {}
  newer : HvSample := {}
  /-- The instant after the older sample: of the pairs, in 1/500 of their spacing, and of the shunt, in 1/125 of its own. -/
  after : Nat := 0
  shuntAfter : Nat := 0
  /-- What the replica of the corner filter gives at the instant; its coefficients are not in the spec (corners 1 to 3). -/
  filtered : HvSample := {}
  deriving DecidableEq, Repr

/-- One strand's part of an HV round: pair readings and shunt. -/
structure HvStrand where
  pos : Int := 0
  neg : Int := 0
  volt : Int := 0
  /-- Shunt, µV. -/
  shunt : Int := 0
  deriving DecidableEq, Repr

/-- One round of the HV multiplexer (R271). -/
structure HvRound where
  strands : List HvStrand
  bus : Int := 0
  refBad : Bool := false
  /-- Mask of sense pins whose test shift says open (R276). -/
  openPins : Nat := 0
  deriving DecidableEq, Repr

/-- Outputs of the field die (chapter 14). -/
inductive OutputId where
  | so (n : Nat) | go (n : Nat) | ts (n : Nat)
  deriving DecidableEq, Repr

/-- An output's read-back (R519). -/
structure Readback where
  /-- Load current, mA. -/
  current : Nat := 0
  /-- Conducting: both poles of a safety output, the high pole otherwise. -/
  conducting : Bool := false
  /-- Largest current of one pole, mA. -/
  pole : Nat := 0
  /-- The open-load condition of verdict 1 has held for its time. -/
  openLoad : Bool := false
  deriving DecidableEq, Repr

/-- A CAN frame (chapter 16). -/
structure CanFrame where
  id : Nat
  extended : Bool := false
  fd : Bool := true
  remote : Bool := false
  data : List Byte
  deriving DecidableEq, Repr

/-- Masters of the scratchpad banks (chapter 19). -/
inductive Master where
  | supervisor | ac0 | ac1 | array | loop | queue | port
  deriving DecidableEq, Repr

/-- What a loop sample finds outside the engine (chapter 12). -/
structure LoopData where
  /-- Sample instant, µs after the latest frame boundary. -/
  offset : Nat := 0
  /-- Sample instant to output change, ns (R426). -/
  delay : Nat := 300
  /-- The sample did not finish before the next instant (R452). -/
  overrun : Bool := false
  deriving DecidableEq, Repr

/-- Readings of a housekeeping round (chapter 15). -/
structure Housekeeping where
  temps : List (Option Int) := []
  supplies : List Int := []
  comparator : Bool := false
  deriving DecidableEq, Repr

/-- Final status of a transmit descriptor (R558). -/
inductive TxStatus where
  | transmitted | cancelled | abortedDeadline | abortedMode
  deriving DecidableEq, Repr

/-- The commands of the block, one constructor per row of the opcode table. -/
inductive Instr where
  /-- Report the identity block (R131). -/
  | getIdentity (port : Port) (tag : Half) (payload : List Byte)
  /-- Report mode, strands, feeds, counters and clock state (R160). -/
  | getStatus (port : Port) (tag : Half) (payload : List Byte)
  /-- Reply with the same payload (R159). -/
  | echo (port : Port) (tag : Half) (payload : List Byte)
  /-- Ask for a mode transition (R105). -/
  | requestMode (port : Port) (tag : Half) (payload : List Byte)
  /-- Close the contactors of the masked strands, one after another (R297). -/
  | connectStrands (port : Port) (tag : Half) (payload : List Byte)
  /-- Open the masked strands and run their weld checks (R304). -/
  | disconnectStrands (port : Port) (tag : Half) (payload : List Byte)
  /-- Open the arming window of the lock-out reset (R129). -/
  | lockoutResetArm (port : Port) (tag : Half) (payload : List Byte)
  /-- Ask for a module reset, made after the reply is read (R162). -/
  | resetModule (port : Port) (tag : Half) (payload : List Byte)
  /-- The reset asked for by RESET_MODULE, or by a loader update, happens (R162). -/
  | moduleResetAfterReply
  /-- Read listed points (R163). -/
  | readPoints (port : Port) (tag : Half) (payload : List Byte)
  /-- Set, replace or end a subscription (R167). -/
  | subscribePoints (port : Port) (tag : Half) (payload : List Byte)
  /-- Read the newest complete snapshot of a strand (R166). -/
  | readSnapshot (port : Port) (tag : Half) (payload : List Byte)
  /-- Read parameters (R169). -/
  | readParam (port : Port) (tag : Half) (payload : List Byte)
  /-- Stage parameters, or accept immediate ones (R170). -/
  | stageParam (port : Port) (tag : Half) (payload : List Byte)
  /-- Check the staged set (R174). -/
  | checkStage (port : Port) (tag : Half) (payload : List Byte)
  /-- Commit the staged set at a saddle point (R176). -/
  | fordApply (port : Port) (tag : Half) (payload : List Byte)
  /-- Empty the shadow set (R180). -/
  | discardStage (port : Port) (tag : Half) (payload : List Byte)
  /-- Unlock the guarded set (R181). -/
  | unlockSafetySet (port : Port) (tag : Half) (payload : List Byte)
  /-- Command a loop's mode (R456). -/
  | loopSetMode (port : Port) (tag : Half) (payload : List Byte)
  /-- Set a loop's manual output (R457). -/
  | loopSetManual (port : Port) (tag : Half) (payload : List Byte)
  /-- Arm, stop or start the trace recorder (R458). -/
  | traceArm (port : Port) (tag : Half) (payload : List Byte)
  /-- Read recorded trace samples (R464). -/
  | traceRead (port : Port) (tag : Half) (payload : List Byte)
  /-- Report the silt log's counters (R663). -/
  | siltInfo (port : Port) (tag : Half) (payload : List Byte)
  /-- Read silt records (R665). -/
  | siltRead (port : Port) (tag : Half) (payload : List Byte)
  /-- Read the change log (R498). -/
  | changeLogRead (port : Port) (tag : Half) (payload : List Byte)
  /-- Open an update session (R674). -/
  | updBegin (port : Port) (tag : Half) (payload : List Byte)
  /-- Transfer one piece of an image (R676). -/
  | updPiece (port : Port) (tag : Half) (payload : List Byte)
  /-- Report transfer progress (R677). -/
  | updProgress (port : Port) (tag : Half) (payload : List Byte)
  /-- Verify the whole image (R678). -/
  | updVerify (port : Port) (tag : Half) (payload : List Byte)
  /-- The signature of the open session's image has been checked (R679). -/
  | verificationComplete (good : Bool)
  /-- Hand a component over to its verified image (R682). -/
  | updHandover (port : Port) (tag : Half) (payload : List Byte)
  /-- Confirm an image within its health window (R691). -/
  | updConfirm (port : Port) (tag : Half) (payload : List Byte)
  /-- Abort a session or fall back (R696). -/
  | updAbort (port : Port) (tag : Half) (payload : List Byte)
  /-- Start a March test of one bank (R644). -/
  | marchTest (port : Port) (tag : Half) (payload : List Byte)
  /-- The running March test ends with the (bank, row) pairs that failed (R645). -/
  | marchTestComplete (failing : List (Nat × Nat))
  /-- Start the standby converter's proof test (R85). -/
  | proofTestFeed (port : Port) (tag : Half) (payload : List Byte)
  /-- Start an open-wire test or a survey (R263). -/
  | openWireTest (port : Port) (tag : Half) (payload : List Byte)
  /-- Report the banks' counters (R646). -/
  | bankStatus (port : Port) (tag : Half) (payload : List Byte)
  /-- Read bytes of a bank (R647). -/
  | bankRead (port : Port) (tag : Half) (payload : List Byte)
  /-- Send a satellite command and return the response (R231). -/
  | satCommand (port : Port) (tag : Half) (payload : List Byte)
  /-- Report a satellite's identity and counters (R230). -/
  | satIdentity (port : Port) (tag : Half) (payload : List Byte)
  /-- Two-wire word with code 0 (R156). -/
  | nop (arg : Nat)
  /-- Two-wire word asking for a status field (R156). -/
  | status (arg : Nat)
  /-- Two-wire word latching a watched point and returning its low half (R156). -/
  | watchLo (arg : Nat)
  /-- Two-wire word returning the latched high half (R156). -/
  | watchHi (arg : Nat)
  /-- Two-wire word requesting a mode (R156). -/
  | mode (arg : Nat)
  /-- Two-wire word disconnecting strands (R156). -/
  | disconnect (arg : Nat)
  /-- Two-wire word with a reserved code (R156). -/
  | twReservedCode (code arg : Nat)
  /-- The status byte is read over the two-wire bus (R608). -/
  | twStatusRead
  /-- The reply word is read over the two-wire bus (R610). -/
  | twReplyRead
  /-- A stretched read reaches its limit (R611). -/
  | twStretchExpired
  /-- A transfer breaks the target protocol (R612). -/
  | twProtocol
  /-- SCL stays low past the target's limit (R613). -/
  | twSclTimeout
  /-- The host writes a command packet (R143). -/
  | packetWrite (bytes : List Byte)
  /-- The stored packet is posted to Q0 or Q1 (R147). -/
  | packetStored
  /-- The host reads one outgoing packet (R146). -/
  | packetRead (clocked : Nat)
  /-- The host reads mailbox bytes of banks 20 and 21 (R142). -/
  | mbxRead (offset length : Nat)
  /-- The host sends an instruction byte the port does not know (R142). -/
  | spiUnknownInstruction (code : Byte)
  /-- The host writes a host-port register (R149). -/
  | regWrite (addr : Nat) (data : Word)
  /-- The host writes HP_IRQ_PEND (R149). -/
  | hpIrqPendWrite (data : Word)
  /-- The host reads HP_EVENT (R149). -/
  | hpEventRead
  /-- The host reads HP_TIME_LO (R149). -/
  | hpTimeLoRead
  /-- A segment arrives on the CAN command identifier (R153). -/
  | canCmdSegment (bytes : List Byte)
  /-- The next segment is missing for the reassembly time (R153). -/
  | canReassemblyTimeout
  /-- A subscription period elapses (R167). -/
  | pointData (port : Port) (num : Nat)
  /-- A service-schedule frame begins; the supervisor starts commands, at least 8 while commands wait (R29). -/
  | frameBoundary (starts : Nat)
  /-- 900 µs into the frame, the named engines still have a unit in flight (R29). -/
  | quiesceMark (running : List Engine)
  /-- An engine's unit in flight completes (R28). -/
  | workUnitComplete (engine : Engine)
  /-- A core takes an event from its router interface (R45). -/
  | eventTaken (dest : CoreDest)
  /-- TB1 leaves ±200 ppm (R40). -/
  | tb1DisciplineLost
  /-- A feed reaches 9 V from unpowered (R114). -/
  | powerOn (tests : PowerTests)
  /-- HOLD is charged (R89). -/
  | holdChargeComplete (ufs : Nat) (tests : StartTests)
  /-- HOLD does not charge in time (R90). -/
  | holdChargeTimeout (tests : StartTests)
  /-- A held reset ends and the module starts from step 5 (R115). -/
  | resetStart (elapsed : Nat) (tests : StartTests)
  /-- A wake source fires in HIBERNATE (R121). -/
  | wakeSource (source : WakeSource) (elapsed : Nat) (tests : StartTests)
  /-- The real-time alarm comes due in HIBERNATE (R121). -/
  | rtAlarm (elapsed : Nat) (tests : StartTests)
  /-- MRST_N is pulled low long enough (R123). -/
  | mrstN
  /-- A core supply leaves its limits (R123). -/
  | coreSupplyFault
  /-- A fatal fault stops the supervisor (R123). -/
  | fatalFault
  /-- A unit of AC1 or the array exceeds its time (R108). -/
  | workUnitTimeout (engine : Engine)
  /-- AC1's heartbeat is missing (R108). -/
  | ac1HeartbeatTimeout
  /-- LOCK_RST is released after a hold of so many microseconds of TB13 (R127). -/
  | lockRstRelease (held : Nat)
  /-- The arming window of LOCKOUT_RESET_ARM ends (R128). -/
  | lockoutArmExpiry
  /-- AC0's supervision task runs (R481). -/
  | ac0SupervisionTask
  /-- No AC0 word reached the guard die for 5 ms (R127). -/
  | ac0WordTimeout
  /-- The active feed is below the switch threshold for 20 µs (R78). -/
  | feedBelowThreshold (mvA mvB : Nat)
  /-- The started converter carries the module (R81). -/
  | handoverComplete
  /-- The started converter does not carry the module in time (R79). -/
  | handoverFailed
  /-- The standby feed is back for its time (R81). -/
  | standbyRestored (feed : FeedId) (mv : Nat)
  /-- The voltages both feeds have held for 20 µs in hold only, mV (R79, R728). -/
  | holdOnlyRecovery (mvA mvB : Nat)
  /-- The feeds follow each other, or no longer do (R76). -/
  | feedsIdentical (same absent : Bool)
  /-- A feed rises above 36 V (R82). -/
  | feedAbove36v (feed : FeedId)
  /-- A feed is reversed (R72). -/
  | feedReversed (feed : FeedId)
  /-- A scheduled proof test falls due (R730). -/
  | proofTestDue
  /-- HOLD falls to the commit threshold (R92). -/
  | powerFailCommit (mv : Nat) (steps : Nat)
  /-- HOLD stays recovered after a commit began (R733). -/
  | supplyRecovered
  /-- HOLD falls to the shutdown threshold (R95). -/
  | orderedShutdown
  /-- HOLD runs low in HIBERNATE (R97). -/
  | hibernateHoldLow
  /-- The journal's period elapses (R100). -/
  | journalPeriodic
  /-- A ring's snapshot trigger, so many microseconds after the frame boundary (R211). -/
  | ringTrigger (ring offset : Nat)
  /-- A ring's blanking instant (R212). -/
  | blank (ring : Nat)
  /-- A ring's COLLECT instant (R212). -/
  | collect (ring : Nat)
  /-- The COLLECT frame returns (R217). -/
  | collectReturn (ring : Nat) (data : CollectData)
  /-- The COLLECT frame does not return (R217). -/
  | collectTimeout (ring : Nat)
  /-- Carrier is lost on a pair (R221). -/
  | lossOfCarrier (ring : Nat) (outPair : Bool)
  /-- A ring's command window opens (R213). -/
  | commandWindow (ring : Nat)
  /-- A COMMAND frame returns (R213). -/
  | commandResponse (ring : Nat) (entries : List RingReply)
  /-- The guard die decodes one flag lane (R475). -/
  | flagLane (ring : Nat) (lane : Half)
  /-- No valid lane of an admitted address for its time (R476). -/
  | laneTimeout (ring addr : Nat)
  /-- A shunt comparator changes (R479). -/
  | ocComparator (strand : Nat) (asserted : Bool)
  /-- The guard die issues a challenge (R481). -/
  | watchdogChallenge (value : Nat)
  /-- A response arrives at the guard die (R482). -/
  | watchdogResponse (value : Nat) (intime : Bool)
  /-- The watchdog's response window closes (R482). -/
  | watchdogWindowClose
  /-- A channel of a dual-channel pair changes (R484). -/
  | safetyInputChange (input : Nat) (closed : Bool)
  /-- A test pulse's dark window ends (R485). -/
  | tsDarkWindow (group : Nat) (own foreign : Nat)
  /-- A pair's discrepancy time ends (R486). -/
  | discrepancyTimeout (pair : Nat)
  /-- An enable test of one safety output ends (R491). -/
  | enableTestGap (output : Nat) (passed : Bool)
  /-- An AC0 command test of one safety output ends (R491). -/
  | ac0CommandTest (output : Nat) (passed : Bool)
  /-- The guard die's oscillator is compared (R493). -/
  | oscillatorCheck (good : Bool)
  /-- The guard die checks its configuration (R494). -/
  | guardConfigCrcCheck (good : Bool)
  /-- The supervisor reads the guard configuration back (R494). -/
  | guardConfigReadback (good : Bool)
  /-- A strand's trip causes have cleared for their time (R472). -/
  | strandTripClear (strand : Nat)
  /-- The guard die's comparator asserts for 200 µs (R541). -/
  | thermalShutdown
  /-- AC0 takes a completed snapshot (R244). -/
  | snapshotIntake (ring : Nat) (data : IntakeData)
  /-- A position has no valid value for CELL.STALE_LIMIT (R245). -/
  | cellStale (cell : Nat)
  /-- The signs of an open wire end (R257). -/
  | wireVerdictTimeout (strand sat wire : Nat)
  /-- The open-wire test period elapses (R263). -/
  | owPeriod (strand : Nat)
  /-- One round of the HV multiplexer completes (R271). -/
  | hvRound (data : HvRound)
  /-- A shunt offset measurement ends (R279). -/
  | shuntOffset (strand : Nat) (microvolts : Int)
  /-- An insulation measurement ends (R288). -/
  | insulationResult (which ohms : Nat)
  /-- The earth connection check ends (R293). -/
  | earthCheck (good : Bool)
  /-- The contactor voltage is too high (R310). -/
  | contactorVoltageHigh (strand : Nat)
  /-- The array infers a strand's current (R360). -/
  | currentInference (ring : Nat)
  /-- The array completes a strand's model update (R365). -/
  | modelUpdate (ring : Nat)
  /-- AC1 forms a strand's reported values (R381). -/
  | reportedValues (ring : Nat)
  /-- Inferred and measured current disagree for their time (R376). -/
  | currentDisagree (strand : Nat) (disagree : Bool)
  /-- The shunt is found reversed (R377). -/
  | reversedShunt (strand : Nat)
  /-- A strand's anchor grows stale (R374). -/
  | anchorStale (strand : Nat)
  /-- A learning cycle reaches its longest duration (R397). -/
  | learningCycleTimeout (cell : Nat)
  /-- A battery-memory write-back starts or ends (R414). -/
  | memoryWriteback (done : Bool)
  /-- AC1 plans a strand's transfers (R330). -/
  | balancingPlan (ring : Nat)
  /-- The rail does not start in time (R333). -/
  | railStartFailed (ring : Nat)
  /-- The hold after a rail fault ends (R338). -/
  | railFaultHoldEnd (ring : Nat)
  /-- A satellite's exclusion ends (R340). -/
  | satelliteExclusionEnd (ring sat : Nat)
  /-- A loop's sample instant (R435). -/
  | loopSample (loop : Nat) (data : LoopData)
  /-- A loop's output target fails (R441). -/
  | loopTargetFault (loop : Nat)
  /-- An output's read-back is judged (R519). -/
  | fieldReadback (output : OutputId) (data : Readback)
  /-- An output cuts off on overload (R520). -/
  | overloadCutoff (output : OutputId)
  /-- A cut-off output tries again (R520). -/
  | overloadRetry (output : OutputId)
  /-- An overload sequence ends (R520). -/
  | overloadSequenceEnd (output : OutputId)
  /-- The search for a shorted partner ends (R521). -/
  | shortSearch (output : OutputId) (partner : Option Nat)
  /-- L+ passes its warning threshold (R523). -/
  | lplusWarning (supply : Nat) (mv : Nat) (low : Bool)
  /-- L+ falls below its lower threshold (R523). -/
  | lplusLow (supply : Nat) (mv : Nat)
  /-- L+ has recovered (R523). -/
  | lplusRelease (supply : Nat) (mv : Nat)
  /-- A digital input's filter settles (R511). -/
  | diFilter (input : Nat) (level : Bool)
  /-- An analogue input sample (R526). -/
  | aiSample (input : Nat) (micro : Int)
  /-- A 4–20 mA input's wire break (R526). -/
  | aiWireBreak (input : Nat) (broken : Bool)
  /-- A tripped burden reopens (R526). -/
  | aiBurdenReopen (input : Nat)
  /-- An analogue output's read-back fails (R527). -/
  | aoFault (output code : Nat) (readback : Int)
  /-- A pulse input edge (R528). -/
  | piEdge (input : Nat) (stamp : Nat) (short : Bool)
  /-- A pulse input's gate ends (R528). -/
  | piGate (input : Nat)
  /-- A pulse input has no edge for its time (R528). -/
  | piNoInput (input : Nat)
  /-- A housekeeping round ends (R535). -/
  | housekeepingRound (data : Housekeeping)
  /-- A CAN controller receives a frame (R564). -/
  | canFrameReceived (channel : Nat) (frame : CanFrame)
  /-- A transmit descriptor is acknowledged (R558). -/
  | canTxComplete (channel : Nat) (status : TxStatus) (sof delay : Nat)
  /-- A descriptor's deadline passes (R560). -/
  | canTxDeadline (channel prio index : Nat)
  /-- A bus error moves the error counters (R566). -/
  | canBusError (channel : Nat) (transmit : Bool) (weight : Nat)
  /-- The bus-off hold-off ends (R568). -/
  | canBusoffHoldoff (channel : Nat)
  /-- Bus-off recovery completes (R568). -/
  | canRecoveryComplete (channel : Nat)
  /-- CANH and CANL look swapped (R569). -/
  | canLinesSwapped (channel : Nat)
  /-- Dominant transmission exceeds the limit (R557). -/
  | txdTimeout (channel : Nat)
  /-- A time master's SYNC falls due (R575). -/
  | sync (channel : Nat)
  /-- A SYNC is received (R578). -/
  | syncReceived (channel : Nat) (bytes : List Byte) (capture : Nat)
  /-- A FOLLOW_UP is received (R579). -/
  | followUpReceived (channel : Nat) (bytes : List Byte) (late : Bool)
  /-- No pair within its time (R580). -/
  | ntPairTimeout
  /-- Holdover ends (R580). -/
  | ntHoldoverExpiry
  /-- A dispatch cycle begins (R589). -/
  | dispatchCycleStart
  /-- The segment leader is elected (R592). -/
  | segmentElection
  /-- The trunk leader is elected (R592). -/
  | trunkElection
  /-- The segment leader allocates (R598). -/
  | segmentAllocation
  /-- A member's STATUS is received (R592). -/
  | statusReceived (src : Nat) (bytes : List Byte) (late : Bool)
  /-- A segment's SEG_STATUS is received (R592). -/
  | segStatusReceived (src : Nat) (bytes : List Byte) (late : Bool)
  /-- The trunk leader's SEG_ALLOC is received (R598). -/
  | segAllocReceived (src : Nat) (bytes : List Byte) (late : Bool)
  /-- The segment leader's ALLOC is received (R599). -/
  | allocReceived (src : Nat) (bytes : List Byte) (late : Bool)
  /-- A SEG_DETAIL is received (R601). -/
  | segDetailReceived (src : Nat) (bytes : List Byte) (late : Bool)
  /-- No allocation for its time (R600). -/
  | allocStale
  /-- No holder for its time (R596). -/
  | noSetpoint
  /-- A polling slot falls due (R616). -/
  | twSlotDue (slot : Nat)
  /-- A controller transaction ends (R615). -/
  | twTransactionDone (ok : Bool) (data : List Byte)
  /-- Arbitration is lost (R618). -/
  | arbLost (byteIndex bitIndex : Nat)
  /-- A controller transaction times out (R617). -/
  | twCtrlTimeout
  /-- The bus is stuck (R622). -/
  | twBusStuck (recovered : Bool)
  /-- The bus is free again (R622). -/
  | twBusFree
  /-- A write of an ownership register (R627). -/
  | bankOwnerWrite (by' : Master) (bank : Nat) (word : Word)
  /-- A handover takes effect (R628). -/
  | ownerHandoverEffect (bank : Nat)
  /-- A master writes a bank (R626). -/
  | bankWrite (by' : Master) (bank offset : Nat) (bytes : List Byte)
  /-- Core and host port meet on one mailbox word (R635). -/
  | mailboxCollision (offset : Nat) (hostLater hostReads coreReads : Bool)
  /-- A single-bit error is corrected (R636). -/
  | eccCorrected (bank row : Nat)
  /-- A double-bit error is found (R638); bank 24 stands for the operand stores of the estimation array (R108). -/
  | eccUncorrectable (bank row : Nat)
  /-- The scrubber passes a row (R637). -/
  | scrub (bank row : Nat) (found : Nat)
  /-- The oldest intake record is written to NVM (R655). -/
  | siltWrite
  /-- An open record's window ends (R658). -/
  | coalesceWindowExpiry (seq : Nat)
  /-- An open record is rewritten (R658). -/
  | openRecordRewrite (seq : Nat)
  /-- An operating second ends (R659). -/
  | rateLimitSecond
  /-- The correlation record's period elapses (R662). -/
  | ntCorrelation
  /-- A satellite answers after its image switch (R688). -/
  | satelliteSwitch (ring sat : Nat) (image : Bool)
  /-- The health window ends (R692). -/
  | healthWindowEnd
  /-- A fallback's restore ends (R695). -/
  | restoreComplete (good : Bool)
  /-- The power-fail commit's steps end (R733). -/
  | commitComplete
  /-- The proof test's window ends (R86). -/
  | proofTestWindowEnd (result lowHold lowFeed : Nat)
  /-- LOCK_RST rises (R128). -/
  | lockRstPress
  /-- VIO falls (R57). -/
  | vioLost
  /-- VIO rises (R57). -/
  | vioRestored
  /-- A feed falls to the stop threshold (R75). -/
  | feedStopThreshold (feed : FeedId)
  /-- A full ENUMERATE returns with its entries, or not (R204). -/
  | enumerateReturn (ring : Nat) (entries : Option (List SatIdentity))
  /-- A PROBE returns after so many half-bits, or not (R205). -/
  | probeReturn (ring : Nat) (roundTrip : Option Nat)
  /-- An image copy ends (R683). -/
  | imageCopyComplete (good : Bool)
  /-- A two-wire write of other than two bytes (R609). -/
  | twWriteDiscarded (bytes : List Byte)
  deriving DecidableEq, Repr

end Sys2Proof
end

