-- ==== Sys2Proof/Config.lean ====
section
/-! DEFINITION. What a particular module or its manufacture fixes, and the free values of the spec's open outcomes. -/
namespace Sys2Proof.Config
open Sys2Proof

/-! ## Fixed at manufacture (R131, chapter 13) -/

/-- Whether the module is of grade T. -/
opaque gradeT : Bool

/-- Grade character, G or T (R5, R131). -/
def grade : Byte := if gradeT then 0x54 else 0x47

/-- A digit, or from 10 on a capital letter, in ASCII. -/
def serialAscii (c : Fin 36) : Byte := BitVec.ofNat 8 (if c.val < 10 then 0x30 + c.val else 0x37 + c.val)

/-- Characters of the module serial number beyond the first 8, and the characters. -/
opaque serialExtra : Fin 9
opaque serialChar : Nat → Fin 36

/-- Module serial number: 8 to 16 digits and capital letters (R131). -/
def serial : List Byte := (List.range (8 + serialExtra.val)).map (fun i => serialAscii (serialChar i))

/-- Year and week of assembly, the week counted from 0. -/
opaque assemblyYear : Fin 100
opaque assemblyWeek : Fin 53

/-- Two decimal digits in ASCII. -/
def twoDigits (n : Nat) : List Byte := [BitVec.ofNat 8 (0x30 + n / 10 % 10), BitVec.ofNat 8 (0x30 + n % 10)]

/-- Assembly date code: year then week, 4 ASCII digits (R131). -/
def dateCode : List Byte := twoDigits assemblyYear.val ++ twoDigits (assemblyWeek.val + 1)

/-- Lot characters, wafer counted from 0, column and row of the four dies: core, guard, HV, field. -/
opaque dieLot : Nat → Nat → Fin 128
opaque dieWafer : Nat → Fin 25
opaque dieColumn : Nat → Byte
opaque dieRow : Nat → Byte

/-- The die record of die `i`, 12 bytes (R131). -/
def dieRecord (i : Nat) : List Byte :=
  (List.range 8).map (fun j => BitVec.ofNat 8 (dieLot i j).val) ++
    [BitVec.ofNat 8 ((dieWafer i).val + 1), dieColumn i, dieRow i, BitVec.ofNat 8 (i + 1)]

/-- Characters of the factory password, counted from 0x21. -/
opaque passwordChar : Nat → Fin 94

/-- The module's own factory password: 8 characters from 0x21 to 0x7E (chapter 13). -/
def factoryPassword : List Byte := (List.range 8).map (fun i => BitVec.ofNat 8 (0x21 + (passwordChar i).val))

/-- Whether the signature of a manifest is valid under the public key of a key slot, by how often the keys were replaced
(R669, R671). -/
opaque signatureValid : Nat → Nat → List Byte → Bool

/-- Variance the estimator gives a state it starts without saved state, where the spec names none (R387); by state index, in
10^-12 squared units. -/
opaque defaultVariance : Nat → Nat

/-- Factory table of the TB0 compensation, 17 points from −40 °C in steps of 12.5 °C, 0.001 ppm (R547). -/
opaque tcxoTable : Nat → Int

/-- Factory spare rows in use of a bank, 0 to 4 (R642, R646). -/
opaque factorySpares : Nat → Fin 5

/-- Silt codes of event 0xF0: protocol error, word discarded, stretch expired, SCL timeout (R624). -/
opaque twCode : Nat → Nat

/-! ## Free values: nothing constrains them -/

/-- A free number for the n-th open value taken. -/
opaque freeNat : Nat → Nat

/-- A free truth value for the n-th open outcome. -/
opaque freeBool : Nat → Bool

/-- A free integer for the n-th open value. -/
opaque freeInt : Nat → Int

end Sys2Proof.Config
end

