-- ==== Sys2Proof/Machine/Bytes.lean ====
section
/-! DEFINITION. Byte order, checksums, saturation and single-precision rounding shared by every family. -/
namespace Sys2Proof

/-! ## Byte order (R6) -/

/-- `k` bytes of `n`, least significant first (R6). -/
def leBytes : Nat → Nat → List Byte
  | 0, _ => []
  | k + 1, n => BitVec.ofNat 8 n :: leBytes k (n / 256)

/-- The number that little-endian bytes spell (R6). -/
def leNat : List Byte → Nat
  | [] => 0
  | b :: bs => b.toNat + 256 * leNat bs

/-- The little-endian field of `k` bytes at byte offset `off`. -/
def field (bs : List Byte) (off k : Nat) : Nat := leNat ((bs.drop off).take k)

/-- A 32-bit two's-complement value as four bytes. -/
def s32Bytes (i : Int) : List Byte := leBytes 4 (BitVec.ofInt 32 i).toNat

/-- A 16-bit two's-complement value as two bytes. -/
def s16Bytes (i : Int) : List Byte := leBytes 2 (BitVec.ofInt 16 i).toNat

/-- The signed reading of a 32-bit field. -/
def s32Of (n : Nat) : Int := (BitVec.ofNat 32 n).toInt

/-- The signed reading of a 16-bit field. -/
def s16Of (n : Nat) : Int := (BitVec.ofNat 16 n).toInt

/-- Pad or cut a byte list to exactly `n` bytes. -/
def padTo (n : Nat) (bs : List Byte) : List Byte := bs.take n ++ List.replicate (n - bs.length) 0

/-- Whether every byte of a reserved field is zero (R12). -/
def zeros (bs : List Byte) : Bool := bs.all (· == 0)

/-! ## Checksums (R133) -/

/-- One bit step of the header CRC. -/
def crc16Bit (c : BitVec 16) : BitVec 16 :=
  if c.msb then (c <<< 1) ^^^ 0x1021#16 else c <<< 1

/-- One byte step of the header CRC, most significant bit first. -/
def crc16Byte (c : BitVec 16) (b : Byte) : BitVec 16 :=
  Nat.repeat crc16Bit 8 (c ^^^ (b.zeroExtend 16 <<< 8))

/-- The header CRC of R133: polynomial 0x1021, start 0xFFFF, no reflection, no final XOR. -/
def crc16 (bs : List Byte) : Nat := (bs.foldl crc16Byte 0xFFFF#16).toNat

/-- One bit step of the reflected payload CRC. -/
def crc32Bit (c : BitVec 32) : BitVec 32 :=
  if c.getLsbD 0 then (c >>> 1) ^^^ 0xEDB88320#32 else c >>> 1

/-- One byte step of the payload CRC. -/
def crc32Byte (c : BitVec 32) (b : Byte) : BitVec 32 :=
  Nat.repeat crc32Bit 8 (c ^^^ b.zeroExtend 32)

/-- The payload CRC of R133: polynomial 0x04C1_1DB7 reflected, start and final XOR all ones. -/
def crc32 (bs : List Byte) : Nat :=
  ((bs.foldl crc32Byte 0xFFFFFFFF#32) ^^^ 0xFFFFFFFF#32).toNat

/-! ## Counters, flags and lists -/

/-- A counter of `bits` bits that saturates. -/
def satAdd (bits n k : Nat) : Nat := min (2 ^ bits - 1) (n + k)

/-- A Bool as one bit. -/
def bit (b : Bool) : Nat := if b then 1 else 0

/-- Bit `i` of a mask. -/
def maskHas (m i : Nat) : Bool := m.testBit i

/-- The mask with bit `i` set to `b`. -/
def maskSet (m i : Nat) (b : Bool) : Nat :=
  if b then m ||| 2 ^ i else if m.testBit i then m ^^^ 2 ^ i else m

/-- The mask whose bit `i` is `f i`, for `i < n`. -/
def maskOf (n : Nat) (f : Nat → Bool) : Nat :=
  (List.range n).foldl (fun m i => if f i then m + 2 ^ i else m) 0

/-- Entry `i` of a list changed by `f`; a list too short is unchanged. -/
def modAt {α : Type} : List α → Nat → (α → α) → List α
  | [], _, _ => []
  | a :: l, 0, f => f a :: l
  | a :: l, i + 1, f => a :: modAt l i f

/-- Entry `i` of a list replaced. -/
def setAt {α : Type} (l : List α) (i : Nat) (a : α) : List α := modAt l i (fun _ => a)

/-- A key-sorted association list with `k` bound to `v`. -/
def assocSet {β : Type} (k : Nat) (v : β) : List (Nat × β) → List (Nat × β)
  | [] => [(k, v)]
  | (j, w) :: l => if k < j then (k, v) :: (j, w) :: l
                   else if k = j then (k, v) :: l
                   else (j, w) :: assocSet k v l

/-- The value bound to `k`. -/
def assocGet {β : Type} (k : Nat) : List (Nat × β) → Option β
  | [] => none
  | (j, w) :: l => if k = j then some w else assocGet k l

/-- The association list without `k`. -/
def assocErase {β : Type} (k : Nat) (l : List (Nat × β)) : List (Nat × β) := l.filter (fun e => e.1 != k)

/-! ## Arithmetic -/

/-- Clamp an integer to a range. -/
def clampInt (lo hi x : Int) : Int := if x < lo then lo else if hi < x then hi else x

/-- Clamp a rational to a range. -/
def clampRat (lo hi x : Rat) : Rat := if x < lo then lo else if hi < x then hi else x

/-- Absolute value of a rational. -/
def absRat (x : Rat) : Rat := if x < 0 then -x else x

/-- Smallest whole number not below `n / d`. -/
def ceilDiv (n d : Nat) : Nat := if d = 0 then 0 else (n + d - 1) / d

/-- Round to the nearest integer, halves away from zero. -/
def roundRat (x : Rat) : Int :=
  if x < 0 then -((-x + 1 / 2).floor) else (x + 1 / 2).floor

/-- Power of two with an integer exponent. -/
def pow2 (e : Int) : Rat := if e < 0 then 1 / ((2 ^ e.natAbs : Nat) : Rat) else ((2 ^ e.natAbs : Nat) : Rat)

/-- The exponent e with 2^e ≤ x < 2^(e+1), for a positive rational. -/
def expoOf (x : Rat) : Int :=
  let k : Int := (Nat.log2 x.num.natAbs : Int) - (Nat.log2 x.den : Int)
  if x < pow2 k then k - 1 else k

/-- Round half to even. -/
def roundEven (x : Rat) : Int :=
  let f := x.floor
  let r := x - (f : Rat)
  if r < 1 / 2 then f else if 1 / 2 < r then f + 1 else if f % 2 = 0 then f else f + 1

/-- A value as a single-precision number holds it: 24 significant bits, smallest exponent −149,
round to nearest even. An overflow gives 2¹²⁸, which stands for infinity. -/
def roundF32 (x : Rat) : Rat :=
  if x = 0 then 0 else
  let a := absRat x
  let u : Int := max (expoOf a - 23) (-149)
  let r := min (pow2 128) ((roundEven (a / pow2 u) : Rat) * pow2 u)
  if x < 0 then -r else r

/-- The 32 bits of a single-precision value already rounded by `roundF32`. -/
def f32Bits (x : Rat) : Nat :=
  if x = 0 then 0 else
  let a := absRat x
  let e := expoOf a
  let body : Nat :=
    if e < -126 then ((a / pow2 (-149)).floor).natAbs
    else (e + 127).natAbs * 2 ^ 23 + ((a / pow2 (e - 23)).floor).natAbs - 2 ^ 23
  if x < 0 then 2 ^ 31 + body else body

end Sys2Proof
end

