-- ==== Sys2Proof/Machine/CoreState.lean ====
section
/-! DEFINITION. State of the time base, modes, feeds, hold-up, journal, command port, router and silt log
(chapters 01, 03, 04, 05 and 20). -/
namespace Sys2Proof.Machine
open Sys2Proof

/-! ## Time, schedule and pins (chapters 00, 01, 02) -/

/-- The module timebase and the counters of PD0 (R39, R721), and the service-schedule frame (R29). -/
structure TimeState where
  /-- Module timebase, 64 bits, microseconds (R721). -/
  now : Nat := 0
  /-- Operating seconds, 32 bits, counted on TB2 while powered. -/
  opSec : Nat := 0
  /-- Microseconds into the operating second. -/
  opSub : Nat := 0
  /-- Power-cycle count, 24 bits (R98). -/
  powerCycles : Nat := 0
  /-- Lifetime count of boundaries without a saddle point (R31, R124). -/
  noSaddle : Nat := 0
  /-- Between the quiesce mark and the frame boundary (R29, R726). -/
  quiesced : Bool := false
  /-- Engines with a work unit still in flight (R28, R30). -/
  inFlight : List Engine := []
  /-- Commands the supervisor may still start in the running frame (R725). -/
  starts : Nat := 0
  /-- Sequence, instant and ring mask of the latest snapshot trigger (R193, R211). -/
  snapSeq : Nat := 0
  snapAt : Nat := 0
  snapRings : Nat := 0
  /-- The latest trigger fell at a network-time instant (R210). -/
  snapNet : Bool := false
  /-- TB1 fitted and used to discipline TB0 (R39, R40). -/
  tb1Disciplined : Bool := false
  deriving DecidableEq, Repr

/-- Input pins of group L the model follows (chapter 02). -/
structure PinState where
  /-- VIO above its presence threshold (R57). DESIGN CHOICE: the spec gives no level before the first VIO command, and the
  model takes VIO as present. -/
  vio : Bool := true
  /-- A LOCK_RST hold in progress, and whether it rose inside the arming window (R127, R128). -/
  lockRst : Option Bool := none
  /-- A lockout fault was present during the hold in progress (R127). -/
  lockFault : Bool := false
  deriving DecidableEq, Repr

/-! ## Modes, resets and lock-out (chapter 04) -/

/-- A command's sender to be told of its completion: a packet transport with its tag, or the two-wire word. -/
inductive Requester where
  | packet (port : Port) (tag : Half)
  | twoWire
  deriving DecidableEq, Repr

/-- A reset that waits for its reply (R162, R680). -/
structure PendingReset where
  /-- Reset cause code. -/
  code : Nat
  /-- Transport, opcode and tag of the reply, or of the notification. -/
  port : Port
  opcode : Nat
  tag : Half
  isReply : Bool
  /-- Timebase of its posting. -/
  stamp : Nat
  /-- The host has read it. -/
  read : Bool := false
  deriving DecidableEq, Repr

/-- A mode request accepted and waiting for its saddle point (R105, R106). -/
structure ModeRequest where
  target : Mode
  by' : Requester
  /-- RUN to STANDBY first runs DISCONNECT_STRANDS of every closed strand (R107). -/
  disconnecting : Bool := false
  deriving DecidableEq, Repr

/-- What PD1 keeps of LOCKOUT (R125, R126, R490), and the arming window of R128. -/
structure LockState where
  /-- The lock-out latch. -/
  latch : Bool := false
  /-- The lock-out record in data NVM (R125). -/
  record : Bool := false
  /-- Sources of the causes, the first one first (R490). -/
  causes : List Nat := []
  /-- THERMAL_LOCK (R126). -/
  thermal : Bool := false
  /-- The arming window of R128 is open and unused. -/
  armed : Bool := false
  /-- AC0's latest word reports a lockout fault (R127). -/
  ac0Fault : Bool := true
  /-- No AC0 word for 5 ms (R127). -/
  ac0Silent : Bool := true
  deriving DecidableEq, Repr

/-- The mode and everything chapter 04 keeps beside it. -/
structure ModeState where
  mode : Mode := .start
  /-- Whether the module is powered at all; a fresh module is not. -/
  powered : Bool := false
  /-- Held in reset or shut down: the cause of the start that follows (R122, R123). -/
  held : Option Nat := none
  /-- Reset cause code (R123). -/
  resetCause : Nat := 0
  /-- Last completed step of R114 while starting. -/
  step : Nat := 0
  /-- Group L pins released, host port answering (step 11 of R114). -/
  ready : Bool := false
  /-- Accepted mode requests, oldest first. -/
  pendingMode : List ModeRequest := []
  /-- A HIBERNATE entry in progress, journal written, PD2 still on (R112). -/
  hibernating : Option Requester := none
  /-- A reset waiting for its reply to be read (R162). -/
  pendingReset : Option PendingReset := none
  /-- Rings whose satellites are still to be asked for their WAKE_CAUSE (R229). -/
  wakeRings : Nat := 0
  /-- Strands reported incomplete (R119). -/
  incomplete : Nat := 0
  /-- PD0: the main image region is unwritten since its last verified signature (R121). -/
  imageFlag : Bool := false
  /-- PD0: HIBERNATE was entered by a two-wire MODE word (R113). -/
  hibernateByTwoWire : Bool := false
  /-- AUTO_RUN is barred until a host or CAN command requests RUN (R113). -/
  autoRunBarred : Bool := false
  /-- The start has reached STANDBY with SYS.AUTO_RUN set, and the entry to RUN waits for its weld checks (R309). -/
  autoRunDue : Bool := false
  /-- HOLLOW limp with strands kept closed (R110). -/
  limp : Bool := false
  /-- A HOLLOW fault was recorded (R107). -/
  hollowFault : Bool := false
  /-- A safety output fault, guard or enable-path failure found in this start (R119). -/
  startLockout : Option Nat := none
  lock : LockState := {}
  deriving DecidableEq, Repr

/-! ## Feeds, hold-up, commit and journal (chapter 03) -/

/-- A proof test in progress (R84 to R88, R730). -/
structure ProofTest where
  /-- Who asked; none for a scheduled test (R730). -/
  by' : Option Requester
  /-- Timebase of step 1. -/
  since : Nat := 0
  deriving DecidableEq, Repr

/-- Counters written at step 3 of the commit (R92, R97). -/
structure NvmCounters where
  opSec : Nat := 0
  powerCycles : Nat := 0
  noSaddle : Nat := 0
  feedEvents : List Nat := List.replicate 16 0
  deriving DecidableEq, Repr

/-- One 64-byte cell record of the journal (chapter 03). -/
structure JournalCell where
  states : List Int := []
  variances : List Nat := []
  soc : Int := 0
  uncertainty : Nat := 0
  temperature : Int := 0
  anchorMinutes : Nat := 0
  valid : Bool := false
  invalidWire : Bool := false
  balAffected : Bool := false
  deriving DecidableEq, Repr

/-- One journal slot with a valid CRC (R99 to R102). -/
structure JournalSlot where
  seq : Nat
  cause : Nat
  strandMask : Nat
  timebase : Nat
  netTime : Nat
  opSec : Nat
  powerCycles : Nat
  updateIndex : Nat
  cells : List JournalCell
  deriving DecidableEq, Repr

/-- The two feeds, the hold-up, the power-fail commit and the journal. -/
structure FeedState where
  code : FeedCode := .aActive
  /-- Converter carrying the module; none in hold only. -/
  active : Option FeedId := none
  mvA : Nat := 0
  mvB : Nat := 0
  reversedA : Bool := false
  reversedB : Bool := false
  /-- Converter started from cold in hold only (R728). -/
  starting : Option FeedId := none
  /-- FEED_A's converter failed a start and is not tried again until its feed has recovered (R79). -/
  barredA : Bool := false
  barredB : Bool := false
  /-- The second of R76 has been judged since the start. -/
  judged : Bool := false
  /-- The standby is present and available (R79 to R81, R729). -/
  standbyOk : Bool := false
  identical : Bool := false
  /-- The standby was absent or reversed in the second of R76 (R729). -/
  absent : Bool := false
  holdMv : Nat := 0
  capUf : Nat := 0
  switchClosed : Bool := false
  holdMissing : Bool := false
  holdInadequate : Bool := false
  proof : Option ProofTest := none
  proofFailed : Bool := false
  /-- A scheduled proof test refused by R84 and due again after 60 s (R730). -/
  proofRetry : Bool := false
  /-- Timebase of the latest test that ran, and of the latest attempt (R730). -/
  proofAt : Nat := 0
  proofTried : Nat := 0
  /-- The last finished step of a power-fail commit in progress (R92). -/
  commit : Option Nat := none
  /-- Feed state code in force when the commit began. -/
  codeBefore : FeedCode := .aActive
  /-- HOLD has stayed at or above 13 V for 10 ms since the commit began (R733). -/
  recovered : Bool := false
  eventCounts : List Nat := List.replicate 16 0
  nvm : NvmCounters := {}
  slotA : Option JournalSlot := none
  slotB : Option JournalSlot := none
  /-- A periodic journal write asked for after the quiesce mark (R726). -/
  journalDue : Bool := false
  /-- A periodic entry being written, with whether it goes into slot A; the slot is invalid meanwhile (R96, R102). -/
  journalBusy : Option (Bool × JournalSlot) := none
  deriving DecidableEq, Repr

/-! ## Event router and silt log (chapters 01, 20) -/

/-- One of the 256 event sources (R45). Destination bits: 0 supervisor, 1 AC0, 2 AC1, 3 loop triggers,
4 trace triggers, 5 HIRQ0, 6 HIRQ1, 7 silt log. -/
structure RouterSource where
  mask : Byte := 0
  pending : Byte := 0
  overrun : Nat := 0
  /-- Timebase stamp of the latest firing (R26). -/
  stamp : Nat := 0
  deriving DecidableEq, Repr

/-- One silt record (R650, R651); its CRC is computed when it is read. -/
structure SiltRecord where
  seq : Nat := 0
  opSec : Nat := 0
  powerCycles : Nat := 0
  source : Nat := 0
  code : Nat := 0
  rep : Nat := 0
  kind : Nat := 0
  index : Nat := 0
  detail : List Byte := []
  pinned : Bool := false
  isOpen : Bool := false
  tail : Bool := false
  closedEarly : Bool := false
  fraction : Nat := 0
  /-- Operating time of the last occurrence, milliseconds: drives R657 and is not part of the record. -/
  lastMs : Nat := 0
  /-- Repeat as last written to NVM (R658). -/
  writtenRep : Nat := 0
  deriving DecidableEq, Repr

/-- The rate limiter's view of one source in the current operating second (R659). -/
structure RateEntry where
  source : Nat
  opened : Nat := 0
  refused : Nat := 0
  subjects : List (Nat × Nat) := []
  deriving DecidableEq, Repr

/-- A `SILT_READ` in progress on one of the reader queues Q40–Q43 (R664). -/
structure SiltState where
  /-- Ordinary partition, oldest first, at most 16,384 (R653). -/
  ordinary : List SiltRecord := []
  /-- Pinned partition, oldest first, at most 1,024. -/
  pinned : List SiltRecord := []
  /-- RAM intake, at most 256 (R655). -/
  intake : List SiltRecord := []
  /-- RAM tail of a power-fail commit, at most 64 (R94). -/
  tail : List SiltRecord := []
  tailOn : Bool := false
  nextSeq : Nat := 0
  rates : List RateEntry := []
  /-- Operating second the rate entries count for. -/
  rateSec : Nat := 0
  /-- Operating second of the latest correlation record (R662). -/
  corrAt : Nat := 0
  refused : Nat := 0
  overflowed : Nat := 0
  written : Nat := 0
  /-- Intake refusals not yet reported by a 0xFF record (R655). -/
  lost : Nat := 0
  /-- Reads in progress on Q40–Q43 (R664). -/
  readers : Nat := 0
  /-- Records the writer has drained in this frame (R655). -/
  drained : Nat := 0
  deriving DecidableEq, Repr

/-! ## Command port, parameters (chapter 05) -/

/-- A reply or notification packet (R132, R135); `kind` tells which rules of R138 apply. -/
structure OutPacket where
  opcode : Nat
  tag : Nat
  isReply : Bool
  dropped : Bool := false
  /-- The refusal of a packet written while no command slot was free (R145). -/
  refusal : Bool := false
  payload : List Byte
  /-- Module timebase and operating second of its posting. -/
  stamp : Nat := 0
  sec : Nat := 0
  deriving DecidableEq, Repr

/-- A command packet as the supervisor finds it in a slot or queue (R132, R140). -/
structure Cmd where
  port : Port
  opcode : Nat
  tag : Nat
  flags : Nat := 0
  version : Nat := 1
  reserved : Nat := 0
  payload : List Byte
  /-- Payload and payload CRC received whole (check 6). -/
  whole : Bool := true
  /-- Payload CRC right (check 7). -/
  crcOk : Bool := true
  /-- Its turn among all commands that arrived (R148). -/
  arrival : Nat := 0
  /-- Timebase of its posting (R26). -/
  stamp : Nat := 0
  deriving DecidableEq, Repr

/-- A two-wire command word in Q3 (R158): its turn among all commands, the word, and the timebase of its posting (R26). -/
structure TwCmd where
  arrival : Nat
  word : Nat
  stamp : Nat := 0
  deriving DecidableEq, Repr

/-- An OPEN_WIRE_TEST whose strands are not all tested (R265): the strands left, and the reports of those done. -/
structure OwtJob where
  by' : Requester
  strands : List Nat
  reports : List (Nat × List Byte)
  deriving DecidableEq, Repr

/-- A subscription of R167. -/
structure Subscription where
  num : Nat
  period : Nat
  points : List Nat
  /-- A whole multiple of the period has passed; posted at the next saddle point. -/
  due : Bool := false
  deriving DecidableEq, Repr

/-- One transport's outgoing packets and its drop accounting (R138, R139). -/
structure OutState where
  /-- Unread packets in slots, oldest first. -/
  slots : List OutPacket := []
  /-- Replies and notifications waiting for a slot. -/
  waiting : List OutPacket := []
  /-- Drops counted in the unread NOTIFY_DROPPED, and the timebase of the oldest dropped. -/
  dropCount : Nat := 0
  dropOldest : Nat := 0
  /-- A NOTIFY_DROPPED is posted and unread. -/
  noteUnread : Bool := false
  /-- The next notification carries DROPPED (R132, R139). -/
  oweFlag : Bool := false
  /-- Notifications dropped since reset (HP_DROPS). -/
  drops : Nat := 0
  subs : List Subscription := []
  deriving DecidableEq, Repr

/-- The CAN packet in reassembly (R153, R154). -/
structure Reassembly where
  bytes : List Byte := []
  next : Nat := 0
  /-- A packet is being reassembled; otherwise every segment until the next FIRST is ignored (R154). -/
  active : Bool := false
  deriving DecidableEq, Repr

/-- The host SPI port and its registers (R142 to R150), and the command queues Q0 to Q3. -/
structure PortState where
  /-- Command slots taken, of 32. -/
  slotsUsed : Nat := 0
  /-- The packet being stored, HBUSY_N low (R147). -/
  storing : Option Cmd := none
  /-- A mailbox word collided in the running MBX_READ (R147, R635). -/
  collided : Bool := false
  irqPend : Word := 0
  irqEn : Word := 0
  irqRoute : Word := 0
  crcErrors : Nat := 0
  framingErrors : Nat := 0
  timeHi : Word := 0
  scratch : Word := 0
  /-- Bytes the port last shifted out on HIO. -/
  shifted : List Byte := []
  /-- First mailbox byte of the MBX_READ that shifted them, while it runs. -/
  mbxAt : Option Nat := none
  q0 : List Cmd := []
  q1 : List Cmd := []
  q2 : List Cmd := []
  /-- Two-wire command words waiting in Q3. -/
  q3 : List TwCmd := []
  /-- Commands that arrived so far. -/
  arrived : Nat := 0
  /-- Queue of Q1 to Q3 whose turn it is (R148). -/
  turn : Nat := 1
  out : OutState := {}
  canOut : OutState := {}
  reasm : Reassembly := {}
  owtJobs : List OwtJob := []
  /-- Segments of the packet now leaving over CAN that are not yet posted (R155). -/
  canSegs : List (List Byte) := []
  deriving DecidableEq, Repr

/-- A parameter value (R168). -/
inductive PVal where
  | num (v : Int)
  | str (s : List Byte)
  deriving DecidableEq, Repr

/-- A pending FORD_APPLY (R176). -/
structure PendingApply where
  instant : Nat
  port : Port
  tag : Half
  /-- The set held Ford+SERVICE parameters, and parameters of block 0x0C, when the apply was accepted (R178). -/
  service : Bool := false
  guarded : Bool := false
  deriving DecidableEq, Repr

/-- Applied, shadow and immediate parameters, the guarded set's lock (R168 to R181). -/
structure ParamState where
  /-- Applied values that differ from the factory default, by rising ID. -/
  applied : List (Nat × PVal) := []
  /-- The shadow set, by rising ID (R171). -/
  shadow : List (Nat × PVal) := []
  owner : Option Port := none
  pendingApply : Option PendingApply := none
  /-- Accepted immediate parameters waiting for the saddle point (R13), oldest first. -/
  immediate : List (Nat × PVal) := []
  /-- User tag of the unlock in force (R181). -/
  unlocked : Option Nat := none
  wrongCount : Nat := 0
  /-- Operating second at which the block of R181 ends. -/
  blockEnd : Nat := 0
  /-- Guarded-set copies invalid and defaults loaded (R495). -/
  defaultsMark : Bool := false
  /-- The applied set as it stood before a commit at the running frame's boundary (R35). -/
  prior : Option (List (Nat × PVal)) := none
  deriving DecidableEq, Repr

end Sys2Proof.Machine
end

