-- ==== Sys2Proof/Machine/Params.lean ====
section
/-! DEFINITION. The parameter space: types, ranges, factory defaults and apply kinds of every block (R13 to R16, R168). -/
namespace Sys2Proof.Machine
open Sys2Proof

/-- Parameter types, in the order of the type codes 1 to 7 (R168). -/
inductive PType where
  | u8 | u16 | u32 | s32 | bool | enum | str
  deriving DecidableEq, Repr

/-- Type code of a record (R168). -/
def PType.code : PType → Nat
  | .u8 => 1 | .u16 => 2 | .u32 => 3 | .s32 => 4 | .bool => 5 | .enum => 6 | .str => 7

/-- When a parameter takes effect (R13 to R15). -/
inductive Apply where
  | ford | service | immediate
  deriving DecidableEq, Repr

/-- Ranges that are no plain interval: the content check of the parameter's own table. -/
inductive PCheck where
  | plain | ratio | output | bytes32 | canId | watch | loopPv | loopFf | loopConfig | notNegative
  | pair | soCfg | goCfg | aiCfg | aoCfg | piCfg | holdoff | canCfg | bitrate | sample | filterId
  | twAddr | twSlot
  deriving DecidableEq, Repr

/-- One parameter's row. -/
structure PSpec where
  ty : PType
  lo : Int
  hi : Int
  dflt : Int
  apply : Apply := .ford
  check : PCheck := .plain
  deriving DecidableEq, Repr

/-- Rows of a run of parameters that share one row: first ID, number of IDs, row. -/
abbrev PRow := Nat × Nat × PSpec

/-- The largest value of a 32-bit word. -/
def maxU32 : Int := 4294967295

/-- Blocks 0x01 to 0x04: SYS, FEED, BANK. -/
def paramsSys : List PRow :=
  [ (0x0101, 1, ⟨.enum, 0, 1, 0, .ford, .plain⟩), (0x0102, 1, ⟨.enum, 0, 1, 0, .service, .plain⟩),
    (0x0103, 1, ⟨.u8, 0, 0x7F, 0x7F, .ford, .plain⟩), (0x0104, 1, ⟨.u32, 0, 31536000, 0, .ford, .plain⟩),
    (0x0105, 1, ⟨.u8, 10, 100, 50, .service, .plain⟩),
    (0x0201, 1, ⟨.u16, 8000, 20000, 16000, .ford, .plain⟩), (0x0202, 1, ⟨.u16, 1, 600, 60, .ford, .plain⟩),
    (0x0203, 1, ⟨.u16, 20000, 30000, 24000, .ford, .plain⟩), (0x0204, 1, ⟨.u16, 0, 8760, 0, .ford, .plain⟩),
    (0x0401, 1, ⟨.u16, 10, 3600, 60, .ford, .plain⟩), (0x0440, 64, ⟨.u8, 0, 255, 0, .ford, .plain⟩) ]

/-- Blocks 0x05, 0x06 and 0x15: RING, CELL, DALE. -/
def paramsCell : List PRow :=
  [ (0x0501, 1, ⟨.u16, 10, 1000, 100, .ford, .plain⟩), (0x0502, 1, ⟨.u8, 1, 15, 1, .service, .plain⟩),
    (0x0503, 1, ⟨.u32, 0, maxU32, 0x20202020, .service, .bytes32⟩), (0x0504, 1, ⟨.u8, 0, 15, 0, .service, .plain⟩),
    (0x0601, 1, ⟨.enum, 0, 5, 2, .ford, .plain⟩), (0x0602, 1, ⟨.bool, 0, 1, 1, .ford, .plain⟩),
    (0x0603, 1, ⟨.u16, 0, 50000, 0, .ford, .plain⟩), (0x0604, 1, ⟨.enum, 1, 8, 8, .ford, .ratio⟩),
    (0x0605, 1, ⟨.u16, 5000, 50000, 20000, .ford, .plain⟩), (0x0606, 1, ⟨.u8, 1, 16, 3, .ford, .plain⟩),
    (0x0607, 1, ⟨.u16, 20, 2000, 100, .service, .plain⟩), (0x0608, 1, ⟨.u32, 5000, 100000, 15000, .ford, .plain⟩),
    (0x0609, 1, ⟨.u16, 2000, 50000, 10000, .ford, .plain⟩), (0x060A, 1, ⟨.u8, 10, 100, 50, .service, .plain⟩),
    (0x060B, 1, ⟨.bool, 0, 1, 1, .ford, .plain⟩), (0x060C, 1, ⟨.u16, 5000, 50000, 20000, .ford, .plain⟩),
    (0x060D, 1, ⟨.u16, 0, 8760, 0, .ford, .plain⟩), (0x060E, 1, ⟨.u16, 2000, 6000, 3435, .ford, .plain⟩),
    (0x060F, 1, ⟨.u32, 1000, 100000, 10000, .ford, .plain⟩), (0x0610, 1, ⟨.u16, 0, 20000, 500, .ford, .plain⟩),
    (0x0680, 128, ⟨.u16, 0, 65535, 0, .service, .plain⟩),
    (0x1501, 1, ⟨.u16, 1, 3600, 600, .ford, .plain⟩), (0x1502, 1, ⟨.u16, 0, 500, 0, .ford, .plain⟩) ]

/-- Block 0x07: STRING. -/
def paramsString : List PRow :=
  [ (0x0701, 1, ⟨.enum, 0, 3, 0, .service, .plain⟩), (0x0702, 1, ⟨.u16, 100, 10000, 2000, .ford, .plain⟩),
    (0x0703, 1, ⟨.u16, 1, 5000, 20, .ford, .plain⟩), (0x0704, 1, ⟨.u8, 80, 99, 95, .ford, .plain⟩),
    (0x0705, 1, ⟨.u32, 500, 100000, 5000, .ford, .plain⟩), (0x0706, 1, ⟨.u16, 10, 500, 50, .ford, .plain⟩),
    (0x0707, 1, ⟨.u16, 10, 500, 30, .ford, .plain⟩), (0x0708, 1, ⟨.u16, 500, 20000, 3000, .ford, .plain⟩),
    (0x0709, 1, ⟨.u16, 100, 20000, 1000, .ford, .plain⟩), (0x070A, 1, ⟨.u16, 500, 50000, 2000, .ford, .plain⟩),
    (0x070B, 1, ⟨.u8, 1, 16, 3, .ford, .plain⟩), (0x070C, 1, ⟨.u32, 5000, 200000, 20000, .service, .plain⟩),
    (0x070D, 1, ⟨.enum, 0, 2, 1, .service, .plain⟩), (0x070E, 1, ⟨.u32, 20000, 10000000, 500000, .ford, .plain⟩),
    (0x070F, 1, ⟨.u16, 100, 5000, 500, .ford, .plain⟩), (0x0710, 4, ⟨.u32, 10000, 10000000, 100000, .service, .plain⟩),
    (0x0714, 4, ⟨.u32, 0, 1000000, 0, .ford, .plain⟩),
    (0x0730, 9, ⟨.u8, 0, 11, 255, .service, .output⟩), (0x0740, 8, ⟨.u8, 0, 23, 255, .service, .output⟩) ]

/-- Block 0x08: BAL. -/
def paramsBal : List PRow :=
  [ (0x0801, 1, ⟨.u8, 0, 15, 0, .ford, .plain⟩), (0x0802, 1, ⟨.u16, 100, 3000, 3000, .ford, .plain⟩),
    (0x0803, 1, ⟨.enum, 0, 2, 0, .ford, .plain⟩), (0x0804, 1, ⟨.u16, 50, 10000, 300, .ford, .plain⟩),
    (0x0805, 1, ⟨.u32, 100, 20000, 3000, .ford, .plain⟩), (0x0806, 1, ⟨.u32, 1500000, 4500000, 3000000, .ford, .plain⟩),
    (0x0807, 1, ⟨.u32, 1500000, 4500000, 4150000, .ford, .plain⟩), (0x0808, 1, ⟨.s32, -4000, 4000, 0, .ford, .plain⟩),
    (0x0809, 1, ⟨.s32, 2000, 8000, 5500, .ford, .plain⟩), (0x080A, 1, ⟨.u16, 10, 400, 200, .ford, .plain⟩),
    (0x080B, 1, ⟨.u16, 11000, 13000, 12000, .ford, .plain⟩), (0x080C, 1, ⟨.u8, 1, 10, 3, .ford, .plain⟩) ]

/-- Block 0x09: EST, without the open-circuit tables. -/
def paramsEst : List PRow :=
  [ (0x0901, 1, ⟨.u8, 1, 100, 10, .ford, .plain⟩), (0x0902, 1, ⟨.bool, 0, 1, 0, .ford, .plain⟩),
    (0x0903, 1, ⟨.u32, 50, 50000, 1000, .ford, .plain⟩), (0x0904, 1, ⟨.u16, 1, 720, 72, .ford, .plain⟩),
    (0x0905, 1, ⟨.u16, 600, 14400, 1800, .ford, .plain⟩), (0x0906, 1, ⟨.u16, 60, 3600, 600, .ford, .plain⟩),
    (0x0907, 1, ⟨.u16, 10, 500, 50, .ford, .plain⟩), (0x0908, 1, ⟨.u16, 0, 900, 300, .ford, .plain⟩),
    (0x0909, 1, ⟨.u16, 0, 500, 250, .ford, .plain⟩), (0x090A, 1, ⟨.u32, 100, 100000, 2000, .ford, .plain⟩),
    (0x090B, 1, ⟨.u16, 5, 200, 30, .ford, .plain⟩), (0x090C, 1, ⟨.u16, 1, 600, 30, .ford, .plain⟩),
    (0x090D, 1, ⟨.u16, 10, 10000, 500, .ford, .plain⟩), (0x090E, 1, ⟨.u16, 50, 5000, 400, .ford, .plain⟩),
    (0x090F, 1, ⟨.u16, 1, 200, 20, .ford, .plain⟩), (0x0910, 1, ⟨.u32, 0, 20000, 2000, .ford, .plain⟩),
    (0x0911, 1, ⟨.u32, 1500000, 4500000, 2800000, .ford, .plain⟩), (0x0912, 1, ⟨.u32, 1500000, 4500000, 4200000, .ford, .plain⟩),
    (0x0913, 1, ⟨.u32, 0, 50000, 5000, .ford, .plain⟩), (0x0914, 1, ⟨.u32, 50000, 100000, 95000, .ford, .plain⟩),
    (0x0915, 1, ⟨.u32, 1000, 30000, 10000, .ford, .plain⟩), (0x0916, 1, ⟨.u16, 100, 10000, 2000, .ford, .plain⟩),
    (0x0917, 1, ⟨.u16, 100, 10000, 1000, .ford, .plain⟩), (0x0918, 1, ⟨.u16, 1, 600, 10, .ford, .plain⟩),
    (0x0919, 1, ⟨.u16, 100, 1000, 700, .ford, .plain⟩), (0x091A, 1, ⟨.s32, -4000, 2000, 0, .ford, .plain⟩),
    (0x091B, 1, ⟨.u32, 1000, 2000000, 100000, .service, .plain⟩) ] ++
  [ (0x0920, 1, ⟨.u32, 0, 1000000, 20000, .service, .plain⟩), (0x0921, 1, ⟨.u32, 0, 1000000, 800000, .service, .plain⟩),
    (0x0922, 1, ⟨.u32, 0, 1000000, 950000, .service, .plain⟩), (0x0923, 1, ⟨.u32, 0, 1000000, 400000, .service, .plain⟩),
    (0x0924, 1, ⟨.u32, 1, 10000000, 100000, .service, .plain⟩), (0x0925, 1, ⟨.u32, 1, 10000000, 50000, .service, .plain⟩),
    (0x0926, 1, ⟨.u32, 0, 100000, 30000, .service, .plain⟩), (0x0927, 1, ⟨.u16, 20, 1000, 80, .service, .plain⟩),
    (0x0928, 1, ⟨.u16, 0, 2000, 300, .service, .plain⟩), (0x0929, 1, ⟨.u32, 0, 100000, 15000, .service, .plain⟩),
    (0x092A, 1, ⟨.u16, 1, 1000, 20, .service, .plain⟩), (0x092B, 1, ⟨.u32, 100, 100000, 2000, .service, .plain⟩),
    (0x092C, 1, ⟨.u32, 10, 100000, 2000, .service, .plain⟩), (0x092D, 1, ⟨.u32, 10, 100000, 600, .ford, .plain⟩),
    (0x092E, 1, ⟨.u32, 10, 100000, 400, .ford, .plain⟩), (0x092F, 1, ⟨.u32, 1, 10000000, 50000, .ford, .plain⟩),
    (0x0940, 64, ⟨.u32, 0, 5000000, 0, .service, .plain⟩) ]

/-- Block 0x0A: LEARN. -/
def paramsLearn : List PRow :=
  [ (0x0A01, 1, ⟨.bool, 0, 1, 1, .ford, .plain⟩), (0x0A02, 1, ⟨.s32, 0, 2500, 1500, .ford, .plain⟩),
    (0x0A03, 1, ⟨.s32, 2500, 5000, 4000, .ford, .plain⟩), (0x0A04, 1, ⟨.u16, 100, 2000, 1000, .ford, .plain⟩),
    (0x0A05, 1, ⟨.u16, 200, 5000, 2000, .ford, .plain⟩), (0x0A06, 1, ⟨.u32, 10000, 90000, 40000, .ford, .plain⟩),
    (0x0A07, 1, ⟨.u16, 1, 720, 168, .ford, .plain⟩), (0x0A08, 1, ⟨.u16, 1, 500, 50, .ford, .plain⟩),
    (0x0A09, 1, ⟨.u16, 10, 2000, 500, .ford, .plain⟩), (0x0A0A, 1, ⟨.u16, 10, 500, 50, .ford, .plain⟩),
    (0x0A0B, 1, ⟨.u16, 10, 1000, 100, .ford, .plain⟩), (0x0A0C, 1, ⟨.u16, 100, 3000, 800, .ford, .plain⟩),
    (0x0A0D, 1, ⟨.u32, 60, 86400, 3600, .ford, .plain⟩), (0x0A0E, 1, ⟨.u16, 50, 2000, 200, .ford, .plain⟩),
    (0x0A0F, 1, ⟨.u16, 1, 1000, 50, .ford, .plain⟩), (0x0A80, 128, ⟨.u32, 0, maxU32, 0, .service, .plain⟩) ]

/-- Block 0x0B: LOOP, without the loop records. -/
def paramsLoop : List PRow :=
  [ (0x0B01, 1, ⟨.u8, 1, 15, 3, .ford, .plain⟩), (0x0B02, 1, ⟨.u8, 1, 255, 10, .ford, .plain⟩),
    (0x0B10, 4, ⟨.s32, -2000000, 2000000, 0, .ford, .plain⟩), (0x0B14, 4, ⟨.s32, -2000000, 2000000, 100000, .ford, .plain⟩) ]

/-- Block 0x0C: SAFE, the guarded set, without the password. -/
def paramsSafe : List PRow :=
  [ (0x0C02, 1, ⟨.bool, 0, 1, 0, .service, .plain⟩), (0x0C03, 1, ⟨.u32, 2000000, 5000000, 4250000, .service, .plain⟩),
    (0x0C04, 1, ⟨.u32, 1000000, 4000000, 2500000, .service, .plain⟩), (0x0C05, 1, ⟨.s32, 2000, 10000, 6500, .service, .plain⟩),
    (0x0C06, 1, ⟨.u32, 16000, 200000, 30000, .service, .plain⟩), (0x0C07, 1, ⟨.u16, 41, 4049, 740, .service, .plain⟩),
    (0x0C08, 1, ⟨.bool, 0, 1, 1, .service, .plain⟩), (0x0C09, 1, ⟨.u32, 10000, 1000000, 100000, .service, .plain⟩),
    (0x0C0A, 1, ⟨.enum, 0, 1, 1, .service, .plain⟩), (0x0C0B, 1, ⟨.u16, 5, 1000, 50, .service, .plain⟩),
    (0x0C0C, 1, ⟨.u16, 100, 200, 120, .service, .plain⟩), (0x0C0D, 1, ⟨.u16, 10, 10000, 500, .service, .plain⟩),
    (0x0C0E, 1, ⟨.u16, 100, 60000, 1000, .service, .plain⟩), (0x0C10, 4, ⟨.u16, 2000, 50000, 40000, .service, .plain⟩),
    (0x0C20, 8, ⟨.u32, 0, maxU32, 0, .service, .pair⟩), (0x0C30, 12, ⟨.u8, 0, 15, 0, .service, .plain⟩) ]

/-- Blocks 0x0D and 0x0E: FIO and THERM. -/
def paramsField : List PRow :=
  [ (0x0D01, 1, ⟨.u32, 0, 0xFFFFFF, 0, .service, .plain⟩), (0x0D02, 1, ⟨.u16, 1, 200, 30, .ford, .plain⟩),
    (0x0D03, 1, ⟨.u16, 0, 0xFFF, 0, .immediate, .plain⟩), (0x0D04, 1, ⟨.u32, 0, 0xFFFFFF, 0, .immediate, .plain⟩),
    (0x0D10, 12, ⟨.u32, 0, maxU32, 0, .service, .soCfg⟩), (0x0D20, 8, ⟨.u32, 0, maxU32, 0, .ford, .goCfg⟩),
    (0x0D28, 8, ⟨.u16, 0, 10000, 0, .immediate, .plain⟩), (0x0D30, 2, ⟨.u32, 0, maxU32, 0, .ford, .aiCfg⟩),
    (0x0D32, 2, ⟨.u32, 0, maxU32, 0, .ford, .aoCfg⟩), (0x0D34, 2, ⟨.u16, 0, 10000, 0, .immediate, .plain⟩),
    (0x0D36, 2, ⟨.u32, 0, maxU32, 0, .ford, .piCfg⟩),
    (0x0E01, 1, ⟨.u8, 100, 140, 140, .ford, .plain⟩), (0x0E02, 1, ⟨.u8, 110, 150, 150, .ford, .plain⟩) ]

/-- Blocks 0x0F and 0x10: CAN and TIME, without wake and filter words. -/
def paramsCan : List PRow :=
  [ (0x0F01, 1, ⟨.u16, 0, 65535, 100, .ford, .holdoff⟩), (0x0F02, 3, ⟨.u32, 0, maxU32, 0, .ford, .canCfg⟩),
    (0x0F05, 3, ⟨.u32, 0, maxU32, 0x01F407D0, .ford, .bitrate⟩), (0x0F08, 3, ⟨.u32, 0, maxU32, 0x032002EE, .ford, .sample⟩),
    (0x0F0B, 1, ⟨.u8, 0, 7, 0, .immediate, .plain⟩), (0x0F10, 1, ⟨.enum, 0, 3, 3, .ford, .plain⟩),
    (0x0F11, 1, ⟨.u32, 0, maxU32, 0x640, .ford, .canId⟩), (0x0F12, 1, ⟨.u32, 0, maxU32, 0x641, .ford, .canId⟩),
    (0x1001, 1, ⟨.enum, 0, 3, 0, .ford, .plain⟩), (0x1002, 1, ⟨.enum, 0, 3, 3, .ford, .plain⟩),
    (0x1003, 1, ⟨.enum, 0, 3, 3, .ford, .plain⟩), (0x1004, 1, ⟨.u16, 10, 1000, 100, .ford, .plain⟩),
    (0x1005, 1, ⟨.u32, 0, maxU32, 0x10, .ford, .canId⟩), (0x1006, 1, ⟨.u32, 0, maxU32, 0x11, .ford, .canId⟩),
    (0x1007, 2, ⟨.u16, 0, 2000, 0, .ford, .plain⟩), (0x1009, 1, ⟨.u16, 1, 600, 10, .ford, .plain⟩) ]

/-- Blocks 0x11 to 0x14: DISP, TW, SILT and UPD, without the two-wire slots. -/
def paramsNet : List PRow :=
  [ (0x1101, 1, ⟨.enum, 0, 3, 0, .ford, .plain⟩), (0x1102, 1, ⟨.u8, 0, 63, 0, .service, .plain⟩),
    (0x1103, 1, ⟨.u8, 0, 39, 0, .service, .plain⟩), (0x1104, 1, ⟨.u32, 0, maxU32, 0, .ford, .plain⟩),
    (0x1105, 1, ⟨.bool, 0, 1, 1, .ford, .plain⟩), (0x1106, 1, ⟨.u16, 50, 1000, 100, .ford, .plain⟩),
    (0x1107, 1, ⟨.u8, 0, 0x1F, 0x18, .ford, .plain⟩), (0x1108, 1, ⟨.enum, 0, 5, 0, .ford, .plain⟩),
    (0x1109, 1, ⟨.s32, -2000000, 2000000, 0, .immediate, .plain⟩),
    (0x110A, 1, ⟨.s32, -2147483648, 2147483647, 4000000, .ford, .plain⟩),
    (0x110B, 1, ⟨.s32, -2147483648, 2147483647, 20000000, .ford, .plain⟩),
    (0x110C, 1, ⟨.s32, -2000000, 2000000, -1000, .ford, .plain⟩), (0x110D, 1, ⟨.s32, -2000000, 2000000, 1000, .ford, .plain⟩),
    (0x110E, 1, ⟨.u8, 10, 100, 100, .ford, .plain⟩), (0x110F, 1, ⟨.u32, 1, 1000000, 1000, .ford, .plain⟩),
    (0x1110, 1, ⟨.u8, 2, 20, 6, .ford, .plain⟩),
    (0x1201, 1, ⟨.enum, 0, 2, 1, .ford, .plain⟩), (0x1202, 1, ⟨.u8, 0, 31, 4, .ford, .plain⟩),
    (0x1203, 1, ⟨.u8, 0, 0x77, 0x52, .ford, .twAddr⟩), (0x1204, 1, ⟨.u8, 0, 0x77, 0, .ford, .twAddr⟩),
    (0x1205, 1, ⟨.u16, 0, 10000, 100, .ford, .plain⟩), (0x1206, 1, ⟨.u8, 0, 7, 3, .ford, .plain⟩),
    (0x1207, 1, ⟨.u16, 1, 100, 25, .ford, .plain⟩), (0x1210, 16, ⟨.u32, 0, maxU32, 0, .ford, .watch⟩),
    (0x1301, 1, ⟨.u16, 1, 1000, 20, .ford, .plain⟩), (0x1302, 1, ⟨.u16, 0, 3600, 10, .ford, .plain⟩),
    (0x1401, 1, ⟨.u16, 60, 3600, 600, .ford, .plain⟩), (0x1402, 1, ⟨.bool, 0, 1, 1, .ford, .plain⟩),
    (0x1403, 1, ⟨.u8, 10, 90, 50, .ford, .plain⟩) ]

/-- The rows of one block. -/
def blockRows : Nat → List PRow
  | 0x01 | 0x02 | 0x04 => paramsSys
  | 0x05 | 0x06 | 0x15 => paramsCell
  | 0x07 => paramsString
  | 0x08 => paramsBal
  | 0x09 => paramsEst
  | 0x0A => paramsLearn
  | 0x0B => paramsLoop
  | 0x0C => paramsSafe
  | 0x0D | 0x0E => paramsField
  | 0x0F | 0x10 => paramsCan
  | 0x11 | 0x12 | 0x13 | 0x14 => paramsNet
  | _ => []

/-- Factory points of `EST.OCP_N_j`, in units of 1,000 µV (R723). -/
def ocpN : List Nat :=
  [520, 310, 210, 162, 140, 128, 120, 114, 110, 107, 105, 103, 101, 99, 97, 95, 93, 91, 89, 70, 67, 65, 63, 61, 59, 57,
   55, 53, 51, 49, 47, 45]

/-- Factory points of `EST.OCP_P_j`, in units of 1,000 µV (R723). -/
def ocpP : List Nat :=
  [3520, 3560, 3590, 3617, 3640, 3658, 3673, 3687, 3700, 3712, 3724, 3735, 3746, 3757, 3769, 3782, 3796, 3811, 3837, 3870,
   3905, 3931, 3956, 3978, 4001, 4025, 4050, 4076, 4103, 4132, 4164, 4205]

/-- The row of a word of a loop record (R428). -/
def loopWordSpec : Nat → PSpec
  | 0 => ⟨.u32, 0, maxU32, 0, .ford, .loopConfig⟩
  | 1 => ⟨.u32, 0, maxU32, 0, .ford, .loopPv⟩
  | 2 => ⟨.u32, 0, maxU32, 0xC8000000, .ford, .loopFf⟩
  | 3 => ⟨.s32, -2147483648, 2147483647, 0, .ford, .plain⟩
  | 4 => ⟨.u32, 0, maxU32, 0, .ford, .plain⟩
  | _ => ⟨.u32, 0, maxU32, 0, .ford, .notNegative⟩

/-- The row of a two-wire slot word (chapter 18). -/
def twSlotSpec : Nat → PSpec
  | 0 => ⟨.u32, 0, maxU32, 0, .ford, .twSlot⟩
  | 1 => ⟨.u16, 0, 65535, 0, .ford, .plain⟩
  | _ => ⟨.u32, 0, maxU32, 0, .ford, .watch⟩

/-- The password parameter `SAFE.PASSWORD` (chapter 13). -/
def passwordId : Nat := 0x0C01

/-- The row of a parameter ID; none for an unknown ID. The password's row holds its length range. -/
def paramSpec (id : Nat) : Option PSpec :=
  if id = passwordId then some ⟨.str, 6, 16, 0, .service, .plain⟩
  else if 0x0B20 ≤ id ∧ id < 0x0C00 then some (loopWordSpec ((id - 0x0B20) % 7))
  else if 0x0F20 ≤ id ∧ id < 0x0F2C then
    some ⟨.u32, 0, maxU32, 0, .ford, if (id - 0x0F20) % 4 = 0 then .canId else .plain⟩
  else if 0x0F40 ≤ id ∧ id < 0x1000 then
    some ⟨.u32, 0, maxU32, 0, .ford, if id % 2 = 0 then .filterId else .plain⟩
  else if 0x1220 ≤ id ∧ id < 0x1238 then some (twSlotSpec ((id - 0x1220) % 3))
  else
    match (blockRows (id / 256)).find? (fun r => r.1 ≤ id && id < r.1 + r.2.1) with
    | some r =>
      if 0x0940 ≤ id ∧ id < 0x0960 then some { r.2.2 with dflt := 1000 * (ocpN[id - 0x0940]?).getD 0 }
      else if 0x0960 ≤ id ∧ id < 0x0980 then some { r.2.2 with dflt := 1000 * (ocpP[id - 0x0960]?).getD 0 }
      else some r.2.2
    | none => none

/-- Factory default of a parameter; the password is the module's own (chapter 13). -/
def paramDefault (id : Nat) : PVal :=
  if id = passwordId then .str Config.factoryPassword
  else match paramSpec id with
    | some p => .num p.dflt
    | none => .num 0

/-! ## Ranges -/

/-- Bits `hi` down to `lo` of a word. -/
def bits (w hi lo : Nat) : Nat := w / 2 ^ lo % 2 ^ (hi + 1 - lo)

/-- An identifier word of `CAN.CMD_RX_ID`'s layout: bits the layout does not use are 0 (R151). -/
def canIdOk (v : Nat) : Bool := if v.testBit 31 then bits v 30 29 == 0 else v < 2048

/-- `LOOP_n.CONFIG` (R722). -/
def loopConfigOk (v : Nat) : Bool :=
  let out := bits v 10 8
  let idx := bits v 7 5
  let sp := bits v 18 16
  let si := bits v 15 11
  out ≤ 4 && sp ≤ 6 && bits v 23 19 < 22 &&
  (out != 0 || idx == 0) && (out != 2 || idx ≤ 1) && (out != 3 || idx ≤ 3) &&
  (4 < sp || si == 0) && (sp != 6 || si ≤ 3)

/-- Whether a point's class and instance exist (R165, R429). -/
def pointKnown (id : Nat) : Bool :=
  let c := id / 65536
  let i := id % 65536
  if c = 0x10 ∨ c = 0x11 ∨ c = 0x13 ∨ c = 0x30 ∨ c = 0x32 ∨ c = 0x33 ∨ c = 0x34 then i < 2048
  else if c = 0x12 then i < 1024
  else if c = 0x20 ∨ c = 0x22 ∨ c = 0x23 ∨ c = 0x31 then i < 4
  else if c = 0x21 then i = 0 ∨ (0x10 ≤ i ∧ i < 0x14) ∨ (0x20 ≤ i ∧ i < 0x24)
  else if c = 0x24 then i < 5
  else if c = 0x35 then i < 8
  else if c = 0x40 then i < 512
  else if c = 0x50 then i < 2
  else if c = 0x51 then i < 12 ∨ (0x10 ≤ i ∧ i < 0x18) ∨ (0x20 ≤ i ∧ i < 0x24)
  else if c = 0x52 ∨ c = 0x53 ∨ c = 0x54 then i < 2 ∨ i = 0x10 ∨ i = 0x11
  else if c = 0x60 then i < 24 ∨ i = 0x30
  else if c = 0x61 then
    i < 6 ∨ (0x10 ≤ i ∧ i < 0x18) ∨ (0x20 ≤ i ∧ i < 0x34) ∨ (0x40 ≤ i ∧ i < 0x47) ∨ i = 0x50 ∨ i = 0x51 ∨
    (0x60 ≤ i ∧ i < 0x68) ∨ (0x70 ≤ i ∧ i < 0x76) ∨ (0x90 ≤ i ∧ i < 0x98) ∨
    (0x1000 ≤ i ∧ i < 0x1800) ∨ (0x2000 ≤ i ∧ i < 0x2800)
  else if c = 0x70 then i < 6
  else if c = 0x71 then i < 0xA000 ∨ (0xF000 ≤ i ∧ i < 0xF008) ∨ (0xF010 ≤ i ∧ i < 0xF015)
  else false

/-- The content checks of the parameters whose range is no plain interval. -/
def contentOk (c : PCheck) (v : Nat) : Bool :=
  match c with
  | .plain => true
  | .ratio => v == 1 || v == 8
  | .output => true
  | .bytes32 => [0, 1, 2, 3].all (fun k => let b := v / 256 ^ k % 256; 1 ≤ b && b ≤ 32)
  | .canId => canIdOk v
  | .watch => v < 2 ^ 24
  | .loopPv => v / 2 ^ 24 ≤ 200 && (v % 2 ^ 24 == 0 || pointKnown (v % 2 ^ 24))
  | .loopFf => v / 2 ^ 24 ≤ 200 && (v % 2 ^ 24 == 0 || pointKnown (v % 2 ^ 24))
  | .loopConfig => loopConfigOk v
  | .notNegative => !v.testBit 31 && !v.testBit 15
  | .pair => bits v 23 20 == 0 && (!v.testBit 31 || (1 ≤ bits v 19 12 && bits v 19 12 ≤ 200))
  | .soCfg => bits v 28 24 == 0 && (!v.testBit 29 || (20 ≤ bits v 23 16 && bits v 23 16 ≤ 100 && 20 ≤ bits v 15 0 && bits v 15 0 ≤ 2000))
  | .goCfg => bits v 28 16 == 0 && (bits v 15 0 == 0 || (10 ≤ bits v 15 0 && bits v 15 0 ≤ 25000))
  | .aiCfg => bits v 31 30 ≤ 2 && bits v 29 16 == 0 && bits v 15 0 ≤ 10000
  | .aoCfg => bits v 31 30 ≤ 2 && bits v 29 0 == 0
  | .piCfg => bits v 30 16 == 0 && (!v.testBit 31 || (10 ≤ bits v 15 0 && bits v 15 0 ≤ 10000))
  | .holdoff => v ≤ 10000 || v == 65535
  | .canCfg => bits v 31 30 ≤ 2 && bits v 28 27 ≤ 2 && bits v 22 0 == 0
  | .bitrate => 125 ≤ v / 65536 && v / 65536 ≤ 1000 && 1000 ≤ v % 65536 && v % 65536 ≤ 8000
  | .sample => 500 ≤ v / 65536 && v / 65536 ≤ 900 && 500 ≤ v % 65536 && v % 65536 ≤ 900
  | .filterId => bits v 30 29 == 0
  | .twAddr => v == 0 || (0x08 ≤ v && v ≤ 0x77)
  | .twSlot => bits v 12 0 == 0

/-- Whether a value lies in the parameter's range (R170). -/
def valueOk (p : PSpec) (v : PVal) : Bool :=
  match v with
  | .num n =>
    p.ty != .str && ((p.lo ≤ n && n ≤ p.hi) || (p.check == .output && n == 255)) && contentOk p.check n.toNat
  | .str s =>
    p.ty == .str && (p.lo ≤ (s.length : Int) && (s.length : Int) ≤ p.hi) &&
      s.all (fun b => 0x21 ≤ b.toNat && b.toNat ≤ 0x7E)

/-! ## Values in force -/

/-- The applied value of a parameter. -/
def ParamState.get (p : ParamState) (id : Nat) : PVal :=
  (assocGet id p.applied).getD (paramDefault id)

/-- The applied value as an integer. -/
def ParamState.int (p : ParamState) (id : Nat) : Int :=
  match p.get id with
  | .num v => v
  | .str _ => 0

/-- The applied value as a natural number. -/
def ParamState.nat (p : ParamState) (id : Nat) : Nat := (p.int id).toNat

/-- The value of `id` in a set of records laid over the applied set (R169 source 1, R174). -/
def ParamState.overlaid (p : ParamState) (sh : List (Nat × PVal)) (id : Nat) : PVal :=
  (assocGet id sh).getD (p.get id)

/-- The overlaid value as an integer. -/
def ParamState.overInt (p : ParamState) (sh : List (Nat × PVal)) (id : Nat) : Int :=
  match p.overlaid sh id with
  | .num v => v
  | .str _ => 0

/-- Applied set with `id` bound to `v`; a value equal to the default is not listed. -/
def setApplied (id : Nat) (v : PVal) (l : List (Nat × PVal)) : List (Nat × PVal) :=
  if v = paramDefault id then assocErase id l else assocSet id v l

/-- The applied set after the records of `sh` take effect. -/
def applyAll (sh l : List (Nat × PVal)) : List (Nat × PVal) :=
  sh.foldl (fun a e => setApplied e.1 e.2 a) l

/-- One parameter record as bytes (R168); a password shows no characters (R169). -/
def recordBytes (id : Nat) (v : PVal) (hide : Bool) : List Byte :=
  let ty := match paramSpec id with | some p => p.ty.code | none => 0
  match v with
  | .num n => leBytes 2 id ++ [BitVec.ofNat 8 ty, 4] ++ s32Bytes n
  | .str s =>
    let s := if hide then [] else s
    leBytes 2 id ++ [BitVec.ofNat 8 ty, BitVec.ofNat 8 s.length] ++ s ++ List.replicate ((4 - s.length % 4) % 4) 0

/-- Stage digest: the payload CRC over the staged records in ascending ID order (R174). -/
def stageDigest (sh : List (Nat × PVal)) : Nat :=
  crc32 (sh.flatMap (fun e => recordBytes e.1 e.2 false))

end Sys2Proof.Machine
end

