-- ==== Sys2Proof/Machine/StrandState.lean ====
section
/-! DEFINITION. State of the rings, the cell snapshots, the HV die, the transfers, the guard die and the field die
(chapters 06, 07, 08, 09, 13 and 14). -/
namespace Sys2Proof.Machine
open Sys2Proof

/-! ## Lermet rings (chapter 06) -/

/-- A satellite's block, decoded (R196): raw codes. -/
structure SatBlock where
  addr : Nat
  unaddressed : Bool := false
  noData : Bool := false
  balActive : Bool := false
  polUp : Bool := false
  linkBack : Bool := false
  imageB : Bool := false
  supply : Bool := false
  reference : Bool := false
  tempInput : Bool := false
  converter : Bool := false
  rail : Bool := false
  echo : Nat := 0
  slice : Nat := 0
  /-- 16 codes of 18 bits. -/
  primary : List Nat := []
  /-- 2 or 16 codes of 12 bits. -/
  secondary : List Nat := []
  /-- 8 codes of 12 bits. -/
  temps : List Nat := []
  /-- The block CRC is right. -/
  crcOk : Bool := true
  deriving DecidableEq, Repr

/-- A flag lane, decoded (R197). -/
structure Lane where
  ov : Bool := false
  uv : Bool := false
  ot : Bool := false
  sf : Bool := false
  /-- The check bits are the complement of the flags. -/
  checkOk : Bool := true
  addr : Nat
  counter : Nat
  deriving DecidableEq, Repr

/-- One slot of a COLLECT, decoded: block and lane. -/
structure Slot where
  block : SatBlock
  lane : Lane
  deriving DecidableEq, Repr

/-- What a satellite told at enumeration (R204), its counters (R230) and the registers the module wrote (R724). -/
structure SatState where
  /-- Identity entry of the last enumeration; none while absent. -/
  ident : Option SatIdentity := none
  admitted : Bool := false
  /-- Not cut off between the two breaks of a split (R222). -/
  reachable : Bool := true
  /-- L_n in half-bits (R206). -/
  latency : Nat := 0
  crcErrors : Nat := 0
  polUpSeen : Bool := false
  polUpNow : Bool := false
  unaddressedSeen : Bool := false
  /-- SET_THRESHOLDS confirmed since the last enumeration or re-addressing (R477). -/
  confirmed : Bool := false
  /-- Registers 0x0010 to 0x0017 as last written by the module (R724). -/
  regs : List Nat := List.replicate 8 0
  supplyFault : Bool := false
  referenceFault : Bool := false
  /-- Eight or more cells PLAUS_FAIL (R251). -/
  measFault : Bool := false
  linkBack : Bool := false
  deriving DecidableEq, Repr

/-- The parameters a TRIGGER carries and the instant it left (R35, R195, R232). -/
structure SnapHeader where
  seq : Nat
  /-- Module timebase at the trigger instant. -/
  at' : Nat
  /-- Network time at the trigger instant, 0 if not synchronised. -/
  net : Nat
  corner : Nat
  ratio : Nat
  owt : Bool
  blanking : Bool
  /-- Snapshot period in force, µs (R210, R216). -/
  period : Nat := 10000
  /-- Whether this snapshot starts a model update, and its index (R347, R348). -/
  model : Bool
  index : Nat := 0
  /-- Applied parameters in force at the trigger that differ from the factory defaults (R35, R349). -/
  par : List (Nat × PVal) := []
  /-- Bits 23 to 0 of class 0x13 of the 512 positions at the sampling instant (R344). -/
  plan : List Nat := []
  deriving DecidableEq, Repr

/-- A completed snapshot in one of the ring's two buffers (R50). -/
structure SnapBuffer where
  head : SnapHeader
  slots : List Slot
  /-- Timebase of its posting to Q12 to Q15 (R26). -/
  posted : Nat := 0
  deriving DecidableEq, Repr

/-- What a ring descriptor was posted for; tells who is answered. -/
inductive Purpose where
  | config | reAddress | plan | stop | inject (polarity odd : Bool) | survey | satCommand (by' : Requester)
  | wakeCause | imageSwitch
  deriving DecidableEq, Repr

/-- One COMMAND entry waiting for its response (R201, R217). -/
structure RingEntry where
  addr : Nat
  code : Nat
  args : List Byte
  tag : Nat := 0
  tries : Nat := 0
  deriving DecidableEq, Repr

/-- A descriptor of Q8 to Q11. -/
structure RingDesc where
  purpose : Purpose
  entries : List RingEntry
  /-- Timebase of its posting (R26). -/
  posted : Nat := 0
  deriving DecidableEq, Repr

/-- Where an enumeration or a break search stands (R206, R221). -/
inductive RingPhase where
  | idle
  /-- ENUMERATE sent (step 3 of R206). -/
  | enumerating
  /-- Latencies, thresholds and configuration sent (step 6 of R206). -/
  | configuring
  /-- PROBE of satellite `n` sent (step 5 of R206, or of R221 when `search`). -/
  | probing (n : Nat) (search : Bool)
  /-- Break search halving on one pair, along the satellites that answered before: the first `lo` of them in the order of that
  pair are reached, the one after the first `hi` is not; `near` is what the out pair gave (steps 3 and 4 of R221). -/
  | searching (outPair : Bool) (near lo hi : Nat)
  /-- SET_LATENCY sent to every satellite (step 6 of R221). -/
  | latencies
  deriving DecidableEq, Repr

/-- A frame sent on one pair: its bytes from the header on (R191, R192). -/
structure RingFrame where
  /-- Out pair, or return pair. -/
  out : Bool
  bytes : List Byte
  deriving DecidableEq, Repr

/-- One ring and its master. -/
structure RingState where
  op : RingOp := .disabled
  phase : RingPhase := .idle
  sats : List SatState := List.replicate 32 {}
  /-- Last reachable satellite on the out pair in split operation, none if the first link broke. -/
  near : Option Nat := none
  /-- First reachable satellite on the return pair, none if the last link broke. -/
  far : Option Nat := none
  /-- The last search found a split. -/
  broken : Bool := false
  /-- An enumeration under way began in split operation; its end is the return to loop (R224). -/
  leftSplit : Bool := false
  surplus : Bool := false
  /-- Identity entries of the satellites that got no address at the last enumeration (R204, R230). -/
  extras : List SatIdentity := []
  /-- Step 7 of R206 has been reached since the ring was last enumerated. -/
  enumerated : Bool := false
  outInverted : Bool := false
  returnCorrected : Bool := false
  loopLatency : Nat := 0
  frames : Nat := 0
  lost : Nat := 0
  crcErrors : Nat := 0
  mismatches : Nat := 0
  dropped : Nat := 0
  splits : Nat := 0
  polarity : Nat := 0
  lostRun : Nat := 0
  /-- Header of the snapshot whose COLLECT is awaited. -/
  awaiting : Option SnapHeader := none
  collectSent : Bool := false
  /-- Full buffers not yet acknowledged by AC0, oldest first, at most two (R50). -/
  bufs : List SnapBuffer := []
  blanked : Bool := false
  /-- Half-bits left of the open command window (R213). -/
  window : Nat := 0
  /-- Entries sent and not answered, with their purpose. -/
  inFlight : Option RingDesc := none
  queue : List RingDesc := []
  /-- Descriptors refused by the full queue, which their producers keep (R43). -/
  kept : List RingDesc := []
  /-- Entries of an enumeration or a search still to be sent, outside any queue (step 6 of R206 and of R221). -/
  direct : List RingEntry := []
  /-- Frames of the latest transmission, one per pair driven (R191, R212). -/
  sent : List RingFrame := []
  frameCounter : Nat := 0
  entryTag : Nat := 0
  stopAll : Bool := false
  sleepReq : Bool := false
  /-- Dale period the SLEEP request carries, s (R226). -/
  sleepArg : Nat := 0
  /-- Address being given back, and how far: 0 ENUMERATE to be sent, 1 sent, 2 PROBE to be sent, 3 sent, 4 COMMAND queued ahead of
  everything (R208). -/
  reAddr : Option (Nat × Nat) := none
  deriving DecidableEq, Repr

/-! ## Cell snapshots (chapter 07) -/

/-- What AC0 keeps of one position (R242 to R260). -/
structure CellState where
  /-- Newest point value, compensated (class 0x10); none without a valid value. -/
  value : Option Int := none
  /-- Uncompensated value of the newest valid snapshot and its sampling instant (R245, R248). -/
  lastRaw : Option Int := none
  lastAt : Nat := 0
  /-- Value kept for primary protection (R245). -/
  kept : Option Int := none
  secondary : Option Int := none
  /-- Last secondary value carried (R250). -/
  lastSec : Option Int := none
  noData : Bool := false
  outOfRange : Bool := false
  invalidWire : Bool := false
  balAffected : Bool := false
  plausFail : Bool := false
  plausBad : Nat := 0
  plausGood : Nat := 0
  stale : Bool := false
  wireSuspect : Bool := false
  /-- Sign 1 holds for the wire below this cell; set by the model update (R256, R257). -/
  sign1 : Bool := false
  /-- Signs 1, 2 and 4 of that wire hold since this instant (R257). -/
  signsSince : Option Nat := none
  /-- A test of that wire was refused while sign 1 holds (R257). -/
  refused : Bool := false
  /-- Plan in force: role, trim, current in 10 mA (R344). -/
  role : Nat := 0
  trim : Bool := false
  current10 : Nat := 0
  /-- Exclusion code of R326. -/
  reason : Nat := 0
  deriving DecidableEq, Repr

/-- One temperature input (R241). -/
structure TempState where
  value : Option Int := none
  code : Nat := 0
  isOpen : Bool := false
  shorted : Bool := false
  /-- Consecutive snapshots with a value above SAFE.CELL_OT, up to the newest (SF4). -/
  hot : Nat := 0
  deriving DecidableEq, Repr

/-- Consecutive buffered lanes of one satellite with a flag set, as AC0 sees them (R474, R270). -/
structure LaneRun where
  ov : Nat := 0
  uv : Nat := 0
  ot : Nat := 0
  sf : Nat := 0
  deriving DecidableEq, Repr

/-- An open-wire test or survey in progress on one strand (R262 to R266). -/
structure OwtState where
  mode : Nat
  /-- Satellite mask tested. -/
  sats : List Nat
  by' : Option Requester
  /-- 0 reference, 1 to 4 phases A to D, 5 closing reference. A survey counts its runs. -/
  phase : Nat := 0
  /-- The descriptor of the current phase is posted. -/
  posted : Bool := false
  /-- Satellites that did not take an entry of the test. -/
  failed : List Nat := []
  /-- The injection of the current phase has been armed. -/
  armed : Bool := false
  /-- Sequence of the trigger that carried OWT for the current phase (R261, R263). -/
  shotSeq : Option Nat := none
  /-- Instant from which the next snapshot counts. -/
  notBefore : Nat := 0
  /-- Cell values of the snapshots taken so far: reference, A, B, C, D, closing. -/
  shots : List (List (Option Int)) := []
  deriving DecidableEq, Repr

/-- Everything measured of one strand by its snapshots. -/
structure MeasState where
  cells : List CellState := List.replicate 512 {}
  temps : List TempState := List.replicate 256 {}
  /-- Newest complete snapshot (R166). -/
  newest : Option SnapHeader := none
  owt : Option OwtState := none
  /-- AC0's own run counts of OV, UV, OT, SF in buffered lanes, per satellite (SF2 to SF5). -/
  laneRuns : List LaneRun := List.replicate 32 {}
  /-- R478: consecutive contradictions of each satellite. -/
  contradictions : List Nat := List.replicate 32 0
  /-- Wires judged broken, as (satellite, wire) pairs (R257 to R260). -/
  broken : List (Nat × Nat) := []
  deriving DecidableEq, Repr

/-! ## HV die (chapter 08) -/

/-- A pair's reversal counter (R275). -/
structure PairWatch where
  below : Nat := 0
  above : Nat := 0
  clamped : Bool := false
  deriving DecidableEq, Repr

/-- Where the strand being connected stands (R298 to R300). -/
inductive ConnectPhase where
  /-- Negative contactor commanded on; judged after CLOSE_TIME. -/
  | negative
  /-- Precharge contactor on; `half` once 50 % was reached. -/
  | precharge (half : Bool)
  /-- Positive contactor commanded on; judged after CLOSE_TIME. -/
  | positive (viaPrecharge : Bool)
  /-- Precharge contactor to go off 20 ms after the positive judged. -/
  | settle
  deriving DecidableEq, Repr

/-- A CONNECT_STRANDS in progress (R297). -/
structure ConnectSeq where
  strand : Nat
  phase : ConnectPhase
  /-- HV round in which the phase began (500 µs rounds). -/
  since : Nat
  /-- Strands still to come, in order. -/
  rest : List Nat
  results : List Nat
  by' : Option Requester
  /-- The strand runs steps 2 to 5 of R298. -/
  precharge : Bool := false
  deriving DecidableEq, Repr

/-- A weld check waiting or running (R305). -/
structure WeldJob where
  strand : Nat
  /-- Step of R305, 0 while waiting its turn. -/
  step : Nat := 0
  since : Nat := 0
  currentHigh : Bool := false
  /-- U_neg in test N: none between the bands, some true closed (R296). -/
  neg : Option Bool := none
  /-- The check is the repeat after an undetermined one (R307). -/
  again : Bool := false
  deriving DecidableEq, Repr

/-- A DISCONNECT_STRANDS waiting for its weld checks. -/
structure DisconnectJob where
  by' : Requester
  /-- Strands whose check is outstanding. -/
  strands : List Nat
  results : List Nat
  deriving DecidableEq, Repr

/-- What the HV die and AC0's string services keep of one strand. -/
structure StrandHv where
  /-- Point 0x20, mV. -/
  voltage : Option Int := none
  /-- Points 0x21 instances 0x10 + k and 0x20 + k, mV. -/
  uPos : Option Int := none
  uNeg : Option Int := none
  /-- Point 0x22, mA. -/
  current : Option Int := none
  /-- Newest round values of the pairs, mV, and of the shunt, µV. -/
  rawV : Int := 0
  rawPos : Int := 0
  rawNeg : Int := 0
  rawShunt : Int := 0
  watch : PairWatch := {}
  /-- Shunt offset, µV (R279). -/
  offset : Int := 0
  offsetBad : Bool := false
  sumBad : Nat := 0
  sumGood : Nat := 0
  sumTrip : Nat := 0
  sumFlag : Bool := false
  prevSumV : Option Int := none
  connected : Bool := false
  /-- Stored weld verdict in NVM: 0 none, 1 negative, 2 positive, 3 not attributed, 4 both (R306, R308). -/
  weld : Nat := 0
  weldPassed : Bool := false
  isoRefused : Bool := false
  /-- The latest insulation result of a system this strand belonged to (R307). -/
  isoLast : Option Nat := none
  contactorHigh : Bool := false
  /-- Rounds in a row with a contactor voltage above STRING.CLOSED_MAX, and at or above a quarter of the strand's (R310). -/
  highRun : Nat := 0
  quarterRun : Nat := 0
  deriving DecidableEq, Repr

/-- The warning of R291 for one system of the insulation monitor. -/
structure IsoWatch where
  below : Nat := 0
  above : Nat := 0
  on : Bool := false
  deriving DecidableEq, Repr

/-- The HV die. -/
structure HvState where
  rounds : Nat := 0
  strands : List StrandHv := List.replicate 4 {}
  bus : Option Int := none
  rawBus : Int := 0
  /-- Bus voltage of the last 20 rounds, newest first (R298 step 5). -/
  busHistory : List Int := []
  busWatch : PairWatch := {}
  refBad : Nat := 0
  refGood : Nat := 0
  refFault : Bool := false
  /-- Consecutive open verdicts of the ten sense pins SP0–3, SN0–3, BP, BN, and their flags (R276). -/
  pinShifts : List Nat := List.replicate 10 0
  pinOpen : List Bool := List.replicate 10 false
  /-- Newest insulation results: bus, strands 0 to 3, ohms (class 0x24). -/
  iso : List (Option Nat) := List.replicate 5 none
  isoLine : Bool := false
  isoHighRun : Nat := 0
  /-- System the monitor measures: 0 the bus, 1 + k strand k; and half-periods it has spent on it (R286). -/
  isoRef : Nat := 0
  isoTurns : Nat := 0
  /-- Warnings: bus, strands 0 to 3 (R291). -/
  isoWarns : List IsoWatch := List.replicate 5 {}
  /-- The half-period in progress is discarded: a weld check's bias, or the first one of all (R288, R295). -/
  isoSkip : Bool := true
  earthBad : Nat := 0
  earthGood : Nat := 0
  earthFault : Bool := false
  connect : Option ConnectSeq := none
  welds : List WeldJob := []
  disconnects : List DisconnectJob := []
  /-- Operating-time instants, ms, of precharge failures (R302). -/
  prechargeFails : List Nat := []
  deriving DecidableEq, Repr

/-! ## Active charge transfer (chapter 09) -/

/-- A converter run, as the responses tell it (R315, R316). -/
structure ConverterRun where
  cell : Nat
  direction : Nat
  /-- Commanded current, mA. -/
  current : Nat
  /-- Timebase at which this current began, and at which the lease runs out. -/
  since : Nat
  until' : Nat
  deriving DecidableEq, Repr

/-- A converter run and the instant it ended, or is to end. -/
structure RunEnd where
  run : ConverterRun
  at' : Nat
  deriving DecidableEq, Repr

/-- One satellite in the planner's record. -/
structure SatLease where
  /-- The satellite held a lease under the latest plan. -/
  held : Bool := false
  cell : Nat := 0
  direction : Nat := 0
  current : Nat := 0
  /-- Mean current of the latest response, mA (R314). -/
  mean : Int := 0
  /-- Excluded for a converter fault or failed commands (R340, R341). -/
  excluded : Bool := false
  faultBit : Bool := false
  /-- Block bit 16 of the latest slot (R338). -/
  railBit : Bool := false
  /-- The latest entry renews a transfer under way (R343). -/
  renewal : Bool := false
  /-- Instants, ms, of running without a lease (R342). -/
  strays : List Nat := []
  /-- Timebase from which the 60 s of an exclusion count (R340, R341). -/
  barredFrom : Nat := 0
  /-- The run in progress, and the latest end of a run on each cell (R254, R371). -/
  run : Option ConverterRun := none
  ended : List RunEnd := []
  deriving DecidableEq, Repr

/-- Transfers of one strand. -/
structure BalState where
  leases : List SatLease := List.replicate 32 {}
  /-- Rail voltage, mV, from the latest response since start or rail fault (R333, R345). -/
  rail : Option Nat := none
  donorMw : Nat := 0
  /-- Instants, ms, of rail faults (R338). -/
  railFaults : List Nat := []
  latchedOff : Bool := false
  /-- Planning paused for 1 s after a rail fault (R338). -/
  hold : Bool := false
  /-- The next plan is a rail start, after a rail fault (R338). -/
  restart : Bool := false
  /-- A rail start has begun and 10 V is not reported yet (R333). -/
  railStart : Bool := false
  trimSat : Option Nat := none
  trimRun : Nat := 0
  /-- Plans are scaled by 0.75 (R339). -/
  scaled : Bool := false
  /-- Balancing active (a plan with transfers in force). -/
  active : Bool := false
  stopped : Bool := true
  /-- Power-fail commit stopped planning until the next model update (R322). -/
  awaitUpdate : Bool := false
  /-- The latest plan was reduced to fit a command window (R332). -/
  reduced : Bool := false
  /-- Loop ceiling in mA; none without a loop (R330, R438). -/
  ceiling : Option Nat := none
  deriving DecidableEq, Repr

/-! ## Safety functions and the guard die (chapter 13) -/

/-- The guard die's and the trip's view of one strand (R471, R472, R499). -/
structure TripState where
  guardLatch : Bool := false
  ac0Latch : Bool := false
  /-- Causes that hold now; bits as in the strand cause word (R499). -/
  active : Nat := 0
  /-- Strand cause word. -/
  word : Nat := 0
  /-- Comparator of SF1 asserted. -/
  ocNow : Bool := false
  /-- Timebase at which the latest of its causes ended; `SAFE.TRIP_HOLD` runs from it (R472). -/
  endedAt : Nat := 0
  /-- Instants from which SF9's conditions hold, timebase: discharge beyond its limit, charge beyond its limit, no usable source
  (R480). -/
  overDis : Option Nat := none
  overChg : Option Nat := none
  unseenSince : Option Nat := none
  /-- Snapshots in which AC0 has not seen a flag the guard die tripped on (R500, event 0xB8). -/
  unseen : Nat := 0
  /-- Any cell in the primary OV, UV or OT condition in the newest snapshot. -/
  primOv : Bool := false
  primUv : Bool := false
  primOt : Bool := false
  deriving DecidableEq, Repr

/-- The guard die's lane evaluation of one admitted satellite (R199, R475, R476). -/
structure GuardLane where
  admitted : Bool := false
  counter : Option Nat := none
  ov : Nat := 0
  uv : Nat := 0
  ot : Nat := 0
  sf : Nat := 0
  lost : Bool := false
  /-- Already seen in the current snapshot (R199). -/
  seen : Bool := false
  deriving DecidableEq, Repr

/-- One dual-channel pair (R484, R486). -/
structure PairState where
  aClosed : Bool := false
  bClosed : Bool := false
  demanded : Bool := true
  fault : Bool := false
  /-- The discrepancy timer runs. -/
  timing : Bool := false
  deriving DecidableEq, Repr

/-- The challenge-response watchdog (R481, R482). -/
structure Watchdog where
  armed : Bool := false
  challenge : Option Nat := none
  /-- Responses in this window, and whether the first was right and in time. -/
  responses : Nat := 0
  good : Bool := false
  misses : Nat := 0
  /-- AC0 has read the challenge and not answered it. -/
  toAnswer : Bool := false
  deriving DecidableEq, Repr

/-- One entry of the change log (R497). -/
structure ChangeEntry where
  seq : Nat
  opSec : Nat
  powerCycles : Nat
  kind : Nat
  userTag : Nat
  oldCrc : Nat
  newCrc : Nat
  changed : Nat
  transport : Nat
  deriving DecidableEq, Repr

/-- The guard die and AC0's protection. -/
structure GuardState where
  /-- Verified guard configuration: block 0x0C records in force (R494). -/
  config : List (Nat × PVal) := []
  signature : Nat := 0
  valid : Bool := false
  trips : List TripState := List.replicate 4 {}
  lanes : List (List GuardLane) := List.replicate 4 (List.replicate 32 {})
  /-- First write of the admitted addresses of each ring done (R200). -/
  admitWritten : List Bool := List.replicate 4 false
  /-- AC0 commands of SO11–SO0. -/
  commands : Nat := 0
  pairs : List PairState := List.replicate 8 {}
  /-- Consecutive failed pulse checks of DI0–DI15, own and foreign (R485). -/
  ownFails : List Nat := List.replicate 16 0
  /-- The same for the pulses of each supply, 4 · input + supply. -/
  foreignFails : List Nat := List.replicate 64 0
  watchdog : Watchdog := {}
  /-- Consecutive failed enable tests and AC0 tests per output (R491). -/
  enableFails : List Nat := List.replicate 12 0
  commandFails : List Nat := List.replicate 12 0
  oscFails : Nat := 0
  /-- Insulation fault line as the guard die sees it. -/
  isoLine : Bool := false
  selfTestBad : Bool := false
  changeLog : List ChangeEntry := []
  deriving DecidableEq, Repr

/-! ## Field die (chapter 14) -/

/-- One SO, GO or TS output (R519, R530). -/
structure OutputState where
  verdict : Nat := 0
  partner : Nat := 31
  /-- Cut-offs of the current sequence (R520). -/
  cutoffs : Nat := 0
  on : Bool := false
  current : Nat := 0
  /-- A thermal cut-off waits for its retry. -/
  retry : Bool := false
  /-- Timebase of the latest cut-off (R520). -/
  cutAt : Nat := 0
  /-- Timebase at which the retry is due; while the supply is held, the time still to run (R520, R525). -/
  retryAt : Nat := 0
  /-- Timebase of the latest switch-on (R515). -/
  onSince : Nat := 0
  deriving DecidableEq, Repr

/-- One supply L+A or L+B (R523). -/
structure LPlus where
  mv : Nat := 0
  warning : Bool := false
  held : Bool := false
  missing : Bool := false
  deriving DecidableEq, Repr

/-- One analogue input (R526). -/
structure AiState where
  /-- Filter output, µA or µV. -/
  value : Rat := 0
  status : Nat := 0
  wireBreak : Bool := false
  burdenOpen : Bool := true
  /-- Timebase of the over-current that opened the burden. -/
  openAt : Nat := 0
  deriving DecidableEq, Repr

/-- One analogue output (R527). -/
structure AoState where
  command : Nat := 0
  readback : Int := 0
  status : Nat := 0
  deriving DecidableEq, Repr

/-- One pulse input (R528). -/
structure PiState where
  edges : Nat := 0
  mHz : Nat := 0
  /-- Stamps, 62.5 ns ticks, of the first and last edge and their number in the running gate. -/
  first : Nat := 0
  last : Nat := 0
  count : Nat := 0
  /-- Last whole period, ticks. -/
  period : Option Nat := none
  /-- The last gate's rate was above 100 kHz. -/
  tooFast : Bool := false
  deriving DecidableEq, Repr

/-- The field die. -/
structure FieldState where
  /-- Filtered and unfiltered states of DI23–DI0 (class 0x50). -/
  di : Nat := 0
  diRaw : Nat := 0
  /-- Timebase of the latest read-back report (R690). -/
  reportAt : Nat := 0
  so : List OutputState := List.replicate 12 {}
  go : List OutputState := List.replicate 8 {}
  ts : List OutputState := List.replicate 4 {}
  /-- Duties of the general outputs, 0.01 %. -/
  goDuty : List Nat := List.replicate 8 0
  /-- FIO.SO_CMD, GO_CMD_y and AO_CMD_i in force (R518). -/
  soCmd : Nat := 0
  goCmd : List Nat := List.replicate 8 0
  aoCmd : List Nat := List.replicate 2 0
  lplus : List LPlus := List.replicate 2 {}
  ai : List AiState := List.replicate 2 {}
  ao : List AoState := List.replicate 2 {}
  pi' : List PiState := List.replicate 2 {}
  deriving DecidableEq, Repr

end Sys2Proof.Machine
end

