-- ==== Sys2Proof/Machine/EstState.lean ====
section
/-! DEFINITION. State of the estimator, capacity learning, battery memory and the loop engine
(chapters 10, 11 and 12). -/
namespace Sys2Proof.Machine
open Sys2Proof

/-! ## Estimator (chapter 10) -/

/-- A learning cycle in RAM (R394 to R398). -/
structure LearnCycle where
  /-- Posterior SOC and its variance at the opening anchor, and that anchor's weight. -/
  s0 : Rat
  var0 : Rat
  w0 : Rat
  /-- Charge into the cell since, Ah. -/
  q : Rat := 0
  openedMs : Nat
  /-- Sum of |I|·dt and of dt while not at rest (cause 2). -/
  absSum : Rat := 0
  activeTime : Rat := 0
  deriving DecidableEq, Repr

/-- Impedance samples of one quantity at the current grid point (R408). -/
structure Samples where
  count : Nat := 0
  sum : Rat := 0
  deriving DecidableEq, Repr

/-- The 80-byte accumulator of R408 and what R406 and R407 still need of recent snapshots. -/
structure Accum where
  point : Nat := 0
  rser : Samples := {}
  rpol : Samples := {}
  tau : Samples := {}
  /-- Signed current summed over the running second. -/
  secI : Rat := 0
  /-- Last three consecutive snapshots, newest first: current A, voltage V, valid, nearest grid point (R406, R408). -/
  recent : List (Rat × Rat × Bool × Nat) := []
  /-- Relaxation: the steady current before rest, rest start, and the values taken (R407). -/
  steady : Option Rat := none
  steadySince : Nat := 0
  relaxFrom : Option Nat := none
  relaxI : Rat := 0
  /-- τ1 of the table when the rest began, s, and the grid point of the first value (R407, R408). -/
  relaxTau : Rat := 0
  relaxPoint : Nat := 0
  v0 : Option Rat := none
  v1 : Option Rat := none
  deriving DecidableEq, Repr

/-- One cell's 768-byte record (R369), its values single precision, with its learning cycle. -/
structure CellEst where
  present : Bool := false
  /-- States 0 to 15 of R352. -/
  x : List Rat := List.replicate 16 0
  /-- Covariance, 16 by 16. -/
  p : List (List Rat) := []
  rser : Rat := 0
  rpol : Rat := 0
  cpol : Rat := 0
  /-- Capacity in use, Ah. -/
  cap : Rat := 0
  /-- Model temperature, °C. -/
  temp : Rat := 0
  iConv : Rat := 0
  innovation : Rat := 0
  s : Rat := 0
  soc : Rat := 0
  socVar : Rat := 0
  reported : Rat := 0
  uncertainty : Rat := 0
  /-- Anchor age at the last completed update, ms. -/
  anchorMs : Nat := 0
  restMs : Nat := 0
  outlier : Bool := false
  rejected : Bool := false
  noSaved : Bool := false
  tempInvalid : Bool := false
  rejections : Nat := 0
  outlierCount : Nat := 0
  index : Nat := 0
  /-- Timebase of the last completed update's trigger. -/
  updatedAt : Nat := 0
  ocv : Rat := 0
  eta1 : Rat := 0
  eta2 : Rat := 0
  /-- σ²_U of R360, from the covariance at the last update. -/
  sigmaU : Rat := 0
  /-- Reported SOC, capacity, Rser and uncertainty of the update whose values the points show (R164, R392). -/
  pub : Option (Rat × Rat × Rat × Rat) := none
  /-- Charge taken by the last update, Ah, and the time it spans, s (R381). -/
  dq : Rat := 0
  dt : Rat := 0
  /-- Instant since which no primary value was valid (cause 4 of R397). -/
  invalidSince : Option Nat := none
  /-- Sum and count of |I| in the current second (cause 3 of R397). -/
  secSum : Rat := 0
  secCount : Nat := 0
  /-- Innovation over current step for the last 16 steps, newest first (sign 4 of R256). -/
  steps : List Rat := []
  cycle : Option LearnCycle := none
  accum : Accum := {}
  deriving DecidableEq, Repr

/-- Milliseconds of the timebase between two instants. -/
def msBetween (a b : Nat) : Nat := b / 1000 - a / 1000

/-- Anchor age at an instant, ms; it advances with the timebase from the cell's last update on (R373). -/
def CellEst.ageAt (now : Nat) (e : CellEst) : Nat := e.anchorMs + msBetween e.updatedAt now

/-- What AC0 hands to the array of one snapshot: its header, cells and inputs, the measured current, mA, and the timebase of the
posting to Q60 (R26, R50). -/
structure HandOff where
  head : SnapHeader
  cells : List CellState
  temps : List TempState
  current : Option Int
  posted : Nat
  deriving DecidableEq, Repr

/-- What the inference knew of the strand at the snapshot of an update (R363, R365, R366, R370, R371). -/
structure UpdateView where
  /-- I_k at that snapshot, A, with which the filter forms its terminal voltage (R355, R365). -/
  ins : Option Rat := none
  /-- σ_I, A, and the observability index. -/
  sigma : Rat := 0
  obs : Rat := 0
  atRest : Bool := false
  /-- Trigger instants at which the latest rest began, and the one before it, or itself, ended. -/
  restStart : Nat := 0
  restEnded : Option Nat := none
  deriving DecidableEq, Repr

/-- One strand of the estimator. -/
structure StrandEst where
  cells : List CellEst := List.replicate 512 {}
  /-- Unblended inferred current and σ_I of the newest snapshot, A. -/
  iInf : Option Rat := none
  sigmaI : Rat := 0
  /-- Measured current used beside it, when usable, A. -/
  iMeas : Option Rat := none
  /-- I_k of R380. -/
  iUsed : Option Rat := none
  iPrev : Rat := 0
  /-- Sum and count of I_k over the snapshots since the last update (R365). -/
  sum : Rat := 0
  count : Nat := 0
  lastIk : Rat := 0
  atRest : Bool := false
  restFails : Nat := 0
  restStart : Nat := 0
  restEnded : Option Nat := none
  obs : Rat := 0
  /-- 1 s means of the inferred current in the window, newest first (R363). -/
  means : List (Option Rat) := []
  secInf : Rat := 0
  secMeas : Rat := 0
  secCount : Nat := 0
  secMeasCount : Nat := 0
  /-- The previous second's means, and the increment pairs of the window (R377). -/
  prevMeans : Option (Rat × Rat) := none
  increments : List (Option (Rat × Rat)) := []
  anchorStale : Bool := false
  disagree : Bool := false
  reversed : Bool := false
  assist : Bool := false
  inferInvalid : Bool := false
  inferInvalidSince : Option Nat := none
  obsLow : Bool := false
  dk : Option Rat := none
  disagreeMs : Nat := 0
  agreeMs : Nat := 0
  /-- Trigger instant of the latest snapshot inferred. -/
  lastSnap : Option Nat := none
  /-- The snapshot of the update in progress (R350). -/
  updating : Option HandOff := none
  /-- I_k of that update, A, once its snapshot has been inferred; none inside where no inference since the last update was
  valid (R365). -/
  updateIk : Option (Option Rat) := none
  /-- Primary values the last completed update used, µV (R325). -/
  updateY : List (Option Int) := []
  /-- What the inference of that snapshot found. -/
  updateView : UpdateView := {}
  /-- Mean current, A, and observability index of the last completed update (R381, R385). -/
  updateI : Rat := 0
  updateObs : Rat := 0
  /-- Header of the newest completed update, and the timebase of its posting to Q52 to Q55 (R26). -/
  updated : Option (SnapHeader × Nat) := none
  /-- Sequence, network time and trigger instant of the update whose values the points show (R164, R166). -/
  lastHead : Option (Nat × Nat × Nat) := none
  /-- A completed update waits for REPORTED_VALUES and BALANCING_PLAN (Q52–Q55). -/
  toReport : Bool := false
  toPlan : Bool := false
  strandSoc : Option Rat := none
  /-- Estimator's limits before caps, mA: discharge, charge (R385). -/
  limitDis : Nat := 0
  limitChg : Nat := 0
  /-- Limits frozen at HOLLOW entry (R110): discharge, charge. -/
  frozen : Option (Nat × Nat) := none
  /-- Snapshots waiting for the inference, oldest first (the strand's entries of Q60). -/
  toInfer : List HandOff := []
  deriving DecidableEq, Repr

/-- The estimator as a whole. -/
structure EstState where
  strands : List StrandEst := List.replicate 4 {}
  updateIndex : Nat := 0
  /-- Trigger instant of the last due model update (R347). -/
  lastModel : Option Nat := none
  /-- Strands that completed the update of the current index (R368). -/
  done : Nat := 0
  /-- Cell summaries of the journal and the update they describe (R368): index, timebase, network time. -/
  summary : List JournalCell := []
  summaryOf : Nat × Nat × Nat := (0, 0, 0)
  deriving DecidableEq, Repr

/-! ## Battery memory (chapter 11) -/

/-- One cell record (R411) with its impedance table (R404). -/
structure CellMem where
  capacity : Nat := 0
  /-- σ as a fraction. -/
  sigma : Rat := 0
  accepted : Nat := 0
  rejections : Nat := 0
  learned : Bool := false
  inconsistent : Bool := false
  generation : Nat := 0
  /-- Equivalent full cycles. -/
  cycles : Rat := 0
  /-- Ah. -/
  charged : Rat := 0
  discharged : Rat := 0
  installed : Nat := 0
  lastResult : Nat := 0
  rserRef : Nat := 600
  rpolRef : Nat := 400
  tauRef : Nat := 20000
  table : List Nat := List.replicate 48 0x20080200
  deriving DecidableEq, Repr

/-- One satellite record (R410). -/
structure SatMem where
  seq : Nat := 0
  serial : List Byte := List.replicate 8 0
  surveyed : Nat := 0
  connections : List Nat := List.replicate 17 0
  cells : List CellMem := List.replicate 16 {}
  deriving DecidableEq, Repr

/-- One strand record (R412). -/
structure StrandMem where
  seq : Nat := 0
  cycles : Rat := 0
  charged : Rat := 0
  discharged : Rat := 0
  accepted : Nat := 0
  disqualified : List Nat := List.replicate 9 0
  deriving DecidableEq, Repr

/-- A record in RAM with its two NVM copies; none is a copy whose CRC fails (R409, R413, R414). -/
structure MemRecord (α : Type) where
  ram : α
  copyA : Option α
  copyB : Option α
  /-- Changed since last written. -/
  dirty : Bool := false
  /-- A result or reset asks for a write-back at once. -/
  urgent : Bool := false
  deriving DecidableEq, Repr

/-- The write-back in progress: a satellite record, or a strand record (R414). -/
inductive WriteTarget where
  | satellite (strand sat : Nat)
  | strand (strand : Nat)
  deriving DecidableEq, Repr

/-- Battery memory. -/
structure BatteryMem where
  sats : List (MemRecord SatMem) := List.replicate 128 { ram := {}, copyA := some {}, copyB := some {} }
  strands : List (MemRecord StrandMem) := List.replicate 4 { ram := {}, copyA := some {}, copyB := some {} }
  /-- A record being written, torn if a commit begins (R416). -/
  writing : Option WriteTarget := none
  /-- Operating second at which the latest periodic round began, the records it still has to write, and the frame of its latest
  write (R414). -/
  roundAt : Nat := 0
  round : List WriteTarget := []
  wroteAt : Option Nat := none
  deriving DecidableEq, Repr

/-! ## Loop engine (chapter 12) -/

/-- One loop slot. -/
structure LoopState where
  mode : LoopMode := .off
  /-- Mode commanded by LOOP_SET_MODE, effective at the next sample (R456). -/
  commanded : Option LoopMode := none
  /-- Own commanded mode while in TRACK (R446). -/
  own : LoopMode := .manual
  manual : Rat := 0
  integ : Rat := 0
  deriv : Rat := 0
  xPrev : Rat := 0
  uPrev : Rat := 0
  /-- The seven words in use by the slot (R34, R428). -/
  words : List Nat := [0, 0, 0xC8000000, 0, 0, 0, 0]
  /-- The next AUTO sample presets I (R443, R448). -/
  preset : Bool := false
  /-- Child whose set-point the next AUTO sample reproduces (R447). -/
  adopt : Option Nat := none
  ffLast : Rat := 0
  spLast : Rat := 0
  pvLast : Rat := 0
  nodes : List Int := List.replicate 16 0
  /-- Timebase of the latest actuation (R26). -/
  actedAt : Nat := 0
  totalOverruns : Nat := 0
  overruns : Nat := 0
  invalids : Nat := 0
  samples : Nat := 0
  hollowStopped : Bool := false
  targetFault : Bool := false
  /-- Bit 0 at the lower limit, bit 1 at the upper one, as of the last sample (R465). -/
  atLimit : Nat := 0
  /-- Commanded to MANUAL while in TRACK: stays out of TRACK until its child leaves MANUAL and HOLD (R456). -/
  noTrack : Bool := false
  deriving DecidableEq, Repr

/-- The trace recorder in bank 19 (R458 to R464). -/
structure TraceState where
  /-- 0 idle, 1 armed, 2 triggered, 3 frozen, 4 streaming. -/
  state : Nat := 0
  clock : Nat := 0
  kind : Nat := 0
  arg : Nat := 0
  pre : Nat := 0
  decimation : Nat := 1
  level : Int := 0
  channels : List Nat := List.replicate 8 0
  /-- Recorded samples, oldest first, eight values each. -/
  samples : List (List Int) := []
  preHeld : Nat := 0
  postLeft : Nat := 0
  trigTime : Nat := 0
  tick : Nat := 0
  prev : Option Int := none
  /-- Stamp of the trigger event received (R460 kind 1). -/
  fired : Option Nat := none
  by' : Option Requester := none
  /-- Stream blocks waiting and drops, per channel (R463). -/
  blocks : List (List (List Int)) := List.replicate 8 []
  filling : List (List Int) := List.replicate 8 []
  drops : List Nat := List.replicate 8 0
  deriving DecidableEq, Repr

/-- The loop engine. -/
structure LoopEngine where
  loops : List LoopState := List.replicate 32 {}
  /-- Instant, µs of the timebase, and number of the loop that sampled last (R423, R424). -/
  last : Option (Nat × Nat) := none
  trace : TraceState := {}
  deriving DecidableEq, Repr

end Sys2Proof.Machine
end

