-- ==== Sys2Proof/Machine/NetState.lean ====
section
/-! DEFINITION. State of the thermal services, CAN, network time, dispatch, the two-wire bus, the banks and the update
service (chapters 15 to 19 and 21). -/
namespace Sys2Proof.Machine
open Sys2Proof

/-! ## Thermal (chapter 15) -/

/-- One graded thermal state of R534: set or not, and its running counts. -/
structure ThermState where
  set : Bool := false
  above : Nat := 0
  below : Nat := 0
  deriving DecidableEq, Repr

/-- Junction temperatures, throttling and compensation. -/
structure ThermalState where
  /-- Channels 0 to 23, 0.01 °C; none while invalid. -/
  temps : List (Option Int) := List.replicate 24 none
  /-- Channels 24 to 31, mV. -/
  supplies : List Int := List.replicate 8 0
  warn : ThermState := {}
  steps : List ThermState := List.replicate 3 {}
  component : ThermState := {}
  /-- Pacer step in force, and the step that takes effect at the next frame boundary (R537). -/
  step : Nat := 0
  nextStep : Nat := 0
  /-- All nine core junction channels invalid and not yet 3 rounds valid (R533). -/
  blind : Bool := false
  /-- Rounds in a row, at most 3, in which a channel was valid. -/
  validRuns : List Nat := List.replicate 24 0
  /-- A round has run since start. -/
  ran : Bool := false
  /-- The condition of R546 was seen since reset. -/
  disagree : Bool := false
  /-- Rounds in a row at or above 170 °C of channels 3 and 8. -/
  hotRuns : List Nat := [0, 0]
  /-- TB0 compensation in force, 0.001 ppm (R547). -/
  comp : Int := 0
  compEnd : Bool := false
  /-- The guard die's comparator is asserted (R541). -/
  asserted : Bool := false
  /-- Corrections of the core, HV and field references hold the reading they were made from (R548). -/
  refs : List (Option Int) := List.replicate 3 none
  deriving DecidableEq, Repr

/-! ## CAN and network time (chapter 16) -/

/-- What a transmit descriptor carries. -/
inductive TxKind where
  | segment | sync (seq : Nat) | followUp | dispatch
  deriving DecidableEq, Repr

/-- A transmit descriptor (R558). -/
structure TxDesc where
  frame : CanFrame
  kind : TxKind
  /-- Module timebase of its posting. -/
  posted : Nat := 0
  /-- Module timebase by which its start of frame must have begun (R560). -/
  deadline : Option Nat := none
  /-- Its cancellation was requested while it may have been on the bus (R565). -/
  cancel : Bool := false
  deriving DecidableEq, Repr

/-- A received frame with its stamp (R562). -/
structure RxDesc where
  frame : CanFrame
  stamp : Nat
  deriving DecidableEq, Repr

/-- One CAN channel. -/
structure CanState where
  /-- 0 error-active, 1 error-passive, 2 bus-off, 3 disabled or asleep (R584). -/
  state : Nat := 3
  tec : Nat := 0
  rec' : Nat := 0
  busoffs : Nat := 0
  swapped : Bool := false
  txdTimeout : Bool := false
  /-- A valid frame was received since the channel was enabled or since its last bus-off (R569). -/
  heard : Bool := false
  recovering : Bool := false
  /-- Module timebase of the latest entry to bus-off (R568). -/
  offAt : Nat := 0
  tx : List (List TxDesc) := List.replicate 4 []
  rx : List (List RxDesc) := List.replicate 4 []
  /-- Receive drops per queue (R561). -/
  drops : List Nat := List.replicate 4 0
  dropLatched : List Bool := List.replicate 4 false
  unmatched : Nat := 0
  remote : Nat := 0
  /-- Loop-delay excess reported (R555). -/
  delayHigh : Bool := false
  deriving DecidableEq, Repr

/-- Part in network time on one channel (R574). -/
inductive NtRole where
  | none | master | follower
  deriving DecidableEq, Repr

/-- A SYNC received (R576). -/
structure SyncHeard where
  channel : Nat
  seq : Nat
  flags : Nat
  epoch : Nat
  master : Nat
  high : Nat
  /-- Module timebase of its start of frame. -/
  capture : Nat
  deriving DecidableEq, Repr

/-- Network time. -/
structure ClockState where
  /-- 0 unsynced, 1 acquiring, 2 synced, 3 holdover (R580). -/
  state : Nat := 0
  /-- Module timebase minus uncorrected TB0, in 10⁻⁶ ns (R573, R579). -/
  drift : Int := 0
  offset : Int := 0
  /-- rate and corr, 0.001 ppm. -/
  rate : Int := 0
  corr : Int := 0
  residual : Int := 0
  epoch : Nat := 0
  trunk : NtRole := .none
  segment : NtRole := .none
  traceable : Bool := false
  /-- SYNC sequence per channel as master. -/
  seq : List Nat := List.replicate 3 0
  /-- The SYNC whose FOLLOW_UP is awaited. -/
  awaited : Option SyncHeard := none
  /-- Master time and own uncorrected time of the previous pair. -/
  prev : Option (Int × Int) := none
  masterEpoch : Option Nat := none
  goodRun : Nat := 0
  used : Nat := 0
  failed : Nat := 0
  /-- Master followed. -/
  master : Option Nat := none
  channel : Nat := 255
  /-- Instant of the last usable pair. -/
  lastPair : Nat := 0
  deriving DecidableEq, Repr

/-! ## Dispatch (chapter 17) -/

/-- A module's STATUS as heard in a cycle (R590). -/
structure Member where
  id : Nat
  flags : Nat
  setpoint : Int
  dis : List Nat
  chg : List Nat
  alloc : List Int
  deriving DecidableEq, Repr

/-- A segment's SEG_STATUS as heard in a cycle. -/
structure SegHeard where
  seg : Nat
  dis : Nat
  chg : Nat
  alloc : Int
  holder : Nat
  setpoint : Int
  deriving DecidableEq, Repr

/-- One member of a candidate set, or a module on its way in (R592). -/
structure Candidate where
  id : Nat
  inSet : Bool := false
  heard : Nat := 0
  missed : Nat := 0
  /-- Heard with CANDIDATE in the running cycle. -/
  now : Bool := false
  deriving DecidableEq, Repr

/-- One ledger entry (R601). -/
structure LedgerEntry where
  alloc : Int
  dis : Int
  chg : Int
  at' : Nat
  deriving DecidableEq, Repr

/-- Dispatch and federation. -/
structure DispState where
  segSet : List Candidate := []
  trunkSet : List Candidate := []
  segLead : Option Nat := none
  trunkLead : Option Nat := none
  /-- Own power allocations in force, W, and the currents of R599, mA. -/
  allocW : List Int := List.replicate 4 0
  allocI : List Int := List.replicate 4 0
  /-- An allocation received and the cycle in which it takes effect. -/
  pendingAlloc : Option (Nat × List Int) := none
  cycle : Nat := 0
  /-- Set-point in force, W, and its target. -/
  inForce : Int := 0
  target : Int := 0
  unserved : Int := 0
  duplicate : Bool := false
  tagMismatch : Bool := false
  allocStale : Bool := false
  noSetpoint : Bool := false
  saturated : Bool := false
  /-- Cycles without an allocation in effect, and without a holder. -/
  staleRun : Nat := 0
  holderRun : Nat := 0
  members : List Member := []
  segments : List SegHeard := []
  /-- Allocation of the own segment, W, received from the trunk lead for a cycle. -/
  segAlloc : Option (Nat × Int) := none
  ledger : List (Nat × LedgerEntry) := []
  ignored : Nat := 0
  detailNext : Nat := 0
  /-- Set-point of source 5, kW (immediate). -/
  setpoint5 : Int := 0
  deriving DecidableEq, Repr

/-! ## Two-wire bus (chapter 18) -/

/-- Target role. -/
structure TwTarget where
  /-- Reply word of the command address. -/
  reply : Nat := 0
  busy : Bool := false
  /-- Arguments of the MODE words whose requests are open, oldest first (R158). -/
  modeArgs : List Nat := []
  /-- Values latched by WATCH_LO, none before the first. -/
  watches : List Nat := List.replicate 16 0x80000000
  /-- Word the STATUS address and the reply address showed at the last saddle point (R611). -/
  saddleReply : Nat := 0
  saddleStatus : Nat := 0
  /-- Last word returned to a reading controller. -/
  returned : Nat := 0
  deriving DecidableEq, Repr

/-- One controller slot (R615 to R617). -/
structure TwSlot where
  value : Option Int := none
  failed : Bool := false
  pending : Bool := false
  /-- Bytes a write slot sends after its pointer. -/
  data : List Byte := []
  deriving DecidableEq, Repr

/-- Controller role. -/
structure TwController where
  slots : List TwSlot := List.replicate 8 {}
  /-- Slots waiting in Q56 with the timebase of their posting, oldest first; the first is on the bus (R26). -/
  queue : List (Nat × Nat) := []
  /-- Instant, ms of the timebase, and number of the slot that fell due last (R616). -/
  due : Option (Nat × Nat) := none
  retries : Nat := 0
  stuck : Bool := false
  deriving DecidableEq, Repr

/-! ## Scratchpad banks (chapter 19) -/

/-- One bank. -/
structure BankState where
  /-- 0–6, or 0xF open (R627). -/
  owner : Nat
  readOnly : Bool := false
  running : Bool := false
  handovers : Nat := 0
  /-- New owner of a handover not yet in effect (R628). -/
  handover : Option Nat := none
  /-- Rows mapped onto field-repair rows, at most two (R642). -/
  repaired : List Nat := []
  /-- Rows marked in the repair table (R643). -/
  marked : List Nat := []
  corrected : Nat := 0
  uncorrectable : Nat := 0
  unusable : Bool := false
  /-- Corrected errors per row since start. -/
  rows : List (Nat × Nat) := []
  /-- Writes of the new owner that wait for its handover: master, offset, bytes (R628). -/
  waiting : List (Nat × Nat × List Byte) := []
  deriving DecidableEq, Repr

/-- A March test in progress (R644). -/
structure MarchJob where
  /-- Banks named, and those still to test. -/
  mask : Nat
  preserving : Bool
  by' : Requester
  deriving DecidableEq, Repr

/-- The scratchpad. -/
structure BanksState where
  banks : List BankState := []
  conflicts : List Nat := List.replicate 7 0
  collisions : List Nat := List.replicate 7 0
  /-- Access status of each master: its last write was refused (R629). -/
  refused : List Bool := List.replicate 7 false
  march : Option MarchJob := none
  /-- Bytes that masters wrote, by rising address 262,144 · bank + offset; an unlisted byte is 0 (R639). -/
  mem : List Host.Cell := []
  deriving DecidableEq, Repr

/-! ## Field update (chapter 21) -/

/-- A stored piece: its check and its data. -/
structure Piece where
  check : List Byte
  data : List Byte
  deriving DecidableEq, Repr

/-- One updatable component. -/
structure CompState where
  running : Nat := 0x01000000
  stored : Nat := 0x01000000
  /-- R689 for component 0; 0 confirmed, 1 open, 2 verified, 3 trial for the others. -/
  state : Nat := 0
  floor : Nat := 0
  /-- Operating second at which the health window ends. -/
  window : Option Nat := none
  /-- Requires entries of the running image (R681). -/
  requires : List Nat := List.replicate 5 0
  format : Nat := 0
  /-- Manifest of the stored image, verified or in trial. -/
  image : List Byte := []
  /-- Version, Requires and state format of the image kept for fallback (R685, R686). -/
  old : Option (Nat × List Nat × Nat) := none
  deriving DecidableEq, Repr

/-- A handover in progress. -/
structure Handover where
  comp : Nat
  flags : Nat
  strands : Nat
  by' : Requester
  /-- The copy is complete and waits for the saddle point (R683). -/
  ready : Bool := false
  deriving DecidableEq, Repr

/-- The update service. -/
structure UpdState where
  /-- 0 none, 1 open, 2 verified, 3 closed (R677). -/
  session : Nat := 0
  manifest : List Byte := []
  /-- Pieces held by index. -/
  pieces : List (Nat × Piece) := []
  comps : List CompState := List.replicate 5 {}
  verify : Option Requester := none
  handover : Option Handover := none
  /-- Satellites to be switched, and those switched: (ring, satellite). -/
  toSwitch : List (Nat × Nat) := []
  switched : List (Nat × Nat) := []
  /-- The health window failed; the hand-back waits for the saddle point (R693). -/
  fallback : Option Nat := none
  restoring : Bool := false
  /-- Key slots revoked, and how often component 4 replaced the keys (R671). -/
  revoked : List Bool := [false, false]
  keyGen : Nat := 0
  /-- The reserve holds the previous copy of components 2 and 3 (R675). -/
  reserve : List (Option Nat) := [none, none]
  /-- A hibernation waits for a restore or a confirmation (R689). -/
  hibernateAfter : Option Requester := none
  /-- Requesters of UPD_ABORT whose restore or fallback is to be reported. -/
  abortBy : List Requester := []
  /-- Pass signature of the main image kept for a fallback (R481, R693). -/
  keptSignature : Nat := 0
  /-- Strands incomplete, watchdog misses and verdicts at the handover (R690). -/
  baseIncomplete : Nat := 0
  baseMisses : Nat := 0
  misses : Nat := 0
  reinits : Nat := 0
  baseReinits : Nat := 0
  baseVerdicts : List Nat := []
  /-- Loader body intact; a staged copy was started (R697). -/
  loaderBody : Bool := true
  deriving DecidableEq, Repr

end Sys2Proof.Machine
end

