-- ==== Sys2Proof/Machine/State.lean ====
section
/-! DEFINITION. The state of the block, its reset value, and the reasons a step can stop. -/
namespace Sys2Proof.Machine
open Sys2Proof

/-- Reasons a step stops with a fault. -/
inductive Fault where
  /-- Raised by CAN_FRAME_RECEIVED for a data length that no DLC spells (R556). Safe: no such frame exists on a bus. -/
  | badFrameLength
  deriving DecidableEq, Repr

/-- Reasons a command has no meaning. -/
inductive Refusal where
  /-- Answered by `exec`'s own arm for a command whose meaning is not written yet. Safe: the model stops. -/
  | notModelled (mnemonic : String)
  deriving DecidableEq, Repr

/-- Everything the spec gives the module, and the queue of waiting commands. -/
structure State where
  /-- Timebases and the schedule frame. -/
  time : TimeState
  pins : PinState
  /-- Mode, start, resets and lock-out. -/
  sys : ModeState
  feed : FeedState
  /-- The 256 event sources. -/
  router : List RouterSource
  silt : SiltState
  port : PortState
  param : ParamState
  /-- Rings 0 to 3. -/
  rings : List RingState
  /-- Snapshot results of strands 0 to 3. -/
  meas : List MeasState
  hv : HvState
  /-- Transfers of strands 0 to 3. -/
  bal : List BalState
  guard : GuardState
  field : FieldState
  est : EstState
  mem : BatteryMem
  loop : LoopEngine
  thermal : ThermalState
  /-- CAN channels 0 to 2. -/
  can : List CanState
  clock : ClockState
  disp : DispState
  tw : TwTarget
  twc : TwController
  banks : BanksState
  upd : UpdState
  /-- Versions in the identity block: main, loader, HV die, field die (R131). -/
  ident : List Nat
  /-- Open values taken so far: the model's own field. -/
  free : Nat
  /-- Waiting commands, first in, first out: the model's own field. -/
  pending : List Instr
  deriving DecidableEq, Repr

/-- Routing mask of a source at start (R48, R732). Bits: 0 supervisor, 1 AC0, 2 AC1, 7 silt log. -/
def routeDefault (src : Nat) : Byte :=
  if src = 0x02 then 0
  else if src < 0x20 then 0x81
  else if src < 0x70 then 0x82
  else if src < 0x90 then 0x84
  else if src < 0xA0 then 0x81
  else if src < 0xC0 then 0x83
  else if src < 0xD0 then 0x82
  else if src < 0xE0 then 0x81
  else if src < 0xF0 then 0x85
  else if src < 0xFC then 0x81
  else 0x01

/-- The event router at start. -/
def routerReset : List RouterSource := (List.range 256).map (fun i => { mask := routeDefault i })

/-- The owners of the banks at start, none of them running yet (R625). -/
def banksReset : List BankState :=
  (List.range 24).map (fun b =>
    { owner := if b < 12 then 0 else if b < 18 then 4 else if b < 20 then 3 else if b < 22 then 0
               else if b < 23 then 5 else 0xF })

/-- The module as it left manufacture, unpowered: every counter 0, every record empty, no command waiting. -/
def State.reset : State :=
  { time := {}, pins := {}, sys := {}, feed := {}, router := routerReset, silt := {}, port := {}, param := {},
    rings := List.replicate 4 {}, meas := List.replicate 4 {}, hv := {}, bal := List.replicate 4 {}, guard := {},
    field := {}, est := {}, mem := {}, loop := {}, thermal := {}, can := List.replicate 3 {}, clock := {}, disp := {},
    tw := {}, twc := {}, banks := { banks := banksReset }, upd := {}, ident := List.replicate 4 0x01000000, free := 0,
    pending := [] }

end Sys2Proof.Machine
end

