-- ==== Sys2Proof/Machine/Ops.lean ====
section
/-! DEFINITION. The operations every family shares: parameters in force, time, the event router, the silt intake and
the packets that leave the module. -/
namespace Sys2Proof.Machine
open Sys2Proof

/-! ## Parameters and time -/

/-- Applied value of a parameter, as a natural number. -/
def State.pn (s : State) (id : Nat) : Nat := s.param.nat id

/-- Applied value of a parameter, as an integer. -/
def State.pi (s : State) (id : Nat) : Int := s.param.int id

/-- Bit `k` of `RING.STRAND_ENABLE`. -/
def State.enabled (s : State) (k : Nat) : Bool := (s.pn 0x0502).testBit k

/-- Satellites expected on ring `k` (`RING.SATELLITE_COUNT`). -/
def State.satCount (s : State) (k : Nat) : Nat := s.pn 0x0503 / 256 ^ k % 256

/-- Network time is SYNCED or in HOLDOVER (R580). -/
def State.synced (s : State) : Bool := s.clock.state == 2 || s.clock.state == 3

/-- Network time of a timebase instant, ns, modulo 2^64 (R573). -/
def State.netAt (s : State) (at' : Nat) : Nat := ((1000 * (at' : Int) + s.clock.offset) % 2 ^ 64).toNat

/-- Network time now. -/
def State.net (s : State) : Nat := s.netAt s.time.now

/-- Network time of an instant where it is carried without a sync indication: 0 while not synchronised (R573). -/
def State.netField (s : State) (at' : Nat) : Nat := if s.synced then s.netAt at' else 0

/-- Operating time in milliseconds. -/
def State.opMs (s : State) : Nat := s.time.opSec * 1000 + s.time.opSub / 1000

/-- The module timebase advances by `d` µs, corrected; operating seconds follow, and the uncorrected TB0 falls behind or
ahead by the correction in force (R579). -/
def advance (d : Nat) (s : State) : State :=
  let u := s.time.opSub + d
  let t := s.time
  let c := s.clock
  { s with time := { t with now := t.now + d, opSec := t.opSec + u / 1000000, opSub := u % 1000000 },
           clock := { c with drift := c.drift + (d : Int) * c.corr } }

/-- TB2 periods as microseconds of the module timebase, rounded up to the next whole one (R39, R721). -/
def tb2Micros (k : Nat) : Nat := (15625 * k + 511) / 512

/-- Take the next open value's number. -/
def State.takeFree (s : State) : Nat × State := (s.free, { s with free := s.free + 1 })

/-- Whether the supervisor's domain is on: not unpowered, held in reset or hibernating, and past step 6 of a start (R36,
R114). -/
def State.alive (s : State) : Bool :=
  s.sys.powered && s.sys.held.isNone && s.sys.mode != .hibernate && (s.sys.mode != .start || 6 ≤ s.sys.step)

/-- Code of a mode (R104). -/
def modeCode : Mode → Nat
  | .start => 0 | .loader => 1 | .standby => 2 | .run => 3 | .service => 4 | .hollow => 5 | .lockout => 6
  | .thermalLock => 7 | .hibernate => 8

/-- Code of a feed state (chapter 03). -/
def feedCode : FeedCode → Nat
  | .aActive => 0 | .bActive => 1 | .toB => 2 | .toA => 3 | .holdOnly => 4 | .commit => 5 | .single => 6 | .proof => 7

/-! ## Silt intake (chapter 20) -/

/-- Sources whose records are pinned (R653). -/
def siltPinned (src : Nat) : Bool :=
  src == 0x04 || src == 0x07 || src == 0x66 || src == 0x6C || (0xA0 ≤ src && src ≤ 0xBF) || src == 0xD6 || src == 0xFF

/-- The OPEN record an occurrence coalesces with (R657). -/
def siltMatches (window nowMs src code kind index : Nat) (r : SiltRecord) : Bool :=
  r.isOpen && r.source == src && r.code == code && r.kind == kind && r.index == index && nowMs ≤ r.lastMs + 1000 * window

/-- One more occurrence folded into the first matching record of a list; none where nothing matches. -/
def siltFold (p : SiltRecord → Bool) (nowMs : Nat) : List SiltRecord → Option (List SiltRecord)
  | [] => none
  | r :: l =>
    if p r then some ({ r with rep := r.rep + 1, lastMs := nowMs, isOpen := r.rep + 1 < 65535 } :: l)
    else (siltFold p nowMs l).map (r :: ·)

/-- All records that are OPEN. -/
def SiltState.open' (t : SiltState) : List SiltRecord :=
  (t.ordinary ++ t.pinned ++ t.intake ++ t.tail).filter (·.isOpen)

/-- Age of a record: the time of its first occurrence, in 4 ms. -/
def SiltRecord.born (r : SiltRecord) : Nat := 250 * r.opSec + r.fraction

/-- Close the oldest OPEN record early, where 64 are open (R658). -/
def SiltState.closeOldest (t : SiltState) : SiltState :=
  let op := t.open'
  if op.length < 64 then t else
  let oldest := op.foldl (fun m r => min m r.born) (op.headD {}).born
  let shut := fun (l : List SiltRecord) =>
    match l.findIdx? (fun r => r.isOpen && r.born == oldest) with
    | some i => (modAt l i (fun r => { r with isOpen := false, closedEarly := true, writtenRep := r.rep }), true)
    | none => (l, false)
  let o := shut t.ordinary
  if o.2 then { t with ordinary := o.1 } else
  let p := shut t.pinned
  if p.2 then { t with pinned := p.1 } else
  let i := shut t.intake
  if i.2 then { t with intake := i.1 } else { t with tail := (shut t.tail).1 }

/-- The rate limiter's verdict on one new record (R659): admitted, and the updated view. -/
def rateAdmit (limit src kind index : Nat) (pinned : Bool) : List RateEntry → Bool × List RateEntry
  | [] => (true, [{ source := src, opened := 1 }])
  | e :: l =>
    if e.source = src then
      if pinned || src == 0xFC || e.opened < limit then (true, { e with opened := e.opened + 1 } :: l)
      else (false, { e with refused := e.refused + 1,
                            subjects := if e.subjects.contains (kind, index) then e.subjects else (kind, index) :: e.subjects } :: l)
    else let r := rateAdmit limit src kind index pinned l; (r.1, e :: r.2)

/-- An occurrence reaches the silt writer (R655, R657, R659, R94). The second part tells whether the RAM tail of a
commit refused it. -/
def siltEvent (src code kind index : Nat) (detail : List Byte) (s : State) : State × Bool :=
  let t := s.silt
  let window := s.pn 0x1302
  let now := s.opMs
  let m := siltMatches window now src code kind index
  let coal := if window = 0 ∨ src = 0xFE then none else
    match siltFold m now t.ordinary with
    | some l => some { t with ordinary := l }
    | none => match siltFold m now t.pinned with
      | some l => some { t with pinned := l }
      | none => match siltFold m now t.intake with
        | some l => some { t with intake := l }
        | none => (siltFold m now t.tail).map (fun l => { t with tail := l })
  match coal with
  | some t' => ({ s with silt := t' }, false)
  | none =>
    let pin := siltPinned src
    let r := rateAdmit (s.pn 0x1301) src kind index pin t.rates
    if !r.1 then ({ s with silt := { t with rates := r.2, refused := satAdd 32 t.refused 1 } }, false) else
    let t := { t with rates := r.2 }
    let rec' : SiltRecord :=
      { opSec := s.time.opSec, powerCycles := s.time.powerCycles, source := src, code := code, kind := kind,
        index := index, detail := padTo 8 detail, pinned := pin, isOpen := decide (window ≠ 0) && src != 0xFE,
        tail := t.tailOn, fraction := if src = 0xFE then 0 else s.time.opSub / 4000, lastMs := now }
    if t.tailOn then
      if t.tail.length < 64 then ({ s with silt := { t.closeOldest with tail := t.closeOldest.tail ++ [rec'] } }, false)
      else ({ s with silt := t }, true)
    else if t.intake.length < (if pin then 256 else 224) then
      ({ s with silt := { t.closeOldest with intake := t.closeOldest.intake ++ [rec'] } }, false)
    else ({ s with silt := { t with lost := t.lost + 1, overflowed := satAdd 32 t.overflowed 1 } }, false)

/-- A silt record a service writes of its own accord, without an event. -/
def note (src code kind index : Nat) (detail : List Byte) (s : State) : State :=
  (siltEvent src code kind index detail s).1

/-! ## Event router (R45) -/

/-- An event source fires: every destination whose bit is clear gets it; a bit still set advances the overrun counter.
Loop triggers, trace triggers and the silt log acknowledge at the delivery. -/
def raise (src code kind index : Nat) (detail : List Byte) (s : State) : State :=
  match s.router[src]? with
  | none => s
  | some r =>
    let held := r.mask &&& r.pending
    let full := held != 0
    let r' : RouterSource :=
      { r with pending := (r.pending ||| r.mask) &&& 0x67, stamp := s.time.now,
               overrun := if full then satAdd 16 r.overrun 1 else r.overrun }
    let s := { s with router := setAt s.router src r' }
    let tr := s.loop.trace
    let s := if r.mask.getLsbD 4 && tr.state == 1 && tr.kind == 1 && tr.arg == src && tr.fired.isNone
      then { s with loop := { s.loop with trace := { tr with fired := some s.time.now } } } else s
    if r.mask.getLsbD 7 then
      let q := siltEvent src code kind index detail s
      if q.2 && !full then
        { q.1 with router := modAt q.1.router src (fun r => { r with overrun := satAdd 16 r.overrun 1 }) }
      else q.1
    else s

/-- An event without subject or detail. -/
def raise0 (src : Nat) (s : State) : State := raise src 0 0 0 [] s

/-- An event about a strand. -/
def raiseStrand (src k : Nat) (s : State) : State := raise src 0 1 k [] s

/-- An event about a cell. -/
def raiseCell (src c : Nat) (s : State) : State := raise src 0 2 c [] s

/-- An event about a satellite. -/
def raiseSat (src ring n : Nat) (s : State) : State := raise src 0 3 (32 * ring + n) [] s

/-! ## Packets that leave (R132 to R139) -/

/-- Status codes (R141). -/
def stOk : Nat := 0x00
/-- Accepted. -/
def stAccepted : Nat := 0x01
/-- Opcode unknown. -/
def stBadOpcode : Nat := 0x10
/-- Length not allowed. -/
def stBadLength : Nat := 0x11
/-- Length field above 4,096. -/
def stLengthExceeds : Nat := 0x12
/-- CRC wrong. -/
def stBadCrc : Nat := 0x13
/-- Parameter or point ID unknown. -/
def stBadParamId : Nat := 0x14
/-- Value out of range. -/
def stOutOfRange : Nat := 0x15
/-- Not allowed in the mode. -/
def stWrongMode : Nat := 0x20
/-- Guarded set locked. -/
def stLocked : Nat := 0x21
/-- Shadow set owned, changed or frozen. -/
def stStageConflict : Nat := 0x22
/-- Consistency check violated. -/
def stCheckFailed : Nat := 0x23
/-- Resource occupied. -/
def stBusy : Nat := 0x30
/-- No room. -/
def stQueueFull : Nat := 0x31
/-- Refused by the module's state. -/
def stNotPermitted : Nat := 0x40
/-- Failed for an internal reason. -/
def stInternalFault : Nat := 0x50

/-- Detail field when unused (R135). -/
def noDetail : Nat := 0xFFFF

/-- Payload of a reply or notification: status prefix, then the result (R135). -/
def answer (st detail : Nat) (result : List Byte) : List Byte :=
  [BitVec.ofNat 8 st, 0] ++ leBytes 2 detail ++ result

/-- A packet's bytes (R132, R133). -/
def OutPacket.bytes (p : OutPacket) : List Byte :=
  let flags := (if p.isReply then 2 else 4) + (if p.dropped then 8 else 0)
  let head := leBytes 2 p.opcode ++ leBytes 2 p.tag ++ [BitVec.ofNat 8 flags, 1] ++ leBytes 2 p.payload.length ++ [0, 0]
  head ++ leBytes 2 (crc16 head) ++ p.payload ++ (if p.payload.isEmpty then leBytes 4 0 else leBytes 4 (crc32 p.payload))

/-- The outgoing side of a transport. -/
def State.outOf (s : State) : Port → OutState
  | .spi => s.port.out
  | .can => s.port.canOut

/-- Replace the outgoing side of a transport. -/
def State.setOut (s : State) (p : Port) (o : OutState) : State :=
  match p with
  | .spi => { s with port := { s.port with out := o } }
  | .can => { s with port := { s.port with canOut := o } }

/-- Hardware depth of queue `q` (R44). -/
def hwDepth (q : Nat) : Nat :=
  if q < 3 then 32 else if q = 3 ∨ q = 7 then 8 else if q < 7 then 64 else if q < 12 then 16 else if q < 16 then 8
  else if q < 40 then (if (q - 16) % 8 < 4 then 32 else 64) else if q < 44 then 16 else if q < 52 then 8
  else if q < 56 then 32 else if q = 58 ∨ q = 59 then 8 else if q = 63 then 32 else 16

/-- Depth in force of queue `q`; 0 and values above the hardware depth mean the hardware depth (R44, R648). -/
def State.qDepth (s : State) (q : Nat) : Nat :=
  let d := s.pn (0x0440 + q)
  if d = 0 ∨ hwDepth q < d then hwDepth q else d

/-- Out slots of a transport: 32 in bank 21, the entries of Q6 (R44, R142). -/
def State.outSlots (s : State) : Port → Nat
  | .spi => 32
  | .can => s.qDepth 6

/-- Set a cause in HP_IRQ_PEND; only the SPI port has one (R149). -/
def irq (p : Port) (b : Nat) (s : State) : State :=
  match p with
  | .spi => { s with port := { s.port with irqPend := s.port.irqPend ||| BitVec.ofNat 32 (2 ^ b) } }
  | .can => s

/-- Whether a transport takes packets now: the SPI port always, CAN while a command channel is configured (R151). -/
def State.transport (s : State) : Port → Bool
  | .spi => true
  | .can => s.pn 0x0F10 < 3

/-- Put a packet that is never dropped into a slot, or let it wait for one (R138). -/
def postKept (p : Port) (pkt : OutPacket) (s : State) : State :=
  let o := s.outOf p
  let s := if o.slots.length < s.outSlots p ∧ o.waiting = [] then s.setOut p { o with slots := o.slots ++ [pkt] }
           else s.setOut p { o with waiting := o.waiting ++ [pkt] }
  irq p (if pkt.isReply then 0 else 1) s

/-- A reply (R135, R136). -/
def reply (p : Port) (op : Nat) (tag : Half) (st detail : Nat) (result : List Byte) (s : State) : State :=
  postKept p { opcode := op, tag := tag.toNat, isReply := true, payload := answer st detail result, stamp := s.time.now,
                sec := s.time.opSec } s

/-- Mark the next notification of a transport with DROPPED where one is owed (R139). -/
def owe (p : Port) (s : State) : Bool × State :=
  let o := s.outOf p
  (o.oweFlag, s.setOut p { o with oweFlag := false })

/-- Opcode of `NOTIFY_DROPPED`. -/
def opNotifyDropped : Nat := 0xFF03

/-- One notification was dropped: count it in the unread `NOTIFY_DROPPED`, or post one (R138, R139, R661). -/
def dropped (p : Port) (stamp sec : Nat) (s : State) : State :=
  let o := s.outOf p
  let cnt := if o.noteUnread then o.dropCount + 1 else 1
  let old := if o.noteUnread then o.dropOldest else stamp
  let body := answer stOk noDetail (leBytes 4 cnt ++ leBytes 8 old)
  let upd := fun (l : List OutPacket) => l.map (fun q => if q.opcode = opNotifyDropped then { q with payload := body } else q)
  let o' := { o with dropCount := cnt, dropOldest := old, drops := satAdd 32 o.drops 1, noteUnread := true }
  let idx := match p with | .spi => 0 | .can => 1
  let detail := leBytes 4 cnt ++ leBytes 4 sec
  let s :=
    if o.noteUnread then s.setOut p { o' with slots := upd o.slots, waiting := upd o.waiting }
    else (s.setOut p { o' with oweFlag := true, waiting := o.waiting ++
      [{ opcode := opNotifyDropped, tag := 0, isReply := false, payload := body, stamp := s.time.now,
         sec := s.time.opSec }] })
  let s := irq p 5 (if o.noteUnread then s else irq p 1 s)
  if o.noteUnread then
    let fix := fun (l : List SiltRecord) => match l.reverse.findIdx? (fun r => r.source == 0xFD && r.index == idx) with
      | some i => (modAt l.reverse i (fun r => { r with detail := leBytes 4 cnt ++ r.detail.drop 4 })).reverse
      | none => l
    { s with silt := { s.silt with ordinary := fix s.silt.ordinary, intake := fix s.silt.intake } }
  else raise 0xFD 0 5 idx detail s

/-- `POINT_DATA` and `MODE_CHANGED`: posted if a slot is free; otherwise the oldest unread of these kinds is dropped and
the new one takes its place, or the new one is dropped (R138). -/
def postDroppable (p : Port) (pkt : OutPacket) (s : State) : State :=
  let f := owe p s
  let pkt := { pkt with dropped := f.1, stamp := s.time.now, sec := s.time.opSec }
  let o := f.2.outOf p
  if o.slots.length < s.outSlots p ∧ o.waiting = [] then irq p 1 (f.2.setOut p { o with slots := o.slots ++ [pkt] })
  else match o.slots.findIdx? (fun q => q.opcode == 0xFF01 || q.opcode == 0xFF02) with
    | some i =>
      let old := o.slots.getD i pkt
      dropped p old.stamp old.sec (irq p 1 (f.2.setOut p { o with slots := o.slots.eraseIdx i ++ [pkt] }))
    | none => dropped p s.time.now s.time.opSec s

/-- Two-wire status nibble of a status code (R157). -/
def nibble (st : Nat) : Nat :=
  if st = stOk then 0 else if st = stAccepted then 1 else if st = stBadOpcode then 2 else if st = stOutOfRange then 3
  else if st = stWrongMode then 4 else if st = stNotPermitted then 5 else if st = stBusy then 6
  else if st = stQueueFull then 7 else 0xF

/-- Opcode of `REQUEST_MODE`. -/
def opRequestMode : Nat := 0x0101

/-- A completion notification (R136); a MODE word shows it in the reply word (R158). -/
def complete (r : Requester) (op st detail : Nat) (result : List Byte) (s : State) : State :=
  match r with
  | .packet p tag =>
    let f := owe p s
    postKept p { opcode := op, tag := tag.toNat, isReply := false, dropped := f.1, payload := answer st detail result,
                 stamp := s.time.now, sec := s.time.opSec } f.2
  | .twoWire =>
    if op = opRequestMode then
      { s with tw := { s.tw with reply := nibble st * 4096 + s.tw.modeArgs.headD 0, modeArgs := s.tw.modeArgs.drop 1 } }
    else s

/-- A reset that waits for a packet to be read (R162, R680). -/
def State.awaitRead (s : State) (code : Nat) (p : Port) (op : Nat) (tag : Half) (isReply : Bool) : State :=
  { s with sys := { s.sys with pendingReset := some { code := code, port := p, opcode := op, tag := tag, isReply := isReply,
                                                       stamp := s.time.now } } }

/-- The packet a reset waits for. -/
def PendingReset.waitsFor (r : PendingReset) (p : Port) (k : OutPacket) : Bool :=
  r.port == p && r.opcode == k.opcode && r.tag.toNat == k.tag && r.isReply == k.isReply

/-- A packet has left whole: read from its slot by the host, or taken from Q6 for the bus. A reset that waits for it need wait
no longer (R162, R680). -/
def packetGone (p : Port) (k : OutPacket) (s : State) : State :=
  { s with sys := { s.sys with pendingReset := s.sys.pendingReset.map (fun r =>
      if r.waitsFor p k then { r with read := true } else r) } }

/-- Packets that wait move into freed slots, oldest first (R138). -/
def refillSlots (p : Port) (s : State) : State :=
  let o := s.outOf p
  let n := s.outSlots p - o.slots.length
  s.setOut p { o with slots := o.slots ++ o.waiting.take n, waiting := o.waiting.drop n }

end Sys2Proof.Machine
end

