-- ==== Sys2Proof/Machine/Access.lean ====
section
/-! DEFINITION. Reading and changing the parts of one ring, strand, satellite or output. -/
namespace Sys2Proof.Machine
open Sys2Proof

/-! ## Rings, strands, satellites -/

/-- Ring `r`. -/
def State.ring (s : State) (r : Nat) : RingState := s.rings.getD r {}

/-- Change ring `r`. -/
def State.modRing (s : State) (r : Nat) (f : RingState → RingState) : State := { s with rings := modAt s.rings r f }

/-- Satellite `n` of a ring. -/
def RingState.sat (g : RingState) (n : Nat) : SatState := g.sats.getD n {}

/-- A satellite is admitted and on a reachable half (R207, R222). -/
def SatState.usable (x : SatState) : Bool := x.admitted && x.reachable

/-- Change satellite `n` of ring `r`. -/
def State.modSat (s : State) (r n : Nat) (f : SatState → SatState) : State :=
  s.modRing r (fun g => { g with sats := modAt g.sats n f })

/-- Snapshot results of strand `k`. -/
def State.measOf (s : State) (k : Nat) : MeasState := s.meas.getD k {}

/-- Change the snapshot results of strand `k`. -/
def State.modMeas (s : State) (k : Nat) (f : MeasState → MeasState) : State := { s with meas := modAt s.meas k f }

/-- Cell at position `c` of strand `k` (0 to 511). -/
def State.cell (s : State) (k c : Nat) : CellState := (s.measOf k).cells.getD c {}

/-- Bits 23 to 0 of class 0x13: role, trim, exclusion code and current of the plan in force (R344). -/
def CellState.planWord (c : CellState) : Nat :=
  c.role % 4 * 2 ^ 22 + bit c.trim * 2 ^ 21 + c.reason % 16 * 2 ^ 16 + min 4095 c.current10

/-- Change cell `c` of strand `k`. -/
def State.modCell (s : State) (k c : Nat) (f : CellState → CellState) : State :=
  s.modMeas k (fun m => { m with cells := modAt m.cells c f })

/-- HV quantities of strand `k`. -/
def State.strandHv (s : State) (k : Nat) : StrandHv := s.hv.strands.getD k {}

/-- Change the HV quantities of strand `k`. -/
def State.modHv (s : State) (k : Nat) (f : StrandHv → StrandHv) : State :=
  { s with hv := { s.hv with strands := modAt s.hv.strands k f } }

/-- Transfers of strand `k`. -/
def State.balOf (s : State) (k : Nat) : BalState := s.bal.getD k {}

/-- Change the transfers of strand `k`. -/
def State.modBal (s : State) (k : Nat) (f : BalState → BalState) : State := { s with bal := modAt s.bal k f }

/-- Trip state of strand `k`. -/
def State.tripOf (s : State) (k : Nat) : TripState := s.guard.trips.getD k {}

/-- Change the trip state of strand `k`. -/
def State.modTrip (s : State) (k : Nat) (f : TripState → TripState) : State :=
  { s with guard := { s.guard with trips := modAt s.guard.trips k f } }

/-- Estimator of strand `k`. -/
def State.estOf (s : State) (k : Nat) : StrandEst := s.est.strands.getD k {}

/-- Change the estimator of strand `k`. -/
def State.modEst (s : State) (k : Nat) (f : StrandEst → StrandEst) : State :=
  { s with est := { s.est with strands := modAt s.est.strands k f } }

/-- Estimator record of cell `c` of strand `k`. -/
def StrandEst.cell (e : StrandEst) (c : Nat) : CellEst := e.cells.getD c {}

/-- Position `c` of strand `k` as a cell number (R33). -/
def cellNo (k c : Nat) : Nat := 512 * k + c

/-- Masked bit of the position (`CELL.MASK`, R235): bit `i` of the mask word of its satellite. -/
def State.masked (s : State) (k c : Nat) : Bool :=
  c / 16 ≥ s.satCount k || (s.pn (0x0680 + 32 * k + c / 16)).testBit (c % 16)

/-- Whether strand `k` is connected. -/
def State.connected (s : State) (k : Nat) : Bool := (s.strandHv k).connected

/-- Mask of the connected strands. -/
def State.connMask (s : State) : Nat := maskOf 4 s.connected

/-! ## Safety outputs by name -/

/-- AC0, AC1, the rings and the barrier dies are served: not in THERMAL_LOCK, where their domains are off, and not in LOADER
(R36, R120). -/
def State.ac0On (s : State) : Bool :=
  s.alive && s.sys.mode != .thermalLock && s.sys.mode != .loader && (s.sys.mode != .start || 13 ≤ s.sys.step)

/-- The estimation array's domain is on: as AC0's, and off in HOLLOW too (R36). -/
def State.arrayOn (s : State) : Bool := s.ac0On && s.sys.mode != .hollow

/-- The array starts a work unit: its domain is on, not after the quiesce mark, and not in a power-fail commit (R29, R36, R92). -/
def State.arrayStarts (s : State) : Bool := s.arrayOn && !s.time.quiesced && s.feed.commit.isNone

/-- AC1 starts a work unit (R29, R36, R92). -/
def State.ac1Starts (s : State) : Bool := s.ac0On && !s.time.quiesced && s.feed.commit.isNone

/-- AC0 starts a work unit (R29, R36). -/
def State.ac0Starts (s : State) : Bool := s.ac0On && !s.time.quiesced

/-- The host port answers: VIO is present, and the pins are released (R57, R114). -/
def State.portUp (s : State) : Bool := s.pins.vio && s.alive && s.sys.ready

/-- Output of the positive contactor (`STRING.SO_POS_k`); 255 none. -/
def State.soPos (s : State) (k : Nat) : Nat := s.pn (0x0730 + k)

/-- Output of the negative contactor (`STRING.SO_NEG_k`). -/
def State.soNeg (s : State) (k : Nat) : Nat := s.pn (0x0734 + k)

/-- Output of the precharge contactor (`STRING.SO_PRE`). -/
def State.soPre (s : State) : Nat := s.pn 0x0738

/-- A value of the guarded set as the guard die holds it (R494). -/
def State.gn (s : State) (id : Nat) : Nat :=
  match (assocGet id s.guard.config).getD (paramDefault id) with
  | .num v => v.toNat
  | .str _ => 0

/-- Outputs of strand `k` under the guard die's map (`SAFE.SO_MAP_x`, R471). -/
def State.guardMap (s : State) (k : Nat) : Nat := maskOf 12 (fun x => (s.gn (0x0C30 + x)).testBit k)

/-- Outputs of strand `k` under AC0's map. -/
def State.ac0Map (s : State) (k : Nat) : Nat := maskOf 12 (fun x => (s.pn (0x0C30 + x)).testBit k)

/-- Pair `p` is evaluated: ENABLE of `SAFE.PAIR_p` (R483). -/
def State.pairOn (s : State) (p : Nat) : Bool := (s.gn (0x0C20 + p)).testBit 31

/-- State of pair `p`. -/
def State.pairOf (s : State) (p : Nat) : PairState := s.guard.pairs.getD p {}

/-- Outputs held off by demanded pairs (R471, R484). -/
def State.demandMask (s : State) : Nat :=
  maskOf 12 (fun x => (List.range 8).any (fun p => s.pairOn p && (s.pairOf p).demanded && (s.gn (0x0C20 + p)).testBit x))

/-- The guard die's enable of output `x` (R200, R467, R471, R494): a verified configuration, no latch, no reset, no trip of
a mapped strand, no demand, and the admitted addresses of every enabled ring written. -/
def State.guardEnable (s : State) (x : Nat) : Bool :=
  s.guard.valid && s.alive && !s.sys.lock.latch && !s.sys.lock.thermal && x < 12 &&
  (List.range 4).all (fun k => !s.enabled k || s.guard.admitWritten.getD k false) &&
  (List.range 4).all (fun k => !((s.tripOf k).guardLatch && (s.gn (0x0C30 + x)).testBit k)) &&
  !s.demandMask.testBit x

/-- AC0's command of output `x`. -/
def State.commanded (s : State) (x : Nat) : Bool := s.guard.commands.testBit x

/-- A safety output is on: commanded, enabled, and not switched off by a verdict (R519). -/
def State.outputOn (s : State) (x : Nat) : Bool :=
  s.commanded x && s.guardEnable x && (s.field.so.getD x {}).verdict ≤ 1

/-- Strand `k` is held by a demanded pair (bit 7 of its cause word, R499). -/
def State.demandOn (s : State) (k : Nat) : Bool := (s.demandMask &&& s.guardMap k) != 0

end Sys2Proof.Machine
end

