-- ==== Sys2Proof/Machine/Num.lean ====
section
/-! DEFINITION. Square root, logarithm and exponential on rationals, to a grid of 2^-64. -/
namespace Sys2Proof

/-- The grid intermediate values are cut to. -/
def grid : Nat := 2 ^ 64

/-- A value cut to the grid. -/
def cut (x : Rat) : Rat := ((x * (grid : Rat)).floor : Rat) / (grid : Rat)

/-- Square root of a rational; 0 below 0. -/
def sqrtRat (x : Rat) : Rat :=
  if x ≤ 0 then 0 else ((Nat.sqrt ((x * ((grid * grid : Nat) : Rat)).floor.natAbs) : Nat) : Rat) / (grid : Rat)

/-- Sum of y^(2i+1)/(2i+1), `n` terms from exponent `k`: the series of atanh. -/
def atanhSeries : Nat → Rat → Rat → Nat → Rat
  | 0, _, _, _ => 0
  | n + 1, y2, p, k => p / (k : Rat) + atanhSeries n y2 (cut (p * y2)) (k + 2)

/-- Natural logarithm of 2 to the grid. -/
def ln2 : Rat := 12786308645202655660 / 18446744073709551616

/-- Natural logarithm of a positive rational: exponent of two and the atanh series of the rest; 0 for no positive value. -/
def lnRat (x : Rat) : Rat :=
  if x ≤ 0 then 0 else
  let e := expoOf x
  let m := cut (x / pow2 e)
  let y := cut ((m - 1) / (m + 1))
  cut ((e : Rat) * ln2 + 2 * atanhSeries 20 (cut (y * y)) y 1)

/-- Sum of x^i/i!, `n` terms. -/
def expSeries : Nat → Rat → Rat → Nat → Rat
  | 0, _, _, _ => 0
  | n + 1, x, t, k => t + expSeries n x (cut (t * x / (k : Rat))) (k + 1)

/-- Exponential: the power of two and the series of the rest. -/
def expRat (x : Rat) : Rat :=
  let k := (x / ln2).floor
  let r := cut (x - (k : Rat) * ln2)
  if k < -200 then 0 else cut (expSeries 24 r 1 1) * pow2 k

end Sys2Proof
end

