-- ==== Sys2Proof/Machine/CellModel.lean ====
section
/-! DEFINITION. The cell model of the estimator: chemistry, open-circuit tables, impedance tables, matrices and one step
(R352 to R359, R404, R405). -/
namespace Sys2Proof.Machine
open Sys2Proof

/-! ## Matrices on the grid -/

/-- A matrix, row by row. -/
abbrev Mat := List (List Rat)

/-- Entry of a vector; 0 beyond its end. -/
def vget (v : List Rat) (i : Nat) : Rat := v.getD i 0

/-- Entry of a matrix. -/
def Mat.get (m : Mat) (i j : Nat) : Rat := vget (List.getD m i []) j

/-- The `n` by `n` matrix with these entries. -/
def Mat.build (n : Nat) (f : Nat → Nat → Rat) : Mat := (List.range n).map (fun i => (List.range n).map (f i))

/-- Inner product. -/
def dot (a b : List Rat) : Rat := (List.zipWith (· * ·) a b).foldl (· + ·) 0

/-- Matrix times vector. -/
def Mat.vec (m : Mat) (v : List Rat) : List Rat := List.map (fun r => dot r v) m

/-- Column `j`. -/
def Mat.col (m : Mat) (j : Nat) : List Rat := List.map (fun r => vget r j) m

/-- Product of two `n` by `n` matrices, cut to the grid. -/
def Mat.mul (n : Nat) (a b : Mat) : Mat :=
  let cols := (List.range n).map b.col
  List.map (fun r => cols.map (fun c => cut (dot r c))) a

/-- Sum. -/
def Mat.add (a b : Mat) : Mat := List.zipWith (List.zipWith (· + ·)) a b

/-- Multiple. -/
def Mat.scale (f : Rat) (a : Mat) : Mat := List.map (List.map (fun x => f * x)) a

/-- Transpose of an `n` by `n` matrix. -/
def Mat.tr (n : Nat) (a : Mat) : Mat := (List.range n).map a.col

/-- Identity. -/
def Mat.one (n : Nat) : Mat := Mat.build n (fun i j => if i = j then 1 else 0)

/-- The outer product of a vector with itself. -/
def outer (v : List Rat) : Mat := v.map (fun a => v.map (fun b => a * b))

/-- Gauss–Jordan elimination of `[a | b]`: one column. -/
def eliminate (i : Nat) (m : Mat) : Mat :=
  let row := List.getD m i []
  let p := vget row i
  let row := if p = 0 then row else row.map (fun x => cut (x / p))
  (List.range (List.length m)).map (fun r =>
    let cur := List.getD m r []
    if r = i then row else List.zipWith (fun x y => cut (x - vget cur i * y)) cur row)

/-- Solve `a x = b` for `n` by `n` matrices whose pivots do not vanish. -/
def Mat.solve (n : Nat) (a b : Mat) : Mat :=
  List.map (List.drop n) ((List.range n).foldl (fun m i => eliminate i m) (List.zipWith (· ++ ·) a b))

/-- Square a matrix `k` times. -/
def squareTimes (n : Nat) : Nat → Mat → Mat
  | 0, m => m
  | k + 1, m => squareTimes n k (m.mul n m)

/-- Exponential of an `n` by `n` matrix: order-6 Padé with scaling and squaring (R365). -/
def Mat.exp (n : Nat) (a : Mat) : Mat :=
  let norm := (List.map (fun r => (List.map absRat r).foldl (· + ·) 0) a).foldl max 0
  let k := (List.range 40).find? (fun (k : Nat) => norm ≤ pow2 (k : Int) / 2)
  let k := k.getD 40
  let x := Mat.scale (1 / pow2 (k : Int)) a
  let pows := (List.range 6).foldl (fun (l : List Mat) _ => l ++ [(l.getLastD x).mul n x]) [Mat.one n, x]
  let cs : List Rat := [1, 1 / 2, 5 / 44, 1 / 66, 1 / 792, 1 / 15840, 1 / 665280]
  let sum := fun (sg : Rat) => (List.range 7).foldl (fun (m : Mat) i =>
    m.add (Mat.scale (vget cs i * (if i % 2 = 0 then 1 else sg)) (pows.getD i []))) (Mat.build n (fun _ _ => 0))
  squareTimes n k (Mat.solve n (sum (-1)) (sum 1))

/-! ## Chemistry (R353 to R356) -/

/-- A parameter as a rational in its base unit. -/
def ParamState.rat (p : ParamState) (id : Nat) (unit : Rat) : Rat := (p.int id : Rat) * unit

/-- Stoichiometry at the ends of a window: n at 0 and 100 %, p at 0 and 100 %. -/
def thetaOf (p : ParamState) (i : Nat) : Rat := p.rat (0x0920 + i) (1 / 1000000)

/-- Width of the negative window. -/
def nWidth (p : ParamState) : Rat := thetaOf p 1 - thetaOf p 0

/-- Width of the positive window, signed from 0 to 100 %. -/
def pWidth (p : ParamState) : Rat := thetaOf p 3 - thetaOf p 2

/-- Volume fraction of shell `i` (0 at the centre). -/
def shellShare (i : Nat) : Rat := ((3 * i * i + 3 * i + 1 : Nat) : Rat) / 216

/-- Segment of a 32-point table in which position `f` lies, with the ends extended. -/
def segment (f : Rat) : Nat := min 30 (f.floor.toNat)

/-- Potential of a table starting at `base`, at window position `x` (0 at 0 %, 1 at 100 %), V (R356). -/
def tableAt (p : ParamState) (base : Nat) (x : Rat) : Rat :=
  let f := x * 31
  let j := segment f
  let a := p.rat (base + j) (1 / 1000000)
  let b := p.rat (base + j + 1) (1 / 1000000)
  a + (f - (j : Rat)) * (b - a)

/-- Slope of the table per unit of window position. -/
def tableSlope (p : ParamState) (base : Nat) (x : Rat) : Rat :=
  let j := segment (x * 31)
  31 * (p.rat (base + j + 1) (1 / 1000000) - p.rat (base + j) (1 / 1000000))

/-- Window position of a stoichiometry. -/
def nPos (p : ParamState) (th : Rat) : Rat := (th - thetaOf p 0) / nWidth p
/-- Window position on the positive electrode. -/
def pPos (p : ParamState) (th : Rat) : Rat := (th - thetaOf p 2) / pWidth p

/-- Open-circuit voltage of surface stoichiometries, V. -/
def ocvOf (p : ParamState) (x : List Rat) : Rat :=
  tableAt p 0x0960 (pPos p (vget x 11)) - tableAt p 0x0940 (nPos p (vget x 5))

/-- Slope of the open-circuit voltage with SOC, V. -/
def ocvSlope (p : ParamState) (x : List Rat) : Rat :=
  tableSlope p 0x0960 (pPos p (vget x 11)) - tableSlope p 0x0940 (nPos p (vget x 5))

/-- Estimated SOC, fraction (R353). -/
def socOf (p : ParamState) (x : List Rat) : Rat :=
  ((List.range 6).foldl (fun a k => a + shellShare k * vget x k) 0 - thetaOf p 0) / nWidth p

/-- Terminal voltage (R354). -/
def terminal (p : ParamState) (x : List Rat) (rser i : Rat) : Rat :=
  ocvOf p x - vget x 12 - vget x 13 - i * rser + p.rat 0x0929 (1 / 1000000) * vget x 15

/-- State change per unit of SOC (R366). -/
def socDirection (p : ParamState) : List Rat :=
  (List.range 16).map (fun i => if i < 6 then nWidth p else if i < 12 then pWidth p else 0)

/-- The gradient g of R383. -/
def socGradient (p : ParamState) : List Rat :=
  (List.range 16).map (fun i => if i < 6 then shellShare i / nWidth p else 0)

/-- A quadratic form vᵀ P v. -/
def quad (p : Mat) (v : List Rat) : Rat := dot v (p.vec v)

/-- Entries rounded to single precision; stoichiometries clamped to 0–1 (R356, R369). -/
def settleState (x : List Rat) : List Rat :=
  (List.range 16).map (fun i => roundF32 (if i < 12 then clampRat 0 1 (vget x i) else vget x i))

/-! ## Impedance tables (R357, R404, R405) -/

/-- SOC grid, %. -/
def socGrid : List Rat := [0, 5, 15, 30, 50, 70, 85, 100]
/-- Temperature grid, °C. -/
def tempGrid : List Rat := [-30, -15, 0, 15, 30, 45]

/-- Interval of a grid and the position in it, clamped to the end points. -/
def gridPos (g : List Rat) (x : Rat) : Nat × Rat :=
  let x := clampRat (vget g 0) (vget g (g.length - 1)) x
  let i := ((List.range (g.length - 1)).filter (fun i => vget g i ≤ x)).getLastD 0
  (i, (x - vget g i) / (vget g (i + 1) - vget g i))

/-- Index of the nearest grid value. -/
def nearest (g : List Rat) (x : Rat) : Nat :=
  (List.range g.length).foldl (fun b i => if absRat (vget g i - x) < absRat (vget g b - x) then i else b) 0

/-- Code of quantity `q` (0 Rser, 1 Rpol, 2 τ1) in a table word. -/
def gridCode (w q : Nat) : Nat := w / 2 ^ (20 - 10 * q) % 1024

/-- Learned bit of quantity `q`. -/
def gridLearned (w q : Nat) : Bool := w.testBit (if q = 0 then 31 else 30)

/-- Reference of quantity `q`, in its unit: µΩ, µΩ, ms. -/
def CellMem.ref (m : CellMem) (q : Nat) : Nat := if q = 0 then m.rserRef else if q = 1 then m.rpolRef else m.tauRef

/-- Exponent of a point's quantity in 1/128 octaves: its own where learned, else the mean of the learned ones (R405). -/
def CellMem.expo (m : CellMem) (q i : Nat) : Rat :=
  let w := m.table.getD i 0
  if gridLearned w q then (gridCode w q : Rat) - 512 else
  let l := m.table.filter (gridLearned · q)
  if l.isEmpty then 0 else l.foldl (fun (a : Rat) w => a + ((gridCode w q : Rat) - 512)) 0 / (l.length : Rat)

/-- Value of a quantity at a grid point. -/
def CellMem.value (m : CellMem) (q i : Nat) : Rat := (m.ref q : Rat) * expRat (m.expo q i / 128 * ln2)

/-- A cell has a learned table: some learned bit is set. -/
def CellMem.hasTable (m : CellMem) : Bool := m.table.any (fun w => gridLearned w 0 || gridLearned w 1)

/-- Bilinear interpolation over the grid at SOC (fraction) and temperature. -/
def bilinear (f : Nat → Rat) (soc temp : Rat) : Rat :=
  let a := gridPos socGrid (soc * 100)
  let b := gridPos tempGrid temp
  let at' := fun (ds dt : Nat) => f (8 * (b.1 + dt) + a.1 + ds)
  (1 - b.2) * ((1 - a.2) * at' 0 0 + a.2 * at' 1 0) + b.2 * ((1 - a.2) * at' 0 1 + a.2 * at' 1 1)

/-- Rser Ω, Rpol Ω and Cpol F of a cell (R357). -/
def impedance (p : ParamState) (m : CellMem) (soc temp : Rat) : Rat × Rat × Rat :=
  if m.hasTable then
    (bilinear (fun i => m.value 0 i) soc temp / 1000000, bilinear (fun i => m.value 1 i) soc temp / 1000000,
      bilinear (fun i => m.value 2 i * 1000 / m.value 1 i) soc temp)
  else (p.rat 0x092D (1 / 1000000), p.rat 0x092E (1 / 1000000), p.rat 0x092F 1)

/-- The newest valid copy of a record. -/
def MemRecord.newest {α : Type} (seq : α → Nat) (r : MemRecord α) : Option α :=
  match r.copyA, r.copyB with
  | some a, some b => if (seq b - seq a + 2 ^ 32) % 2 ^ 32 < 2 ^ 31 ∧ seq a ≠ seq b then some b else some a
  | some a, none => some a
  | none, b => b

/-- Cell record of position `c` of strand `k` in the newest valid copy. -/
def State.cellNvm (s : State) (k c : Nat) : CellMem :=
  match s.mem.sats[32 * k + c / 16]? with
  | some r => ((r.newest (·.seq)).getD {}).cells.getD (c % 16) {}
  | none => {}

/-- Cell record in RAM. -/
def State.cellMem (s : State) (k c : Nat) : CellMem :=
  match s.mem.sats[32 * k + c / 16]? with
  | some r => r.ram.cells.getD (c % 16) {}
  | none => {}

/-! ## Cell temperature (R358) -/

/-- Measured temperature of a cell, °C: its input, the satellite's mean, the strand's mean. -/
def MeasState.cellTemp (m : MeasState) (c : Nat) : Option Rat :=
  let val := fun (i : Nat) => (m.temps.getD i {}).value
  let mean := fun (l : List Int) =>
    if l.isEmpty then none else some ((l.foldl (fun (a : Rat) (v : Int) => a + (v : Rat)) 0) / (l.length : Rat) / 100)
  match val (8 * (c / 16) + c % 16 / 2) with
  | some t => some ((t : Rat) / 100)
  | none =>
    match mean ((List.range 8).filterMap (fun i => val (8 * (c / 16) + i))) with
    | some t => some t
    | none => mean ((List.range 256).filterMap val)

/-! ## One prediction (R354, R365, R366) -/

/-- What a prediction needs of a cell: current A, time s, impedances, capacity Ah. -/
structure StepIn where
  i : Rat
  dt : Rat
  rser : Rat
  rpol : Rat
  cpol : Rat
  cap : Rat
  kelvin : Rat
  deriving DecidableEq, Repr

/-- τ1 and τ2, s. -/
def StepIn.tau1 (z : StepIn) : Rat := z.rpol * z.cpol
/-- Slow time constant. -/
def StepIn.tau2 (p : ParamState) (z : StepIn) : Rat := p.rat 0x0927 (1 / 10) * z.tau1

/-- Decay over the step. -/
def decay (dt tau : Rat) : Rat := if tau = 0 then 0 else expRat (-(dt / tau))

/-- Rate matrix of one electrode's six shells, with the surface current's column (R354). -/
def shellRates (kappa input : Rat) : Mat :=
  let m := fun (k : Nat) => ((3 * k * k + 3 * k + 1 : Nat) : Rat)
  let flow := fun (k : Nat) => 108 * kappa * (((k + 1) * (k + 1) : Nat) : Rat)
  Mat.build 7 (fun r c =>
    if r = 6 then 0
    else if c = 6 then (if r = 5 then input else 0)
    else
      let up : Rat := if r < 5 then flow r / m r else 0
      let down : Rat := if 0 < r then flow (r - 1) / m r else 0
      if c = r then -(up + down) else if c = r + 1 then up else if c + 1 = r then down else 0)

/-- Diffusion coefficient at a temperature. -/
def kappaAt (p : ParamState) (id : Nat) (kelvin : Rat) : Rat :=
  p.rat id (1 / 1000000000) * expRat (-(p.rat 0x0926 1 / (8314 / 1000)) * (1 / kelvin - 1 / (29815 / 100)))

/-- Sign of a current. -/
def signRat (x : Rat) : Rat := if x < 0 then -1 else if 0 < x then 1 else 0

/-- The predicted state, and Φ with its 16 by 16 entries. -/
def predict (p : ParamState) (z : StepIn) (x : List Rat) : List Rat × Mat :=
  let vs := shellShare 5
  let qn := z.cap / nWidth p
  let qp := z.cap / (-(pWidth p))
  let en := Mat.exp 7 (Mat.scale z.dt (shellRates (kappaAt p 0x0924 z.kelvin) (-(1 / (3600 * qn * vs)))))
  let ep := Mat.exp 7 (Mat.scale z.dt (shellRates (kappaAt p 0x0925 z.kelvin) (1 / (3600 * qp * vs))))
  let xn := en.vec (x.take 6 ++ [z.i])
  let xp := ep.vec ((x.drop 6).take 6 ++ [z.i])
  let t1 := z.tau1
  let t2 := StepIn.tau2 p z
  let a1 := decay z.dt t1
  let a2 := decay z.dt t2
  let s1 := z.rpol * z.i
  let s2 := p.rat 0x0928 (1 / 1000) * z.rpol * z.i
  let e1 := vget x 12
  let e2 := vget x 13
  let rth := p.rat 0x092B (1 / 1000)
  let cth := p.rat 0x092C 1
  let lam := 1 / (rth * cth)
  let al := expRat (-(lam * z.dt))
  let part := fun (tau a : Rat) => if lam * tau = 1 then z.dt * al else (a - al) / (lam - 1 / tau)
  let g1 := z.i / cth * part t1 a1
  let g2 := z.i / cth * part t2 a2
  let th := vget x 14 * al + (z.i * (s1 + s2) + z.i * z.i * z.rser) * rth * (1 - al) + (e1 - s1) * g1 + (e2 - s2) * g2
  let b := expRat (-(p.rat 0x092A 1 * absRat z.i * z.dt / (3600 * z.cap)))
  let h := b * vget x 15 - (1 - b) * signRat z.i
  let phi := Mat.build 16 (fun r c =>
    if r < 6 then (if c < 6 then en.get r c else 0)
    else if r < 12 then (if 6 ≤ c && c < 12 then ep.get (r - 6) (c - 6) else 0)
    else if r = 12 then (if c = 12 then a1 else 0)
    else if r = 13 then (if c = 13 then a2 else 0)
    else if r = 14 then (if c = 12 then g1 else if c = 13 then g2 else if c = 14 then al else 0)
    else (if c = 15 then b else 0))
  (settleState (xn.take 6 ++ xp.take 6 ++ [a1 * e1 + (1 - a1) * s1, a2 * e2 + (1 - a2) * s2, th, h]), phi)

/-- Process noise of R366: σ_I,eff in A, rest threshold in A. -/
def processNoise (p : ParamState) (z : StepIn) (sigmaI : Rat) : Mat :=
  let dq := absRat z.i * z.dt / 3600
  let a := p.rat 0x090F (1 / 1000) * dq / z.cap
  let b := sigmaI * z.dt / (3600 * z.cap)
  let along := a * a + b * b
  let d := socDirection p
  let sq := fun (x : Rat) => x * x
  let pol := sq (1 / 10 * z.rpol * absRat z.i * (1 - decay z.dt z.tau1)) + sq (1 / 100000)
  let ely := sq (1 / 10 * p.rat 0x0928 (1 / 1000) * z.rpol * absRat z.i * (1 - decay z.dt (StepIn.tau2 p z))) + sq (1 / 100000)
  let hy : Rat := if p.rat 0x0903 (1 / 1000) < absRat z.i then sq (2 / 100) else 0
  Mat.build 16 (fun r c =>
    along * vget d r * vget d c +
    (if r ≠ c then 0 else if r < 12 then sq (2 / 100000) else if r = 12 then pol else if r = 13 then ely
     else if r = 14 then sq (5 / 100) else hy))

/-- The measurement row H of R365. -/
def measureRow (p : ParamState) (x : List Rat) : List Rat :=
  (List.range 16).map (fun i =>
    if i = 5 then -(tableSlope p 0x0940 (nPos p (vget x 5)) / nWidth p)
    else if i = 11 then tableSlope p 0x0960 (pPos p (vget x 11)) / pWidth p
    else if i = 12 ∨ i = 13 then -1
    else if i = 15 then p.rat 0x0929 (1 / 1000000) else 0)

/-- SOC of an open-circuit voltage at equilibrium: the inverse of the table difference, ends extended. -/
def socOfOcv (p : ParamState) (v : Rat) : Rat :=
  let u := fun (j : Nat) => p.rat (0x0960 + j) (1 / 1000000) - p.rat (0x0940 + j) (1 / 1000000)
  let j := ((List.range 31).filter (fun j => u j ≤ v)).getLastD 0
  let w := u (j + 1) - u j
  ((j : Rat) + (if w = 0 then 0 else (v - u j) / w)) / 31

end Sys2Proof.Machine
end

