-- ==== Sys2Proof/Machine/Serve.lean ====
section
/-! DEFINITION. The command queues Q0 to Q2 and the checks of R140 that every opcode shares, in the order of the table. -/
namespace Sys2Proof.Machine
open Sys2Proof

/-! ## Command slots and queues (R43, R140, R145, R148, R149) -/

/-- Change the port. -/
def modPort (f : PortState → PortState) (s : State) : State := { s with port := f s.port }

/-- Command slots of bank 20. -/
def cmdSlots : Nat := 32

/-- A command slot becomes free; `IN_FREE` where all 32 were taken (R149). -/
def freeSlot (s : State) : State :=
  let full := s.port.slotsUsed == cmdSlots
  let s := modPort (fun p => { p with slotsUsed := p.slotsUsed - 1 }) s
  if full then irq .spi 2 s else s

/-- A framing error is counted, and `PROTOCOL` set (R142, R149). -/
def framingError (s : State) : State :=
  irq .spi 3 (modPort (fun p => { p with framingErrors := satAdd 16 p.framingErrors 1 }) s)

/-- A CRC error of the host port is counted (R149). -/
def crcError (s : State) : State := modPort (fun p => { p with crcErrors := satAdd 16 p.crcErrors 1 }) s

/-- What holds HBUSY_N low: a packet being stored, no free command slot, or a mailbox collision (R147). -/
def PortState.busy (p : PortState) : Bool := p.storing.isSome || cmdSlots ≤ p.slotsUsed || p.collided

/-- Refusals that wait for an out slot (R145). -/
def PortState.refusals (p : PortState) : Nat := p.out.waiting.countP (·.refusal)

/-- A packet written while HBUSY_N was low: `PROTOCOL`, and an `ST_QUEUE_FULL` reply unless 8 wait already (R145). -/
def refusePacket (op tag : Nat) (s : State) : State :=
  let s := irq .spi 3 s
  if 8 ≤ s.port.refusals then framingError s
  else postKept .spi { opcode := op, tag := tag, isReply := true, refusal := true, payload := answer stQueueFull noDetail [],
                       stamp := s.time.now, sec := s.time.opSec } s

/-- Queue of a packet: PRIORITY chooses among those of the host port (R148). -/
def Cmd.queue (c : Cmd) : Nat :=
  match c.port with
  | .spi => if c.flags % 2 = 1 then 0 else 1
  | .can => 2

/-- Packets of queue `q`, 0 to 2. -/
def PortState.queueOf (p : PortState) (q : Nat) : List Cmd := if q = 0 then p.q0 else if q = 1 then p.q1 else p.q2

/-- Queue `q` holds other packets. -/
def PortState.putQueue (p : PortState) (q : Nat) (l : List Cmd) : PortState :=
  if q = 0 then { p with q0 := l } else if q = 1 then { p with q1 := l } else { p with q2 := l }

/-- A packet is posted to its queue, or refused where that is full: `ST_QUEUE_FULL` and event 0x09. A packet of the host port
holds a command slot (check 4 of R140; R43, R147, R148). -/
def postCmd (c : Cmd) (s : State) : State :=
  let q := c.queue
  if s.qDepth q ≤ (s.port.queueOf q).length then
    let s := raise 0x09 0 0 0 (leBytes 1 q) (match c.port with | .spi => freeSlot s | .can => s)
    reply c.port c.opcode (BitVec.ofNat 16 c.tag) stQueueFull noDetail [] s
  else
    let k := { c with arrival := s.port.arrived, stamp := s.time.now }
    modPort (fun p => { p.putQueue q (p.queueOf q ++ [k]) with arrived := p.arrived + 1 }) s

/-- A packet that arrived whole: the host port takes a command slot for it, or refuses it (R140, R145). -/
def arrive (c : Cmd) (s : State) : State :=
  match c.port with
  | .spi => if s.port.busy then refusePacket c.opcode c.tag s
            else postCmd c (modPort (fun p => { p with slotsUsed := p.slotsUsed + 1 }) s)
  | .can => postCmd c s

/-- The row of an opcode: its command arrives whole and is started at once, or after the quiesce mark waits in its queue for
the next frame (R29, R725). Before step 11 nothing answers (R117). -/
def hostRow (op : Nat) (body : Port → Half → List Byte → State → State) (p : Port) (tag : Half) (pl : List Byte) (s : State) :
    State :=
  if s.sys.ready && s.time.quiesced then arrive { port := p, opcode := op, tag := tag.toNat, payload := pl } s
  else body p tag pl s

/-! ## Checks 9 and 10 of R140 -/

/-- Modes of R159 for "all" and "all except LOADER"; START and LOADER are narrowed by R117 and R120. -/
def modesAll : List Mode := [.standby, .run, .service, .hollow, .lockout, .thermalLock]

/-- STANDBY, RUN, SERVICE, HOLLOW. -/
def modesWork : List Mode := [.standby, .run, .service, .hollow]

/-- STANDBY, RUN, SERVICE, HOLLOW, LOCKOUT. -/
def modesFive : List Mode := [.standby, .run, .service, .hollow, .lockout]

/-- Whether the mode or start state accepts an opcode (R117, R120, R159). -/
def State.opAllowed (s : State) (op : Nat) (modes : List Mode) : Bool :=
  match s.sys.mode with
  | .start => op < 0x100
  | .loader => op < 0x100 || op / 256 == 5 || op / 256 == 6
  | .hibernate => false
  | m => modes.contains m

/-- The refusals every opcode shares: no reply before step 11 of R114 (R117), then length, then mode; otherwise the
opcode's own handling. -/
def serve (op : Nat) (modes : List Mode) (lenOk : Bool) (p : Port) (tag : Half) (body : State → State) (s : State) : State :=
  if !s.sys.ready then s
  else if !lenOk then reply p op tag stBadLength noDetail [] s
  else if !s.opAllowed op modes then reply p op tag stWrongMode noDetail [] s
  else body s

end Sys2Proof.Machine
end

