-- ==== Sys2Proof/Machine/Silt.lean ====
section
/-! DEFINITION. The silt log: writing, coalescing, rate limiting, reading (chapter 20). -/
namespace Sys2Proof.Machine
open Sys2Proof

/-! ## Writing -/

/-- The sequence number after `n`: modulo 2^32, skipping 0xFFFF_FFFF (R652). -/
def nextSeq (n : Nat) : Nat := if n + 1 ≥ 0xFFFFFFFF then 0 else n + 1

/-- Sequence of the newest record written; 0xFFFF_FFFF before the first. -/
def SiltState.newest (t : SiltState) : Nat := if t.nextSeq = 0 then (if t.written = 0 ∧ t.ordinary = [] ∧ t.pinned = []
  then 0xFFFFFFFF else 0xFFFFFFFE) else t.nextSeq - 1

/-- Append to a circular partition of `cap` records (R653). -/
def ringAppend {α : Type} (cap : Nat) (l : List α) (a : α) : List α :=
  let m := l ++ [a]
  m.drop (m.length - cap)

/-- Write one record into its partition (R652, R653). -/
def siltStore (r : SiltRecord) (t : SiltState) : SiltState :=
  let r := { r with seq := t.nextSeq, writtenRep := r.rep }
  let t := { t with nextSeq := nextSeq t.nextSeq, written := satAdd 32 t.written 1 }
  if r.pinned then { t with pinned := ringAppend 1024 t.pinned r } else { t with ordinary := ringAppend 16384 t.ordinary r }

/-- Drain up to `n` intake records, oldest first. -/
def siltDrain (n : Nat) (t : SiltState) : SiltState :=
  (t.intake.take n).foldl (fun t r => siltStore r t) { t with intake := t.intake.drop n }

/-- The record of an intake overflow, once the intake has room (R655). -/
def reportLost (s : State) : State :=
  if s.silt.lost = 0 ∨ 256 ≤ s.silt.intake.length then s
  else note 0xFF 2 0 0 (leBytes 4 s.silt.lost) { s with silt := { s.silt with lost := 0 } }

/-- Close a record: its count is written and OPEN clears. -/
def SiltRecord.close (r : SiltRecord) : SiltRecord := { r with isOpen := false, writtenRep := r.rep }

/-- Close every open record (R658). -/
def closeAll (t : SiltState) : SiltState :=
  { t with ordinary := t.ordinary.map (fun r => if r.isOpen then r.close else r),
           pinned := t.pinned.map (fun r => if r.isOpen then r.close else r),
           intake := t.intake.map (fun r => if r.isOpen then r.close else r) }

/-- Flush the intake and the open records before a reset (R123, R656). -/
def siltFlush (s : State) : State :=
  let s := reportLost s
  { s with silt := siltDrain s.silt.intake.length (closeAll s.silt) }

/-- What data NVM still holds after a power loss or an unflushed reset: written records with the counts last written, none
open (R658). -/
def siltNvm (t : SiltState) : SiltState :=
  let fix := fun (r : SiltRecord) => if r.isOpen then { r with isOpen := false, rep := r.writtenRep } else r
  { ordinary := t.ordinary.map fix, pinned := t.pinned.map fix, nextSeq := t.nextSeq }

/-! ## Reading -/

/-- Bytes of a record (R650). A record read while OPEN shows the count at its last rewrite (R658). -/
def SiltRecord.bytes (r : SiltRecord) : List Byte :=
  let rep := if r.isOpen then r.writtenRep else r.rep
  let body := leBytes 4 r.seq ++ leBytes 4 r.opSec ++ leBytes 3 r.powerCycles ++ leBytes 1 r.source ++ leBytes 2 r.code ++
    leBytes 2 rep ++ leBytes 1 r.kind ++ leBytes 3 r.index ++ padTo 8 r.detail ++
    leBytes 1 (bit r.pinned + 2 * bit r.isOpen + 4 * bit r.tail + 8 * bit r.closedEarly) ++ leBytes 1 r.fraction
  body ++ leBytes 2 (crc16 body)

/-- `a` is older than `b` as serial numbers modulo 2^32 (R652). -/
def seqBefore (a b : Nat) : Bool :=
  let d := (b + 2 ^ 32 - a % 2 ^ 32) % 2 ^ 32
  0 < d && d < 2 ^ 31

/-- Sorted merge of two runs of rising sequence. -/
def mergeSeq : List SiltRecord → List SiltRecord → List SiltRecord
  | [], l => l
  | a :: l, m => (m.takeWhile (fun b => seqBefore b.seq a.seq)) ++ a :: mergeSeq l (m.dropWhile (fun b => seqBefore b.seq a.seq))

/-- Oldest sequence of a partition; 0xFFFF_FFFF if empty (R663). -/
def oldestSeq (l : List SiltRecord) : Nat := match l with | [] => 0xFFFFFFFF | r :: _ => r.seq

/-- Result of `SILT_INFO` (R663). -/
def siltInfo (t : SiltState) : List Byte :=
  leBytes 4 t.newest ++ leBytes 4 (oldestSeq t.ordinary) ++ leBytes 4 (oldestSeq t.pinned) ++
  leBytes 2 t.ordinary.length ++ leBytes 2 t.pinned.length ++ leBytes 1 (min 64 t.open'.length) ++
  leBytes 1 (min 255 t.intake.length) ++ [0, 0] ++ leBytes 4 t.refused ++ leBytes 4 t.overflowed ++ leBytes 4 t.written

/-- Result of `SILT_READ` (R665). -/
def siltReadResult (t : SiltState) (first count mask : Nat) : List Byte :=
  let held := mergeSeq (if mask.testBit 0 then t.ordinary else []) (if mask.testBit 1 then t.pinned else [])
  let gap := first != 0xFFFFFFFF && (match held with | r :: _ => seqBefore first r.seq | [] => false)
  let sel := if first = 0xFFFFFFFF then held else held.filter (fun r => !seqBefore r.seq first)
  let got := sel.take count
  leBytes 4 t.newest ++ leBytes 4 (oldestSeq held) ++ leBytes 2 got.length ++ leBytes 1 (bit gap) ++ [0] ++
    got.flatMap (·.bytes)

/-- Opcode of `SILT_INFO`. -/
def opSiltInfo : Nat := 0x0501

/-- Opcode of `SILT_READ`. -/
def opSiltRead : Nat := 0x0502

/-- `SILT_INFO` (R663). -/
def serveSiltInfo (p : Port) (tag : Half) (pl : List Byte) (s : State) : State :=
  serve opSiltInfo modesAll (pl.length == 0) p tag
    (fun s => reply p opSiltInfo tag stOk noDetail (siltInfo s.silt) s) s

/-- `SILT_READ` (R664, R665). A read occupies a reader queue until the frame ends. -/
def serveSiltRead (p : Port) (tag : Half) (pl : List Byte) (s : State) : State :=
  serve opSiltRead modesAll (pl.length == 8) p tag (fun s =>
    let first := field pl 0 4
    let count := field pl 4 2
    let mask := field pl 6 1
    if count = 0 ∨ 127 < count ∨ mask = 0 ∨ 3 < mask ∨ field pl 7 1 ≠ 0 then
      reply p opSiltRead tag stOutOfRange noDetail [] s
    else if 4 ≤ s.silt.readers then reply p opSiltRead tag stBusy noDetail [] s
    else reply p opSiltRead tag stOk noDetail (siltReadResult s.silt first count mask)
      { s with silt := { s.silt with readers := s.silt.readers + 1 } }) s

/-! ## Rate limit and correlation -/

/-- The records of source 0xFC at an operating-second boundary (R659). -/
def closeRates (s : State) : State :=
  let es := s.silt.rates
  es.foldl (fun s e =>
    if e.refused = 0 then s
    else note 0xFC 0 10 e.source (leBytes 4 e.refused ++ leBytes 2 (min 65535 e.subjects.length)) s)
    { s with silt := { s.silt with rates := [], rateSec := s.time.opSec } }

/-- A master that follows no other: its network time is its own. -/
def ClockState.own (c : ClockState) : Bool :=
  (c.trunk == .master || c.segment == .master) && c.trunk != .follower && c.segment != .follower

/-- The correlation record of R662: the master and channel followed, or none as master. -/
def correlate (s : State) : State :=
  let at' := s.time.now - s.time.opSub
  let c := s.clock
  let data := leBytes 8 (s.netAt at') ++ leBytes 2 (if c.own then 0xFFFF else c.master.getD 0xFFFF) ++ leBytes 1 c.epoch ++
    leBytes 1 (if c.own then 0xFF else c.channel)
  note 0xFE 0 (field data 0 1) (field data 1 3) (data.drop 4)
    { s with silt := { s.silt with corrAt := s.time.opSec } }

/-! ## Meanings -/

/-- `SILT_INFO`. -/
def execSiltInfo (port : Port) (tag : Half) (payload : List Byte) (s : State) : Host.Outcome State Fault Refusal :=
  .next (hostRow 0x0501 serveSiltInfo port tag payload s)

/-- `SILT_READ`. -/
def execSiltRead (port : Port) (tag : Half) (payload : List Byte) (s : State) : Host.Outcome State Fault Refusal :=
  .next (hostRow 0x0502 serveSiltRead port tag payload s)

/-- `SILT_WRITE`: the writer drains up to 32 intake records in a frame, but starts no NVM write after the quiesce mark (R655, R29). -/
def execSiltWrite (s : State) : Host.Outcome State Fault Refusal :=
  .next (if !s.alive || s.time.quiesced || s.silt.tailOn then s
         else
           let s := reportLost s
           let n := min (32 - s.silt.drained) s.silt.intake.length
           { s with silt := { siltDrain n s.silt with drained := s.silt.drained + n } })

/-- Change the record with this sequence in both partitions. -/
def modRecord (seq : Nat) (f : SiltRecord → SiltRecord) (t : SiltState) : SiltState :=
  let g := fun (r : SiltRecord) => if r.seq = seq then f r else r
  { t with ordinary := t.ordinary.map g, pinned := t.pinned.map g }

/-- `COALESCE_WINDOW_EXPIRY`: an open record closes once the window has passed without an occurrence (R658). -/
def execCoalesceWindowExpiry (seq : Nat) (s : State) : Host.Outcome State Fault Refusal :=
  .next (if !s.alive || s.time.quiesced then s else
    { s with silt := modRecord seq (fun r =>
        if r.isOpen && r.lastMs + 1000 * s.pn 0x1302 ≤ s.opMs then r.close else r) s.silt })

/-- `OPEN_RECORD_REWRITE`: an open record whose count changed is rewritten (R658). -/
def execOpenRecordRewrite (seq : Nat) (s : State) : Host.Outcome State Fault Refusal :=
  .next (if !s.alive || s.time.quiesced then s else
    { s with silt := modRecord seq (fun r => if r.isOpen then { r with writtenRep := r.rep } else r) s.silt })

/-- `RATE_LIMIT_SECOND`: an operating-second boundary for the rate limiter (R659). -/
def execRateLimitSecond (s : State) : Host.Outcome State Fault Refusal :=
  .next (if s.alive && s.silt.rateSec != s.time.opSec then closeRates s else s)

/-- `NT_CORRELATION`: 86,400 operating seconds in SYNCED since the latest correlation record (R662). -/
def execNtCorrelation (s : State) : Host.Outcome State Fault Refusal :=
  .next (if s.alive && s.clock.state == 2 && s.silt.corrAt + 86400 ≤ s.time.opSec then correlate s else s)

end Sys2Proof.Machine
end

