-- ==== Sys2Proof/Machine/Memory.lean ====
section
/-! DEFINITION. Records of battery memory in RAM, their accumulators and their write-back (R102, R402, R408, R414, R415). -/
namespace Sys2Proof.Machine
open Sys2Proof

/-- Whether a write of battery memory may begin (R415). -/
def State.mayWrite (s : State) : Bool :=
  let f := s.feed
  s.alive && (f.code == .aActive || f.code == .bActive || f.code == .single) && f.commit.isNone && 13000 ≤ f.holdMv &&
    19500000 * 2 * 1000 ≤ f.capUf * (f.holdMv * f.holdMv - 121000000)

/-- The write goes into the copy that is older or invalid (R102, R414). -/
def MemRecord.write {α : Type} (seq : α → Nat) (stamp : Nat → α → α) (r : MemRecord α) : MemRecord α :=
  let n := match r.newest seq with | some a => (seq a + 1) % 2 ^ 32 | none => 0
  let new := stamp n r.ram
  let toA := match r.copyA, r.copyB with
    | none, _ => true
    | some _, none => false
    | some a, some b => seqBefore (seq a) (seq b)
  if toA then { r with ram := new, copyA := some new } else { r with ram := new, copyB := some new }

/-- The older copy of a record, the one a write goes to, is torn (R102, R416). -/
def MemRecord.tear {α : Type} (seq : α → Nat) (r : MemRecord α) : MemRecord α :=
  match r.copyA, r.copyB with
  | some a, some b => if seqBefore (seq a) (seq b) then { r with copyA := none } else { r with copyB := none }
  | _, _ => r

/-- Write a target's record. -/
def writeTarget (t : WriteTarget) (m : BatteryMem) : BatteryMem :=
  match t with
  | .satellite k n => { m with sats := modAt m.sats (32 * k + n) (·.write (·.seq) (fun q a => { a with seq := q })) }
  | .strand k => { m with strands := modAt m.strands k (·.write (·.seq) (fun q a => { a with seq := q })) }

/-- A battery-memory write-back in progress is torn by the loss of power or a reset (R102, R416). -/
def tearMemory (m : BatteryMem) : BatteryMem :=
  match m.writing with
  | some (.satellite k n) => { m with sats := modAt m.sats (32 * k + n) (·.tear (·.seq)), writing := none }
  | some (.strand k) => { m with strands := modAt m.strands k (·.tear (·.seq)), writing := none }
  | none => m

/-- A write-back in progress ends whole. -/
def finishWrite (m : BatteryMem) : BatteryMem :=
  match m.writing with
  | some t => { writeTarget t m with writing := none }
  | none => m

/-- A target's record counts as written. -/
def clearTarget (t : WriteTarget) (m : BatteryMem) : BatteryMem :=
  match t with
  | .satellite k n => { m with sats := modAt m.sats (32 * k + n) (fun r => { r with dirty := false, urgent := false }) }
  | .strand k => { m with strands := modAt m.strands k (fun r => { r with dirty := false, urgent := false }) }

/-- A record has changed since it was last written. -/
def BatteryMem.isDirty (m : BatteryMem) (t : WriteTarget) : Bool :=
  match t with
  | .satellite k n => (match m.sats[32 * k + n]? with | some r => r.dirty | none => false)
  | .strand k => (match m.strands[k]? with | some r => r.dirty | none => false)

/-- A write of the record at once has been asked for. -/
def BatteryMem.isUrgent (m : BatteryMem) (t : WriteTarget) : Bool :=
  match t with
  | .satellite k n => (match m.sats[32 * k + n]? with | some r => r.urgent | none => false)
  | .strand k => (match m.strands[k]? with | some r => r.urgent | none => false)

/-- Every record, in ascending strand, then satellite order; a strand's own record after its satellites' (R414). -/
def allTargets : List WriteTarget :=
  (List.range 4).flatMap (fun k => (List.range 32).map (WriteTarget.satellite k) ++ [WriteTarget.strand k])

/-- The records that have changed since they were last written. -/
def BatteryMem.changed (m : BatteryMem) : List WriteTarget := allTargets.filter m.isDirty

/-- The record to write next: one asked for at once, else the next of the periodic round, of which each frame takes one (R414). -/
def BatteryMem.nextTarget (m : BatteryMem) (frame : Nat) : Option WriteTarget :=
  match allTargets.find? m.isUrgent with
  | some t => some t
  | none => if m.wroteAt = some frame then none else m.round.find? m.isDirty

/-- A record is being written: the round goes on after it. -/
def BatteryMem.leaveRound (m : BatteryMem) (frame : Nat) (t : WriteTarget) : BatteryMem :=
  if m.round.contains t then { m with round := m.round.filter (· != t), wroteAt := some frame } else m

/-! ## Records in RAM and their impedance accumulators (R402, R408) -/

/-- Change a cell record in RAM; the record is then dirty. -/
def modCellMem (k c : Nat) (f : CellMem → CellMem) (s : State) : State :=
  let g := fun (r : MemRecord SatMem) =>
    { r with ram := { r.ram with cells := modAt r.ram.cells (c % 16) f }, dirty := true }
  { s with mem := { s.mem with sats := modAt s.mem.sats (32 * k + c / 16) g } }

/-- Change an estimator record. -/
def modCellEst (k c : Nat) (f : CellEst → CellEst) (s : State) : State :=
  s.modEst k (fun e => { e with cells := modAt e.cells c f })

/-- Code of a value under a reference. -/
def impedanceCode (ref v : Rat) : Nat :=
  if ref ≤ 0 ∨ v ≤ 0 then 512 else (clampInt 0 1023 (roundRat (512 + 128 * (lnRat (v / ref) / ln2)))).toNat

/-- Replace the code of a quantity in a table word and set its learned bit. -/
def setCode (q code w : Nat) : Nat :=
  let lo := 2 ^ (20 - 10 * q)
  maskSet (w - (w / lo % 1024) * lo + code * lo) (if q = 0 then 31 else 30) true

/-- Commit one quantity of the accumulator: the record, and whether its samples are spent. -/
def commitQuantity (inertia i q : Nat) (a : Samples) (m : CellMem) : CellMem × Bool :=
  if a.count = 0 then (m, false) else
  let v := m.value q i
  let n : Rat := (a.count : Rat)
  let new := v + n / (n + (inertia : Rat)) * (a.sum / n - v)
  let ref : Rat := (m.ref q : Rat)
  let code := impedanceCode ref new
  if code = impedanceCode ref v then (m, false) else
  let other := fun (w : Nat) =>
    if q = 0 || gridLearned w q then w
    else setCode (3 - q) (impedanceCode (m.ref (3 - q) : Rat) (m.value (3 - q) i)) w
  ({ m with table := modAt m.table i (fun w => setCode q code (other w)) }, true)

/-- Commit the accumulator of a cell (R408); `moved` tells that the nearest grid point changed. -/
def commitAccum (k c : Nat) (moved : Bool) (s : State) : State :=
  let a := ((s.estOf k).cell c).accum
  if a.rser.count = 0 ∧ a.rpol.count = 0 ∧ a.tau.count = 0 then s else
  let m := s.cellMem k c
  let n := s.pn 0x0A0F
  let r0 := commitQuantity n a.point 0 a.rser m
  let r1 := commitQuantity n a.point 1 a.rpol r0.1
  let r2 := commitQuantity n a.point 2 a.tau r1.1
  let s := if r2.1 = m then s else modCellMem k c (fun _ => r2.1) s
  modCellEst k c (fun e => { e with accum := { e.accum with
    rser := if r0.2 || moved then {} else e.accum.rser, rpol := if r1.2 || moved then {} else e.accum.rpol,
    tau := if r2.2 || moved then {} else e.accum.tau } }) s

/-- Write every changed record, its accumulators committed before, one at a time after the one in progress: entry to HIBERNATE, and
the resets of R414. -/
def writeAllMemory (s : State) : State :=
  let s := { s with mem := finishWrite s.mem }
  if s.mayWrite then
    let changed := (List.range 128).filter (fun i => match s.mem.sats[i]? with | some r => r.dirty | none => false)
    let s := changed.foldl (fun s i => (List.range 16).foldl (fun s j => commitAccum (i / 32) (16 * (i % 32) + j) false s) s) s
    { s with mem := allTargets.foldl (fun m t => if m.isDirty t then clearTarget t (writeTarget t m) else m) s.mem }
  else s

end Sys2Proof.Machine
end

