-- ==== Sys2Proof/Machine/RingFrame.lean ====
section
/-! DEFINITION. The frames of a ring as they go over the line, and its command entries ahead of all others
(R191 to R204, R214). -/
namespace Sys2Proof.Machine
open Sys2Proof

/-! ## Slots of a COLLECT (R196, R197) -/

/-- A flag lane: OV, UV, OT and SF in bits 15 to 12, their complement below, address and counter (R197). -/
def decodeLane (w : Half) : Lane :=
  { ov := w.getLsbD 15, uv := w.getLsbD 14, ot := w.getLsbD 13, sf := w.getLsbD 12,
    checkOk := bits w.toNat 11 8 == 15 - bits w.toNat 15 12, addr := bits w.toNat 7 3, counter := bits w.toNat 2 0 }

/-- `n` values of `w` bits from a packed field (R191). -/
def packed (w n : Nat) (bs : List Byte) : List Nat :=
  let x := leNat bs
  (List.range n).map (fun j => x / 2 ^ (w * j) % 2 ^ w)

/-- A satellite's block at `CELL.SECONDARY_RATIO` 8 or 1: 59 or 80 bytes, the last four its CRC-32 (R196). -/
def decodeBlock (ratio : Nat) (bs : List Byte) : SatBlock :=
  let n := if ratio = 1 then 16 else 2
  let t := 40 + n * 12 / 8
  let len := t + 16
  let w := field bs 0 4
  let f := fun (i : Nat) => w.testBit i
  { addr := bits w 31 27, unaddressed := f 26, noData := f 25, balActive := f 24, polUp := f 23, linkBack := f 22, imageB := f 21,
    supply := f 20, reference := f 19, tempInput := f 18, converter := f 17, rail := f 16, echo := bits w 15 8,
    slice := bits w 7 5, primary := packed 18 16 ((bs.drop 4).take 36), secondary := packed 12 n ((bs.drop 40).take (n * 12 / 8)),
    temps := packed 12 8 ((bs.drop t).take 12),
    crcOk := bs.length == len && crc32 (bs.take (len - 4)) == field bs (len - 4) 4 }

/-- A slot, decoded. -/
def decodeSlot (ratio : Nat) (x : RawSlot) : Slot := { block := decodeBlock ratio x.block, lane := decodeLane x.lane }

/-- The header CRC of a COLLECT that came back is right (R192, R217). -/
def headerGood (f : CollectFrame) : Bool := f.header.length == 6 && crc16 (f.header.take 4) == field f.header 4 2

/-- The slots differ in number from the header's Count (R217). -/
def miscounted (f : CollectFrame) : Bool := f.slots.length != field f.header 3 1

/-! ## Frames sent (R192, R193, R201, R204, R205) -/

/-- The six header bytes of a frame (R192). -/
def frameHeader (type seq turn count : Nat) : List Byte :=
  let b := leBytes 1 type ++ leBytes 1 seq ++ leBytes 1 turn ++ leBytes 1 count
  b ++ leBytes 2 (crc16 b)

/-- Bytes with the CRC-32 of R133 behind them. -/
def withCrc (b : List Byte) : List Byte := b ++ leBytes 4 (crc32 b)

/-- The 16 bytes of an entry (R201). -/
def RingEntry.bytes (e : RingEntry) : List Byte :=
  withCrc (leBytes 1 e.addr ++ leBytes 1 e.code ++ leBytes 2 e.tag ++ padTo 8 e.args)

/-- The payload of a TRIGGER: sequence, sample delay of 2,560 half-bits, FULL_SECONDARY, OWT and corner. -/
def SnapHeader.trigger (h : SnapHeader) : List Byte :=
  withCrc (leBytes 4 h.seq ++ leBytes 2 2560 ++
    leBytes 1 (32 * bit (h.ratio == 1) + 16 * bit h.owt + h.corner % 16) ++ [0])

/-- Pairs a ring master drives, with Turn-at: the out pair in loop operation; in split operation each half that has a satellite
(R192, R222, R223). -/
def RingState.pairs (g : RingState) : List (Bool × Nat) :=
  if g.broken then (g.near.map (fun n => (true, n))).toList ++ (g.far.map (fun m => (false, m))).toList else [(true, 0xFF)]

/-- Satellite `n` is reached on the out pair. -/
def RingState.onOut (g : RingState) (n : Nat) : Bool :=
  !g.broken || (match g.far with | some m => decide (n < m) | none => true)

/-- Turn-at in a frame for satellite `n`. -/
def RingState.turnFor (g : RingState) (n : Nat) : Nat :=
  if g.broken then ((if g.onOut n then g.near else g.far).getD 0xFF) else 0xFF

/-- Frames leave the ring master, one on each pair driven; each is counted (R218). -/
def RingState.transmit (l : List RingFrame) (g : RingState) : RingState :=
  { g with sent := l, frames := satAdd 32 g.frames l.length }

/-- Entries with tags of the ring master (R201). -/
def RingState.tagged (g : RingState) (es : List RingEntry) : List RingEntry :=
  es.zipIdx.map (fun e => { e.1 with tag := (g.entryTag + e.2) % 65536 })

/-- A COMMAND of entries for satellites of one half, and the wait for its responses (R201, R222). DEDUCED: in split operation
it goes on the pair of the half it addresses, whose responses the one receive path then takes (R187). -/
def RingState.sendCommand (d : RingDesc) (g : RingState) : RingState :=
  let es := g.tagged d.entries
  let n := (es.map (·.addr)).headD 0
  let f := frameHeader 0x03 g.frameCounter (g.turnFor n) es.length ++ es.flatMap RingEntry.bytes
  { g.transmit [{ out := g.onOut n, bytes := f }] with
    inFlight := some { d with entries := es }, entryTag := (g.entryTag + es.length) % 65536, frameCounter := (g.frameCounter + 1) % 256 }

/-- A BROADCAST of one entry on every pair driven; it gets no response (R201, R202). -/
def RingState.broadcast (code : Nat) (args : List Byte) (g : RingState) : RingState :=
  let e : RingEntry := { addr := 0xFF, code := code, args := padTo 8 args, tag := g.entryTag }
  { g.transmit (g.pairs.map (fun p => { out := p.1, bytes := frameHeader 0x04 g.frameCounter p.2 1 ++ e.bytes })) with
    entryTag := (g.entryTag + 1) % 65536, frameCounter := (g.frameCounter + 1) % 256, window := g.window - 2 * (80 + 128 + 32) }

/-- A TRIGGER on every pair at once (R193, R211). -/
def RingState.sendTrigger (h : SnapHeader) (g : RingState) : RingState :=
  g.transmit (g.pairs.map (fun p => { out := p.1, bytes := frameHeader 0x01 (h.seq % 256) p.2 0 ++ h.trigger }))

/-- A PROBE of satellite `n` on one pair (R205). -/
def RingState.sendProbe (out : Bool) (n : Nat) (g : RingState) : RingState :=
  { g.transmit [{ out := out, bytes := frameHeader 0x06 g.frameCounter n 0 }] with frameCounter := (g.frameCounter + 1) % 256 }

/-- A full ENUMERATE: from address 0 on the loop or the near half, and on the far half from the number of satellites the search
reached on the out pair. DESIGN CHOICE: R206 names an ENUMERATE of each half and gives no Count for the far one. -/
def RingState.sendEnumerate (g : RingState) : RingState :=
  g.transmit (g.pairs.map (fun p =>
    { out := p.1, bytes := frameHeader 0x05 0x00 p.2 (if p.1 then 0 else match g.near with | some n => n + 1 | none => 0) }))

/-- An unaddressed-only ENUMERATE that gives address `n` (R208). -/
def RingState.sendUnaddressed (n : Nat) (g : RingState) : RingState :=
  g.transmit [{ out := g.onOut n, bytes := frameHeader 0x05 0x01 (g.turnFor n) n }]

/-! ## Requests ahead of everything queued (R203, R214, R226, R323) -/

/-- The run in progress ends; the latest end on each cell is kept (R254, R371). -/
def SatLease.endRun (now : Nat) (l : SatLease) : SatLease :=
  match l.run with
  | some c => { l with run := none, ended := { run := c, at' := min now c.until' } :: l.ended.filter (fun e => e.run.cell != c.cell) }
  | none => l

/-- The ring is driven: enabled, in a mode that has its domain on, and not down (R36, R206). -/
def State.ringDriven (s : State) (r : Nat) : Bool :=
  s.alive && s.sys.mode != .thermalLock && s.sys.mode != .loader && (s.ring r).op != .disabled

/-- A gap between frames: XFER_STOP_ALL and SLEEP requests leave ahead of everything queued (R214). -/
def ringGap (r : Nat) (s : State) : State :=
  if !s.ringDriven r then s else
  let g := s.ring r
  let s := if g.stopAll then
      (s.modRing r (fun g => { g.broadcast 0x12 [] with stopAll := false })).modBal r (fun b =>
        { b with leases := b.leases.map (·.endRun s.time.now) })
    else s
  if g.sleepReq then s.modRing r (fun g => { g.broadcast 0x30 (leBytes 2 g.sleepArg) with
    sleepReq := false, sats := g.sats.map (fun x => if x.reachable then { x with regs := setAt x.regs 5 g.sleepArg } else x) })
  else s

/-- No frame of the ring is on the line. -/
def RingState.lineIdle (g : RingState) : Bool :=
  g.inFlight.isNone && !g.collectSent && g.phase == .idle &&
    (match g.reAddr with | some (_, st) => st != 1 && st != 3 | none => true)

/-- A request of R214 leaves at once where no frame is on the line. -/
def askGap (r : Nat) (s : State) : State := if (s.ring r).lineIdle then ringGap r s else s

/-- Ask for XFER_STOP_ALL (R214, R323). -/
def askStopAll (r : Nat) (s : State) : State := askGap r (s.modRing r (fun g => { g with stopAll := true }))

/-- Ask for SLEEP with a Dale period, s (R214, R226). -/
def askSleep (r period : Nat) (s : State) : State :=
  askGap r (s.modRing r (fun g => { g with sleepReq := true, sleepArg := period }))

end Sys2Proof.Machine
end

