-- ==== Sys2Proof/Machine/Contactors.lean ====
section
/-! DEFINITION. Contactors: closing, opening and the weld check (R296 to R310), and the HV quantities they are judged by. -/
namespace Sys2Proof.Machine
open Sys2Proof

/-- Opcode of `CONNECT_STRANDS`. -/
def opConnect : Nat := 0x0110

/-- Opcode of `DISCONNECT_STRANDS`. -/
def opDisconnect : Nat := 0x0111

/-! ## HV quantities in force (R274 to R276) -/

/-- A sense pin's open flag: 0–3 SPk, 4–7 SNk, 8 BP, 9 BN. -/
def State.pinBad (s : State) (i : Nat) : Bool := s.hv.pinOpen.getD i false

/-- A pair's value: none while the reference check fails or a pin of the pair is open. -/
def State.pair (s : State) (a b : Nat) (v : Int) : Option Int :=
  if s.hv.refFault || s.pinBad a || s.pinBad b then none else some v

/-- Strand voltage, mV, clamped while judged reversed (R275). -/
def State.vStrand (s : State) (k : Nat) : Option Int :=
  s.pair k (4 + k) (if (s.strandHv k).watch.clamped then 0 else (s.strandHv k).rawV)

/-- Bus voltage, mV. -/
def State.vBus (s : State) : Option Int := s.pair 8 9 (if s.hv.busWatch.clamped then 0 else s.hv.rawBus)

/-- Voltage across the positive contactor. -/
def State.uPos (s : State) (k : Nat) : Option Int := s.pair k 8 (s.strandHv k).rawPos

/-- Voltage across the negative contactor. -/
def State.uNeg (s : State) (k : Nat) : Option Int := s.pair (4 + k) 9 (s.strandHv k).rawNeg

/-- Shunt current, mA: the channel's voltage less its offset over `STRING.SHUNT_R_k` (R278). -/
def State.shuntMa (s : State) (k : Nat) : Int :=
  let h := s.strandHv k
  (h.rawShunt - h.offset) * 1000000 / (s.pn (0x0710 + k) : Int)

/-- A voltage across a contactor that reads closed (R296). -/
def State.readsClosed (s : State) (u : Option Int) : Bool :=
  match u with
  | some v => v.natAbs ≤ s.pn 0x0708
  | none => false

/-- A voltage across a contactor that reads open: at least a quarter of the strand voltage (R296). -/
def readsOpen (u v : Option Int) : Bool :=
  match u, v with
  | some u, some v => v.natAbs ≤ 4 * u.natAbs
  | _, _ => false

/-- An auxiliary contact agrees: 255 names none (R296). -/
def State.auxAgrees (s : State) (id : Nat) (closed : Bool) : Bool :=
  let i := s.pn id
  i == 255 || s.field.di.testBit i == closed

/-! ## Commands of safety outputs -/

/-- A safety output takes commands: USED is set, and no verdict holds it off (R517, R519, R523). -/
def State.takesCommands (s : State) (x : Nat) : Bool :=
  x < 12 && (s.pn (0x0D10 + x)).testBit 31 && (s.field.so.getD x {}).verdict ≤ 2

/-- AC0 commands an output on; 255 names none. A command to an output that takes none is ignored. -/
def commandOn (x : Nat) (s : State) : State :=
  if s.takesCommands x then
    { s with
      guard := { s.guard with commands := maskSet s.guard.commands x true },
      field := { s.field with so := modAt s.field.so x (fun o => if s.commanded x then o else { o with onSince := s.time.now }) } }
  else s

/-- AC0 commands an output off. -/
def commandOff (x : Nat) (s : State) : State :=
  if x < 12 then { s with guard := { s.guard with commands := maskSet s.guard.commands x false } } else s

/-- Both contactors of a strand commanded off. -/
def commandStrandOff (k : Nat) (s : State) : State := commandOff (s.soNeg k) (commandOff (s.soPos k) s)

/-! ## Weld checks -/

/-- A weld check of strand `k` waits its turn, unless one is waiting or running already. -/
def enqueueWeld (k : Nat) (s : State) : State :=
  if s.hv.welds.any (·.strand == k) then s
  else { s with hv := { s.hv with welds := s.hv.welds ++ [{ strand := k, since := s.hv.rounds }] } }

/-- The check of strand `k` has ended with this result byte: every DISCONNECT_STRANDS waiting for it goes on, and one that
waits for nothing more completes (R161). -/
def settleDisconnects (k res : Nat) (s : State) : State :=
  let jobs := s.hv.disconnects.map (fun j =>
    if j.strands.contains k then { j with strands := j.strands.filter (· != k), results := setAt j.results k res } else j)
  let s := { s with hv := { s.hv with disconnects := jobs.filter (fun j => !j.strands.isEmpty) } }
  (jobs.filter (fun j => j.strands.isEmpty)).foldl
    (fun s j => complete j.by' opDisconnect stOk noDetail (j.results.map (BitVec.ofNat 8 ·)) s) s

/-! ## Connecting (R297 to R303) -/

/-- Precharge failures of the last 300 s (R302). -/
def State.recentPrecharge (s : State) : List Nat := s.hv.prechargeFails.filter (fun t => s.opMs < t + 300000)

/-- Whether a strand whose turn has come may not be connected: a protection fault, a weld verdict, an insulation refusal or
an incomplete ring (R161, R290, R308). -/
def State.strandBarred (s : State) (k : Nat) : Bool :=
  let t := s.tripOf k
  let h := s.strandHv k
  t.guardLatch || t.ac0Latch || t.active != 0 || s.demandOn k || h.weld != 0 || h.isoRefused ||
    s.sys.incomplete.testBit k

/-- The precharge strand's turn: no strand is connected yet (R298). -/
def State.prechargeTurn (s : State) (k : Nat) : Bool := s.connMask == 0 && k == s.pn 0x0701

/-- How strand `k` would be closed now: `some true` by precharge, `some false` directly, none not at all, with the code of
the reason: 1 voltage invalid, 2 bus above strand, 3 voltage mismatch, 4 precharge refused, 5 barred. -/
def State.closePlan (s : State) (k : Nat) : Option Bool × Nat :=
  if s.strandBarred k || s.sys.mode != .run then (none, 5) else
  match s.vStrand k, s.vBus with
  | some v, some b =>
    let d : Int := s.pn 0x0705
    if s.prechargeTurn k then
      if v + d < b then (none, 2)
      else if v - d ≤ b then (some false, 0)
      else if 3 ≤ s.recentPrecharge.length then (none, 4)
      else (some true, 0)
    else if (v - b).natAbs ≤ s.pn 0x0705 then (some false, 0)
    else (none, 3)
  | _, _ => (none, 1)

/-- Start the next strand of a CONNECT_STRANDS; with none left it completes (R161, R297). Where the bus already stands at the
precharge strand's voltage, its positive contactor closes at once (R299). -/
def connectNext : List Nat → List Nat → Option Requester → State → State
  | [], results, by', s =>
    let s := { s with hv := { s.hv with connect := none } }
    match by' with
    | some r => complete r opConnect stOk noDetail (results.map (BitVec.ofNat 8 ·)) s
    | none => s
  | k :: rest, results, by', s =>
    if s.connected k then connectNext rest (setAt results k 0) by' s else
    match s.closePlan k with
    | (none, why) => connectNext rest (setAt results k 2) by' (note 0x6B why 1 k [] s)
    | (some pre, _) =>
      let direct := !pre && s.prechargeTurn k
      let q : ConnectSeq :=
        { strand := k, phase := if direct then .positive false else .negative, since := s.hv.rounds, rest := rest,
          results := results, by' := by', precharge := pre }
      let s := commandOn (s.soNeg k) s
      let s := if direct then commandOn (s.soPos k) s else s
      { s with hv := { s.hv with connect := some q } }

/-- The strand being connected fails: its contactors and the precharge contactor go off, and the next strand is tried
(R301, R303). -/
def connectFail (q : ConnectSeq) (s : State) : State :=
  connectNext q.rest (setAt q.results q.strand 2) q.by' (commandOff s.soPre (commandStrandOff q.strand s))

/-- The connection in progress is aborted from outside; the record of its strand says so, with code 6 (R161, R303). -/
def connectAbort (q : ConnectSeq) (s : State) : State := connectFail q (note 0x6B 6 1 q.strand [] s)

/-- Both contactors off at once; a connection in progress of that strand is aborted, and a weld check follows where the
strand was closed or closing (R303, R304). -/
def openStrand (k : Nat) (s : State) : State :=
  let was := s.connected k
  let s := (commandStrandOff k s).modHv k (fun h => { h with connected := false, contactorHigh := false })
  match s.hv.connect with
  | some q =>
    if q.strand = k then enqueueWeld k (connectAbort q s) else if was then enqueueWeld k s else s
  | none => if was then enqueueWeld k s else s

/-- Open every strand of a mask. -/
def openStrands (m : Nat) (s : State) : State :=
  (List.range 4).foldl (fun s k => if m.testBit k then openStrand k s else s) s

/-- A connection whose rest is given up: those strands have failed, each with a record (R161). -/
def ConnectSeq.alone (q : ConnectSeq) : ConnectSeq := { q with rest := [], results := q.rest.foldl (fun r k => setAt r k 2) q.results }

/-- No strand of the rest is tried any more: the connection ends with them failed. -/
def cancelConnect (s : State) : State :=
  match s.hv.connect with
  | none => s
  | some q => enqueueWeld q.strand (connectAbort q.alone (q.rest.foldl (fun s k => note 0x6B 6 1 k [] s) s))

/-- As `cancelConnect`, but a strand whose contactors have both been judged closed stays closed (R110). -/
def endConnect (s : State) : State :=
  match s.hv.connect with
  | some q =>
    if q.phase = .settle then
      connectNext [] (setAt q.alone.results q.strand 0) q.by'
        (commandOff s.soPre (q.rest.foldl (fun s k => note 0x6B 6 1 k [] s) s))
    else cancelConnect s
  | none => s

/-- Order in which a mask is handled: rising number, the precharge strand first when none is connected (R297). -/
def State.connectOrder (s : State) (m : Nat) : List Nat :=
  let l := (List.range 4).filter (fun k => m.testBit k)
  let p := s.pn 0x0701
  if s.connMask = 0 ∧ l.contains p then p :: l.filter (· != p) else l

/-- Begin a CONNECT_STRANDS of a mask. -/
def startConnect (m : Nat) (by' : Option Requester) (s : State) : State :=
  connectNext (s.connectOrder m) (List.replicate 4 1) by' s

/-- Phase of a connection replaced, beginning in this round. -/
def setPhase (q : ConnectSeq) (p : ConnectPhase) (s : State) : State :=
  { s with hv := { s.hv with connect := some { q with phase := p, since := s.hv.rounds } } }

/-- The bus voltage changes by less than 1 % per 10 ms: over the last 20 rounds (R298 step 5). -/
def State.busSteady (s : State) : Bool :=
  match s.hv.busHistory.head?, s.hv.busHistory[20]? with
  | some a, some b => 100 * (a - b).natAbs < b.natAbs || a == b
  | _, _ => false

/-- A precharge failure (R301, R302). -/
def prechargeFail (q : ConnectSeq) (s : State) : State :=
  let s := { s with hv := { s.hv with prechargeFails := s.recentPrecharge ++ [s.opMs] } }
  connectFail q (raiseStrand 0x6A q.strand s)

/-- The positive contactor has been judged closed: the strand is connected. -/
def strandClosed (q : ConnectSeq) (s : State) : State :=
  s.modHv q.strand (fun h => { h with connected := true })

/-- One round of the connection in progress (R298 to R300); a round is 500 µs. -/
def connectStep (s : State) : State :=
  match s.hv.connect with
  | none => s
  | some q =>
    let k := q.strand
    let t := s.hv.rounds - q.since
    let close := 2 * s.pn 0x0706
    match q.phase with
    | .negative =>
      if t < close then s
      else if !(s.readsClosed (s.uNeg k) && s.auxAgrees (0x0744 + k) true) then connectFail q (raiseStrand 0x6B k s)
      else if q.precharge then setPhase q (.precharge false) (commandOn s.soPre s)
      else setPhase q (.positive false) (commandOn (s.soPos k) s)
    | .precharge half =>
      match s.vStrand k, s.vBus with
      | some v, some b =>
        let half := half || decide (v ≤ 2 * b)
        let tmo := s.pn 0x0702
        if tmo ≤ 2 * t ∧ half = false then prechargeFail q s
        else if v * (s.pn 0x0704 : Int) ≤ 100 * b ∧ s.busSteady = true then
          if t < 2 * s.pn 0x0703 ∨ 2 * tmo < t then prechargeFail q s
          else setPhase q (.positive true) (commandOn (s.soPos k) (raiseStrand 0x69 k s))
        else if 2 * tmo ≤ t then prechargeFail q s
        else { s with hv := { s.hv with connect := some { q with phase := .precharge half } } }
      | _, _ => prechargeFail q s
    | .positive pre =>
      if t < close then s
      else if !(s.readsClosed (s.uPos k) && s.auxAgrees (0x0740 + k) true) then connectFail q (raiseStrand 0x6B k s)
      else if pre then setPhase q .settle (strandClosed q s)
      else connectNext q.rest (setAt q.results k 0) q.by' (strandClosed q s)
    | .settle =>
      if t < 40 then s
      else connectNext q.rest (setAt q.results k 0) q.by' (commandOff s.soPre s)

/-! ## The weld check (R305 to R308) -/

/-- An insulation result below 1 MΩ. -/
def lowOhms : Option Nat → Bool
  | some r => r < 1000000
  | none => false

/-- The last insulation result for the system checked is below 1 MΩ (R307): that of a system the strand belonged to, or, while
another strand is connected, the bus. DEDUCED: the check's bias joins strand and bus, so either counts. -/
def State.isoLow (s : State) (k : Nat) : Bool :=
  lowOhms (s.strandHv k).isoLast || (s.connMask != 0 && lowOhms (s.hv.iso.getD 0 none))

/-- A bias resistor of a weld check is connected: steps 2 and 3 of R305. -/
def State.biased (s : State) : Bool := match s.hv.welds with | j :: _ => j.step == 2 || j.step == 3 | [] => false

/-- A contactor's state by R296 in a test of the weld check: `some true` closed, `some false` open, none between. -/
def State.weldReading (s : State) (u : Option Int) (k aux : Nat) : Option Bool :=
  if s.readsClosed u && s.auxAgrees aux true then some true
  else if readsOpen u (s.vStrand k) && s.auxAgrees aux false then some false
  else none

/-- Verdict of R306 and R307: none undetermined, else 0 pass, 1 negative, 2 positive, 3 not attributed, 4 both. -/
def weldVerdict (isoLow high : Bool) (neg pos : Option Bool) : Option Nat :=
  if isoLow then none
  else if high then some 4
  else match neg, pos with
    | some false, some false => some 0
    | some true, some false => some 1
    | some false, some true => some 2
    | some true, some true => some 3
    | _, _ => none

/-- Drop the weld check at the head of the queue. -/
def popWeld (s : State) : State := { s with hv := { s.hv with welds := s.hv.welds.drop 1 } }

/-- The check of strand `k` ends with a verdict other than undetermined; the verdict is stored (R308). -/
def weldEnd (k v : Nat) (s : State) : State :=
  let s := (popWeld s).modHv k (fun h => { h with weld := v, weldPassed := v == 0 })
  if v = 0 then settleDisconnects k 0 (raiseStrand 0x6D k s)
  else settleDisconnects k 2 (raise 0x6C v 1 k [] s)

/-- An undetermined check: repeated once after 1 s; then event 0x6C, and the strand is not refused (R307). -/
def weldUndetermined (j : WeldJob) (s : State) : State :=
  if j.again then
    settleDisconnects j.strand 0 (raise 0x6C 5 1 j.strand []
      ((popWeld s).modHv j.strand (fun h => { h with weldPassed := false })))
  else
    { s with hv := { s.hv with welds := { j with step := 4, since := s.hv.rounds, again := true } :: s.hv.welds.drop 1 } }

/-- One round of the weld check at the head of the queue. Step 4 is the second's wait before the repeat. -/
def weldStep (s : State) : State :=
  match s.hv.welds with
  | [] => s
  | j :: rest =>
    let k := j.strand
    let t := s.hv.rounds - j.since
    let put := fun (j : WeldJob) (s : State) =>
      { s with hv := { s.hv with welds := { j with since := s.hv.rounds } :: rest, isoSkip := s.hv.isoSkip || j.step != 1 } }
    match j.step with
    | 0 => put { j with step := 1 } (commandStrandOff k s)
    | 1 => if t < 2 * s.pn 0x0707 then s
           else put { j with step := 2, currentHigh := (s.shuntMa k).natAbs > s.pn 0x0709 } s
    | 2 => if t < 60 then s else put { j with step := 3, neg := s.weldReading (s.uNeg k) k (0x0744 + k) } s
    | 3 => if t < 60 then s else
        match weldVerdict (s.isoLow k) j.currentHigh j.neg (s.weldReading (s.uPos k) k (0x0740 + k)) with
        | some v => weldEnd k v s
        | none => weldUndetermined j s
    | _ => if t < 2000 then s else put { j with step := 1 } s

end Sys2Proof.Machine
end

