-- ==== Sys2Proof/Machine/Protect.lean ====
section
/-! DEFINITION. Reactions of the safety functions (R471 to R473, R490), the strand limits, and the faults that count as
present (R489). -/
namespace Sys2Proof.Machine
open Sys2Proof

/-! ## Transfers stop (R322, R323) -/

/-- A descriptor without its XFER_START entries; none where nothing is left. -/
def RingDesc.withoutStarts (d : RingDesc) : Option RingDesc :=
  let es := d.entries.filter (fun e => e.code != 0x10)
  if es.isEmpty then none else some { d with entries := es }

/-- Request XFER_STOP_ALL on ring `k` and end the plan in force; XFER_START entries not yet sent are dropped (R323, R324). -/
def endTransfers (k : Nat) (s : State) : State :=
  let s := askStopAll k (s.modRing k (fun g =>
    { g with queue := g.queue.filterMap (·.withoutStarts), kept := g.kept.filterMap (·.withoutStarts) }))
  let s := s.modBal k (fun b =>
    { b with active := false, trimSat := none, trimRun := 0, donorMw := 0, leases := b.leases.map (fun l => { l with held := false }) })
  s.modMeas k (fun m => { m with
    cells := m.cells.map (fun c => { c with role := 0, trim := false, current10 := 0 }),
    owt := m.owt.map (fun t => if t.mode = 1 then { t with posted := false, armed := false } else t) })

/-- A stop condition arises on strand `k`: planning stops, with event 0x72 where it was running, and cells that took part carry
reason 8 (R322, R323, R326, R346). -/
def stopTransfers (k : Nat) (s : State) : State :=
  let s := if (s.balOf k).stopped then s else raiseStrand 0x72 k s
  ((endTransfers k s).modBal k (fun b => { b with stopped := true })).modMeas k (fun m => { m with
    cells := m.cells.map (fun c => { c with reason := if c.reason = 0 then 8 else c.reason }) })

/-- The same on every enabled ring. -/
def stopAllTransfers (s : State) : State :=
  (List.range 4).foldl (fun s k => if s.enabled k then stopTransfers k s else s) s

/-! ## Strand limits (R258, R283, R385, R386, R389) -/

/-- Share of the estimator's limits in force, %: the wire derate and the sum cap. -/
def State.limitCap (s : State) (k : Nat) : Nat :=
  let w := if (List.range 512).any (fun c => !s.masked k c && (s.cell k c).invalidWire) then s.pn 0x060A else 100
  let d := if (s.strandHv k).sumFlag then 50 else 100
  min w d

/-- Limits in force of strand `k`, mA: discharge and charge. -/
def State.limits (s : State) (k : Nat) : Nat × Nat :=
  let e := s.estOf k
  if s.sys.mode = .hollow then e.frozen.getD (0, 0)
  else (e.limitDis * s.limitCap k / 100, e.limitChg * s.limitCap k / 100)

/-! ## Strand trips -/

/-- AC0 withdraws its command of every output in a mask (R473). -/
def withdraw (m : Nat) (s : State) : State :=
  { s with guard := { s.guard with commands := s.guard.commands &&& (4095 ^^^ (m % 4096)) } }

/-- A cause of strand `k` begins: its bit stands among the active causes and in the cause word (R499). -/
def causeOn (k b : Nat) (s : State) : State :=
  s.modTrip k (fun t => { t with active := maskSet t.active b true, word := maskSet t.word b true })

/-- A cause of strand `k` ends; the trip holds until STRAND_TRIP_CLEAR (R472). -/
def causeOff (k b : Nat) (s : State) : State :=
  s.modTrip k (fun t => { t with active := maskSet t.active b false, endedAt := s.time.now })

/-- Strand trip: the latch of the channel that detected it is set, AC0 withdraws the commands of every output mapped to
the strand, transfers stop, and the strand opens (R322, R471, R473). -/
def tripStrand (k b : Nat) (byGuard : Bool) (s : State) : State :=
  let s := (causeOn k b s).modTrip k (fun t =>
    if byGuard then { t with guardLatch := true } else { t with ac0Latch := true })
  stopTransfers k (openStrand k (withdraw (s.ac0Map k ||| s.guardMap k) s))

/-- A cause holds or has ended; where it is new, its event is raised and the strand trips. -/
def judgeTrip (k b : Nat) (byGuard holds : Bool) (event : State → State) (s : State) : State :=
  let was := (s.tripOf k).active.testBit b
  if holds then if was then s else tripStrand k b byGuard (event s)
  else if was then causeOff k b s else s

/-! ## Faults present (R489) -/

/-- A lane of any satellite in its run of OV, or OT, flags; or a primary condition. -/
def State.cellFaults (s : State) : List Nat :=
  let lane := fun (p : GuardLane → Bool) => s.guard.lanes.any (fun l => l.any p)
  let trip := fun (p : TripState → Bool) => s.guard.trips.any p
  (if lane (fun l => l.admitted && l.ov != 0) then [0xA5] else []) ++
  (if trip (·.primOv) then [0xAA] else []) ++
  (if lane (fun l => l.admitted && l.ot != 0) then [0xA7] else []) ++
  (if trip (·.primOt) then [0xAC] else [])

/-- A channel of an enabled pair whose latest own, or foreign, test-pulse check failed (R485). -/
def State.pulseFails (s : State) (own : Bool) : Bool :=
  (List.range 16).any (fun i => s.pairOn (i / 2) &&
    (if own then s.guard.ownFails.getD i 0 != 0 else (List.range 4).any (fun g => s.guard.foreignFails.getD (4 * i + g) 0 != 0)))

/-- Safety output verdicts that are lockout faults: 4, 5 and 7 (R519). -/
def soFault (v : Nat) : Bool := v == 4 || v == 5 || v == 7

/-- Stored weld verdicts (R306, R489). -/
def State.weldStored (s : State) : Bool := s.hv.strands.any (·.weld != 0)

/-- Sources of the lockout faults present, in the order of R489. -/
def State.faultsPresent (s : State) : List Nat :=
  s.cellFaults ++
  (if s.gn 0x0C08 != 0 && s.guard.trips.any (·.ocNow) then [0xA4] else []) ++
  (if (List.range 8).any (fun p => s.pairOn p && (s.pairOf p).aClosed != (s.pairOf p).bClosed) then [0xB2] else []) ++
  (if s.pulseFails true then [0xB3] else []) ++
  (if s.pulseFails false then [0xB4] else []) ++
  (if s.field.so.any (fun o => soFault o.verdict) then [0xB9] else []) ++
  (if s.guard.enableFails.any (· != 0) || s.guard.selfTestBad then [0xBE] else []) ++
  (if s.guard.valid then [] else [0xBA]) ++
  (if s.guard.oscFails != 0 then [0xBF] else []) ++
  (if s.weldStored then [0x6C] else [])

/-- Faults only AC0 sees, which its word to the guard die reports (R127). -/
def State.ac0Faults (s : State) : Bool :=
  s.guard.trips.any (fun t => t.primOv || t.primOt) || s.weldStored || s.field.so.any (fun o => soFault o.verdict) ||
    s.guard.oscFails != 0

/-- Faults the guard die counts as present (R127). -/
def State.guardFaults (s : State) : Bool :=
  s.sys.lock.ac0Fault || s.sys.lock.ac0Silent || !s.faultsPresent.isEmpty

/-- A fault seen while LOCK_RST is held spoils the press (R127). -/
def spoilPress (s : State) : State :=
  if s.pins.lockRst.isSome && !s.faultsPresent.isEmpty then { s with pins := { s.pins with lockFault := true } } else s

end Sys2Proof.Machine
end

