-- ==== Sys2Proof/Machine/Modes.lean ====
section
/-! DEFINITION. Mode changes, lockout, HOLLOW, the state journal, resets and loss of power (chapters 03, 04 and 13). -/
namespace Sys2Proof.Machine
open Sys2Proof

/-! ## The journal (R99, R100) -/

/-- The entry written now: the update it describes, with the wire verdicts of the moment, and the next sequence number (R99,
R260). -/
def State.journalEntry (cause : Nat) (s : State) : JournalSlot :=
  let top := match s.feed.slotA, s.feed.slotB with
    | some x, some y => if seqBefore x.seq y.seq then y.seq else x.seq
    | some x, none => x.seq
    | none, some y => y.seq
    | none, none => 0xFFFFFFFF
  { seq := (top + 1) % 2 ^ 32, cause := cause, strandMask := s.pn 0x0502, timebase := s.est.summaryOf.2.1,
    netTime := s.est.summaryOf.2.2, opSec := s.time.opSec, powerCycles := s.time.powerCycles,
    updateIndex := s.est.summaryOf.1,
    cells := s.est.summary.zipIdx.map (fun e => { e.1 with invalidWire := (s.cell (e.2 / 512) (e.2 % 512)).invalidWire }) }

/-- The next entry goes to slot A: it is invalid, or the older one (R99). -/
def FeedState.journalToA (f : FeedState) : Bool :=
  match f.slotA, f.slotB with
  | none, _ => true
  | some _, none => false
  | some x, some y => seqBefore x.seq y.seq

/-- A slot's new contents. -/
def FeedState.putSlot (f : FeedState) (toA : Bool) (v : Option JournalSlot) : FeedState :=
  if toA then { f with slotA := v } else { f with slotB := v }

/-- Write a journal entry into the older or invalid slot; a periodic write in progress is abandoned and its slot, which is
invalid meanwhile, takes the entry from its start (R96, R99). -/
def journalWrite (cause : Nat) (s : State) : State :=
  let f : FeedState := { s.feed with journalBusy := none }
  { s with feed :=
    match s.feed.journalBusy with
    | some (toA, _) => f.putSlot toA (some (s.journalEntry cause))
    | none => f.putSlot f.journalToA (some (s.journalEntry cause)) }

/-- A periodic write begins; until it ends its slot fails its CRC (R96, R100, R102). -/
def journalBegin (s : State) : State :=
  if s.feed.journalBusy.isSome then s else
  let a := s.feed.journalToA
  { s with feed := { s.feed.putSlot a none with journalBusy := some (a, s.journalEntry 1) } }

/-- The periodic write in progress ends. DESIGN CHOICE: the spec gives no duration; it ends at the next frame boundary. -/
def journalEnd (s : State) : State :=
  match s.feed.journalBusy with
  | some (a, v) => { s with feed := { s.feed.putSlot a (some v) with journalBusy := none } }
  | none => s

/-- A journal entry of a reset; the spec gives its cause code no value. Without a completed model update there is nothing to
describe (R100). -/
def journalBeforeReset (s : State) : State :=
  if s.sys.mode = .hollow ∨ s.est.summary = [] then s else
  journalWrite (Config.freeNat s.free % 256) { s with free := s.free + 1 }

/-- Counters written to data NVM (R92, R97). -/
def writeCounters (s : State) : State :=
  { s with feed := { s.feed with nvm :=
      { opSec := s.time.opSec, powerCycles := s.time.powerCycles, noSaddle := s.time.noSaddle,
        feedEvents := s.feed.eventCounts } } }

/-! ## Mode changes -/

/-- CONFIG word of a loop slot in use. -/
def LoopState.config (l : LoopState) : Nat := l.words.getD 0 0

/-- ENABLE of a loop slot. -/
def LoopState.enabled (l : LoopState) : Bool := l.config.testBit 31

/-- Code of a loop mode (chapter 12). -/
def loopModeCode : LoopMode → Nat
  | .off => 0 | .manual => 1 | .auto => 2 | .hold => 3 | .track => 4

/-- Loop `n` in another mode, with event 0x90 where it differs (R465). -/
def setLoopMode (n : Nat) (m : LoopMode) (s : State) : State :=
  match s.loop.loops[n]? with
  | none => s
  | some l =>
    let s := { s with loop := { s.loop with loops := modAt s.loop.loops n (fun l => { l with mode := m, commanded := none }) } }
    if l.mode = m then s else raise 0x90 0 6 n [] s

/-- A loop put into HOLD for HOLLOW: the output at entry becomes the manual value (R451, chapter 12). -/
def hollowHold (n : Nat) (s : State) : State :=
  setLoopMode n .hold { s with loop := { s.loop with loops := modAt s.loop.loops n (fun l =>
    { l with manual := l.uPrev, preset := false, hollowStopped := true }) } }

/-- Loops on entry to a mode (R451). -/
def loopsFollow (m : Mode) (s : State) : State :=
  match m with
  | .hollow =>
    let stops := fun (l : LoopState) => l.enabled && !l.config.testBit 30
    let l := (List.range 32).filter (fun n => match s.loop.loops[n]? with | some l => stops l | none => false)
    let s := l.foldl (fun s n => hollowHold n s) s
    if l.isEmpty then s else raise0 0x98 s
  | .thermalLock | .start | .loader | .hibernate =>
    let s := (List.range 32).foldl (fun s n => setLoopMode n .off s) s
    { s with bal := s.bal.map (fun b => { b with ceiling := none }) }
  | _ => s

/-- Outputs of the contactor services. -/
def State.contactorMask (s : State) : Nat :=
  maskOf 12 (fun x => x == s.soPre || (List.range 4).any (fun k => x == s.soPos k || x == s.soNeg k))

/-- Leaving SERVICE discards every staged parameter of block 0x0C and relocks the guarded set (R111). -/
def leaveService (s : State) : State :=
  { s with param := { s.param with shadow := s.param.shadow.filter (fun e => e.1 / 256 != 0x0C), unlocked := none } }

/-- Leaving RUN clears `FIO.SO_CMD` and withdraws the outputs it commands (R517); no further strand is connected, and under
limp one that has closed stays so (R110). -/
def leaveRun (limp : Bool) (s : State) : State :=
  let s := if limp then endConnect s else cancelConnect s
  let s := withdraw (4095 ^^^ s.contactorMask) s
  { s with field := { s.field with soCmd := 0 } }

/-- Limits frozen on entry to HOLLOW (R110, R389): the derated limits in force, or 0 where the contactors open. Learning stops with the
estimator: no cycle stays open. -/
def freezeLimits (keep : Bool) (s : State) : State :=
  (List.range 4).foldl (fun s k =>
    let l := s.limits k
    let d := s.pn 0x0105
    s.modEst k (fun e => { e with
      frozen := some (if keep then (l.1 * d / 100, l.2 * d / 100) else (0, 0)),
      cells := e.cells.map (fun c => { c with cycle := none }) })) s

/-- Open every strand and withdraw every safety output command. -/
def allOff (s : State) : State := withdraw 4095 (openStrands 15 (cancelConnect s))

/-- Tell both transports of a mode change (R137) and mark event 0x00. DEDUCED: R104 says that code 0x08 appears in the cause
field; R137 makes that field an event source number, which is followed, and 0x08 appears as the new code only. -/
def modeChanged (old new : Mode) (cause : Nat) (s : State) : State :=
  let body := answer stOk noDetail ([BitVec.ofNat 8 (modeCode old), BitVec.ofNat 8 (modeCode new), BitVec.ofNat 8 cause, 0] ++
    leBytes 8 s.time.now)
  let tell := fun (p : Port) (s : State) =>
    if s.transport p then postDroppable p { opcode := 0xFF02, tag := 0, isReply := false, payload := body } s else s
  let s := raise 0x00 (modeCode new) 0 0 (leBytes 1 (modeCode old) ++ leBytes 1 (modeCode new) ++ leBytes 1 cause) s
  irq .spi 4 (tell .can (tell .spi s))

/-- The module enters a mode (R104, R106, R107, R110, R111, R322, R451); `cause` is the event source of R137. -/
def enterMode (new : Mode) (cause : Nat) (s : State) : State :=
  let old := s.sys.mode
  if old = new then s else
  let limp := decide (new = .hollow) && s.pn 0x0102 == 1
  let s := if new = .hollow then freezeLimits limp s else s
  let s := if old = .service then leaveService s else s
  let s := if old = .run then leaveRun limp s else s
  let s := if new = .run ∨ limp = true then s else allOff s
  let s := if new = .standby ∨ new = .run then s else stopAllTransfers s
  let s := { s with sys := { s.sys with mode := new, limp := limp && s.connMask != 0 } }
  modeChanged old new cause (loopsFollow new s)

/-! ## Lockout and HOLLOW (R107, R471, R490) -/

/-- Modes in which the safety functions are evaluated (R474), and THERMAL_LOCK, where a cause is still added (R107). -/
def State.evaluates (s : State) : Bool :=
  match s.sys.mode with
  | .standby | .run | .service | .hollow | .lockout | .thermalLock => true
  | .start => s.sys.ready && 14 ≤ s.sys.step
  | _ => false

/-- A lockout fault: the first sets the latch and its record, withdraws every output and enters LOCKOUT; a later one adds
its cause (R471, R490). -/
def lockout (src : Nat) (s : State) : State :=
  if !s.evaluates then s else
  let s := { s with pins := { s.pins with lockFault := true } }
  if s.sys.lock.latch then
    if s.sys.lock.causes.contains src then s
    else raise 0xA1 0 10 src []
      { s with sys := { s.sys with lock := { s.sys.lock with causes := s.sys.lock.causes ++ [src] } } }
  else
    let s := { s with sys := { s.sys with lock := { s.sys.lock with latch := true, record := true, causes := [src] } } }
    let s := allOff (raise 0xA0 0 10 src [] s)
    match s.sys.mode with
    | .start => { s with sys := { s.sys with startLockout := some src } }
    | .thermalLock => s
    | _ => enterMode .lockout src s

/-- A health window fails at once; the hand-back waits for the saddle point (R692, R693). -/
def failWindow (s : State) : State :=
  match s.upd.comps.findIdx? (fun c => c.window.isSome) with
  | some c => { s with upd := { s.upd with fallback := some c } }
  | none => s

/-- The silt record of a failed step (R119); the spec names no code, the model's one carries the step. -/
def stepFailed (step kind idx : Nat) (s : State) : State := note 0x00 (0x80 + step) kind idx [] s

/-- A fault found in the middle of a start gets the record that names its step, the one that runs (R119). -/
def startRecord (s : State) : State := if s.sys.mode == .start then stepFailed (s.sys.step + 1) 0 0 s else s

/-- A HOLLOW fault (R107, R108); `src` is its event source. -/
def hollowFault (src : Nat) (s : State) : State :=
  let s := failWindow s
  let s := { s with sys := { s.sys with hollowFault := true } }
  match s.sys.mode with
  | .standby | .run | .service => enterMode .hollow src s
  | _ => s

/-! ## Resets and loss of power (R95, R122 to R126) -/

/-- What every reset keeps (R124): data NVM, PD0's counters, the latches of PD1, and the outside world's levels. Everything
else is lost. DEDUCED: the feed monitor is on PD0, so the feeds, the proof-failed mark (R87: until a later test passes) and the
schedule of R730 stay over a reset, and go with the power; R124 does not list them. The registers of the satellites stay as
long as their own supply lasts (R734), and the wire verdicts over every reset (R260). -/
def keepNvm (s : State) : State :=
  { State.reset with
    time := { now := s.time.now, opSec := s.time.opSec, opSub := s.time.opSub, powerCycles := s.time.powerCycles,
              noSaddle := s.time.noSaddle, tb1Disciplined := s.time.tb1Disciplined },
    pins := { vio := s.pins.vio },
    sys := { powered := true, resetCause := s.sys.resetCause, imageFlag := s.sys.imageFlag,
             hibernateByTwoWire := s.sys.hibernateByTwoWire,
             lock := { latch := s.sys.lock.latch, record := s.sys.lock.record, causes := s.sys.lock.causes,
                       thermal := s.sys.lock.thermal } },
    feed := { s.feed with proof := none, commit := none, recovered := false, journalDue := false, journalBusy := none,
                          code := if s.feed.code = .proof ∨ s.feed.code = .commit then s.feed.codeBefore else s.feed.code },
    silt := siltNvm s.silt,
    param := { applied := s.param.applied, wrongCount := s.param.wrongCount, blockEnd := s.param.blockEnd,
               defaultsMark := s.param.defaultsMark },
    rings := s.rings.map (fun g => { sats := g.sats.map (fun x => { regs := x.regs }) }),
    meas := s.meas.map (fun m => { broken := m.broken }),
    hv := { strands := s.hv.strands.map (fun h => { weld := h.weld }) },
    guard := { changeLog := s.guard.changeLog,
               pairs := s.guard.pairs.map (fun p => { aClosed := p.aClosed, bClosed := p.bClosed, demanded := !(p.aClosed && p.bClosed) }),
               trips := s.guard.trips.map (fun t => { ocNow := t.ocNow }) },
    field := { di := s.field.di, diRaw := s.field.diRaw, lplus := s.field.lplus },
    mem := tearMemory s.mem,
    thermal := { asserted := s.thermal.asserted },
    clock := { drift := s.clock.drift },
    banks := { banks := List.zipWith (fun (b o : BankState) => { b with repaired := o.repaired, marked := o.marked })
                 banksReset s.banks.banks },
    upd := { s.upd with verify := none, handover := none, toSwitch := [], switched := [], fallback := none,
                        hibernateAfter := none, abortBy := [] },
    ident := s.ident, free := s.free, pending := s.pending }

/-- A reset is asserted (R122, R123): every enable is withdrawn, everything volatile is lost, and the module is held until
its RESET_START. -/
def resetModule (code : Nat) (s : State) : State :=
  let k := keepNvm s
  { k with sys := { k.sys with held := some code } }

/-- A reset that writes the journal and flushes the silt log first; from THERMAL_LOCK the journal of its entry stands
(R123). -/
def resetWithJournal (code : Nat) (s : State) : State :=
  let s := if (code = 0x04 ∨ code = 0x08 ∨ code = 0x09) ∧ s.sys.mode ≠ .thermalLock then writeAllMemory s else s
  resetModule code (siltFlush (if s.sys.mode = .thermalLock then s else journalBeforeReset s))

/-- The module is unpowered: the latches of PD1 and PD0's flags are lost, the records in data NVM stay (R95, R126). -/
def powerDown (s : State) : State :=
  let k := keepNvm s
  { k with
    time := { k.time with tb1Disciplined := false },
    sys := { k.sys with powered := false, held := none, resetCause := 0, imageFlag := false, hibernateByTwoWire := false,
                        lock := { record := s.sys.lock.record, causes := if s.sys.lock.record then s.sys.lock.causes else [] } },
    feed := { nvm := s.feed.nvm, slotA := s.feed.slotA, slotB := s.feed.slotB, eventCounts := s.feed.eventCounts },
    meas := s.meas.map (fun _ => {}), guard := { changeLog := s.guard.changeLog }, mem := tearMemory s.mem, field := {}, thermal := {}, clock := {} }

/-- The module enters HIBERNATE: counters and journal are written by now, and everything but PD0 and PD1 is off (R112). -/
def enterHibernate (s : State) : State :=
  let k := keepNvm (siltFlush (modeChanged s.sys.mode .hibernate 0 s))
  { k with sys := { k.sys with mode := .hibernate } }

end Sys2Proof.Machine
end

