-- ==== Sys2Proof/Machine/Rings.lean ====
section
/-! DEFINITION. Lermet rings: enumeration, splits, triggers, COLLECTs and command descriptors (chapter 06). -/
namespace Sys2Proof.Machine
open Sys2Proof

/-! ## Presence and admission -/

/-- Event source of ring `r` (R48, R49). -/
def ringSource (r off : Nat) : Nat := 0x20 + 8 * r + off

/-- Addresses of the admitted satellites of a ring, in its order. -/
def RingState.roster (g : RingState) : List Nat := (List.range 32).filter (fun n => (g.sat n).admitted)

/-- Addresses of the admitted satellites on reachable halves. -/
def RingState.admittedSet (g : RingState) : List Nat := (List.range 32).filter (fun n => (g.sat n).usable)

/-- A strand is complete: enumerated, no surplus, every expected satellite admitted, reachable and confirmed, and none
present that is not admitted (R207, R208, R222, R477). -/
def State.ringComplete (s : State) (r : Nat) : Bool :=
  let g := s.ring r
  g.enumerated && !g.surplus && g.phase == .idle && g.reAddr.isNone &&
  (List.range 32).all (fun n =>
    if n < s.satCount r then (g.sat n).usable && (g.sat n).confirmed
    else (g.sat n).ident.isNone)

/-- Recompute the incomplete report of strand `r`; transfers stop where it becomes incomplete (R322). -/
def updateIncomplete (r : Nat) (s : State) : State :=
  let inc := s.enabled r && !s.ringComplete r
  let was := s.sys.incomplete.testBit r
  let s := { s with sys := { s.sys with incomplete := maskSet s.sys.incomplete r inc } }
  if inc && !was then stopTransfers r s else s

/-- The supervisor writes the admitted addresses of ring `r` to the guard die (R200, R476). -/
def writeAdmitted (r : Nat) (s : State) : State :=
  let g := s.ring r
  let old := s.guard.lanes.getD r []
  let new := (List.range 32).map (fun n =>
    let l := old.getD n {}
    if (g.sat n).usable then (if l.admitted then l else { admitted := true }) else {})
  let removed := (List.range 32).any (fun n => (old.getD n {}).admitted && !(g.sat n).usable)
  let live := (List.range 12).any (fun x => (s.guardMap r).testBit x && s.guardEnable x)
  let s := { s with guard := { s.guard with lanes := setAt s.guard.lanes r new,
                                            admitWritten := setAt s.guard.admitWritten r true } }
  let s := if removed && live then tripStrand r 5 true (raiseStrand 0xA9 r s) else s
  if new.any (·.lost) then s else causeOff r 5 s

/-- Store the serials of an enumeration in battery memory (R206 step 7, R417): tells whether the admitted set or a serial
differs from what was stored. -/
def storeSerials (r : Nat) (s : State) : State × Bool :=
  (List.range 32).foldl (fun (q : State × Bool) n =>
    let s := q.1
    let x := (s.ring r).sat n
    let m := (s.mem.sats[32 * r + n]?).map (·.ram)
    match m with
    | none => q
    | some m =>
      let known := !zeros m.serial
      match x.admitted, x.ident with
      | true, some i =>
        if m.serial = i.serial then q
        else if known then
          let f := fun (e : MemRecord SatMem) =>
            { e with
              ram := { e.ram with serial := i.serial, surveyed := 0, connections := List.replicate 17 0 },
              dirty := true, urgent := true }
          (raiseSat 0x8F r n { s with mem := { s.mem with sats := modAt s.mem.sats (32 * r + n) f } }, true)
        else
          let f := fun (e : MemRecord SatMem) => { e with ram := { e.ram with serial := i.serial }, dirty := true }
          ({ s with mem := { s.mem with sats := modAt s.mem.sats (32 * r + n) f } }, q.2)
      | _, _ => (s, q.2 || known)) (s, false)

/-! ## Configuration entries (R477, R724) -/

/-- OV, UV and OT codes of SET_THRESHOLDS (R477). -/
def State.thresholdCodes (s : State) : Nat × Nat × Nat :=
  (ceilDiv (s.pn 0x0C03 + s.pn 0x0C06) 1500, (s.pn 0x0C04 - s.pn 0x0C06) / 1500, s.pn 0x0C07)

/-- SET_LATENCY of satellite `n`. -/
def RingState.latencyEntry (g : RingState) (n : Nat) : RingEntry :=
  { addr := n, code := 0x04, args := padTo 8 (leBytes 2 (g.sat n).latency) }

/-- The entries the module sends a satellite at enumeration, at re-addressing and at an apply of a source (R724). DEDUCED: register
0x0015 is not among them; its row names SLEEP as the command that writes it, which would put the satellite to sleep. -/
def State.configEntries (s : State) (r n : Nat) : List RingEntry :=
  let t := s.thresholdCodes
  let wr := fun (reg v : Nat) => ({ addr := n, code := 0x03, args := padTo 8 (leBytes 2 reg ++ leBytes 4 v) } : RingEntry)
  [ (s.ring r).latencyEntry n,
    { addr := n, code := 0x21, args := padTo 8 (leBytes 2 t.1 ++ leBytes 2 t.2.1 ++ leBytes 2 t.2.2) },
    wr 0x0013 (s.pn (0x0680 + 32 * r + n)), wr 0x0014 (s.pn 0x080B), wr 0x0016 (s.pn 0x1502) ]

/-- What a satellite's registers hold after an entry of the module is done (R724). -/
def SatState.took (x : SatState) (e : RingEntry) : SatState :=
  if e.code = 0x04 then { x with regs := setAt x.regs 7 (field e.args 0 2) }
  else if e.code = 0x21 then
    { x with confirmed := true,
             regs := setAt (setAt (setAt x.regs 0 (field e.args 0 2 % 4096)) 1 (field e.args 2 2 % 4096)) 2 (field e.args 4 2 % 4096) }
  else if e.code = 0x03 ∧ 0x10 ≤ field e.args 0 2 ∧ field e.args 0 2 < 0x18 then
    { x with regs := setAt x.regs (field e.args 0 2 - 0x10) (field e.args 2 4) }
  else x

/-- Post a descriptor to Q8 + r; false where the queue is full, or where it is a plan while a stop condition holds (R43, R324). -/
def postRing (r : Nat) (d : RingDesc) (s : State) : State × Bool :=
  if d.purpose == .plan && (s.balOf r).stopped then (s, false)
  else if s.qDepth (8 + r) ≤ (s.ring r).queue.length then (raise 0x09 0 0 0 (leBytes 1 (8 + r)) s, false)
  else (s.modRing r (fun g => { g with queue := g.queue ++ [{ d with posted := s.time.now }] }), true)

/-- Post a descriptor that its producer keeps where the queue is full, in place of an earlier one of the same purpose (R43,
R325). -/
def postOrKeep (r : Nat) (d : RingDesc) (s : State) : State :=
  let q := postRing r d s
  let s := q.1.modRing r (fun g => if d.purpose == .stop then g else { g with kept := g.kept.filter (fun e => e.purpose != d.purpose) })
  if q.2 then s else s.modRing r (fun g => { g with kept := g.kept ++ [d] })

/-- Kept descriptors enter the queue as far as it has room. -/
def refillRing (r : Nat) (s : State) : State :=
  let n := s.qDepth (8 + r) - (s.ring r).queue.length
  s.modRing r (fun g => { g with
    queue := g.queue ++ (g.kept.take n).map (fun d => { d with posted := s.time.now }), kept := g.kept.drop n })

/-- Configuration queued after an apply changed a source of R724. -/
def queueConfig (r : Nat) (s : State) : State :=
  let es := (s.ring r).admittedSet.flatMap (s.configEntries r)
  if es.isEmpty then s else postOrKeep r { purpose := .config, entries := es } s

/-- Entries at the head of a list for one half, at most 16 (R201, R222). -/
def RingState.oneHalf (g : RingState) (es : List RingEntry) : List RingEntry :=
  match es with
  | [] => []
  | e :: _ => (es.takeWhile (fun x => g.onOut x.addr == g.onOut e.addr)).take 16

/-- The next COMMAND of an enumeration or a search, outside the queue (step 6 of R206 and of R221). -/
def RingState.sendDirect (g : RingState) : RingState :=
  let l := g.oneHalf g.direct
  if g.inFlight.isSome || l.isEmpty then g
  else { g with direct := g.direct.drop l.length }.sendCommand { purpose := .config, entries := l }

/-! ## Periods and command windows (R210 to R216) -/

/-- Snapshot period in µs under a set of applied parameters, capped while the pacer is at its third step or a power-fail
commit runs (R210, R216). -/
def State.snapPeriod (s : State) (p : ParamState) : Nat :=
  let period := 1000000 / p.nat 0x0501
  if s.thermal.step = 3 ∨ s.feed.commit.isSome then max 10000 period else period

/-- Model period, µs, under a set of applied parameters: four times as long while the pacer is at a step (R347). -/
def State.modelPeriod (s : State) (p : ParamState) : Nat := (if s.thermal.step = 0 then 1000000 else 4000000) / p.nat 0x0901

/-- Converters of the strand stop around a snapshot: `CELL.BLANKING`, but not during a connection survey (R253, R266). -/
def State.blanking (s : State) (r v : Nat) : Bool :=
  v == 1 && (match (s.measOf r).owt with | some t => t.mode == 0 | none => true)

/-- Length of the command window in half-bits, from the COLLECT's length, the loop latency and the period; the two halves of
split operation are collected 10 µs apart (R212). -/
def State.windowLength (s : State) (r : Nat) : Nat :=
  let g := s.ring r
  let block := if s.pn 0x0604 = 1 then 640 else 472
  let n := g.pairs.length
  let collect := 80 * n + 320 * (n - 1) + g.admittedSet.length * (32 + block + 16)
  let period := s.snapPeriod s.param
  let tail := if s.blanking r (s.pn 0x0602) then 2 * 146 + 1 else 160
  64 * period - 32 * tail - (64 * 80 + 2 * collect + g.loopLatency)

/-- Half-bits a COMMAND of `k` entries takes with its responses. -/
def commandCost (latency k : Nat) : Nat := 2 * (80 + 256 * k) + latency

/-- Most entries, at most 16, whose COMMAND with responses fits a window. -/
def entriesThatFit (window latency : Nat) : Nat :=
  min 16 ((window - latency - 160) / 512)

/-- Entries a window holds in consecutive COMMANDs of at most 16, each followed by its idle (R191, R213, R332). -/
def entriesInWindow (window latency : Nat) : Nat :=
  let full := commandCost latency 16 + 64
  16 * (window / full) + entriesThatFit (window % full) latency

/-- Take so many half-bits, and the idle after the frame, from the window. -/
def RingState.spend (cost : Nat) (g : RingState) : RingState := { g with window := g.window - (cost + 64) }

/-- Half-bits of the unaddressed-only ENUMERATE with one identity entry, and of a PROBE there and back (R204, R205, R208). -/
def stageCost (latency stage : Nat) : Nat := if stage = 0 then 2 * (80 + 192) + latency else 2 * 80 + 64 + 2 * latency

/-- Send the next COMMAND of the descriptor at the head where the window has room for it; those of R208 as one frame. -/
def RingState.sendQueued (g : RingState) : RingState :=
  match g.queue with
  | [] => g
  | d :: rest =>
    let k := min (g.oneHalf d.entries).length (entriesThatFit g.window g.loopLatency)
    if k = 0 || (d.purpose == .reAddress && k < d.entries.length) then g else
    let left := d.entries.drop k
    let g := { g with queue := if left.isEmpty then rest else { d with entries := left } :: rest }
    (g.sendCommand { d with entries := d.entries.take k }).spend (commandCost g.loopLatency k)

/-- The next frame of the command window: requests of R214, the frames of R208, then the queue, one frame at a time (R208, R213,
R214). -/
def sendNext (r : Nat) (s : State) : State :=
  let s := ringGap r s
  let g := s.ring r
  if g.inFlight.isSome then s else
  match g.reAddr with
  | some (n, 0) =>
    let c := stageCost g.loopLatency 0
    if g.window < c then s else s.modRing r (fun g => { (g.sendUnaddressed n).spend c with reAddr := some (n, 1) })
  | some (n, 2) =>
    let c := stageCost g.loopLatency 2
    if g.window < c then s else s.modRing r (fun g => { (g.sendProbe (g.onOut n) n).spend c with reAddr := some (n, 3) })
  | some (_, 1) | some (_, 3) => s
  | _ => refillRing r (s.modRing r RingState.sendQueued)

/-! ## Enumeration, probing and breaks (R206, R221) -/

/-- What a ring leaves of its frame in flight: the descriptor goes back to the head of the queue, a frame of R208 is sent again
(R221). -/
def RingState.abandon (g : RingState) : RingState :=
  { g with
    awaiting := none, collectSent := false, lostRun := 0, window := 0, direct := [], inFlight := none,
    queue := (match g.inFlight with | some d => if g.phase == .idle then d :: g.queue else g.queue | none => g.queue),
    reAddr := g.reAddr.map (fun e => (e.1, if e.2 = 1 ∨ e.2 = 3 then e.2 - 1 else e.2)) }

/-- A ring on which nothing answers is down: its strand is incomplete, and the guard die admits none of its satellites. -/
def ringDown (r : Nat) (s : State) : State :=
  writeAdmitted r (updateIncomplete r (s.modRing r (fun g => { g with phase := .idle, op := .down })))

/-- ENUMERATE on the loop, or on each half (steps 3 and 4a of R206). -/
def askEnumerate (r : Nat) (s : State) : State :=
  if (s.ring r).pairs.isEmpty then ringDown r s
  else s.modRing r (fun g => { g.sendEnumerate with phase := .enumerating })

/-- Begin a full enumeration at step 3 of R206, of the loop or of the halves a search has found: the ring takes no snapshots and
its strand is incomplete until it ends. Requests of R214 leave first. -/
def startEnumOf (halves : Bool) (r : Nat) (s : State) : State :=
  let s := (ringGap r s).modRing r (fun g =>
    let q := g.abandon
    { q with
      op := .enumerating, phase := .enumerating, enumerated := false, leftSplit := g.leftSplit || g.op == .split,
      surplus := false, extras := [], reAddr := none,
      queue := q.queue.filter (fun d => d.purpose != .config && d.purpose != .reAddress),
      kept := q.kept.filter (fun d => d.purpose != .config), stopAll := false, sleepReq := false,
      broken := halves && g.broken, near := if halves then g.near else none, far := if halves then g.far else none,
      sats := g.sats.map (fun x => { x with ident := none, admitted := false, reachable := !halves || x.reachable, confirmed := false }) })
  askEnumerate r (updateIncomplete r s)

/-- Begin a full enumeration of the loop. -/
def startEnum (r : Nat) (s : State) : State := startEnumOf false r s

/-- Addresses a break search runs over, as a pair meets them: the admitted satellites, or the expected ones while none is
enumerated. -/
def State.searchOrder (s : State) (r : Nat) (out : Bool) : List Nat :=
  let g := s.ring r
  let l := if g.op = .enumerating then List.range (s.satCount r) else g.roster
  if out then l else l.reverse

/-- PROBE the middle of the range that is left on a pair (steps 3 and 4 of R221). -/
def probeHalf (r : Nat) (out : Bool) (near lo hi : Nat) (s : State) : State :=
  let n := (s.searchOrder r out).getD ((lo + hi) / 2) 0
  s.modRing r (fun g => { g.sendProbe out n with phase := .searching out near lo hi })

/-- First satellite at or above `n` that a PROBE is due for. -/
def RingState.nextProbe (g : RingState) (n : Nat) : Option Nat :=
  (List.range 32).find? (fun i => n ≤ i && (g.sat i).usable)

/-- Ring `r` ends its enumeration: admitted addresses written, serials compared, event of a change (step 7 of R206), and of an
entry into split operation or a return from it (R221, R224). -/
def finishEnum (r : Nat) (s : State) : State :=
  let g := s.ring r
  let s := s.modRing r (fun g => { g with
    phase := .idle, enumerated := true, op := if g.broken then .split else .loop, inFlight := none, leftSplit := false,
    splits := if g.broken && !g.leftSplit then satAdd 16 g.splits 1 else g.splits })
  let s := writeAdmitted r (updateIncomplete r s)
  let q := storeSerials r s
  let s := if g.broken then raise (ringSource r 3) 0 1 r [] q.1 else q.1
  let s := if q.2 || (g.leftSplit && !g.broken) then raise (ringSource r 4) 0 1 r [] s else s
  if s.sys.wakeRings.testBit r then
    let s := { s with sys := { s.sys with wakeRings := maskSet s.sys.wakeRings r false } }
    postOrKeep r { purpose := .wakeCause, entries := (s.ring r).admittedSet.map (fun n =>
      { addr := n, code := 0x31, args := List.replicate 8 0 }) } s
  else s

/-- Ring `r` ends a search or return without enumeration, its latencies sent (steps 6 and 7 of R221): the guard die gets its
addresses, and the change of operation raises its event (R222, R224, R735). -/
def endSearch (r : Nat) (s : State) : State :=
  let g := s.ring r
  let s := s.modRing r (fun g => { g with
    phase := .idle, op := if g.broken then .split else .loop, inFlight := none,
    near := if g.broken then g.near else none, far := if g.broken then g.far else none,
    splits := if g.broken && g.op != .split then satAdd 16 g.splits 1 else g.splits })
  let s := writeAdmitted r (updateIncomplete r s)
  if g.broken then raise (ringSource r 3) 0 1 r [] s
  else if g.op = .split then raise (ringSource r 4) 0 1 r [] s
  else s

/-- SET_LATENCY goes to every reachable satellite at once (step 6 of R221). -/
def finishSearch (r : Nat) (s : State) : State :=
  let s := s.modRing r (fun g => ({ g with phase := .latencies, direct := g.admittedSet.map g.latencyEntry } : RingState).sendDirect)
  if (s.ring r).inFlight.isNone then endSearch r s else s

/-- Step 6 of R206: SET_LATENCY, SET_THRESHOLDS and configuration entries of every satellite. -/
def configure (r : Nat) (s : State) : State :=
  let es := (s.ring r).admittedSet.flatMap (s.configEntries r)
  let s := s.modRing r (fun g => ({ g with phase := .configuring, direct := es } : RingState).sendDirect)
  if (s.ring r).inFlight.isNone then finishEnum r s else s

/-- Probe the next satellite at or above `n`, or end: an enumeration goes on to its configuration, a search to its latencies. -/
def probeFrom (r n : Nat) (search : Bool) (s : State) : State :=
  let s := if n = 0 then s.modRing r (fun g => { g with loopLatency := 0 }) else s
  match (s.ring r).nextProbe n with
  | some i => s.modRing r (fun g => { g.sendProbe (g.onOut i) i with phase := .probing i search })
  | none => if search then finishSearch r s else configure r s

/-- Both pairs have been searched: so many satellites answer on the out pair and on the return pair; near, far and reachability
follow (R221 to R223, R735). A break that mends in the search leaves the satellites both pairs reach to the near half. Where the
strand is not connected the change includes a full enumeration of each half (R209). -/
def concludeSearch (r near far : Nat) (s : State) : State :=
  let l := s.searchOrder r true
  let whole := near == l.length && far == l.length
  let n : Option Nat := if near = 0 then none else l[near - 1]?
  let m : Option Nat := l[l.length - min far (l.length - near)]?
  let s := s.modRing r (fun g =>
    { g with
      broken := !whole, near := if whole then g.near else n, far := if whole then g.far else m,
      sats := (List.range 32).map (fun i => { g.sat i with
        reachable := whole || (match n with | some a => decide (i ≤ a) | none => false) ||
          (match m with | some b => decide (b ≤ i) | none => false) }) })
  let g := s.ring r
  if g.op = .enumerating then askEnumerate r s
  else if !s.connected r && (!whole != (g.op == .split)) then startEnumOf true r s
  else probeFrom r 0 true s

/-- Search the out pair, or with it done the return pair, for the break; an empty ring has nothing to search. -/
def searchPair (r : Nat) (out : Bool) (near : Nat) (s : State) : State :=
  let n := (s.searchOrder r out).length
  if n = 0 then ringDown r s else probeHalf r out near 0 n s

/-- Begin the break search: the frame in flight is abandoned, and no TRIGGER follows until it ends (R221). -/
def startSearch (r : Nat) (s : State) : State := searchPair r true 0 ((ringGap r s).modRing r RingState.abandon)

/-- Record the identity entries of an ENUMERATE and admit (R204, R207). PRESUMED: every entry is taken as it comes, its CRC-32
as right; the spec says nothing of an entry whose CRC-32 fails. -/
def takeIdentities (r : Nat) (es : List SatIdentity) (s : State) : State :=
  let c := s.satCount r
  s.modRing r (fun g =>
    { g with surplus := g.surplus || es.any (fun e => 32 ≤ e.address),
             extras := if g.phase == .enumerating then es.filter (fun e => 32 ≤ e.address) else g.extras,
             sats := (List.range 32).map (fun n =>
               match es.find? (fun e => e.address == n) with
               | some e => { g.sat n with ident := some e, admitted := e.device == 0xE6 && n < c, reachable := true }
               | none => g.sat n) })

/-- The next frame of R208 is sent, or awaited, from here. -/
def setStage (r n stage : Nat) (s : State) : State := s.modRing r (fun g => { g with reAddr := some (n, stage) })

/-- `ENUMERATE_RETURN`: the entries of a full or an unaddressed-only ENUMERATE; none where the frame did not come back: a break
search follows, or on searched halves the ring is down (R200, R204, R206, R208). DESIGN CHOICE: a frame of R208 that does not come
back is sent again in the next window. -/
def execEnumerateReturn (ring : Nat) (entries : Option (List SatIdentity)) (s : State) : Host.Outcome State Fault Refusal :=
  .next (if !s.ac0On ∨ 4 ≤ ring then s else
    let g := s.ring ring
    match g.phase, g.reAddr, entries with
    | .enumerating, _, some es => probeFrom ring 0 false (takeIdentities ring es (ringGap ring s))
    | .enumerating, _, none => if g.broken then ringDown ring s else startSearch ring s
    | .idle, some (n, 1), some es => sendNext ring (setStage ring n 2 (takeIdentities ring es s))
    | .idle, some (n, 1), none => setStage ring n 0 s
    | _, _, _ => s)

/-- `PROBE_RETURN`: the round trip in half-bits, or none where the PROBE was not sent back (R205, R206, R208, R221). DESIGN CHOICE:
a PROBE of an enumerated satellite that is not sent back is sent again. -/
def execProbeReturn (ring : Nat) (roundTrip : Option Nat) (s : State) : Host.Outcome State Fault Refusal :=
  .next (if !s.ac0On ∨ 4 ≤ ring then s else
    let g := s.ring ring
    let setLat := fun (n rt : Nat) (s : State) => s.modSat ring n (fun x => { x with latency := (rt - 64) / 2 })
    match g.phase, roundTrip with
    | .probing n search, some rt =>
      probeFrom ring (n + 1) search (ringGap ring ((setLat n rt s).modRing ring (fun g =>
        { g with loopLatency := max g.loopLatency ((rt - 64) / 2 + 24) })))
    | .probing n _, none => s.modRing ring (fun g => g.sendProbe (g.onOut n) n)
    | .searching out near lo hi, ans =>
      let mid := (lo + hi) / 2
      let lo := if ans.isSome then mid + 1 else lo
      let hi := if ans.isSome then hi else mid
      let s := ringGap ring s
      if lo < hi then probeHalf ring out near lo hi s
      else if out then searchPair ring false lo s
      else concludeSearch ring near lo s
    | .idle, ans =>
      match g.reAddr, ans with
      | some (n, 3), some rt =>
        let s := setLat n rt s
        let d : RingDesc := { purpose := .reAddress, entries := s.configEntries ring n, posted := s.time.now }
        sendNext ring ((setStage ring n 4 s).modRing ring (fun g => { g with queue := d :: g.queue }))
      | some (n, 3), none => setStage ring n 2 s
      | _, _ => s
    | _, _ => s)

/-! ## Snapshots (R210 to R217) -/

/-- The ring takes snapshots: in loop or split operation with no search under way. -/
def State.ringRuns (s : State) (r : Nat) : Bool :=
  let g := s.ring r
  s.alive && s.sys.mode != .thermalLock && s.sys.mode != .loader && s.enabled r && (g.op == .loop || g.op == .split) &&
    g.phase == .idle

/-- A COLLECT is lost: counters, event, and after two in a row the break search (R217). -/
def collectLost (r : Nat) (s : State) : State :=
  let s := ringGap r s
  let run := (s.ring r).lostRun + 1
  let s := s.modRing r (fun g => { g with awaiting := none, collectSent := false, lost := satAdd 32 g.lost 1, lostRun := run })
  let s := raise (ringSource r 2) 0 1 r [] s
  if 2 ≤ run then startSearch r s else s

/-- Sequence number of a trigger at an instant: one per trigger, the same on all rings (R193, R211). -/
def State.triggerSeq (s : State) (r at' : Nat) : Nat :=
  if s.time.snapAt = at' ∧ s.time.snapRings != 0 ∧ !s.time.snapRings.testBit r then s.time.snapSeq
  else (s.time.snapSeq + 1) % 2 ^ 32

/-- Applied parameters a trigger finds: at the boundary itself those in force before its commit (R35). -/
def State.triggerPar (s : State) (offset : Nat) : ParamState :=
  { s.param with applied := if offset = 0 then s.param.prior.getD s.param.applied else s.param.applied }

/-- Module timebase `offset` µs into the running frame. -/
def State.inFrame (s : State) (offset : Nat) : Nat := s.time.now - s.time.now % 1000 + offset

/-- A trigger is due: a whole multiple of the period, of network time while synchronised and of the module timebase otherwise,
lies within the microsecond before or after the instant, and the first one of network time at least P/2 after the last
trigger (R210). -/
def State.triggerDue (s : State) (r offset : Nat) : Bool :=
  let at' := s.inFrame offset
  let period := s.snapPeriod (s.triggerPar offset)
  if s.triggerSeq r at' = s.time.snapSeq then true
  else if s.synced then
    (s.netAt at' + 999) % (1000 * period) < 1999 && (s.time.snapNet || s.time.snapRings == 0 || s.time.snapAt + period / 2 ≤ at')
  else at' % period == 0

/-- `BLANK`: the broadcast before a trigger, its window the 200 µs of R253 (R203, R212). -/
def execBlank (ring : Nat) (s : State) : Host.Outcome State Fault Refusal :=
  .next (if s.ringRuns ring && s.blanking ring (s.pn 0x0602) then
    (ringGap ring s).modRing ring (fun g => { g.broadcast 0x13 (leBytes 2 200) with blanked := true })
  else s)

/-- The header of a trigger of ring `r` at an instant, under the applied parameters it finds (R35, R193, R347). -/
def State.triggerHeader (s : State) (r at' seq : Nat) (p : ParamState) : SnapHeader :=
  let fresh := seq != s.time.snapSeq
  let due := match s.est.lastModel with
    | some t => t + s.modelPeriod p ≤ at'
    | none => true
  let model := if fresh then due else s.est.lastModel == some at'
  let injecting := match (s.measOf r).owt with
    | some t => t.mode == 0 && 1 ≤ t.phase && t.phase ≤ 4 && t.armed && t.notBefore ≤ at'
    | none => false
  { seq := seq, at' := at', net := if s.synced then s.netAt at' else 0, corner := p.nat 0x0601, ratio := p.nat 0x0604,
    owt := injecting, blanking := s.blanking r (p.nat 0x0602), period := s.snapPeriod p, model := model,
    index := if model ∧ fresh = true then (s.est.updateIndex + 1) % 2 ^ 32 else s.est.updateIndex, par := p.applied,
    plan := (s.measOf r).cells.map CellState.planWord }

/-- `RING_TRIGGER`: a TRIGGER that is due leaves; a COLLECT still out counts as lost (R193 to R195, R210, R211, R215). At
another instant nothing happens. -/
def execRingTrigger (ring offset : Nat) (s : State) : Host.Outcome State Fault Refusal :=
  .next (if !s.ringRuns ring || !s.triggerDue ring offset then s else
    let s := if (s.ring ring).awaiting.isSome then collectLost ring s else s
    if !s.ringRuns ring then s else
    let at' := s.inFrame offset
    let seq := s.triggerSeq ring at'
    let fresh := seq != s.time.snapSeq
    let h := s.triggerHeader ring at' seq (s.triggerPar offset)
    let s := { s with
      time := { s.time with snapSeq := seq, snapAt := at',
                            snapRings := if fresh then 2 ^ ring else maskSet s.time.snapRings ring true, snapNet := s.synced },
      est := if h.model then { s.est with lastModel := some at', updateIndex := h.index, done := if fresh then 0 else s.est.done }
             else s.est,
      guard := { s.guard with lanes := modAt s.guard.lanes ring (fun l => l.map (fun x => { x with seen := false })) } }
    let s := if h.owt then s.modMeas ring (fun m => { m with owt := m.owt.map (fun t => { t with armed := false, shotSeq := some seq }) })
      else s
    (ringGap ring s).modRing ring (fun g =>
      { g.sendTrigger h with awaiting := some h, collectSent := false, window := 0 }))

/-- Slots expected on a pair: its usable satellites (R192, R212). -/
def RingState.slotsOn (g : RingState) (out : Bool) : Nat := g.admittedSet.countP (fun n => g.onOut n == out)

/-- `COLLECT`: the header is sent 60 µs after the trigger, in split operation to one half after the other (R212, R223). -/
def execCollect (ring : Nat) (s : State) : Host.Outcome State Fault Refusal :=
  .next (match (s.ring ring).awaiting with
  | none => s
  | some h =>
    if !s.ringRuns ring then s else
    s.modRing ring (fun g =>
      let l := g.pairs.map (fun p => { out := p.1, bytes := frameHeader 0x02 (h.seq % 256) p.2 (g.slotsOn p.1) })
      { g.transmit l with collectSent := true, blanked := false }))

/-- `COLLECT_TIMEOUT`: the COLLECT is not back in time (R217). -/
def execCollectTimeout (ring : Nat) (s : State) : Host.Outcome State Fault Refusal :=
  .next (if s.ringRuns ring && (s.ring ring).awaiting.isSome && (s.ring ring).collectSent then collectLost ring s else s)

/-- `LOSS_OF_CARRIER`: the break search begins (R184, R221, R225). -/
def execLossOfCarrier (ring : Nat) (outPair : Bool) (s : State) : Host.Outcome State Fault Refusal :=
  .next (if s.ringRuns ring && (!outPair || (s.ring ring).op == .split) then
    startSearch ring (raise (ringSource ring 2) 0 1 ring [] s)
  else s)

/-- A block whose CRC fails: it is counted under the address it spells (R217, R230). -/
def badBlock (r : Nat) (b : SatBlock) (s : State) : State :=
  let s := s.modSat r b.addr (fun x => { x with crcErrors := satAdd 16 x.crcErrors 1 })
  raiseSat (ringSource r 1) r b.addr (s.modRing r (fun g => { g with crcErrors := satAdd 32 g.crcErrors 1 }))

/-- What a good block tells of its satellite, with the events of a change of polarity (R220, R224). -/
def takeBlock (r : Nat) (b : SatBlock) (s : State) : State :=
  let n := b.addr
  let x := (s.ring r).sat n
  let flip := b.polUp && !x.polUpNow
  let s := s.modSat r n (fun x => { x with polUpNow := b.polUp, polUpSeen := x.polUpSeen || b.polUp, linkBack := b.linkBack })
  if flip then
    let s := if n = 0 then s.modRing r (fun g => { g with outInverted := !g.outInverted }) else s
    raiseSat (ringSource r 5) r n (s.modRing r (fun g => { g with polarity := satAdd 16 g.polarity 1 }))
  else s

/-- Address missing at the position of a slot without one: next after the slots before it, in the order of its half; else any
address missing on a reachable half (R208). -/
def State.missingAddress (s : State) (r : Nat) (far : Bool) (l before : List Slot) : Option Nat :=
  let held := fun (n : Nat) => l.any (fun x => !x.block.unaddressed && x.block.addr == n)
  let free := (List.range (s.satCount r)).filter (fun n => ((s.ring r).sat n).reachable && !held n)
  let here := match ((before.filter (fun x => !x.block.unaddressed)).getLast?).map (·.block.addr) with
    | some a => if far then (free.filter (· < a)).getLast? else free.find? (a < ·)
    | none => if far then free.getLast? else free.head?
  here.orElse (fun _ => free.head?)

/-- A slot of a satellite without an address: give back the address missing, or report the strand incomplete (R208). -/
def takeUnaddressed (r : Nat) (far : Bool) (l before : List Slot) (s : State) : State :=
  match s.missingAddress r far l before with
  | some n =>
    if (s.ring r).reAddr.isSome then s
    else updateIncomplete r ((setStage r n 0 s).modSat r n (fun x => { x with unaddressedSeen := true, confirmed := false }))
  | none => updateIncomplete r (s.modRing r (fun g => { g with surplus := true }))

/-- Slots whose address is missing, duplicated or unexpected in a COLLECT (R217). -/
def strayBlocks (admitted : List Nat) (l : List Slot) : Bool :=
  let ok := l.filter (fun x => x.block.crcOk)
  ok.any (fun x => x.block.unaddressed || !admitted.contains x.block.addr ||
    1 < ok.countP (fun y => y.block.addr == x.block.addr))

/-- The slots of one frame of a COLLECT, in their order. -/
def takeSlots (r : Nat) (far : Bool) (exp : List Nat) (all : List Slot) : List Slot → List Slot → State → State
  | _, [], s => s
  | before, x :: l, s =>
    let s := if !x.block.crcOk then badBlock r x.block s
      else if x.block.unaddressed then takeUnaddressed r far all before s
      else if exp.contains x.block.addr then takeBlock r x.block s
      else s
    takeSlots r far exp all (before ++ [x]) l s

/-- The slots of a COLLECT, decoded as the ratio of its trigger gives them (R195, R196). -/
def slotsOf (ratio : Nat) (d : CollectData) : List (List Slot) := d.frames.map (fun f => f.slots.map (decodeSlot ratio))

/-- The snapshot goes to a free buffer and its descriptor to Q12 + r, which the ring master keeps where the queue is full; without
a free buffer it is dropped (R43, R50). -/
def storeSnapshot (r : Nat) (h : SnapHeader) (l : List Slot) (s : State) : State :=
  let n := (s.ring r).bufs.length
  if n < 2 then
    let s := if s.qDepth (12 + r) ≤ n then raise 0x09 0 0 0 (leBytes 1 (12 + r)) s else s
    raise (ringSource r 0) 0 1 r [] (s.modRing r (fun g => { g with bufs := g.bufs ++ [{ head := h, slots := l, posted := s.time.now }] }))
  else raise (ringSource r 7) 0 1 r [] (s.modRing r (fun g => { g with dropped := satAdd 16 g.dropped 1 }))

/-- The satellite at an end of a split half sees carrier on the broken link; an end without one has none to ask (R223, R224). -/
def RingState.linkBack (g : RingState) (e : Option Nat) : Bool := match e with | some n => (g.sat n).linkBack | none => true

/-- Both ends of a split have their links back: the return to loop operation (R209, R224). -/
def linksBack (r : Nat) (s : State) : State :=
  let g := s.ring r
  if g.op == .split && g.linkBack g.near && g.linkBack g.far && (g.near.isSome || g.far.isSome) then
    let s := (ringGap r s).modRing r (fun g => { g with
      broken := false, window := 0, sats := g.sats.map (fun x => { x with reachable := true, linkBack := false }) })
    if s.connected r then probeFrom r 0 true s else startEnum r s
  else s

/-- The polarity the return was read with; a change is corrected from then on, with event +5 (R220). -/
def followPolarity (r : Nat) (reversed : Bool) (s : State) : State :=
  if reversed = (s.ring r).returnCorrected then s
  else raise (ringSource r 5) 0 1 r [] (s.modRing r (fun g =>
    { g with returnCorrected := reversed, polarity := satAdd 16 g.polarity 1 }))

/-- A Count that does not match, or an address nothing expects: event +6 (R217). -/
def countMismatch (r : Nat) (bad : Bool) (s : State) : State :=
  if bad then raise (ringSource r 6) 0 1 r [] (s.modRing r (fun g => { g with mismatches := satAdd 16 g.mismatches 1 })) else s

/-- `COLLECT_RETURN`: blocks are checked, the snapshot is stored in a free buffer, and breaks, polarity and lost addresses
are acted on (R50, R208, R217, R220, R224). -/
def execCollectReturn (ring : Nat) (data : CollectData) (s : State) : Host.Outcome State Fault Refusal :=
  .next (match (s.ring ring).awaiting with
  | none => s
  | some h =>
    let g := s.ring ring
    if !s.ringRuns ring || !g.collectSent then s
    else if data.frames.length != g.pairs.length || data.frames.any (fun f => !headerGood f) then collectLost ring s else
    let s := followPolarity ring data.reversed s
    let exp := g.admittedSet
    let halves := slotsOf h.ratio data
    let all := halves.flatten
    let s := countMismatch ring (data.frames.any miscounted || strayBlocks exp all) s
    let s := (g.pairs.zip halves).foldl (fun s e => takeSlots ring (!e.1.1) exp all [] e.2 s) s
    let s := ringGap ring (s.modRing ring (fun g => { g with awaiting := none, collectSent := false, lostRun := 0 }))
    linksBack ring (storeSnapshot ring h all s))

/-- `COMMAND_WINDOW`: the window opens once the COLLECT is back, and queued entries go out as they fit (R208, R213). -/
def execCommandWindow (ring : Nat) (s : State) : Host.Outcome State Fault Refusal :=
  .next (if s.ringRuns ring && (s.ring ring).awaiting.isNone then
    sendNext ring (s.modRing ring (fun g => { g with window := s.windowLength ring }))
  else s)

/-! ## `SAT_IDENTITY` and `SAT_COMMAND` (R230, R231) -/

/-- Operation code of R230. -/
def opCode : RingOp → Nat
  | .disabled => 0 | .loop => 1 | .split => 2 | .down => 3 | .enumerating => 4

/-- The identity entry of R204. -/
def identityBytes (e : SatIdentity) : List Byte :=
  let b := leBytes 1 e.address ++ leBytes 1 e.device ++ leBytes 1 e.revision ++ leBytes 1 e.image ++ leBytes 4 e.versionA ++
    leBytes 4 e.versionB ++ padTo 8 e.serial
  b ++ leBytes 4 (crc32 b)

/-- Ring block and satellite records of `SAT_IDENTITY`; a surplus satellite has no address, no latency and no counter. -/
def ringReport (r : Nat) (g : RingState) : List Byte :=
  let brk := if g.op = .split then g.near.getD 0xFE else 0xFF
  let recs := g.sats.filterMap (fun x => x.ident.map (fun e =>
    identityBytes e ++ leBytes 2 x.crcErrors ++ leBytes 2 x.latency ++
    leBytes 1 (bit x.polUpSeen + 2 * bit x.unaddressedSeen + 4 * bit (!x.admitted)) ++ [0, 0, 0])) ++
    g.extras.map (fun e => identityBytes e ++ [0, 0, 0, 0, 6, 0, 0, 0])
  leBytes 1 r ++ leBytes 1 (opCode g.op) ++ leBytes 1 (g.sats.countP (·.admitted)) ++ leBytes 1 brk ++
  leBytes 1 (bit g.outInverted + 2 * bit g.returnCorrected) ++ [0] ++ leBytes 2 g.loopLatency ++ leBytes 4 g.frames ++
  leBytes 4 g.lost ++ leBytes 4 g.crcErrors ++ leBytes 2 g.mismatches ++ leBytes 2 g.dropped ++ leBytes 2 g.splits ++
  leBytes 2 g.polarity ++ [0, 0, 0, 0] ++ leBytes 1 recs.length ++ [0, 0, 0] ++ recs.flatten

/-- Opcode of `SAT_COMMAND`. -/
def opSatCommand : Nat := 0x0901

/-- Opcode of `SAT_IDENTITY`. -/
def opSatIdentity : Nat := 0x0902

/-- The satellite commands that wait on ring `r` fail with the ring (R217, R231, R731). -/
def failCommands (r : Nat) (s : State) : State :=
  let g := s.ring r
  (g.inFlight.toList ++ g.queue ++ g.kept).foldl (fun s d => match d.purpose with
    | .satCommand by' => complete by' opSatCommand stInternalFault noDetail [] s
    | _ => s) s

/-- `SAT_IDENTITY` (R230). -/
def serveSatIdentity (p : Port) (tag : Half) (pl : List Byte) (s : State) : State :=
  serve opSatIdentity modesWork (pl.length == 4) p tag (fun s =>
    let k := field pl 0 1
    if 4 ≤ k ∨ zeros (pl.drop 1) = false then reply p opSatIdentity tag stOutOfRange noDetail [] s
    else if !s.enabled k then reply p opSatIdentity tag stNotPermitted noDetail [] s
    else reply p opSatIdentity tag stOk noDetail (ringReport k (s.ring k)) s) s

/-- Codes `SAT_COMMAND` may not carry (R203); WRITE_CONFIG only for registers 0x0000 to 0x3FFF. -/
def satReserved (code reg : Nat) : Bool :=
  code == 0x04 || code == 0x10 || code == 0x11 || code == 0x12 || code == 0x13 || code == 0x20 || code == 0x21 || code == 0x30 ||
    (0x40 ≤ code && code ≤ 0x4F) || (code == 0x03 && reg ≤ 0x3FFF)

/-- `SAT_COMMAND` (R231). -/
def serveSatCommand (p : Port) (tag : Half) (pl : List Byte) (s : State) : State :=
  serve opSatCommand [.service] (pl.length == 20) p tag (fun s =>
    let k := field pl 0 1
    let addr := field pl 4 1
    let code := field pl 5 1
    let args := (pl.drop 8).take 8
    let no := fun (st : Nat) (s : State) => reply p opSatCommand tag st noDetail [] s
    if zeros ((pl.drop 1).take 3) = false ∨ zeros (pl.drop 16) = false then no stOutOfRange s
    else if 4 ≤ k ∨ !s.enabled k ∨ ((s.ring k).sat addr).admitted = false then no stOutOfRange s
    else if satReserved code (field args 0 2) then no stNotPermitted s
    else
      let q := postRing k { purpose := .satCommand (.packet p tag), entries := [{ addr := addr, code := code, args := args }] } s
      no (if q.2 then stAccepted else stQueueFull) q.1) s

/-- `SAT_IDENTITY`. -/
def execSatIdentity (port : Port) (tag : Half) (payload : List Byte) (s : State) : Host.Outcome State Fault Refusal :=
  .next (hostRow 0x0902 serveSatIdentity port tag payload s)

/-- `SAT_COMMAND`. -/
def execSatCommand (port : Port) (tag : Half) (payload : List Byte) (s : State) : Host.Outcome State Fault Refusal :=
  .next (hostRow 0x0901 serveSatCommand port tag payload s)

end Sys2Proof.Machine
end

