-- ==== Sys2Proof/Machine/Cells.lean ====
section
/-! DEFINITION. Intake of a snapshot: validity, plausibility, compensation, temperatures, primary protection and the strand
sum (chapter 07, R282 to R285, R470 to R480). -/
namespace Sys2Proof.Machine
open Sys2Proof

/-! ## Converting codes (R235, R241, R242) -/

/-- Settling time of a filter corner, µs (R235). -/
def settleUs : Nat → Nat
  | 0 => 12 | 1 => 18300 | 2 => 4900 | 3 => 1220 | 4 => 306 | _ => 76

/-- Primary value in µV; the flag tells a value outside −0.200 V to 5.300 V (R244). -/
def primaryOf (b : SatBlock) (j : Nat) : Option Int × Bool :=
  let code := b.primary.getD j 0x3FFFF
  if code ≥ 0x3FFFF then (none, false) else
  let v : Int := 25 * code - 1000000
  if v < -200000 ∨ 5300000 < v then (none, true) else (some v, false)

/-- Secondary code the block carries for cell `j` (R196, R239). -/
def secondaryCode (ratio : Nat) (b : SatBlock) (j : Nat) : Option Nat :=
  let c := if ratio = 1 then b.secondary.getD j 0xFFF
           else if j / 2 = b.slice % 8 then b.secondary.getD (j % 2) 0xFFF else 0xFFF
  if c ≥ 0xFFF then none else some c

/-- Temperature of a code, 0.01 °C (R241). -/
def ntcCentiDeg (code beta r25 : Nat) : Int :=
  let r : Rat := (code : Rat) / 4096
  let ohms := 10000 * r / (1 - r)
  let t := 1 / (1 / (29815 / 100 : Rat) + lnRat (ohms / (r25 : Rat)) / (beta : Rat)) - (27315 / 100 : Rat)
  roundRat (t * 100)

/-! ## Parameters of a snapshot (R35) -/

/-- The applied set a snapshot is evaluated under. -/
def SnapHeader.set (h : SnapHeader) : ParamState := { applied := h.par }

/-- Sampling instant (R193, R194). -/
def SnapHeader.sampled (h : SnapHeader) : Nat := h.at' + 40

/-- Masked bit of a position under a set (R235). -/
def ParamState.masked (p : ParamState) (k c : Nat) : Bool :=
  c / 16 ≥ p.nat 0x0503 / 256 ^ k % 256 || (p.nat (0x0680 + 32 * k + c / 16)).testBit (c % 16)

/-! ## Converters near a cell (R254, R255) -/

/-- Converter current in the discharge sense, mA; the trim uses the mean current of its latest response (R337). -/
def SatLease.signed (l : SatLease) (c : ConverterRun) : Int :=
  if c.direction = 0 ∨ c.direction = 3 then c.current else if c.direction = 2 then l.mean else -(c.current : Int)

/-- Resistance of connection `w`, µΩ: surveyed, or `CELL.RCONN_DEFAULT`. -/
def State.connOhms (s : State) (p : ParamState) (k n w : Nat) : Nat :=
  match s.mem.sats[32 * k + n]? with
  | some m => if m.ram.surveyed.testBit w then m.ram.connections.getD w 0 else p.nat 0x0610
  | none => p.nat 0x0610

/-- The runs of a satellite, each with its end: the one in progress, which its lease ends, and the latest on each cell. -/
def SatLease.runs (l : SatLease) : List RunEnd := (l.run.map (fun c => { run := c, at' := c.until' })).toList ++ l.ended

/-- A run carried current within the settling time before the sampling instant; blanking stops every converter 80 µs before that
instant (R253, R254). -/
def RunEnd.near (h : SnapHeader) (e : RunEnd) : Bool :=
  let ts := settleUs h.corner
  (!h.blanking || 80 < ts) && e.run.since < h.sampled && h.sampled < e.at' + ts

/-- Cells a converter acts on at its satellite: its own and its neighbours. -/
def besides (cell j : Nat) : Bool := j + 1 == cell || j == cell || j == cell + 1

/-- Whether cell `j` is BAL_AFFECTED by its satellite's converter (R254). -/
def affected (h : SnapHeader) (l : SatLease) (j : Nat) : Bool := l.runs.any (fun e => e.near h && besides e.run.cell j)

/-- Compensation of cell `j` for a current of `i` mA on a cell, nV: the table of R255. -/
def besideNv (r : Nat → Int) (cell j : Nat) (i : Int) : Int :=
  if j + 1 = cell then -(i * r cell) else if j = cell then i * (r j + r (j + 1)) else if j = cell + 1 then -(i * r j) else 0

/-- I_f of a run, mA: the commanded current where it lasted the settling time up to the sampling instant without a blanking gap. The
filter's response to a current that started, paused or ended within that time is not in the spec: there I_f is a free value, one
for each cell a satellite served. -/
def State.filtered (s : State) (n : Nat) (h : SnapHeader) (l : SatLease) (e : RunEnd) : Int :=
  if !h.blanking && e.run.since + settleUs h.corner ≤ h.sampled && h.sampled ≤ e.at' then l.signed e.run
  else Config.freeInt (s.free + 16 * n + e.run.cell)

/-- Compensation of cell `j` of satellite `n`, µV, over the runs that act on it (R255). -/
def State.compensation (s : State) (k n j : Nat) (h : SnapHeader) (l : SatLease) : Int :=
  let r := fun w => (s.connOhms h.set k n w : Int)
  let nv := (l.runs.filter (·.near h)).foldl (fun a e => a + besideNv r e.run.cell j (s.filtered n h l e)) 0
  roundRat ((nv : Rat) / 1000)

/-! ## One position -/

/-- Plausibility of one comparison (R248, R249). -/
def plausStep (count : Nat) (fail : Bool) (o : CellState) : CellState :=
  if fail then
    let n := o.plausBad + 1
    { o with plausBad := n, plausGood := 0, plausFail := o.plausFail || count ≤ n }
  else
    let n := o.plausGood + 1
    { o with plausGood := n, plausBad := 0, plausFail := o.plausFail && n < count }

/-- First pass over a position: raw value, secondary value and plausibility (R244, R247 to R249). -/
def cellRaw (h : SnapHeader) (near : Bool) (blk : Option SatBlock) (j : Nat) (o : CellState) : CellState :=
  match blk with
  | none => { o with secondary := none, value := none, balAffected := near, outOfRange := false }
  | some b =>
    let p := primaryOf b j
    let sec := (secondaryCode h.ratio b j).map (fun c => (1500 * c : Int))
    let o := { o with secondary := sec, lastSec := sec.orElse (fun _ => o.lastSec), outOfRange := p.2, value := p.1,
                      balAffected := near }
    match p.1, sec with
    | some v, some t =>
      let move : Nat := match o.lastRaw with | some q => (v - q).natAbs | none => 0
      let w := h.set.nat 0x0605 + (if near then h.set.nat 0x0603 else 0) + 2 * move
      plausStep (h.set.nat 0x0606) (w < (v - t).natAbs) o
    | _, _ => o

/-- Second pass: what of the raw value stands, and with what compensation (R245, R251, R258). -/
def cellValid (h : SnapHeader) (barred : Bool) (comp : Int) (o : CellState) : CellState :=
  match o.value with
  | some v =>
    let o := { o with lastRaw := some v }
    if barred then { o with value := none, noData := false } else
    let x := if o.balAffected then v + comp else v
    { o with value := some x, kept := some x, lastAt := h.sampled, noData := false, stale := false }
  | none => { o with noData := true }

/-- One temperature input (R241). -/
def tempIntake (beta r25 : Nat) (limit : Int) (code : Option Nat) (o : TempState) : TempState :=
  match code with
  | none => { o with value := none, hot := 0 }
  | some c =>
    if 4050 ≤ c then { value := none, code := c, isOpen := true }
    else if c ≤ 40 then { value := none, code := c, shorted := true }
    else
      let t := ntcCentiDeg c beta r25
      { value := some t, code := c, hot := if limit < t then o.hot + 1 else 0 }

/-! ## The strand as a whole -/

/-- The block of satellite `n` a snapshot carries, where its values count (R244, R247). -/
def blockFor (g : RingState) (buf : SnapBuffer) (n : Nat) : Option SatBlock :=
  match buf.slots.find? (fun x => x.block.crcOk && !x.block.unaddressed && x.block.addr == n) with
  | some x =>
    if (g.sat n).usable && (g.sat n).confirmed && !x.block.noData && x.block.echo == buf.head.seq % 256 && !x.block.supply &&
        !x.block.reference
    then some x.block else none
  | none => none

/-- The lane of satellite `n` in a buffer, where its check bits are right. -/
def laneFor (buf : SnapBuffer) (n : Nat) : Option Lane :=
  (buf.slots.find? (fun x => x.lane.checkOk && x.lane.addr == n)).map (·.lane)

/-- Raise an event for every index of a list. -/
def raiseEach (l : List Nat) (f : Nat → State → State) (s : State) : State := l.foldl (fun s i => f i s) s

/-- Supply and reference faults of the satellites, with the events of their change (R247). -/
def satFaults (k : Nat) (buf : SnapBuffer) (s : State) : State :=
  buf.slots.foldl (fun s x =>
    let b := x.block
    if !b.crcOk || b.unaddressed || 32 ≤ b.addr then s else
    let o := (s.ring k).sat b.addr
    let s := if b.supply && !o.supplyFault then raiseSat 0x52 k b.addr s else s
    let s := if b.reference && !o.referenceFault then raiseSat 0x53 k b.addr s else s
    s.modSat k b.addr (fun x => { x with supplyFault := b.supply, referenceFault := b.reference })) s

/-- Wires of satellite `n` judged broken. -/
def MeasState.brokenOf (m : MeasState) (n : Nat) : List Nat := (m.broken.filter (fun e => e.1 == n)).map (·.2)

/-- The values of all positions and inputs of a snapshot, with the events of their changes (R242 to R251). -/
def measureCells (k : Nat) (buf : SnapBuffer) (s : State) : State :=
  let h := buf.head
  let g := s.ring k
  let m := s.measOf k
  let blocks := (List.range 32).map (blockFor g buf)
  let leases := (s.balOf k).leases
  let p := h.set
  let raw := (List.range 512).map (fun c =>
    let l := leases.getD (c / 16) {}
    if p.masked k c then ({} : CellState)
    else cellRaw h (affected h l (c % 16)) (blocks.getD (c / 16) none) (c % 16) (m.cells.getD c {}))
  let fault := (List.range 32).map (fun n => decide (8 ≤ ((raw.drop (16 * n)).take 16).countP (·.plausFail)))
  let barred := (List.range 32).map (fun n => fault.getD n false || decide (1 < (m.brokenOf n).length))
  let cells := (List.range 512).map (fun c =>
    if p.masked k c then ({} : CellState)
    else
      let n := c / 16
      let l := leases.getD n {}
      let o := raw.getD c {}
      let comp := if o.balAffected then s.compensation k n (c % 16) h l else 0
      cellValid h (barred.getD n false) comp o)
  let temps := (List.range 256).map (fun i =>
    let code := (blocks.getD (i / 8) none).bind (fun b =>
      let c := b.temps.getD (i % 8) 0xFFF
      if c = 0xFFF then none else some c)
    tempIntake (p.nat 0x060E) (p.nat 0x060F) (s.pi 0x0C05) code (m.temps.getD i {}))
  let new := { m with cells := cells, temps := temps, newest := some h }
  let old := m
  let s := { s.modMeas k (fun _ => new) with free := s.free + 512 }
  let at2 := fun (f g : CellState → Bool) => (List.range 512).filter (fun c => f (cells.getD c {}) && !g (old.cells.getD c {}))
  let s := raiseEach (at2 (·.outOfRange) (·.outOfRange)) (fun c => raiseCell 0x40 (cellNo k c)) s
  let s := raiseEach (at2 (·.plausFail) (·.plausFail)) (fun c => raiseCell 0x42 (cellNo k c)) s
  let s := raiseEach ((at2 (fun c => !c.plausFail) (fun c => !c.plausFail)).filter (fun c => !p.masked k c)) (fun c => raiseCell 0x43 (cellNo k c)) s
  let s := raiseEach ((List.range 32).filter (fun n => fault.getD n false && !(g.sat n).measFault)) (raiseSat 0x44 k) s
  let s := (List.range 32).foldl (fun s n => s.modSat k n (fun x => { x with measFault := fault.getD n false })) s
  let t2 := fun (f : TempState → Bool) => (List.range 256).filter (fun i => f (temps.getD i {}) && !f (old.temps.getD i {}))
  let s := raiseEach (t2 (·.isOpen)) (fun i => raise 0x4C 0 4 (256 * k + i) []) s
  raiseEach (t2 (·.shorted)) (fun i => raise 0x4D 0 4 (256 * k + i) []) s

/-! ## Lanes as AC0 sees them (R474, R478, R500) -/

/-- Runs of set flags of one satellite after one more buffered lane. -/
def LaneRun.step (l : Lane) (r : LaneRun) : LaneRun :=
  { ov := if l.ov then r.ov + 1 else 0, uv := if l.uv then r.uv + 1 else 0,
    ot := if l.ot then r.ot + 1 else 0, sf := if l.sf then r.sf + 1 else 0 }

/-- A lane contradicts the secondary values of its own snapshot (R478). -/
def State.contradicts (s : State) (p : ParamState) (k n ratio : Nat) (b : SatBlock) (l : Lane) : Bool :=
  let t := s.thresholdCodes
  let vals := ((List.range 16).filter (fun j => !p.masked k (16 * n + j))).filterMap (secondaryCode ratio b)
  (!l.ov && vals.any (fun v => t.1 + 1 ≤ v)) || (!l.uv && vals.any (fun v => v + 1 ≤ t.2.1)) ||
  (ratio == 1 && !vals.isEmpty &&
    ((l.ov && vals.all (fun v => v + 1 ≤ t.1)) || (l.uv && vals.all (fun v => t.2.1 + 1 ≤ v))))

/-- AC0 follows the buffered lanes: run counts, events of their changes and contradictions. -/
def followLanes (k : Nat) (buf : SnapBuffer) (s : State) : State :=
  let s := (List.range 32).foldl (fun s n =>
    match laneFor buf n with
    | none => s
    | some l =>
      if !((s.ring k).sat n).usable then s else
      let m := s.measOf k
      let o := m.laneRuns.getD n {}
      let r := o.step l
      let any := fun (x : LaneRun) => x.ov != 0 || x.uv != 0 || x.ot != 0 || x.sf != 0
      let bad := match blockFor (s.ring k) buf n with
        | some b => s.contradicts buf.head.set k n buf.head.ratio b l
        | none => false
      let cnt := if bad then m.contradictions.getD n 0 + 1 else 0
      let s := s.modMeas k (fun m => { m with laneRuns := setAt m.laneRuns n r, contradictions := setAt m.contradictions n cnt })
      let s := if any r && !any o then raiseSat 0x4E k n s else if any o && !any r then raiseSat 0x4F k n s else s
      if cnt = 2 then raiseSat 0xB8 k n s else s) s
  let t := s.tripOf k
  let seen := fun (b : Nat) => (s.measOf k).laneRuns.any (fun r =>
    match b with | 1 => r.ov != 0 | 2 => r.uv != 0 | 3 => r.ot != 0 | _ => r.sf != 0)
  let unseen := [1, 2, 3, 4].any (fun b => t.guardLatch && t.active.testBit b && !seen b)
  let n := if unseen then t.unseen + 1 else 0
  let s := s.modTrip k (fun t => { t with unseen := n })
  if n = 2 then raiseStrand 0xB8 k s else s

/-! ## Primary protection (R245, R250, R258, R474) -/

/-- Value of a cell for primary protection, against the high or the low limit: its last value until stale, and while
PLAUS_FAIL the worse of its two values. -/
def protectValue (stale : Nat) (at' : Nat) (high : Bool) (c : CellState) : Option Int :=
  match c.kept with
  | none => none
  | some v =>
    if c.value.isNone ∧ c.lastAt + 1000 * stale ≤ at' then none else
    match c.plausFail, c.lastSec with
    | true, some t => some (if high then max v t else min v t)
    | _, _ => some v

/-- First cell beyond a limit, or cell pair beyond twice the limit while INVALID_WIRE. -/
def State.beyond (s : State) (k : Nat) (high : Bool) (at' : Nat) : Option Nat :=
  let m := s.measOf k
  let lim : Int := if high then s.pn 0x0C03 else s.pn 0x0C04
  let val := fun c => protectValue (s.pn 0x0607) at' high (m.cells.getD c {})
  let beyond := fun (x l : Int) => if high then decide (l < x) else decide (x < l)
  (List.range 512).find? (fun c =>
    !s.masked k c &&
    (if (m.cells.getD c {}).invalidWire then
      m.broken.any (fun e => 1 ≤ e.2 && e.2 ≤ 15 && 16 * e.1 + e.2 == c + 1 &&
        (match val c, val (c + 1) with
         | some a, some b => beyond (a + b) (2 * lim)
         | _, _ => false))
    else match val c with
      | some v => beyond v lim
      | none => false))

/-- A lockout condition of AC0 begins or ends: its cause bit follows, and its beginning locks out. -/
def judgeLockout (k b src : Nat) (holds was : Bool) (event : State → State) (s : State) : State :=
  if holds then if was then s else lockout src (event (causeOn k b s))
  else if was then causeOff k b s else s

/-- AC0's protection pass over a snapshot: SF2 to SF6 of channel 1. -/
def protectCells (k : Nat) (h : SnapHeader) (s : State) : State :=
  if !s.evaluates then s else
  let m := s.measOf k
  let t := s.tripOf k
  let ov := s.beyond k true (h.at' + 40)
  let uv := s.beyond k false (h.at' + 40)
  let lane := fun (f : LaneRun → Nat) => m.laneRuns.any (fun r => 2 ≤ f r)
  let hot := (List.range 256).find? (fun i => 2 ≤ (m.temps.getD i {}).hot)
  let isOv := ov.isSome || lane (·.ov)
  let isUv := uv.isSome || lane (·.uv)
  let s := s.modTrip k (fun t => { t with primOv := isOv, primUv := isUv, primOt := hot.isSome })
  let s := judgeLockout k 8 0xAA isOv (t.active.testBit 8) (raiseCell 0xAA (cellNo k (ov.getD 0))) s
  let s := judgeTrip k 9 false isUv (raiseCell 0xAB (cellNo k (uv.getD 0))) s
  let s := judgeLockout k 10 0xAC hot.isSome (t.active.testBit 10) (raise 0xAC 0 4 (256 * k + hot.getD 0) []) s
  let sf := t.active.testBit 4 && (s.guard.lanes.getD k []).any (fun l => l.admitted && decide (2 ≤ l.sf))
  let s := judgeTrip k 4 false (m.contradictions.any (2 ≤ ·) || sf) (fun s => s) s
  let whole := (List.range 512).all (fun c => s.masked k c || (m.cells.getD c {}).value.isSome)
  judgeTrip k 13 false ((s.tripOf k).active.testBit 13 && !whole) (fun s => s) s

/-! ## Strand sum (R282 to R284) -/

/-- The strand-sum comparison of a snapshot, under its parameters. -/
def judgeSum (k : Nat) (p : ParamState) (s : State) : State :=
  let m := s.measOf k
  let h := s.strandHv k
  let pos := (List.range 512).filter (fun c => !p.masked k c)
  let vals := pos.map (fun c => (m.cells.getD c {}).value)
  match h.voltage.map (fun v => if h.watch.clamped then 0 else v), h.current with
  | some v, some i =>
    if vals.any (·.isNone) ∨ vals = [] then s else
    let sum : Int := vals.foldl (fun a x => a + x.getD 0) 0
    let dNv : Int := 1000 * sum - (p.nat (0x0714 + k) : Int) * i - 1000000 * v
    let dv : Nat := match h.prevSumV with | some p => (v - p).natAbs | none => 0
    let wUv : Int := 1000 * (p.nat 0x070A : Int) + v + 500000 + 600 * pos.length + 2000 * dv
    let n := p.nat 0x070B
    let bad := decide (1000 * wUv < dNv.natAbs)
    let far := decide (1000000 * p.nat 0x070C < dNv.natAbs)
    let b := if bad then h.sumBad + 1 else 0
    let g := if bad then 0 else h.sumGood + 1
    let t := if far then h.sumTrip + 1 else 0
    let set := !h.sumFlag && decide (n ≤ b)
    let clr := h.sumFlag && decide (n ≤ g)
    let s := s.modHv k (fun x => { x with sumBad := b, sumGood := g, sumTrip := t, prevSumV := some v,
                                          sumFlag := (x.sumFlag || set) && !clr })
    let s := if set then raiseStrand 0x63 k s else if clr then raiseStrand 0x64 k s else s
    if !s.evaluates then s
    else if far && n ≤ t then judgeTrip k 14 false true (fun s => s) s
    else if far then s else judgeTrip k 14 false false (fun s => s) s
  | _, _ => s

/-! ## Current beyond limits (R480) -/

/-- SF9: the currents of the usable sources against `SAFE.OVERLIMIT` of the limits, and neither source usable, each for
`SAFE.OVERLIMIT_TIME`. -/
def judgeLimits (k at' : Nat) (s : State) : State :=
  if !s.evaluates then s else
  let e := s.estOf k
  let h := s.strandHv k
  let meas : Option Rat := if h.offsetBad then none else
    h.current.map (fun i => let a : Rat := (i : Rat); if e.reversed then -a else a)
  let inf : Option Rat := if s.sys.mode = .hollow ∨ e.inferInvalid = true then none else e.iInf.map (· * 1000)
  let src := [meas, inf].filterMap (fun x => x)
  let lim := s.limits k
  let th : Rat := (s.pn 0x0903 : Rat)
  let f : Rat := (s.pn 0x0C0C : Rat) / 100
  let dis := src.any (fun i => f * (lim.1 : Rat) + th < i)
  let chg := src.any (fun i => f * (lim.2 : Rat) + th < -i)
  let blind := src.isEmpty && s.connected k
  let t := s.tripOf k
  let since := fun (holds : Bool) (x : Option Nat) => if holds then some (x.getD at') else none
  let ds := since dis t.overDis
  let cs := since chg t.overChg
  let us := since blind t.unseenSince
  let s := s.modTrip k (fun t => { t with overDis := ds, overChg := cs, unseenSince := us })
  let due := fun (x : Option Nat) => match x with | some a => a + 1000 * s.pn 0x0C0D ≤ at' | none => false
  let s := judgeTrip k 11 false (due ds || due cs || ((dis || chg) && t.active.testBit 11)) (raiseStrand 0xAD k) s
  judgeTrip k 12 false (due us || (blind && t.active.testBit 12)) (raiseStrand 0xAE k) s

end Sys2Proof.Machine
end

