-- ==== Sys2Proof/Machine/Learn.lean ====
section
/-! DEFINITION. Learning cycles, impedance samples, battery memory and its write-back (chapter 11). -/
namespace Sys2Proof.Machine
open Sys2Proof

/-! ## Records (R402, R411, R414, R418) -/

/-- Ask for a write-back of a satellite record at once. -/
def urgentSat (k n : Nat) (s : State) : State :=
  { s with mem := { s.mem with sats := modAt s.mem.sats (32 * k + n) (fun r => { r with dirty := true, urgent := true }) } }

/-- Change a strand record in RAM. -/
def modStrandMem (k : Nat) (f : StrandMem → StrandMem) (s : State) : State :=
  { s with mem := { s.mem with strands := modAt s.mem.strands k (fun r => { r with ram := f r.ram, dirty := true }) } }

/-- A cell record as a reset leaves it (R418). -/
def freshCell (s : State) : CellMem :=
  { rserRef := s.pn 0x092D, rpolRef := s.pn 0x092E, tauRef := s.pn 0x092E * s.pn 0x092F / 1000, installed := s.time.opSec }

/-- Reset of one cell record: record, open cycle, accumulator and estimator state (R418, R419). -/
def resetCell (k c : Nat) (s : State) : State :=
  let gen := s.pn (0x0A80 + 32 * k + c / 16) / 4 ^ (c % 16) % 4
  let s := modCellMem k c (fun _ => { freshCell s with generation := gen }) s
  let s := modCellEst k c (fun e => { e with present := false, cycle := none, accum := {}, noSaved := true }) s
  urgentSat k (c / 16) (raiseCell 0x8F (cellNo k c) s)

/-! ## Learning cycles (R394 to R400) -/

/-- An open cycle ends without a result: event 0x8B and the strand's count of the cause (R397, R412). -/
def disqualify (k c cause : Nat) (s : State) : State :=
  if ((s.estOf k).cell c).cycle.isNone then s else
  let s := modCellEst k c (fun e => { e with cycle := none }) s
  let s := modStrandMem k (fun m => { m with disqualified := modAt m.disqualified (cause - 1) (satAdd 16 · 1) }) s
  raise 0x8B cause 2 (cellNo k c) [] s

/-- The same for every cell of a strand. -/
def disqualifyStrand (k cause : Nat) (s : State) : State :=
  (List.range 512).foldl (fun s c => disqualify k c cause s) s

/-- A blended capacity and its σ, in 0.01 % steps (R400, R411). -/
def blend (p : ParamState) (m : CellMem) (w cand var : Rat) : CellMem :=
  let first := !m.learned
  let cl : Rat := if first then p.rat 0x091B 1 else (m.capacity : Rat)
  let sg : Rat := if first then p.rat 0x0A09 (1 / 10000) else m.sigma
  let v := sg * sg
  let k := w * v / (v + var)
  let lim := p.rat 0x0A0B (1 / 10000) * cl
  let step := k * (cand - cl)
  let step := if first then step else clampRat (-lim) lim step
  let floor := p.rat 0x0A0A (1 / 10000)
  let v' := max ((1 - k) * v) (floor * floor)
  { m with capacity := (roundRat (cl + step)).toNat, sigma := (roundRat (sqrtRat v' * 10000) : Rat) / 10000,
           learned := true, inconsistent := false, rejections := 0, accepted := satAdd 16 m.accepted 1 }

/-- A candidate of R398 is rejected or blended (R399, R400). -/
def candidate (p : ParamState) (k c : Nat) (w cand var : Rat) (s : State) : State :=
  let m := s.cellMem k c
  let nom := p.rat 0x091B 1
  let out := cand < nom / 2 ∨ 12 / 10 * nom < cand
  let far := m.learned = true ∧ p.rat 0x0A0C (1 / 10000) * (m.capacity : Rat) < absRat (cand - (m.capacity : Rat))
  if out ∨ far then
    raiseCell 0x8C (cellNo k c) (modCellMem k c (fun m =>
      { m with rejections := satAdd 8 m.rejections 1, inconsistent := m.inconsistent || decide (3 ≤ m.rejections + 1) }) s)
  else
    let s := modCellMem k c (fun m => { blend p m w cand var with lastResult := s.time.opSec }) s
    let s := modStrandMem k (fun m => { m with accepted := satAdd 32 m.accepted 1 }) s
    urgentSat k (c / 16) (raiseCell 0x8A (cellNo k c) s)

/-- The closing anchor of a cycle: swing, cause 2, then the candidate (R396 to R398). The first part tells whether the cycle
closed. -/
def closeCycle (p : ParamState) (k c : Nat) (y : LearnCycle) (s1 var1 w1 cap : Rat) (s : State) : Bool × State :=
  let ds := s1 - y.s0
  if absRat ds < p.rat 0x0A06 (1 / 100000) then (false, s)
  else if y.activeTime ≠ 0 ∧ p.rat 0x0A04 (1 / 1000) * cap < y.absSum / y.activeTime then (true, disqualify k c 2 s)
  else
    let q := p.rat 0x0A08 (1 / 10000)
    (true, candidate p k c (y.w0 * w1) (y.q / ds * 1000) ((y.var0 + var1) / (ds * ds) + q * q) s)

/-- The cell earns an anchor of weight `w` at this update (R394, R396). -/
def learnAnchor (p : ParamState) (k c : Nat) (w : Rat) (nowMs : Nat) (s : State) : State :=
  if p.nat 0x0A01 = 0 then s else
  let e := (s.estOf k).cell c
  let fresh : LearnCycle := { s0 := e.soc, var0 := e.socVar, w0 := w, openedMs := nowMs }
  match e.cycle with
  | none => modCellEst k c (fun e => { e with cycle := some fresh }) s
  | some y =>
    let q := closeCycle p k c y e.soc e.socVar w e.cap s
    if q.1 then modCellEst k c (fun e => { e with cycle := some fresh }) q.2 else q.2

/-- `LEARNING_CYCLE_TIMEOUT`: open longer than `LEARN.MAX_DURATION` (cause 7). -/
def execLearningCycleTimeout (cell : Nat) (s : State) : Host.Outcome State Fault Refusal :=
  .next (match ((s.estOf (cell / 512)).cell (cell % 512)).cycle with
  | some y =>
    if s.ac0On && cell < 2048 && decide (y.openedMs + 3600000 * s.pn 0x0A07 ≤ s.opMs) then disqualify (cell / 512) (cell % 512) 7 s
    else s
  | none => s)

/-! ## Impedance samples (R406 to R408) -/

/-- Add a sample to a sum. -/
def Samples.add (x : Rat) (a : Samples) : Samples := { count := a.count + 1, sum := roundF32 (a.sum + x) }

/-- What a snapshot gives the impedance tracking of one cell. -/
structure ImpIn where
  /-- Current A, voltage V, valid. -/
  i : Rat
  v : Rat
  valid : Bool
  /-- Snapshot period, s, and instant, µs. -/
  dt : Rat
  at' : Nat
  /-- Rser samples may be taken: period long enough, cell not affected, current known. -/
  step : Bool
  /-- No snapshot is missing between this one and the one before. -/
  next : Bool
  atRest : Bool
  restStart : Nat
  converter : Bool
  deriving DecidableEq, Repr

/-- The Rser sample of three snapshots, newest first, with the grid point of the first (R406, R408). -/
def rserSample (p : ParamState) (e : CellEst) (dt : Rat) : List (Rat × Rat × Bool × Nat) → Option (Rat × Nat)
  | [(i2, v2, true, _), (i1, _, true, _), (i0, v0, true, point)] =>
    let st := i1 - i0
    let di := i2 - i0
    if p.rat 0x0A0E (1 / 1000) * e.cap ≤ absRat st ∧ absRat (i2 - i1) ≤ absRat st / 10 ∧ di ≠ 0 then
      let t1 := e.rpol * e.cpol
      let a1 := decay (2 * dt) t1
      let a2 := decay (2 * dt) (p.rat 0x0927 (1 / 10) * t1)
      let r := -((v2 - v0) / di) - (1 - a1) * e.rpol - (1 - a2) * p.rat 0x0928 (1 / 1000) * e.rpol
      if e.rser / 4 ≤ r ∧ r ≤ 4 * e.rser then some (r * 1000000, point) else none
    else none
  | _ => none

/-- Progress of a relaxation (R407): the accumulator, and τ1, ms, and Rpol, µΩ, of a sample that completed. -/
def relaxStep (p : ParamState) (e : CellEst) (z : ImpIn) (point : Nat) (a : Accum) : Accum × Option (Rat × Rat) :=
  match a.relaxFrom with
  | none => (a, none)
  | some t0 =>
    if !z.atRest || z.converter then ({ a with relaxFrom := none, v0 := none, v1 := none }, none) else
    let tau := a.relaxTau
    let due := fun (n : Rat) => (t0 : Rat) + 2000000 + n * tau * 1000000 ≤ (z.at' : Rat)
    let v := z.v + vget e.x 13 - p.rat 0x0929 (1 / 1000000) * vget e.x 15
    if !z.valid then (a, none) else
    match a.v0, a.v1 with
    | none, _ => if due 0 then ({ a with v0 := some v, relaxPoint := point }, none) else (a, none)
    | some _, none => if due 1 then ({ a with v1 := some v }, none) else (a, none)
    | some v0, some v1 =>
      if !decide (due 2) then (a, none) else
      let a := { a with relaxFrom := none, v0 := none, v1 := none }
      let q := (v - v1) / (v1 - v0)
      if v1 ≠ v0 ∧ 0 < q ∧ q < 9 / 10 then
        let ts := -(tau / lnRat q)
        let rp := absRat (v1 - v0) / (1 - q) * expRat (2 / ts) / absRat a.relaxI
        (a, some (ts * 1000, rp * 1000000))
      else (a, none)

/-- A sample of a grid point that the accumulator has left is committed on its own (R408). -/
def commitAlone (k c point : Nat) (a : Accum) (s : State) : State :=
  let kept := ((s.estOf k).cell c).accum
  let s := modCellEst k c (fun e => { e with accum := { a with point := point } }) s
  modCellEst k c (fun e => { e with accum := kept }) (commitAccum k c true s)

/-- An Rser sample, µΩ, joins its grid point (R406, R408). -/
def takeRser (k c : Nat) (r : Rat) (point : Nat) (s : State) : State :=
  if ((s.estOf k).cell c).accum.point = point then
    modCellEst k c (fun e => { e with accum := { e.accum with rser := e.accum.rser.add r } }) s
  else commitAlone k c point { rser := ({} : Samples).add r } s

/-- A relaxation sample joins its grid point and is committed (R407, R408). -/
def takeRelax (k c : Nat) (x : Rat × Rat) (point : Nat) (s : State) : State :=
  if ((s.estOf k).cell c).accum.point = point then
    commitAccum k c false (modCellEst k c (fun e => { e with accum := { e.accum with
      tau := e.accum.tau.add x.1, rpol := e.accum.rpol.add x.2 } }) s)
  else commitAlone k c point { tau := ({} : Samples).add x.1, rpol := ({} : Samples).add x.2 } s

/-- Rest begins after a steady current: a relaxation is followed (R407). -/
def Accum.beginRelax (p : ParamState) (e : CellEst) (at' : Nat) (a : Accum) : Accum :=
  let tau := e.rpol * e.cpol
  match a.steady with
  | some b =>
    if p.rat 0x0A0E (1 / 1000) * e.cap ≤ absRat b ∧ (a.steadySince : Rat) + 3 * tau * 1000000 ≤ (at' : Rat)
    then { a with relaxFrom := some at', relaxI := b, relaxTau := tau, v0 := none, v1 := none } else a
  | none => a

/-- One snapshot of one cell for the impedance tracking (R406 to R408): its samples, then the move to its nearest grid point. -/
def impedanceStep (p : ParamState) (k c : Nat) (temp : Option Rat) (z : ImpIn) (s : State) : State :=
  if p.nat 0x0A01 = 0 then s else
  let e := (s.estOf k).cell c
  let point := 8 * nearest tempGrid (temp.getD e.temp) + nearest socGrid (e.soc * 100)
  let a := { e.accum with recent := ((z.i, z.v, z.valid && z.step, point) :: (if z.next then e.accum.recent else [])).take 3 }
  let a := if z.atRest && z.restStart == z.at' then a.beginRelax p e z.at' else a
  let r := relaxStep p e z point a
  let s := modCellEst k c (fun e => { e with accum := r.1 }) s
  let s := match rserSample p e z.dt a.recent with
    | some x => takeRser k c x.1 x.2 s
    | none => s
  let s := match r.2 with
    | some x => takeRelax k c x r.1.relaxPoint s
    | none => s
  if point = e.accum.point then s
  else modCellEst k c (fun e => { e with accum := { e.accum with point := point } }) (commitAccum k c true s)

/-! ## Write-back (R414 to R416) -/

/-- `LEARN.MEMORY_INTERVAL` has passed: a round takes every record that has changed (R414). -/
def startRound (s : State) : State :=
  if s.mem.round = [] ∧ s.mem.roundAt + s.pn 0x0A0D ≤ s.time.opSec then
    { s with mem := { s.mem with roundAt := s.time.opSec, round := s.mem.changed } }
  else s

/-- `MEMORY_WRITEBACK`: a write begins, not in the quiesce window, or the one in progress ends (R414, R415, R726). The accumulators
of the record's cells are committed before it (R408). A record that changed meanwhile is written again afterwards. -/
def execMemoryWriteback (done : Bool) (s : State) : Host.Outcome State Fault Refusal :=
  .next (match done, s.mem.writing with
  | true, some t =>
    let m := writeTarget t s.mem
    { s with mem := { m with writing := none, round := if m.isDirty t then t :: m.round else m.round } }
  | true, none => s
  | false, some _ => s
  | false, none =>
    if !s.mayWrite || s.time.quiesced then s else
    let s := startRound s
    match s.mem.nextTarget (s.time.now / 1000) with
    | some t =>
      let s := match t with
        | .satellite k n => (List.range 16).foldl (fun s j => commitAccum k (16 * n + j) false s) s
        | .strand _ => s
      { s with mem := { (clearTarget t s.mem).leaveRound (s.time.now / 1000) t with writing := some t } }
    | none => s)

/-- A commit abandons the write in progress: a torn copy, a silt record, and the record stays to be written (R416). -/
def abandonWrite (s : State) : State :=
  match s.mem.writing with
  | none => s
  | some t =>
    let m := tearMemory s.mem
    let m := match t with
      | .satellite k n => { m with sats := modAt m.sats (32 * k + n) (fun r => { r with dirty := true, urgent := true }) }
      | .strand k => { m with strands := modAt m.strands k (fun r => { r with dirty := true, urgent := true }) }
    let at' := match t with | .satellite k n => 32 * k + n | .strand k => k
    note 0x8D 1 (match t with | .satellite _ _ => 3 | .strand _ => 1) at' [] { s with mem := m }

/-! ## Restore at start (R413) -/

/-- One record after the CRC checks of a start: its RAM copy, and whether a copy failed, or both. -/
def MemRecord.restore {α : Type} (seq : α → Nat) (dflt : α) (r : MemRecord α) : MemRecord α × Nat :=
  let bad := bit r.copyA.isNone + bit r.copyB.isNone
  ({ r with ram := (r.newest seq).getD dflt, dirty := false, urgent := false }, bad)

/-- Step 12 of R114: restore battery memory. -/
def restoreMemory (s : State) : State :=
  let gen := fun (i j : Nat) => s.pn (0x0A80 + i) / 4 ^ j % 4
  let fresh := fun (i : Nat) =>
    ({ cells := (List.range 16).map (fun j => { freshCell s with generation := gen i j }) } : SatMem)
  let sats := s.mem.sats.zipIdx.map (fun r => r.1.restore (·.seq) (fresh r.2))
  let strands := s.mem.strands.map (fun r => r.restore (·.seq) ({} : StrandMem))
  let s := { s with mem := { sats := sats.map (·.1), strands := strands.map (·.1), roundAt := s.time.opSec } }
  let tell := fun (kind : Nat) (l : List Nat) (s : State) =>
    (List.range l.length).foldl (fun s i =>
      if l.getD i 0 = 1 then raise 0x8D 0 kind i [] s else if l.getD i 0 = 2 then raise 0x8E 0 kind i [] s else s) s
  tell 1 (strands.map (·.2)) (tell 3 (sats.map (·.2)) s)

end Sys2Proof.Machine
end

