-- ==== Sys2Proof/Machine/OpenWire.lean ====
section
/-! DEFINITION. Sense wires: the open-wire test, the connection survey and the verdicts (R256 to R266). -/
namespace Sys2Proof.Machine
open Sys2Proof

/-- Opcode of `OPEN_WIRE_TEST`. -/
def opOpenWire : Nat := 0x0703

/-! ## Verdicts on wires -/

/-- Whether cell `j` of a satellite is `INVALID_WIRE` under a list of broken wires (R257, R259). -/
def wireInvalid (broken : List (Nat × Nat)) (n j : Nat) : Bool :=
  broken.any (fun e => e.1 == n && (e.2 == j || e.2 == j + 1))

/-- A list of broken wires takes effect: flags and events of their changes (R257, R260). -/
def setBroken (k : Nat) (broken : List (Nat × Nat)) (s : State) : State :=
  let old := (s.measOf k).cells
  let inv := fun (c : Nat) => wireInvalid broken (c / 16) (c % 16)
  let s := s.modMeas k (fun m => { m with
    broken := broken,
    cells := (List.range 512).map (fun c => { m.cells.getD c {} with invalidWire := inv c && !s.masked k c }) })
  let was := fun (c : Nat) => (old.getD c {}).invalidWire
  let is := fun (c : Nat) => ((s.measOf k).cells.getD c {}).invalidWire
  let s := raiseEach ((List.range 512).filter (fun c => is c && !was c)) (fun c => raiseCell 0x46 (cellNo k c)) s
  raiseEach ((List.range 512).filter (fun c => was c && !is c)) (fun c => raiseCell 0x47 (cellNo k c)) s

/-! ## Starting a test (R256, R262, R263) -/

/-- Injection time of a phase, µs (R263). -/
def State.injectUs (s : State) : Nat := max 2000 (2 * settleUs (s.pn 0x0601))

/-- Step 1 of R263, or the start of a survey (R266). -/
def startOwt (k mode : Nat) (sats : List Nat) (by' : Option Requester) (s : State) : State :=
  let t : OwtState :=
    { mode := mode, sats := sats, by' := by', notBefore := s.time.now + settleUs (s.pn 0x0601) }
  let s := (stopTransfers k s).modMeas k (fun m => { m with owt := some t })
  if mode = 0 then raiseStrand 0x48 k s else s

/-- Satellites a payload's byte 2 names on strand `k`. -/
def State.owtSats (s : State) (k b : Nat) : List Nat :=
  if b = 0xFF then (List.range 32).filter (fun n => ((s.ring k).sat n).admitted) else [b]

/-- `OPEN_WIRE_TEST` (R262). -/
def serveOpenWire (p : Port) (tag : Half) (pl : List Byte) (s : State) : State :=
  serve opOpenWire [.standby, .run, .service] (pl.length == 4) p tag (fun s =>
    let m := field pl 0 1
    let mode := field pl 1 1
    let sat := field pl 2 1
    let ks := (List.range 4).filter (fun k => m.testBit k)
    let no := fun (st : Nat) => reply p opOpenWire tag st noDetail [] s
    if m = 0 ∨ 16 ≤ m ∨ 1 < mode ∨ zeros (pl.drop 3) = false ∨ ks.any (fun k => !s.enabled k) = true ∨
        (sat ≠ 0xFF ∧ ks.any (fun k => !((s.ring k).sat sat).admitted) = true) ∨ (mode = 1 ∧ 1 < ks.length)
    then no stOutOfRange
    else if mode = 1 ∧ s.sys.mode ≠ .service then no stWrongMode
    else if ks.any (fun k => (s.measOf k).owt.isSome) then no stBusy
    else
      let r := Requester.packet p tag
      let s := no stAccepted
      let s := { s with port := { s.port with owtJobs := s.port.owtJobs ++ [{ by' := r, strands := ks, reports := [] }] } }
      ks.foldl (fun s k => startOwt k mode (s.owtSats k sat) (some r) s) s) s

/-- `OPEN_WIRE_TEST`. -/
def execOpenWireTest (port : Port) (tag : Half) (payload : List Byte) (s : State) : Host.Outcome State Fault Refusal :=
  .next (hostRow 0x0703 serveOpenWire port tag payload s)

/-- `OW_PERIOD`: an automatic test of all satellites of a strand (`CELL.OW_PERIOD`), in the modes that allow the command; in
HOLLOW only a test started by command gives a verdict (R257). -/
def execOwPeriod (strand : Nat) (s : State) : Host.Outcome State Fault Refusal :=
  .next (if (s.sys.mode == .standby || s.sys.mode == .run || s.sys.mode == .service) && s.enabled strand && s.pn 0x060D != 0 &&
      (s.measOf strand).owt.isNone && strand < 4
    then startOwt strand 0 (s.owtSats strand 0xFF) none s else s)

/-! ## Completion (R265, R266) -/

/-- The report of strand `k` joins the jobs that wait for it; a job without strands left completes. -/
def settleOwt (k : Nat) (report : List Byte) (s : State) : State :=
  let jobs := s.port.owtJobs.map (fun j =>
    if j.strands.contains k then { j with strands := j.strands.filter (· != k), reports := j.reports ++ [(k, report)] } else j)
  let s := { s with port := { s.port with owtJobs := jobs.filter (fun j => !j.strands.isEmpty) } }
  (jobs.filter (fun j => j.strands.isEmpty)).foldl (fun s j =>
    complete j.by' opOpenWire stOk noDetail
      ((List.range 4).flatMap (fun k => (j.reports.filter (fun e => e.1 == k)).flatMap (·.2))) s) s

/-! ## The test's phases (R263, R264) -/

/-- Posts the injection of phase `p` (1 to 4), or the converter runs of survey phase `p` (0 to 31). -/
def postPhase (k p : Nat) (s : State) : State :=
  match (s.measOf k).owt with
  | none => s
  | some t =>
    let sats := t.sats.filter (fun n => ((s.ring k).sat n).usable)
    let d : RingDesc :=
      if t.mode = 0 then
        let odd := p % 2 == 0
        let up := decide (p ≤ 2)
        { purpose := .inject up odd, entries := sats.map (fun n => { addr := n, code := 0x20, args := padTo 8 (leBytes 1 (0x80 + bit odd) ++ leBytes 1 (bit up)) }) }
      else
        { purpose := .survey, entries := sats.map (fun n =>
            { addr := n, code := 0x10,
              args := padTo 8 (leBytes 1 (p / 2) ++ leBytes 1 (p % 2) ++ leBytes 2 1000 ++ leBytes 2 65535) }) }
    if sats.isEmpty then s.modMeas k (fun m => { m with owt := some { t with posted := true, armed := true, notBefore := s.time.now } })
    else
      let q := postRing k d s
      q.1.modMeas k (fun m => { m with owt := some { t with posted := q.2, armed := false } })

/-- The entries of a phase have been answered: the injection or the converters run from now on (R261, R263). -/
def phaseArmed (k : Nat) (failed : List Nat) (s : State) : State :=
  s.modMeas k (fun m => { m with owt := m.owt.map (fun t =>
    if t.posted then { t with armed := true, notBefore := s.time.now + s.injectUs, failed := t.failed ++ failed } else t) })

/-- Value of a cell in shot `i`. -/
def OwtState.shot (t : OwtState) (i c : Nat) : Option Int := (t.shots.getD i []).getD c none

/-- Twice the movement of a cell in shot `i` from the mean of the two references. -/
def OwtState.move2 (t : OwtState) (i c : Nat) : Option Int :=
  match t.shot i c, t.shot 0 c, t.shot 5 c with
  | some v, some a, some b => some (2 * v - (a + b))
  | _, _, _ => none

/-- Whether the shots of one phase show wire `w` of satellite `n` broken: none untested (R264). -/
def OwtState.phaseBroken (t : OwtState) (th i n w : Nat) : Option Bool :=
  if w = 0 then (t.move2 i (16 * n)).map (fun a => 2 * th ≤ a.natAbs)
  else if w = 16 then (t.move2 i (16 * n + 15)).map (fun a => 2 * th ≤ a.natAbs)
  else match t.move2 i (16 * n + w - 1), t.move2 i (16 * n + w) with
    | some a, some b => some (decide (2 * th ≤ a.natAbs) && decide (2 * th ≤ b.natAbs) && (decide (a < 0) != decide (b < 0)))
    | _, _ => none

/-- Verdict on a wire: none untested (R264). Even wires are injected in phases A and C, odd ones in B and D. -/
def OwtState.verdict (t : OwtState) (th n w : Nat) : Option Bool :=
  if t.failed.contains n then none else
  let i := if w % 2 = 0 then 1 else 2
  match t.phaseBroken th i n w, t.phaseBroken th (i + 2) n w with
  | some a, some b => some (a || b)
  | _, _ => none

/-- Steps 6 and 7 of R263: verdicts, flags, event and report. -/
def endOwt (k : Nat) (t : OwtState) (s : State) : State :=
  let th := s.pn 0x060C
  let reach := fun (n : Nat) => ((s.ring k).sat n).reachable
  let tested := t.sats.filter reach
  let res := tested.flatMap (fun n => (List.range 17).map (fun w => ((n, w), t.verdict th n w)))
  let bad := (res.filter (fun e => e.2 == some true)).map (·.1)
  let good := (res.filter (fun e => e.2 == some false)).map (·.1)
  let rec' := fun (n w v : Nat) => leBytes 1 k ++ leBytes 1 n ++ leBytes 1 w ++ leBytes 1 v
  let entries := t.sats.flatMap (fun n =>
    if reach n then
      (res.filter (fun e => e.1.1 == n && e.2 != some false)).map (fun e => rec' n e.1.2 (if e.2 = some true then 1 else 2))
    else [rec' n 0xFF 2])
  let report := leBytes 2 (bad.length + good.length) ++ leBytes 2 entries.length ++ entries.flatten
  let keep := (s.measOf k).broken.filter (fun e => !good.contains e && !bad.contains e)
  let s := setBroken k (keep ++ bad) s
  let s := s.modMeas k (fun m => { m with
    owt := none,
    cells := (List.range 512).map (fun c =>
      let o := m.cells.getD c {}
      let up := (m.cells.getD (c + 1) {}).sign1 && c % 16 != 15
      let low := good.contains (c / 16, c % 16)
      let high := good.contains (c / 16, c % 16 + 1)
      if low || high then { o with wireSuspect := o.wireSuspect && ((o.sign1 && !low) || (up && !high)) } else o) })
  settleOwt k report (raiseStrand (if bad.isEmpty then 0x49 else 0x4A) k s)

/-! ## The connection survey (R266) -/

/-- Shift of cell `c` between the two currents of cell `j`, µV: survey shots 2j and 2j + 1. -/
def OwtState.shift (t : OwtState) (j c : Nat) : Option Int :=
  match t.shot (2 * j) c, t.shot (2 * j + 1) c with
  | some a, some b => some (a - b)
  | _, _ => none

/-- Twice R_w in µΩ for 1 ≤ w ≤ 15: the mean of both measurements at 2 A. -/
def OwtState.conn2 (t : OwtState) (n w : Nat) : Option Int :=
  match t.shift w (16 * n + w - 1), t.shift (w - 1) (16 * n + w) with
  | some a, some b => some ((a + b) / 2)
  | _, _ => none

/-- R_w of satellite `n`, µΩ. -/
def OwtState.conn (t : OwtState) (n w : Nat) : Option Int :=
  let ends := fun (c w' : Nat) => match t.shift c (16 * n + c), t.conn2 n w' with
    | some x, some r => some ((-x - r) / 2)
    | _, _ => none
  if w = 0 then ends 0 1 else if w = 16 then ends 15 15 else (t.conn2 n w).map (· / 2)

/-- The survey ends: the connection table of each satellite is stored, and the report gives it; a connection that could not
be measured is reported with a free value and stays unsurveyed. -/
def endSurvey (k : Nat) (t : OwtState) (s : State) : State :=
  let sats := t.sats.filter (fun n => !t.failed.contains n && ((s.ring k).sat n).usable)
  let res := fun (n w : Nat) => (t.conn n w).map (fun r => (clampInt 0 65535 r).toNat)
  let free := s.free
  let report := leBytes 2 sats.length ++ [0, 0] ++ sats.flatMap (fun n =>
    (List.range 17).flatMap (fun w => leBytes 2 ((res n w).getD (Config.freeNat (free + 17 * n + w) % 65536))))
  let s := sats.foldl (fun s n =>
    let f := fun (m : MemRecord SatMem) =>
      { m with
        dirty := true, urgent := true,
        ram := { m.ram with
          surveyed := maskOf 17 (fun w => (res n w).isSome || m.ram.surveyed.testBit w),
          connections := (List.range 17).map (fun w => (res n w).getD (m.ram.connections.getD w 0)) } }
    { s with mem := { s.mem with sats := modAt s.mem.sats (32 * k + n) f } }) { s with free := free + 544 }
  let s := s.modMeas k (fun m => { m with owt := none })
  settleOwt k report (raiseStrand 0x4B k (endTransfers k s))

/-! ## Progress at each snapshot -/

/-- Uncompensated values of a strand in the newest snapshot. -/
def State.shotOf (s : State) (k : Nat) : List (Option Int) :=
  (s.measOf k).cells.map (fun c => if c.noData then none else c.lastRaw)

/-- A stop condition of R322 keeps a survey's converters from running (R324): it goes on when the condition has ended. -/
def State.surveyBarred (s : State) (k : Nat) : Bool :=
  let t := s.tripOf k
  !(s.sys.mode == .standby || s.sys.mode == .run || s.sys.mode == .service) || s.sys.incomplete.testBit k || t.guardLatch ||
    t.ac0Latch || t.active != 0 || s.feed.commit.isSome || s.demandOn k || (s.balOf k).latchedOff

/-- A test or survey of strand `k` takes the snapshot of header `h`. DEDUCED: where the snapshot of a phase was lost, its values are
invalid, and the next snapshot takes the test on (R217, R264). -/
def owtStep (k : Nat) (h : SnapHeader) (s : State) : State :=
  match (s.measOf k).owt with
  | none => s
  | some t =>
    let put := fun (t : OwtState) (s : State) => s.modMeas k (fun m => { m with owt := some t })
    let with' := fun (shot : List (Option Int)) =>
      { t with shots := t.shots ++ [shot], posted := false, armed := false, shotSeq := none }
    let taken := with' (s.shotOf k)
    if t.mode = 1 then
      if t.armed ∧ t.notBefore ≤ h.at' then
        if t.phase = 31 then endSurvey k taken s
        else
          let s := put { taken with phase := t.phase + 1 } s
          if s.surveyBarred k then s else postPhase k (t.phase + 1) s
      else if t.posted || s.surveyBarred k then s else postPhase k t.phase s
    else if t.phase = 0 then
      if t.notBefore ≤ h.at' then postPhase k 1 (put { taken with phase := 1 } s) else s
    else if t.phase ≤ 4 then
      match t.shotSeq with
      | some q =>
        let t' := if q = h.seq then taken else with' (List.replicate 512 none)
        if t.phase = 4 then put { t' with phase := 5, notBefore := h.sampled + settleUs (s.pn 0x0601) } s
        else postPhase k (t.phase + 1) (put { t' with phase := t.phase + 1 } s)
      | none => if t.posted then s else postPhase k t.phase s
    else if t.notBefore ≤ h.at' then endOwt k taken s else s

/-! ## Signs of a broken wire (R256, R257) -/

/-- Sign 1 of the wire below cell `c` (between `c − 1` and `c` of one satellite), from the innovations in µV. -/
def signOne (suspect tol : Nat) (a b : Rat) : Bool :=
  decide (a * b < 0) && decide ((suspect : Rat) ≤ absRat a) && decide ((suspect : Rat) ≤ absRat b) &&
    decide (absRat (a + b) ≤ (tol : Rat))

/-- Sign 4: the apparent impedances of two cells over their last 16 current steps correlate at −0.8 or below. -/
def anticorrelated (xs ys : List Rat) : Bool :=
  if xs.length < 16 ∨ ys.length < 16 then false else
  let sum := fun (l : List Rat) => l.foldl (· + ·) 0
  let dx := xs.map (· - sum xs / 16)
  let dy := ys.map (· - sum ys / 16)
  let cov := sum (List.zipWith (· * ·) dx dy)
  let vx := sum (dx.map (fun a => a * a))
  let vy := sum (dy.map (fun a => a * a))
  decide (cov < 0) && decide (64 / 100 * vx * vy ≤ cov * cov)

/-- An automatic test of the satellite of a suspect pair starts, or is refused while a test of the strand runs (R256). -/
def autoTest (k c : Nat) (s : State) : State :=
  let o := s.cell k c
  if !(o.sign1 && o.wireSuspect) || s.pn 0x060B != 1 || (s.measOf k).broken.contains (c / 16, c % 16) then s
  else if (s.measOf k).owt.isSome then s.modCell k c (fun o => { o with refused := true })
  else startOwt k 0 [c / 16] none (s.modCell k c (fun o => { o with refused := false }))

/-- The innovations of a model update reach the wire verdict: signs 1, 2 and 4, `WIRE_SUSPECT`, event 0x45 and the automatic test
(R256, R257). -/
def judgeSigns (k : Nat) (innov : Nat → Option Rat) (s : State) : State :=
  let su := s.pn 0x0608
  let tol := s.pn 0x0609
  let e := s.estOf k
  let holds := fun (c : Nat) => c % 16 != 0 && (match innov (c - 1), innov c with
    | some a, some b => signOne su tol a b
    | _, _ => false)
  let all := fun (c : Nat) => holds c && !(s.strandHv k).sumFlag && anticorrelated (e.cell (c - 1)).steps (e.cell c).steps
  let old := (s.measOf k).cells
  let new := (List.range 512).filter (fun c => holds c && !(old.getD c {}).sign1)
  let s := s.modMeas k (fun m => { m with cells := (List.range 512).map (fun c =>
    let o := m.cells.getD c {}
    let mine := holds c
    let next := c % 16 != 15 && holds (c + 1)
    { o with sign1 := mine, refused := o.refused && mine,
             signsSince := if all c then some (o.signsSince.getD s.time.now) else none,
             wireSuspect := if new.contains c || new.contains (c + 1) && c % 16 != 15 then true
                            else o.wireSuspect && (mine || next) }) })
  let s := new.foldl (fun s c => raiseCell 0x45 (cellNo k c) s) s
  ((List.range 512).filter holds).foldl (fun s c => autoTest k c s) s

/-- `WIRE_VERDICT_TIMEOUT`: signs 1, 2 and 4 held for 60 s with no test possible: the wire counts as broken (R257). -/
def execWireVerdictTimeout (strand sat wire : Nat) (s : State) : Host.Outcome State Fault Refusal :=
  .next (
    let c := 16 * sat + wire
    let m := s.measOf strand
    let o := m.cells.getD c {}
    let due := match o.signsSince with | some t => decide (t + 60000000 ≤ s.time.now) | none => false
    if strand < 4 && sat < 32 && 1 ≤ wire && wire ≤ 15 && s.evaluates && s.sys.mode != .hollow && due && o.wireSuspect &&
        !(s.strandHv strand).sumFlag && (s.pn 0x060B == 0 || o.refused || m.owt.isSome) && !m.broken.contains (sat, wire)
    then setBroken strand (m.broken ++ [(sat, wire)]) s else s)

/-- `CELL_STALE`: a position without a valid value for `CELL.STALE_LIMIT`: event 0x41 and a protection trip (R245). The
time is known to 1 ms. -/
def execCellStale (cell : Nat) (s : State) : Host.Outcome State Fault Refusal :=
  .next (
    let k := cell / 512
    let c := cell % 512
    let o := s.cell k c
    if k < 4 && s.evaluates && s.sys.mode != .thermalLock && s.enabled k && !s.masked k c && !o.stale &&
        o.lastAt + 1000 * s.pn 0x0607 < s.time.now + 1000
    then judgeTrip k 13 false true (fun s => s)
      (raiseCell 0x41 cell (s.modCell k c (fun x => { x with stale := true, kept := none })))
    else s)

end Sys2Proof.Machine
end

