-- ==== Sys2Proof/Machine/Estim.lean ====
section
/-! DEFINITION. The estimator: current inference, the filter, anchors, cross-check, reported values and limits
(chapter 10). -/
namespace Sys2Proof.Machine
open Sys2Proof

/-! ## Inputs -/

/-- The snapshot's cells and inputs, as AC0 handed them over. -/
def HandOff.meas (h : HandOff) : MeasState := { cells := h.cells, temps := h.temps, newest := some h.head }

/-- Current of class 0x22, A, where it can witness: valid, offset in range, not reversed. -/
def State.witness (s : State) (k : Nat) (current : Option Int) : Option Rat :=
  if (s.strandHv k).offsetBad || (s.estOf k).reversed then none else current.map (fun i => (i : Rat) / 1000)

/-- The measured current where it is usable, A (R379). -/
def State.measured (s : State) (k : Nat) (current : Option Int) : Option Rat :=
  if (s.estOf k).disagree then none else s.witness k current

/-- Converter current of a cell at a snapshot, A, positive discharging, blanking gaps removed; for the trim converter the mean
current of its latest response (R336). -/
def State.converterA (s : State) (k : Nat) (h : SnapHeader) (c : Nat) : Rat :=
  let l := (s.balOf k).leases.getD (c / 16) {}
  match l.run with
  | some r =>
    if r.cell = c % 16 ∧ h.sampled ≤ r.until' then
      let gap : Rat := if h.blanking && r.direction != 2 then 1 - 200 / (h.period : Rat) else 1
      (l.signed r : Rat) / 1000 * gap
    else 0
  | none => 0

/-- The latest instant between two at which a converter run on the cell ended (R371). -/
def State.converterEnd (s : State) (k c since upTo : Nat) : Option Nat :=
  ((s.balOf k).leases.getD (c / 16) {}).runs.foldl (fun a e =>
    if e.run.cell = c % 16 ∧ since < e.at' ∧ e.at' ≤ upTo then some (max e.at' (a.getD 0)) else a) none

/-- The primary value the estimator takes as valid (R246, R250). -/
def CellState.trusted (c : CellState) : Option Int := if c.plausFail then none else c.value

/-- The flags of R361 let a cell take part. -/
def CellState.usable (c : CellState) : Bool := c.value.isSome && !c.plausFail && !c.invalidWire && !c.wireSuspect

/-- Capacity in use of a record, Ah (R359). -/
def capacityOf (p : ParamState) (m : CellMem) : Rat :=
  if m.capacity = 0 then p.rat 0x091B (1 / 1000) else (m.capacity : Rat) / 1000

/-- The record whose capacity counts as the cell's: as last written, but nothing is learned from the reset of the record on, before
that reset is written (R401, R418). -/
def State.capMem (s : State) (k c : Nat) : CellMem := if (s.cellMem k c).capacity = 0 then s.cellMem k c else s.cellNvm k c

/-- Values derived from a posterior: SOC, its variance, the predictor and its variance (R353, R360, R369). -/
def CellEst.derive (p : ParamState) (e : CellEst) : CellEst :=
  let hrow := measureRow p e.x
  let u := (List.range 16).map (fun i => if i = 5 ∨ i = 11 then vget hrow i else 0)
  { e with soc := roundF32 (socOf p e.x), socVar := roundF32 (quad e.p (socGradient p)), ocv := roundF32 (ocvOf p e.x),
           eta1 := vget e.x 12, eta2 := vget e.x 13, sigmaU := roundF32 (quad e.p u) }

/-- A cell started without saved state from its value `y` V (last row of R387). -/
def freshEstimate (p : ParamState) (m : CellMem) (cap y : Rat) (temp : Option Rat) (at' index : Nat) (old : CellEst) : CellEst :=
  let sv := socOfOcv p y
  let n := clampRat 0 1 (thetaOf p 0 + sv * nWidth p)
  let q := clampRat 0 1 (thetaOf p 2 + sv * pWidth p)
  let d := socDirection p
  let pm := Mat.build 16 (fun r c =>
    vget d r * vget d c / 400 + (if r = c ∧ 12 ≤ r then (if r = 15 then 1 / 3 else (Config.defaultVariance r : Rat) / 10 ^ 12) else 0))
  let x := settleState (List.replicate 6 n ++ List.replicate 6 q ++ [0, 0, 0, 0])
  let t := temp.getD old.temp
  let z := impedance p m sv t
  let e : CellEst :=
    { present := true, x := x, p := List.map (List.map roundF32) pm, rser := z.1, rpol := z.2.1, cpol := z.2.2,
      cap := cap, temp := t, tempInvalid := temp.isNone, anchorMs := 3600000 * p.nat 0x0904, noSaved := true,
      updatedAt := at', index := index, accum := old.accum }
  let e := e.derive p
  { e with reported := clampRat 0 1 e.soc, uncertainty := 3 * sqrtRat e.socVar }

/-- Cells of a strand without an estimate take one from the first valid snapshot (R387). -/
def startCells (p : ParamState) (k : Nat) (m : MeasState) (h : SnapHeader) (s : State) : State :=
  let e := s.estOf k
  let had := e.cells.any (fun c => c.present && c.noSaved)
  let cells := (List.range 512).map (fun c =>
    let o := e.cell c
    match o.present, (m.cells.getD c {}).usable, (m.cells.getD c {}).value with
    | false, true, some v =>
      freshEstimate p (s.cellNvm k c) (capacityOf p (s.capMem k c)) ((v : Rat) / 1000000) (m.cellTemp c) h.at' h.index o
    | _, _, _ => o)
  let s := s.modEst k (fun e => { e with cells := cells })
  if cells.any (fun c => c.present && c.noSaved) && !had then raiseStrand 0x80 k s else s

/-! ## Current inference (R360 to R364) -/

/-- One cell's contribution to the inference. -/
structure Share where
  cell : Nat
  /-- h_i V/A, r_i V, w_i. -/
  h : Rat
  r : Rat
  w : Rat
  outlier : Bool
  deriving DecidableEq, Repr

/-- The contributions of a strand's cells (R360, R361). -/
def shares (p : ParamState) (m : MeasState) (e : StrandEst) (dt : Rat) : List Share :=
  (List.range 512).filterMap (fun c =>
    let x := m.cells.getD c {}
    let z := e.cell c
    match x.value with
    | some v =>
      if !z.present || !x.usable then none else
      let t1 := z.rpol * z.cpol
      let a1 := decay dt t1
      let a2 := decay dt (p.rat 0x0927 (1 / 10) * t1)
      let h := -(z.rser + (1 - a1) * z.rpol + (1 - a2) * p.rat 0x0928 (1 / 1000) * z.rpol)
      let ci := z.ocv + p.rat 0x0929 (1 / 1000000) * vget z.x 15 - a1 * z.eta1 - a2 * z.eta2 + h * z.iConv
      let sg := p.rat 0x090E (1 / 1000000)
      some { cell := c, h := h, r := (v : Rat) / 1000000 - ci, w := 1 / (sg * sg + z.sigmaU), outlier := z.outlier }
    | none => none)

/-- Weighted sum over shares. -/
def shareSum (f : Share → Rat) (l : List Share) : Rat := l.foldl (fun a x => a + f x) 0

/-- Inferred current and σ_I, A; none with fewer than 8 cells (R360, R361). -/
def inferCurrent (l : List Share) : Option (Rat × Rat) :=
  let l := l.filter (fun x => !x.outlier)
  if l.length < 8 then none else
  let d := shareSum (fun x => x.w * x.h * x.h) l
  some (roundF32 (shareSum (fun x => x.w * x.h * x.r) l / d), roundF32 (1 / sqrtRat d))

/-- Scoring of one cell (R362); the flag tells that it became an outlier. -/
def scoreCell (x : Share) (i : Rat) (e : CellEst) : CellEst × Bool :=
  let z2 := (x.r - x.h * i) * (x.r - x.h * i) * x.w
  if e.outlier then
    if z2 ≤ 4 then
      if 30 ≤ e.outlierCount + 1 then ({ e with outlier := false, outlierCount := 0 }, false)
      else ({ e with outlierCount := e.outlierCount + 1 }, false)
    else ({ e with outlierCount := 0 }, false)
  else if 16 < z2 then
    if 3 ≤ e.outlierCount + 1 then
      ({ e with outlier := true, outlierCount := 0, p := List.map (List.map (fun v => roundF32 (4 * v))) e.p,
                socVar := roundF32 (4 * e.socVar), sigmaU := roundF32 (4 * e.sigmaU) }, true)
    else ({ e with outlierCount := e.outlierCount + 1 }, false)
  else ({ e with outlierCount := 0 }, false)

/-- A cell without a score in a snapshot: the run of consecutive ones ends (R362). -/
def CellEst.unscored (e : CellEst) : CellEst := { e with outlierCount := 0 }

/-- Mean capacity in use of the cells with an estimate, Ah (C_ref). -/
def StrandEst.cRef (e : StrandEst) : Rat :=
  let l := e.cells.filter (·.present)
  if l.isEmpty then 0 else l.foldl (fun a c => a + c.cap) 0 / (l.length : Rat)

/-- Standard deviation of a list. -/
def deviation (l : List Rat) : Rat :=
  if l.isEmpty then 0 else
  let n : Rat := (l.length : Rat)
  let mu := l.foldl (· + ·) 0 / n
  sqrtRat (l.foldl (fun a x => a + (x - mu) * (x - mu)) 0 / n)

/-- Observability index (R363). -/
def StrandEst.obsIndex (p : ParamState) (at' : Nat) (e : StrandEst) : Rat :=
  if e.atRest then 1 else
  let win := p.nat 0x0906
  if (match e.restEnded with | some t => decide (at' < t + 1000000 * win) | none => false) then 1 else
  let full := p.rat 0x0907 (1 / 1000) * e.cRef
  if full = 0 then 0 else min 1 (deviation ((e.means.take win).filterMap (fun x => x)) / full)

/-- Rest of R370. -/
def restStep (p : ParamState) (at' : Nat) (meas : Option Rat) (e : StrandEst) : StrandEst :=
  let th := p.rat 0x0903 (1 / 1000)
  let quiet := fun (x : Rat) => decide (absRat x ≤ th)
  let ok := (match e.iInf with | some i => quiet i | none => false) && (match meas with | some i => quiet i | none => true)
  if ok then
    if e.atRest then { e with restFails := 0 } else { e with atRest := true, restFails := 0, restStart := at' }
  else if e.atRest then
    if 3 ≤ e.restFails + 1 then { e with atRest := false, restFails := 0, restEnded := some at' }
    else { e with restFails := e.restFails + 1 }
  else e

/-- The end of a second: the means of R363 and R377. `skipped` seconds after it have no snapshot and so no mean. -/
def closeSecond (p : ParamState) (skipped : Nat) (e : StrandEst) : StrandEst :=
  let win := p.nat 0x0906
  let none' := min skipped win
  let inf : Option Rat := if e.secCount = 0 then none else some (e.secInf / (e.secCount : Rat))
  let meas : Option Rat := if e.secMeasCount = 0 then none else some (e.secMeas / (e.secMeasCount : Rat))
  let now := match meas, inf with | some m, some i => some (m, i) | _, _ => none
  let inc : Option (Rat × Rat) := match now, e.prevMeans with
    | some (m, i), some (m', i') => if 5 / 100 * e.cRef ≤ absRat (i - i') then some (m - m', i - i') else none
    | _, _ => none
  { e with means := (List.replicate none' none ++ inf :: e.means).take win,
           increments := (List.replicate none' none ++ inc :: e.increments).take win,
           prevMeans := if skipped = 0 then now else none,
           secInf := 0, secMeas := 0, secCount := 0, secMeasCount := 0 }

/-- Cross-check of one snapshot (R375, R376). -/
def crossCheck (p : ParamState) (dtMs : Nat) (meas : Option Rat) (e : StrandEst) : StrandEst :=
  match e.iInf, meas with
  | some i, some m =>
    let d := m - i
    let w := max (p.rat 0x090A (1 / 1000)) (p.rat 0x090B (1 / 1000) * absRat i) + 3 * e.sigmaI
    let low := decide (e.obs < p.rat 0x0908 (1 / 1000))
    let e := { e with dk := some d }
    if absRat d ≤ w then { e with disagreeMs := 0, agreeMs := e.agreeMs + dtMs }
    else if low then { e with agreeMs := 0 } else { e with agreeMs := 0, disagreeMs := e.disagreeMs + dtMs }
  | _, _ => { e with dk := none }

/-- Current assist (R380): I_k of the snapshot. -/
def assist (p : ParamState) (meas : Option Rat) (e : StrandEst) : StrandEst :=
  let low := p.rat 0x0908 (1 / 1000)
  match e.iInf, meas with
  | some i, some m =>
    if p.nat 0x0902 = 1 ∧ e.obs < low then
      let a := p.rat 0x0909 (1 / 1000) * (1 - e.obs / low)
      { e with iUsed := some ((1 - a) * i + a * m), assist := true }
    else { e with iUsed := some i, assist := false }
  | i, _ => { e with iUsed := i, assist := false }

/-- Observability flag and its events (R364). -/
def judgeObs (p : ParamState) (k : Nat) (s : State) : State :=
  let e := s.estOf k
  let low := p.rat 0x0908 (1 / 1000)
  if e.obsLow then
    if low + 1 / 10 ≤ e.obs ∨ e.obs = 1 then raiseStrand 0x83 k (s.modEst k (fun e => { e with obsLow := false })) else s
  else if e.obs < low then raiseStrand 0x82 k (s.modEst k (fun e => { e with obsLow := true })) else s

/-- Predictors before an inference: open-circuit voltage advanced, converter current noted (R360). -/
def advancePredictors (p : ParamState) (k : Nat) (h : SnapHeader) (dt : Rat) (s : State) : State :=
  let e := s.estOf k
  let cells := (List.range 512).map (fun c =>
    let z := e.cell c
    if !z.present then z else
    { z with ocv := roundF32 (z.ocv - ocvSlope p z.x * e.iPrev * dt / (3600 * z.cap)), iConv := roundF32 (s.converterA k h c) })
  s.modEst k (fun e => { e with cells := cells })

/-- Predictors after an inference: the polarisation copies follow the inferred current `i` (R360), the sums of a second the cell
current of R355 with the strand's `used`. -/
def CellEst.follow (p : ParamState) (dt i used : Rat) (z : CellEst) : CellEst :=
  if !z.present then z else
  let t1 := z.rpol * z.cpol
  let a1 := decay dt t1
  let a2 := decay dt (p.rat 0x0927 (1 / 10) * t1)
  let ci := i + z.iConv
  { z with eta1 := roundF32 (a1 * z.eta1 + (1 - a1) * z.rpol * ci),
           eta2 := roundF32 (a2 * z.eta2 + (1 - a2) * p.rat 0x0928 (1 / 1000) * z.rpol * ci),
           secSum := z.secSum + absRat (used + z.iConv), secCount := z.secCount + 1,
           accum := { z.accum with secI := z.accum.secI + (used + z.iConv) } }

/-- End of a second at `at'` for one cell: steady current of R407. -/
def Accum.second (at' n : Nat) (a : Accum) : Accum :=
  if n = 0 then a else
  let m := a.secI / (n : Rat)
  let a := { a with secI := 0 }
  match a.steady with
  | some b => if absRat (m - b) ≤ absRat b / 10 then a else { a with steady := some m, steadySince := at' - 1000000 }
  | none => { a with steady := some m, steadySince := at' - 1000000 }

/-- A second ends on strand `k`: means, peaks of cause 3, steady currents. -/
def endSecond (p : ParamState) (k at' skipped : Nat) (s : State) : State :=
  let e := s.estOf k
  let peak := (List.range 512).filter (fun c =>
    let z := e.cell c
    z.cycle.isSome && z.secCount != 0 && decide (p.rat 0x0A05 (1 / 1000) * z.cap < z.secSum / (z.secCount : Rat)))
  let s := s.modEst k (fun e => { closeSecond p skipped e with
    cells := e.cells.map (fun z => { z with secSum := 0, secCount := 0, accum := z.accum.second at' z.secCount }) })
  peak.foldl (fun s c => disqualify k c 3 s) s

/-- The scores of an inference: events of new outliers, and an ended run where a cell took no part (R362). -/
def scoreCells (k : Nat) (l : List Share) (res : Option (Rat × Rat)) (s : State) : State :=
  let part := if res.isSome then l.map (·.cell) else []
  let s := s.modEst k (fun e => { e with cells := e.cells.zipIdx.map (fun z => if part.contains z.2 then z.1 else z.1.unscored) })
  match res with
  | none => s
  | some (i, _) => l.foldl (fun s x =>
      let q := scoreCell x i ((s.estOf k).cell x.cell)
      let s := modCellEst k x.cell (fun _ => q.1) s
      if q.2 then raise 0x88 0 2 (cellNo k x.cell) [] (disqualify k x.cell 5 s) else s) s

/-- The current of one snapshot joins the sums of the second and of the update (R363, R365, R377). -/
def StrandEst.sumUp (wit : Option Rat) (e : StrandEst) : StrandEst :=
  let e := match e.iInf with
    | some i => { e with iPrev := i, secInf := e.secInf + i, secCount := e.secCount + 1, sum := e.sum + e.iUsed.getD i, count := e.count + 1 }
    | none => e
  match wit with
  | some m => { e with secMeas := e.secMeas + m, secMeasCount := e.secMeasCount + 1 }
  | none => e

/-- The snapshot that starts an update closes the mean of the currents since the last one (R365). -/
def StrandEst.closeMean (seq : Nat) (e : StrandEst) : StrandEst :=
  if e.updating.any (fun u => u.head.seq == seq) then
    { e with updateView := { ins := e.iUsed, sigma := e.sigmaI, obs := e.obs, atRest := e.atRest, restStart := e.restStart,
                             restEnded := e.restEnded },
             updateIk := some (if e.count = 0 then none else some (e.sum / (e.count : Rat))), sum := 0, count := 0 }
  else e

/-- Causes of R397 that a snapshot shows for a cell of strand `k` with an open cycle: no valid primary value, or no valid inference,
for more than 5 s, or a flag of cause 5; 0 none. -/
def snapshotCause (e : StrandEst) (at' : Nat) (x : CellState) (z : CellEst) : Nat :=
  let long := fun (t : Option Nat) => match t with | some t => decide (t + 5000000 < at') | none => false
  if z.cycle.isNone then 0
  else if long z.invalidSince then 4
  else if x.plausFail || x.invalidWire || x.wireSuspect then 5
  else if long e.inferInvalidSince then 6 else 0

/-- How long a cell has had no valid primary value (cause 4 of R397), and the cycles that the snapshot ends. -/
def watchCycles (k : Nat) (o : HandOff) (s : State) : State :=
  let t := o.head.at'
  let s := s.modEst k (fun e => { e with cells := e.cells.zipIdx.map (fun z =>
    { z.1 with invalidSince := if (o.cells.getD z.2 {}).trusted.isSome then none else some (z.1.invalidSince.getD t) }) })
  (List.range 512).foldl (fun s c =>
    let e := s.estOf k
    let n := snapshotCause e t (o.cells.getD c {}) (e.cell c)
    if n = 0 then s else disqualify k c n s) s

/-- The inference of one snapshot of a strand (R347, R360 to R364, R370, R375, R380, R406, R407). -/
def inferSnapshot (k : Nat) (o : HandOff) (s : State) : State :=
  let h := o.head
  let m := o.meas
  let p := h.set
  let last := (s.estOf k).lastSnap
  let us : Nat := match last with | some t => h.at' - t | none => h.period
  let dt : Rat := (us : Rat) / 1000000
  let s := advancePredictors p k h dt (startCells p k m h s)
  let l := shares p m (s.estOf k) dt
  let res := inferCurrent l
  let s := scoreCells k l res s
  let seconds := match last with | some t => h.at' / 1000000 - t / 1000000 | none => 0
  let s := if seconds = 0 then s else endSecond p k (h.at' / 1000000 * 1000000) (seconds - 1) s
  let meas := s.measured k o.current
  let wit := s.witness k o.current
  let s := s.modEst k (fun e =>
    let e := { e with
      lastSnap := some h.at', iInf := res.map (·.1), sigmaI := (res.map (·.2)).getD e.sigmaI, iMeas := meas,
      inferInvalid := res.isNone,
      inferInvalidSince := if res.isNone then some (e.inferInvalidSince.getD h.at') else none }
    let e := restStep p h.at' meas e
    let e := { e with obs := roundF32 (e.obsIndex p h.at') }
    let e := ((assist p meas (crossCheck p (h.at' / 1000 - (h.at' - us) / 1000) wit e)).sumUp wit).closeMean h.seq
    match res with
    | some (i, _) => { e with cells := e.cells.map (·.follow p dt i (e.iUsed.getD i)) }
    | none => e)
  let s := watchCycles k o (judgeObs p k s)
  let e := s.estOf k
  (List.range 512).foldl (fun s c =>
    let z := e.cell c
    if !z.present then s else
    let x := m.cells.getD c {}
    impedanceStep p k c (m.cellTemp c)
      { i := e.iUsed.getD e.iPrev + z.iConv, v := ((x.value.getD 0 : Int) : Rat) / 1000000, valid := x.usable, dt := dt,
        at' := h.at', step := settleUs h.corner ≤ us && !x.balAffected && res.isSome, next := decide (us < 2 * h.period), atRest := e.atRest, restStart := e.restStart,
        converter := z.iConv != 0 } s) s

/-- `CURRENT_INFERENCE`: the array infers the current of a strand at the oldest snapshot handed over (R29, R92, R347, R389). -/
def execCurrentInference (ring : Nat) (s : State) : Host.Outcome State Fault Refusal :=
  .next (if !s.arrayStarts then s else
    match (s.estOf ring).toInfer with
    | [] => s
    | o :: rest => inferSnapshot ring o (s.modEst ring (fun e => { e with toInfer := rest })))

/-! ## The filter (R365 to R368) -/

/-- Prediction of one cell. -/
def CellEst.predicted (p : ParamState) (m : CellMem) (temp : Option Rat) (ik iConv sigma : Rat) (at' : Nat) (e : CellEst) : CellEst :=
  let dt : Rat := ((at' - e.updatedAt : Nat) : Rat) / 1000000
  let t := match temp with | some t => t + vget e.x 14 | none => e.temp
  let z := impedance p m e.soc t
  let i := ik + iConv
  let w : StepIn :=
    { i := i, dt := dt, rser := z.1, rpol := z.2.1, cpol := z.2.2, cap := e.cap, kelvin := t + 27315 / 100 }
  let q := predict p w e.x
  let pm := ((q.2.mul 16 e.p).mul 16 (Mat.tr 16 q.2)).add (processNoise p w sigma)
  { e with x := q.1, p := List.map (List.map roundF32) pm, rser := roundF32 z.1, rpol := roundF32 z.2.1, cpol := roundF32 z.2.2,
           temp := roundF32 t, tempInvalid := temp.isNone, iConv := roundF32 iConv, dq := roundF32 (-(i * dt / 3600)), dt := dt }

/-- Correction of one cell by its value, V (R365); `corr` tells that it may be corrected at all. -/
def CellEst.corrected (p : ParamState) (ik y : Rat) (corr : Bool) (e : CellEst) : CellEst :=
  let hr := measureRow p e.x
  let inn := y - terminal p e.x e.rser (ik + e.iConv)
  let ph := Mat.vec e.p hr
  let sg := p.rat 0x090E (1 / 1000000)
  let sv := dot hr ph + sg * sg
  let e := { e with innovation := roundF32 inn, s := roundF32 sv }
  if !corr then { e with rejected := false, rejections := 0 }
  else if 36 * sv < inn * inn then { e with rejected := true, rejections := e.rejections + 1 }
  else
    let kg := ph.map (fun v => cut (v / sv))
    let ikh := Mat.build 16 (fun r c => (if r = c then 1 else 0) - vget kg r * vget hr c)
    let pm := ((ikh.mul 16 e.p).mul 16 (Mat.tr 16 ikh)).add (Mat.scale (sg * sg) (outer kg))
    { e with x := settleState (List.zipWith (fun a b => a + b * inn) e.x kg), p := List.map (List.map roundF32) pm,
             rejected := false, rejections := 0 }

/-- Filter result is unusable (R367); no single-precision number reaches 2¹²⁸. -/
def CellEst.broken (e : CellEst) : Bool :=
  10 ≤ e.rejections || (List.range 16).any (fun i => decide (Mat.get e.p i i < 0 ∨ pow2 128 ≤ Mat.get e.p i i))

/-- The rest that ran at the cell's last update ended before or at `at'`: when. A converter run that ended meanwhile ended it before;
DESIGN CHOICE: as no instant of its start is known here, at that update (R370, R371). -/
def CellEst.restStop (since at' : Nat) (v : UpdateView) (ended : Option Nat) (e : CellEst) : Option Nat :=
  match ended, v.restEnded with
  | some _, _ => some since
  | none, some t => if since < t ∧ t ≤ at' then some t else if v.atRest && e.iConv == 0 then none else some since
  | none, none => if v.atRest && e.iConv == 0 then none else some since

/-- Rest time at `at'` of the rest that runs then, counted from its own beginning where that lies after the last update (R371). -/
def CellEst.restNow (since at' : Nat) (v : UpdateView) (ended : Option Nat) (e : CellEst) : Nat :=
  let start := max (ended.getD 0) v.restStart
  if !(v.atRest && e.iConv == 0) then 0
  else if since < start then msBetween start at' else e.restMs + msBetween since at'

/-- Rest time and anchors of one cell from its last update to this one's snapshot (R371 to R373): the record and the weight earned, if
any. `ended` is the end of a converter run on the cell meanwhile. -/
def CellEst.anchors (p : ParamState) (at' : Nat) (v : UpdateView) (ended : Option Nat) (valid : Bool) (e : CellEst) :
    CellEst × Option Rat :=
  let since := e.updatedAt
  let full := 1000 * p.nat 0x0905
  let stop := e.restStop since at' v ended
  let before := match stop with | some t => if e.restMs = 0 then 0 else e.restMs + msBetween since t | none => 0
  let rest := e.restNow since at' v ended
  let first := e.restMs < full
  let split := stop.getD at'
  let after := msBetween split at'
  if valid && ((first && full ≤ before) || ((first || stop.isSome) && full ≤ rest)) then
    ({ e with restMs := rest, anchorMs := if full ≤ rest then rest - full else before - full + after, noSaved := false }, some 1)
  else if valid && first && 120000 ≤ before then
    let w : Rat := (before : Rat) / (full : Rat)
    ({ e with restMs := rest, anchorMs := ((e.ageAt split : Rat) * (1 - w)).floor.toNat + after }, some w)
  else ({ e with restMs := rest, anchorMs := e.ageAt at' }, none)

/-- Causes of R397 that act at once at a model update; 0 none. -/
def State.learnCause (s : State) (p : ParamState) (k c at' : Nat) : Nat :=
  let e := s.estOf k
  let z := e.cell c
  let x := s.cell k c
  let long := fun (t : Option Nat) => match t with | some t => decide (t + 5000000 < at') | none => false
  if z.tempInvalid || decide (z.temp < p.rat 0x0A02 (1 / 100)) || decide (p.rat 0x0A03 (1 / 100) < z.temp) then 1
  else if long z.invalidSince then 4
  else if x.plausFail || x.invalidWire || x.wireSuspect || z.outlier then 5
  else if e.anchorStale || e.disagree || e.reversed || long e.inferInvalidSince then 6
  else if p.nat 0x0A01 = 0 then 9
  else 0

/-- One cell's model update, with learning and counting (R365, R371, R394 to R397, R401, R402). The terminal voltage is that of
the snapshot's own current, as in the worked example of R365, or of the mean where that snapshot has none. -/
def updateCell (p : ParamState) (k c : Nat) (u : HandOff) (ik sigma step : Rat) (s : State) : State :=
  let h := u.head
  let z := (s.estOf k).cell c
  if !z.present || s.masked k c then s else
  let x := u.cells.getD c {}
  let m := s.cellNvm k c
  let view := (s.estOf k).updateView
  let rest := view.atRest
  let z := if rest then { z with cap := capacityOf p (s.capMem k c) } else z
  let since := z.updatedAt
  let ended := s.converterEnd k c since h.at'
  let y := x.trusted
  let z := z.predicted p m (u.meas.cellTemp c) ik (s.converterA k h c) sigma h.at'
  let z := match y with
    | some v => z.corrected p (view.ins.getD ik) ((v : Rat) / 1000000) (x.usable && !z.outlier)
    | none => { z with rejected := false, rejections := 0 }
  let z := { z with
    index := h.index,
    steps := if step = 0 ∨ y = none then z.steps else (z.innovation / step :: z.steps).take 16 }
  if z.broken then
    let s := modCellEst k c (fun _ => { z with present := false, noSaved := true, rejections := 0, outlier := false }) s
    let s := { s with upd := { s.upd with reinits := s.upd.reinits + 1 } }
    raiseCell 0x84 (cellNo k c) (disqualify k c 5 s)
  else
    let a := (z.derive p).anchors p h.at' view ended y.isSome
    let z := { a.1 with updatedAt := h.at' }
    let i := ik + z.iConv
    let z := { z with cycle := z.cycle.map (fun l => { l with
      q := l.q + z.dq, absSum := if rest then l.absSum else l.absSum + absRat i * z.dt,
      activeTime := if rest then l.activeTime else l.activeTime + z.dt }) }
    let s := modCellEst k c (fun _ => z) s
    let s := if z.dq = 0 then s else modCellMem k c (fun m => { m with
      cycles := m.cycles + absRat z.dq / (2 * z.cap),
      charged := if 0 < z.dq then m.charged + z.dq else m.charged,
      discharged := if z.dq < 0 then m.discharged - z.dq else m.discharged }) s
    let cause := s.learnCause p k c h.at'
    let s := if cause = 0 then s else disqualify k c cause s
    match a.2 with
    | some w => learnAnchor p k c w s.opMs s
    | none => s

/-! ## The journal's summary (R99, R352, R353, R368) -/

/-- Unit of a state's journal code. -/
def journalUnit (i : Nat) : Rat :=
  if i < 12 then 1 / 65535 else if i < 14 then 20 / 1000000 else if i = 14 then 1 / 100 else 1 / 32767

/-- Journal code of a state. -/
def journalCode (i : Nat) (v : Rat) : Int :=
  let c := roundRat (v / journalUnit i)
  if i < 12 then clampInt 0 65535 c else clampInt (-32768) 32767 c

/-- Variance byte. -/
def varianceByte (i : Nat) (v : Rat) : Nat :=
  let u := v / (journalUnit i * journalUnit i)
  if u ≤ 0 then 0 else (clampInt 0 255 (roundRat (8 * (lnRat u / ln2)))).toNat

/-- Summary of one cell. -/
def summaryCell (x : CellState) (e : CellEst) : JournalCell :=
  { states := (List.range 16).map (fun i => journalCode i (vget e.x i)),
    variances := (List.range 16).map (fun i => varianceByte i (Mat.get e.p i i)),
    soc := roundRat (e.reported * 100000), uncertainty := (roundRat (e.uncertainty * 100000)).toNat,
    temperature := roundRat (e.temp * 100), anchorMinutes := e.anchorMs / 60000, valid := e.present, invalidWire := x.invalidWire,
    balAffected := x.balAffected }

/-- The summaries switch together once every enabled strand has completed the update (R368). -/
def refreshSummary (k : Nat) (h : SnapHeader) (s : State) : State :=
  if h.index ≠ s.est.updateIndex then s else
  let done := maskSet s.est.done k true
  let s := { s with est := { s.est with done := done } }
  if (List.range 4).all (fun i => !s.enabled i || done.testBit i) then
    let sum := (List.range 2048).map (fun c => summaryCell (s.cell (c / 512) (c % 512)) ((s.estOf (c / 512)).cell (c % 512)))
    { s with est := { s.est with summary := sum, summaryOf := (h.index, h.at', h.net) } }
  else s

/-! ## Anchor age (R373, R374) -/

/-- Largest anchor age of a strand's cells with an estimate at an instant, ms. -/
def StrandEst.anchorAge (now : Nat) (e : StrandEst) : Nat := (e.cells.filter (·.present)).foldl (fun a c => max a (c.ageAt now)) 0

/-- `ANCHOR_STALE`: the strand's anchor age reached `EST.ANCHOR_STALE_AGE`; open cycles of the strand end (R374, R397). -/
def execAnchorStale (strand : Nat) (s : State) : Host.Outcome State Fault Refusal :=
  .next (
    let e := s.estOf strand
    if s.alive && strand < 4 && s.sys.mode != .hollow && !e.anchorStale && e.cells.any (·.present) &&
        decide (3600000 * s.pn 0x0904 ≤ e.anchorAge s.time.now)
    then disqualifyStrand strand 6 (raiseStrand 0x85 strand (s.modEst strand (fun e => { e with anchorStale := true }))) else s)

/-- The stale flag clears when the age has fallen (R374). -/
def clearStale (p : ParamState) (k : Nat) (s : State) : State :=
  let e := s.estOf k
  if e.anchorStale && decide (e.anchorAge s.time.now < 3600000 * p.nat 0x0904) then
    raiseStrand 0x86 k (s.modEst k (fun e => { e with anchorStale := false }))
  else s

/-! ## Cross-check verdicts (R376, R377) -/

/-- `CURRENT_DISAGREE`: the timer of R376 reaches `EST.IPLAUS_TIME`, for setting or for clearing. -/
def execCurrentDisagree (strand : Nat) (disagree : Bool) (s : State) : Host.Outcome State Fault Refusal :=
  .next (
    let e := s.estOf strand
    let t := 1000 * s.pn 0x090C
    if !s.alive || 4 ≤ strand || s.sys.mode == .hollow then s
    else if disagree then
      if !e.disagree && !e.reversed && decide (t ≤ e.disagreeMs) then
        disqualifyStrand strand 6 (raiseStrand 0x87 strand (s.modEst strand (fun e => { e with disagree := true, agreeMs := 0 })))
      else s
    else if e.disagree && decide (t ≤ e.agreeMs) then
      raise 0x88 1 1 strand [] (s.modEst strand (fun e => { e with disagree := false, disagreeMs := 0 }))
    else s)

/-- The increments of the window correlate at −0.9 or below, over at least 10 pairs (R377). -/
def reversedPairs (l : List (Option (Rat × Rat))) : Bool :=
  let q := l.filterMap (fun x => x)
  if q.length < 10 then false else
  let n : Rat := (q.length : Rat)
  let sum := fun (f : Rat × Rat → Rat) => q.foldl (fun a x => a + f x) 0
  let mx := sum (·.1) / n
  let my := sum (·.2) / n
  let cov := sum (fun x => (x.1 - mx) * (x.2 - my))
  let vx := sum (fun x => (x.1 - mx) * (x.1 - mx))
  let vy := sum (fun x => (x.2 - my) * (x.2 - my))
  decide (cov < 0) && decide (81 / 100 * vx * vy ≤ cov * cov)

/-- `REVERSED_SHUNT`: the verdict of R377. -/
def execReversedShunt (strand : Nat) (s : State) : Host.Outcome State Fault Refusal :=
  .next (
    let e := s.estOf strand
    if s.alive && strand < 4 && s.sys.mode != .hollow && !e.reversed && reversedPairs e.increments then
      disqualifyStrand strand 6 (raiseStrand 0x89 strand (s.modEst strand (fun e => { e with reversed := true })))
    else s)

/-! ## Reported values, uncertainty, limits (R381 to R386) -/

/-- Reported SOC and uncertainty of one cell (R381, R383). -/
def CellEst.report (p : ParamState) (ik : Rat) (e : CellEst) : CellEst :=
  if !e.present then e else
  let th := p.rat 0x0903 (1 / 1000)
  let rho := p.rat 0x090D (1 / 100000) / 60 * e.dt
  let q := e.dq / e.cap
  let d := q + clampRat (-rho) rho (e.soc - (e.reported + q))
  let r :=
    if th < ik then e.reported + min 0 d
    else if ik < -th then e.reported + max 0 d
    else e.reported + clampRat (-rho) rho (e.soc - e.reported)
  let r := roundF32 (clampRat 0 1 r)
  let u := roundF32 (3 * sqrtRat e.socVar + absRat (r - e.soc))
  { e with reported := r, uncertainty := u, pub := some (r, e.cap, e.rser, u) }

/-- Smallest of a list; none of an empty one. -/
def smallest : List Rat → Option Rat
  | [] => none
  | x :: l => some (l.foldl min x)

/-- A and B of R382, of the cells with an estimate. -/
def socShares (cells : List CellEst) : Option (Rat × Rat) :=
  let l := cells.filter (·.present)
  match smallest (l.map (fun c => c.reported * c.cap)), smallest (l.map (fun c => (1 - c.reported) * c.cap)) with
  | some a, some b => some (a, b)
  | _, _ => none

/-- Strand SOC from its cells (R382). Where one cell reports 0 and another 1, the rule's quotient is 0 / 0: the SOC is open. -/
def strandSoc (cells : List CellEst) (free : Nat) : Option Rat :=
  (socShares cells).map (fun e =>
    if e.1 + e.2 = 0 then ((Config.freeNat free % 100001 : Nat) : Rat) / 100000 else e.1 / (e.1 + e.2))

/-- Discharge and charge limits of one cell, A (R384). -/
def CellEst.limits (p : ParamState) (stale : Bool) (e : CellEst) : Rat × Rat :=
  let u := e.uncertainty + (if stale then p.rat 0x0910 (1 / 100000) else 0)
  let t1 := e.rpol * e.cpol
  let hz := p.rat 0x0918 1
  let e1 := decay hz t1
  let e2 := decay hz (p.rat 0x0927 (1 / 10) * t1)
  let v := ocvOf p e.x + p.rat 0x0929 (1 / 1000000) * vget e.x 15 - e1 * vget e.x 12 - e2 * vget e.x 13
  let r := e.rser + (1 - e1) * e.rpol + (1 - e2) * p.rat 0x0928 (1 / 1000) * e.rpol
  let dv := (v - p.rat 0x0911 (1 / 1000000)) / r
  let cv := (p.rat 0x0912 (1 / 1000000) - v) / r
  let tp := p.rat 0x0915 (1 / 100000)
  let fd := clampRat 0 1 ((e.soc - u - p.rat 0x0913 (1 / 100000)) / tp)
  let fc := clampRat 0 1 ((p.rat 0x0914 (1 / 100000) - e.soc - u) / tp)
  let ft : Rat := if e.temp < p.rat 0x091A (1 / 100) then 0 else 1
  (min dv (p.rat 0x0916 (1 / 1000) * e.cap) * fd - e.iConv, min cv (p.rat 0x0917 (1 / 1000) * e.cap) * fc * ft + e.iConv)

/-- Strand limits in mA: discharge, charge (R385). -/
def strandLimits (p : ParamState) (e : StrandEst) : Nat × Nat :=
  let l := (e.cells.filter (·.present)).map (·.limits p e.anchorStale)
  let f := p.rat 0x0919 (1 / 1000)
  let fo := f + (1 - f) * e.updateObs
  let ma := fun (x : Option Rat) => match x with
    | some i => (fo * i * 1000).floor.toNat
    | none => 0
  (ma (smallest (l.map (·.1))), ma (smallest (l.map (·.2))))

/-- AC1 forms a strand's reported values and limits from the update just completed; the points show that update from now on, and
the summary of R368 may switch to it (R164, R166, R381 to R386). -/
def reportStrand (k : Nat) (s : State) : State :=
  match (s.estOf k).updated with
  | none => s
  | some (h, _) =>
    let p := h.set
    let s := s.modEst k (fun e => { e with toReport := false, cells := e.cells.map (·.report p e.updateI) })
    let free := s.free
    let s := if socShares (s.estOf k).cells = some (0, 0) then { s with free := free + 1 } else s
    let s := s.modEst k (fun e =>
      let th := p.rat 0x0903 (1 / 1000)
      let soc := match strandSoc e.cells free, e.strandSoc with
        | some n, some o => if th < e.updateI then some (min n o) else if e.updateI < -th then some (max n o) else some n
        | n, _ => n
      let l := strandLimits p e
      { e with strandSoc := soc, limitDis := l.1, limitChg := l.2, lastHead := some (h.seq, h.net, h.at') })
    refreshSummary k h s

/-- `REPORTED_VALUES`: AC1 takes the strand's completed update (R29, R92). -/
def execReportedValues (ring : Nat) (s : State) : Host.Outcome State Fault Refusal :=
  .next (if !s.ac1Starts || !(s.estOf ring).toReport || s.sys.mode == .hollow then s else reportStrand ring s)

/-! ## The model update (R365 to R368) -/

/-- The model update of a strand from the snapshot handed over, with the strand current of R365 (R365 to R368, R402). -/
def updateStrand (k : Nat) (u : HandOff) (ik : Rat) (s : State) : State :=
  let h := u.head
  let p := h.set
  let e := s.estOf k
  let ik := roundF32 ik
  let sigma := e.updateView.sigma + (1 - e.updateView.obs) / 100 * e.cRef
  let di := ik - e.lastIk
  let step := if 5 * ((s.limits k).1 : Rat) / 100000 ≤ absRat di then di else 0
  let s := (List.range 512).foldl (fun s c => updateCell p k c u ik sigma step s) s
  let dt := (s.estOf k).cells.foldl (fun (a : Rat) c => if c.present = true ∧ c.updatedAt = h.at' then max a c.dt else a) 0
  let ah := ik * dt / 3600
  let ref := (s.estOf k).cRef
  let s := if ref = 0 ∨ ah = 0 then s else modStrandMem k (fun m => { m with
    cycles := m.cycles + absRat ah / (2 * ref), charged := if ah < 0 then m.charged - ah else m.charged,
    discharged := if 0 < ah then m.discharged + ah else m.discharged }) s
  let s := s.modEst k (fun e => { e with
    updating := none, updateIk := none, updateI := ik, updateObs := e.updateView.obs, lastIk := ik, updateY := u.cells.map (·.trusted), toReport := true,
    toPlan := true, updated := some (h, s.time.now) })
  let s := if s.feed.commit.isSome then s else s.modBal k (fun b => { b with awaitUpdate := false })
  let e := s.estOf k
  let s := judgeSigns k (fun c =>
    let z := e.cell c
    if z.present ∧ (e.updateY.getD c none).isSome = true then some (z.innovation * 1000000) else none) s
  clearStale p k s

/-- `MODEL_UPDATE`: the array completes the model update of a strand, once its snapshot has been inferred; AC1 takes an earlier
update first (R29, R92, R347, R350, R389). -/
def execModelUpdate (ring : Nat) (s : State) : Host.Outcome State Fault Refusal :=
  .next (if !s.arrayStarts then s else
    let e := s.estOf ring
    match e.updating, e.updateIk with
    | some u, some mean =>
      let ik := mean.getD ((s.measured ring u.current).getD e.lastIk)
      updateStrand ring u ik (if e.toReport then reportStrand ring s else s)
    | _, _ => s)

/-! ## Starting and restoring (R101, R387, R388) -/

/-- A state restored from the journal (R352, R353). -/
def restoreCell (p : ParamState) (m : CellMem) (j : JournalCell) (now index : Nat) : CellEst :=
  let x := (List.range 16).map (fun i => (j.states.getD i 0 : Rat) * journalUnit i)
  let var := fun (i : Nat) => expRat ((j.variances.getD i 0 : Rat) / 8 * ln2) * journalUnit i * journalUnit i
  let e : CellEst :=
    { present := true, x := settleState x, p := List.map (List.map roundF32) (Mat.build 16 (fun r c => if r = c then var r else 0)),
      cap := capacityOf p m, temp := (j.temperature : Rat) / 100, anchorMs := 60000 * j.anchorMinutes, updatedAt := now,
      index := index, tempInvalid := true }
  let z := impedance p m (socOf p x) e.temp
  let e := ({ e with rser := z.1, rpol := z.2.1, cpol := z.2.2 } : CellEst).derive p
  let r := clampRat 0 1 ((j.soc : Rat) / 100000)
  let u : Rat := (j.uncertainty : Rat) / 100000
  { e with reported := r, uncertainty := u, pub := some (r, e.cap, e.rser, u) }

/-- More SOC variance, along the SOC direction. -/
def CellEst.widen (p : ParamState) (v : Rat) (e : CellEst) : CellEst :=
  ({ e with p := List.map (List.map roundF32) (Mat.add e.p (Mat.scale v (outer (socDirection p)))) } : CellEst).derive p

/-- A restored cell after an elapsed time in seconds, known or not (R387). -/
def CellEst.elapse (p : ParamState) (te : Option Nat) (e : CellEst) : CellEst :=
  match te with
  | some t =>
    let w : StepIn :=
      { i := 0, dt := (t : Rat), rser := e.rser, rpol := e.rpol, cpol := e.cpol, cap := e.cap, kelvin := e.temp + 27315 / 100 }
    let q := predict p w e.x
    let e := ({ e with x := q.1 } : CellEst).widen p ((t : Rat) / (30 * 86400) * (25 / 1000000))
    if p.nat 0x0905 ≤ t then { e with anchorMs := 0 } else { e with anchorMs := e.anchorMs + 1000 * t }
  | none =>
    let mean := fun (o : Nat) => (List.range 6).foldl (fun a i => a + shellShare i * vget e.x (o + i)) 0
    let x := settleState (List.replicate 6 (mean 0) ++ List.replicate 6 (mean 6) ++ [0, 0, 0, vget e.x 15])
    ({ e with x := x } : CellEst).widen p (1 / 10000)

/-- The journal slot a start restores: the newer valid one (R101). -/
def FeedState.bestSlot (f : FeedState) : Option JournalSlot :=
  match f.slotA, f.slotB with
  | some a, some b => if seqBefore a.seq b.seq then some b else some a
  | some a, none => some a
  | none, b => b

/-- Wires broken under the flags a journal holds (R260): the wire between two flagged neighbours, and the end wires. -/
def wiresOf (flag : Nat → Bool) (n : Nat) : List (Nat × Nat) :=
  let f := fun (j : Nat) => flag (16 * n + j)
  let mid := (List.range 15).filter (fun j => f j && f (j + 1))
  (if f 0 && !f 1 then [(n, 0)] else []) ++ mid.map (fun j => (n, j + 1)) ++ (if f 15 && !f 14 then [(n, 16)] else [])

/-- The wire verdicts of strand `k` take effect at a start. -/
def restoreWires (k : Nat) (broken : List (Nat × Nat)) (s : State) : State :=
  s.modMeas k (fun m => { m with
    broken := broken,
    cells := (List.range 512).map (fun c => { m.cells.getD c {} with invalidWire := wireInvalid broken (c / 16) (c % 16) }) })

/-- The estimator of strand `k` from a journal slot (R101, R387). -/
def restoreStrand (te : Option Nat) (j : JournalSlot) (k : Nat) (s : State) : State :=
  if !j.strandMask.testBit k then s else
  s.modEst k (fun e => { e with cells := (List.range 512).map (fun c =>
    let r := j.cells.getD (512 * k + c) {}
    if r.valid && !s.masked k c then (restoreCell s.param (s.cellNvm k c) r s.time.now j.updateIndex).elapse s.param te
    else e.cell c) })

/-- The estimator and the wire verdicts at a start (R101, R260, R387); `te` gives the elapsed time where it is known. DEDUCED: after
a reset the verdicts stand as they were; a start from unpowered has them from the journal's bits. -/
def restoreEstimator (te : JournalSlot → Option Nat) (s : State) : State :=
  let cold := s.sys.resetCause == 0x01
  let slot := s.feed.bestSlot
  let wires := fun (k : Nat) =>
    if !cold then (s.measOf k).broken else
    match slot with
    | some j =>
      if j.strandMask.testBit k then
        (List.range 32).flatMap (wiresOf (fun c => (j.cells.getD (512 * k + c) {}).invalidWire))
      else []
    | none => []
  let s := (List.range 4).foldl (fun s k => restoreWires k (wires k) s) s
  match slot with
  | none => s
  | some j =>
    (List.range 4).foldl (fun s k => restoreStrand (te j) j k s) { s with est := { s.est with
      updateIndex := j.updateIndex, summary := j.cells, summaryOf := (j.updateIndex, j.timebase, j.netTime) } }

/-- Cells whose chemistry an apply changed start anew (R388). -/
def reinitCells (all : Bool) (s : State) : State :=
  (List.range 4).foldl (fun s k =>
    if !s.enabled k then s else
    (List.range 512).foldl (fun s c =>
      if all || (s.capMem k c).capacity == 0 then
        modCellEst k c (fun e => { e with present := false, noSaved := true, outlier := false, outlierCount := 0, rejections := 0 })
          (disqualify k c 8 s)
      else s) s) s

end Sys2Proof.Machine
end

