-- ==== Sys2Proof/Machine/Balance.lean ====
section
/-! DEFINITION. Active charge transfer: the planner, its plans and the converters' faults (chapter 09). -/
namespace Sys2Proof.Machine
open Sys2Proof

/-! ## When transfers run (R322) -/

/-- A stop condition of R322 holds for strand `k`, or transfers are not enabled on it. -/
def State.planBarred (s : State) (k : Nat) : Bool :=
  let t := s.tripOf k
  let b := s.balOf k
  !(s.sys.mode == .standby || s.sys.mode == .run) || !(s.pn 0x0801).testBit k || !s.enabled k || s.feed.commit.isSome ||
    (s.measOf k).owt.isSome || s.sys.incomplete.testBit k || t.guardLatch || t.ac0Latch || t.active != 0 || s.demandOn k ||
    b.latchedOff || b.awaitUpdate

/-! ## Which cells take part (R326 to R329) -/

/-- Exclusion code of a cell (R326); 0 means eligible. -/
def State.exclusion (s : State) (k c : Nat) : Nat :=
  let x := s.cell k c
  let e := (s.estOf k).cell c
  let n := c / 16
  if x.noData || x.value.isNone || x.stale || x.plausFail then 1
  else if x.invalidWire || x.wireSuspect then 2
  else if (s.pn 0x0805 : Rat) / 100000 < e.uncertainty then 3
  else if e.tempInvalid || decide ((s.pi 0x0809 : Rat) / 100 < e.temp) then 4
  else if ((s.balOf k).leases.getD n {}).excluded then 5
  else if !((s.ring k).sat n).usable then 6
  else if s.masked k c then 7
  else 0

/-- What the planner knows of an eligible cell: fraction, capacity mAh, margin mAh, volts, excess mAh, °C. -/
structure PlanCell where
  cell : Nat
  soc : Rat
  cap : Rat
  margin : Rat
  volt : Rat
  temp : Rat
  excess : Rat := 0
  deriving DecidableEq, Repr

/-- Eligible cells of a strand with the update's states and the primary values of its snapshot (R325). -/
def State.planCells (s : State) (k : Nat) : List PlanCell :=
  let e := s.estOf k
  (List.range 512).filterMap (fun c =>
    if s.exclusion k c ≠ 0 then none else
    match e.updateY.getD c none with
    | some v =>
      let x := e.cell c
      some { cell := c, soc := x.soc, cap := x.cap * 1000, margin := x.uncertainty * x.cap * 1000,
             volt := (v : Rat) / 1000000, temp := x.temp }
    | none => none)

/-- Sum of a quantity over cells. -/
def planSum (f : PlanCell → Rat) (l : List PlanCell) : Rat := l.foldl (fun a c => a + f c) 0

/-- The excesses of R327. -/
def excesses (target : Nat) (l : List PlanCell) : List PlanCell :=
  let n : Rat := (l.length : Rat)
  let ref := planSum (fun c => c.soc * c.cap) l / planSum (·.cap) l
  let charge := planSum (fun c => c.soc * c.cap) l / n
  let room := planSum (fun c => (1 - c.soc) * c.cap) l / n
  l.map (fun c => { c with excess :=
    if target = 0 then (c.soc - ref) * c.cap
    else if target = 1 then c.soc * c.cap - charge
    else room - (1 - c.soc) * c.cap })

/-- Score of a cell as donor (R328); none where it is not one. -/
def donorScore (dead minV : Nat) (c : PlanCell) : Option Rat :=
  let d := (dead : Rat) * c.cap / 100000
  if d < c.excess - c.margin ∧ (minV : Rat) / 1000000 ≤ c.volt then some (c.excess - c.margin - d) else none

/-- Score of a cell as recipient (R328). -/
def recipientScore (dead maxV : Nat) (minT : Int) (c : PlanCell) : Option Rat :=
  let d := (dead : Rat) * c.cap / 100000
  if c.excess + c.margin < -d ∧ c.volt ≤ (maxV : Rat) / 1000000 ∧ (minT : Rat) / 100 ≤ c.temp
  then some (-(c.excess + c.margin) - d) else none

/-- One satellite's part in a plan: cell, role, score, volts, current in mA. -/
structure Leg where
  sat : Nat
  cell : Nat
  donor : Bool
  score : Rat
  volt : Rat
  cur : Rat := 0
  deriving DecidableEq, Repr

/-- Insert a leg by falling score, later ones behind on a tie. -/
def insertLeg (x : Leg) : List Leg → List Leg
  | [] => [x]
  | y :: l => if y.score < x.score then x :: y :: l else y :: insertLeg x l

/-- Legs by falling score. -/
def sortLegs (l : List Leg) : List Leg := l.foldl (fun a x => insertLeg x a) []

/-- The leg of each satellite: its highest score, the lowest cell on a tie (R329). -/
def State.legs (s : State) (l : List PlanCell) : List Leg :=
  (List.range 32).filterMap (fun n =>
    let cs := l.filter (fun c => c.cell / 16 == n)
    let cand := cs.filterMap (fun c =>
      match donorScore (s.pn 0x0804) (s.pn 0x0806) c, recipientScore (s.pn 0x0804) (s.pn 0x0807) (s.pi 0x0808) c with
      | some x, _ => some ({ sat := n, cell := c.cell % 16, donor := true, score := x, volt := c.volt } : Leg)
      | none, some x => some { sat := n, cell := c.cell % 16, donor := false, score := x, volt := c.volt }
      | none, none => none)
    (sortLegs cand).head?)

/-! ## Currents and rail balance (R330 to R332) -/

/-- Round a current down to a multiple of 10 mA. -/
def floor10 (x : Rat) : Rat := ((x / 10).floor : Rat) * 10

/-- Power of legs, mW. -/
def legPower (l : List Leg) : Rat := l.foldl (fun a x => a + x.volt * x.cur) 0

/-- Scale the currents of legs. -/
def scaleLegs (f : Rat) (l : List Leg) : List Leg := l.map (fun x => { x with cur := x.cur * f })

/-- Round the currents of legs. -/
def roundLegs (l : List Leg) : List Leg := l.map (fun x => { x with cur := floor10 x.cur })

/-- The leg of the largest current, the first on a tie. -/
def largestLeg : List Leg → Option Leg
  | [] => none
  | x :: l => some (l.foldl (fun m y => if m.cur < y.cur then y else m) x)

/-- Drop the last leg of the longer list, donors on a tie. -/
def dropLonger (d r : List Leg) : List Leg × List Leg :=
  if r.length ≤ d.length then (d.dropLast, r) else (d, r.dropLast)

/-- The loop of R330: donors, recipients and the trim satellite; no transfers where a list runs empty. -/
def balanceLoop (iSat maxW : Nat) (factor : Rat) : Nat → List Leg → List Leg → List Leg × List Leg × Option Nat
  | 0, _, _ => ([], [], none)
  | fuel + 1, d, r =>
    if iSat < 100 ∨ d = [] ∨ r = [] then ([], [], none) else
    let d1 := d.map (fun x => { x with cur := (iSat : Rat) })
    let r1 := r.map (fun x => { x with cur := (iSat : Rat) })
    let pd := legPower d1
    let lim : Rat := 1000 * (maxW : Rat)
    let d1 := if lim < pd then scaleLegs (lim / pd) d1 else d1
    let pin := 88 / 100 * legPower d1
    let pout := legPower r1 / (88 / 100)
    let d1 := if pin < pout then d1 else scaleLegs (pout / pin) d1
    let r1 := if pin < pout then scaleLegs (pin / pout) r1 else r1
    let d1 := roundLegs (scaleLegs factor d1)
    let r1 := roundLegs (scaleLegs factor r1)
    match largestLeg r1 with
    | none => ([], [], none)
    | some t =>
      let pin := 88 / 100 * legPower d1
      let pout := legPower r1 / (88 / 100)
      let dI := 5 / 100 * pout * (88 / 100) / t.volt
      let capped := decide (3000 < t.cur + dI)
      let r1 := if capped then r1.map (fun x => if x.sat = t.sat then { x with cur := floor10 (3000 - dI) } else x) else r1
      let pout := legPower r1 / (88 / 100)
      let d1 := if capped && decide (0 < pin) then roundLegs (scaleLegs (pout / pin) d1) else d1
      let pin := 88 / 100 * legPower d1
      let small := fun (x : Leg) => decide (x.cur < 100)
      if d1.any small || r1.any small then
        balanceLoop iSat maxW factor fuel (d1.filter (fun x => !small x)) (r1.filter (fun x => !small x))
      else if 5 / 100 * pout < absRat (pin - pout) then
        let q := dropLonger d r
        balanceLoop iSat maxW factor fuel q.1 q.2
      else (d1, r1, some t.sat)

/-- Satellites that held a lease and hold none under a plan. -/
def planStops (leases : List SatLease) (l : List Leg) : List Nat :=
  (List.range 32).filter (fun n => (leases.getD n {}).held && !l.any (fun x => x.sat == n))

/-- Repeat R330 until stops and starts fit `cap` entries (R332); the last part tells whether anything was removed. -/
def fitPlan (iSat maxW : Nat) (factor : Rat) (cap : Nat) (leases : List SatLease) :
    Nat → Bool → List Leg → List Leg → (List Leg × List Leg × Option Nat) × Bool
  | 0, cut, _, _ => (([], [], none), cut)
  | fuel + 1, cut, d, r =>
    let q := balanceLoop iSat maxW factor 96 d r
    let n := (planStops leases (q.1 ++ q.2.1)).length + q.1.length + q.2.1.length
    if n ≤ cap ∨ q.1 = [] then (q, cut)
    else
      let w := dropLonger q.1 q.2.1
      fitPlan iSat maxW factor cap leases fuel true w.1 w.2

/-! ## Posting a plan (R332 to R336) -/

/-- An XFER_START entry (R313). -/
def xferStart (n cell dir cur ms : Nat) : RingEntry :=
  { addr := n, code := 0x10,
    args := padTo 8 (leBytes 1 cell ++ leBytes 1 dir ++ leBytes 2 cur ++ leBytes 2 ms) }

/-- An XFER_STOP entry. -/
def xferStop (n : Nat) : RingEntry := { addr := n, code := 0x11, args := List.replicate 8 0 }

/-- Direction of a leg under a plan. -/
def legDirection (trim : Option Nat) (x : Leg) : Nat := if x.donor then 0 else if trim = some x.sat then 2 else 1

/-- Current of a leg as commanded, mA. -/
def Leg.milliamps (x : Leg) : Nat := x.cur.floor.toNat

/-- The plan is in force: its leases and the cells' role fields (R344). What a converter does follows from the responses. -/
def takePlan (k : Nat) (legs : List (Leg × Nat)) (s : State) : State :=
  let find := fun (n : Nat) => legs.find? (fun x => x.1.sat == n)
  let s := s.modBal k (fun b => { b with leases := (List.range 32).map (fun n =>
    let l := b.leases.getD n {}
    match find n with
    | some (x, dir) =>
      { l with held := true, cell := x.cell, direction := dir, current := x.milliamps,
               renewal := l.held && l.cell == x.cell && l.direction == dir }
    | none => { l with held := false }) })
  s.modMeas k (fun m => { m with cells := (List.range 512).map (fun c =>
    let o := m.cells.getD c {}
    match find (c / 16) with
    | some (x, dir) =>
      if x.cell = c % 16 then
        { o with role := if dir = 3 then 3 else if x.donor then 1 else 2, trim := dir == 2, current10 := x.milliamps / 10 }
      else { o with role := 0, trim := false, current10 := 0 }
    | none => { o with role := 0, trim := false, current10 := 0 }) })

/-- Lease of a transfer, ms (R334). -/
def State.leaseMs (s : State) : Nat := min 65535 (3 * s.modelPeriod s.param / 1000)

/-- The rail start of R333; without a cell for it, the stops of R332 alone. -/
def planRailStart (k : Nat) (d : List Leg) (cells : List PlanCell) (s : State) : State :=
  let best : Option PlanCell := match cells with
    | [] => none
    | x :: l => some (l.foldl (fun (m y : PlanCell) => if m.soc < y.soc then y else m) x)
  let leg : Option Leg := match d, best with
    | x :: _, _ => some { x with cur := 500 }
    | [], some c => some { sat := c.cell / 16, cell := c.cell % 16, donor := true, score := 0, volt := c.volt, cur := 500 }
    | [], none => none
  let legs := leg.toList
  let es := (planStops (s.balOf k).leases legs).map xferStop ++ legs.map (fun x => xferStart x.sat x.cell 3 500 500)
  let s := if es.isEmpty then s else postOrKeep k { purpose := .plan, entries := es } s
  (takePlan k (legs.map (fun x => (x, 3))) s).modBal k (fun b =>
    { b with railStart := b.railStart || leg.isSome, restart := b.restart && leg.isNone, donorMw := 0, trimSat := none })

/-- A plan of R330 is posted, or the strand is balanced; a full queue leaves it with the planner until the next (R43, R325). -/
def planTransfers (k : Nat) (d r : List Leg) (s : State) : State :=
  let b := s.balOf k
  let ceil := min (s.pn 0x0802) (b.ceiling.getD (s.pn 0x0802))
  let iSat := ceil / 10 * 10
  let cap := entriesInWindow (s.windowLength k) (s.ring k).loopLatency
  let w := fitPlan iSat (s.pn 0x080A) (if b.scaled then 75 / 100 else 1) cap b.leases 96 false d r
  let d := w.1.1
  let r := w.1.2.1
  let trim := w.1.2.2
  let s := if w.2 && !b.reduced then raiseStrand 0x7A k s else s
  let s := s.modBal k (fun b => { b with reduced := w.2 })
  let legs := d ++ r
  let stops := planStops b.leases legs
  let ms := s.leaseMs
  let start := fun (x : Leg) => xferStart x.sat x.cell (legDirection trim x) x.milliamps ms
  let isTrim := fun (x : Leg) => trim == some x.sat
  let es := stops.map xferStop ++ (r.filter isTrim).map start ++ (r.filter (fun x => !isTrim x)).map start ++ d.map start
  let go := fun (s : State) =>
    (takePlan k (legs.map (fun x => (x, legDirection trim x))) s).modBal k (fun b =>
      { b with trimSat := trim, donorMw := (legPower d).floor.toNat, active := !legs.isEmpty })
  let s := go (if es.isEmpty then s else postOrKeep k { purpose := .plan, entries := es } s)
  if legs.isEmpty then (if b.active then raiseStrand 0x71 k s else s)
  else (if b.active then s else raiseStrand 0x70 k s)

/-- AC1 plans a strand from its completed model update (R325 to R335, R338). -/
def planStrand (k : Nat) (s : State) : State :=
  let s := s.modEst k (fun e => { e with toPlan := false })
  let barred := s.planBarred k
  let s := s.modMeas k (fun m => { m with cells := (List.range 512).map (fun c =>
    { m.cells.getD c {} with reason := let r := s.exclusion k c; if r = 0 ∧ barred = true then 8 else r }) })
  if barred then (if (s.balOf k).stopped then s else stopTransfers k s)
  else
    let s := if (s.balOf k).stopped then raiseStrand 0x73 k s else s
    let s := s.modBal k (fun b => { b with stopped := false })
    if (s.balOf k).hold then s else
    let cells := excesses (s.pn 0x0803) (s.planCells k)
    let legs := s.legs cells
    let d := sortLegs (legs.filter (·.donor))
    let r := sortLegs (legs.filter (fun x => !x.donor))
    let low := match (s.balOf k).rail with | some v => decide (v < 10000) | none => true
    if low || (s.balOf k).restart then planRailStart k d cells s else planTransfers k d r s

/-- `BALANCING_PLAN`: AC1 plans a strand once per completed model update, its reported values first (R29, R92, R325). -/
def execBalancingPlan (ring : Nat) (s : State) : Host.Outcome State Fault Refusal :=
  .next (if !s.ac1Starts || 4 ≤ ring || !(s.estOf ring).toPlan then s else
    planStrand ring (if (s.estOf ring).toReport && s.sys.mode != .hollow then reportStrand ring s else s))

/-! ## Faults and conflicts (R338 to R343) -/

/-- Count a rail fault; the limit latches the strand off (R338). -/
def countRailFault (k : Nat) (s : State) : State :=
  let recent := (s.balOf k).railFaults.filter (fun t => s.opMs < t + 600000) ++ [s.opMs]
  let s := s.modBal k (fun b => { b with railFaults := recent })
  if s.pn 0x080C ≤ recent.length ∧ (s.balOf k).latchedOff = false then
    stopTransfers k (raiseStrand 0x79 k (s.modBal k (fun b => { b with latchedOff := true })))
  else s

/-- The rail of strand `k` left its window (R338). -/
def railFault (k n : Nat) (s : State) : State :=
  if (s.balOf k).hold then s else
  let s := endTransfers k (raiseSat 0x74 k n s)
  countRailFault k (s.modBal k (fun b => { b with hold := true, rail := none, railStart := false, restart := true }))

/-- `RAIL_FAULT_HOLD_END`: planning of the strand goes on after 1 s (R338). -/
def execRailFaultHoldEnd (ring : Nat) (s : State) : Host.Outcome State Fault Refusal :=
  .next (if s.ac0On then s.modBal ring (fun b => { b with hold := false }) else s)

/-- `RAIL_START_FAILED`: 10 V not reported within 1 s of the first rail start (R333). -/
def execRailStartFailed (ring : Nat) (s : State) : Host.Outcome State Fault Refusal :=
  .next (if s.ac0On && (s.balOf ring).railStart then
    countRailFault ring (raiseStrand 0x75 ring (s.modBal ring (fun b => { b with railStart := false, rail := none })))
  else s)

/-- Exclude a satellite and end its lease by XFER_STOP, under this event (R340). -/
def converterFault (k n : Nat) (s : State) : State :=
  let s := s.modBal k (fun b => { b with leases := modAt b.leases n (fun l =>
    { l with excluded := true, held := false, barredFrom := s.time.now }) })
  let s := s.modMeas k (fun m => { m with cells := (List.range 512).map (fun c =>
    let o := m.cells.getD c {}
    if c / 16 = n then { o with role := 0, trim := false, current10 := 0 } else o) })
  postOrKeep k { purpose := .stop, entries := [xferStop n] } (raiseSat 0x77 k n s)

/-- `SATELLITE_EXCLUSION_END`: 60 s after the fault last read set, or after the failure (R340, R341). -/
def execSatelliteExclusionEnd (ring sat : Nat) (s : State) : Host.Outcome State Fault Refusal :=
  .next (
    let l := (s.balOf ring).leases.getD sat {}
    if s.ac0On && !l.faultBit && decide (l.barredFrom + 60000000 ≤ s.time.now) then
      s.modBal ring (fun b => { b with leases := modAt b.leases sat (fun l => { l with excluded := false }) })
    else s)

/-- A transfer entry exhausted its retries (R341). -/
def transferFailed (k n : Nat) (s : State) : State :=
  raiseSat 0x78 k n (s.modBal k (fun b => { b with leases := modAt b.leases n (fun l =>
    { l with excluded := true, barredFrom := s.time.now }) }))

/-- The module's record gives a satellite a lease at an instant: under the plan in force, or by a run (R342). -/
def SatLease.holdsAt (t : Nat) (l : SatLease) : Bool := l.held || l.runs.any (fun e => e.run.since ≤ t && t ≤ e.at')

/-- What the blocks of a snapshot tell of the converters: rail window, converter faults and strays (R338, R340, R342). -/
def judgeConverters (k : Nat) (buf : SnapBuffer) (s : State) : State :=
  buf.slots.foldl (fun s x =>
    let b := x.block
    let n := b.addr
    if !b.crcOk || b.unaddressed || !((s.ring k).sat n).usable then s else
    let l := (s.balOf k).leases.getD n {}
    let s := if b.rail && !l.railBit then railFault k n s else s
    let s := if b.converter && !l.faultBit then converterFault k n s else s
    let s := s.modBal k (fun z => { z with leases := modAt z.leases n (fun l =>
      { l with faultBit := b.converter, railBit := b.rail, barredFrom := if b.converter then s.time.now else l.barredFrom }) })
    if b.balActive && !l.holdsAt buf.head.sampled then
      let recent := l.strays.filter (fun t => s.opMs < t + 60000) ++ [s.opMs]
      let s := raiseSat 0x7C k n (s.modBal k (fun z => { z with leases := modAt z.leases n (fun l =>
        { l with strays := if 3 ≤ recent.length then [] else recent }) }))
      if 3 ≤ recent.length then converterFault k n s
      else postOrKeep k { purpose := .stop, entries := [xferStop n] } s
    else s) s

/-- An XFER_START entry that is done: the run it begins, or goes on with (R313, R315). -/
def SatLease.start (now : Nat) (e : RingEntry) (l : SatLease) : SatLease :=
  let c : ConverterRun :=
    { cell := field e.args 0 1, direction := field e.args 1 1, current := field e.args 2 2, since := now,
      until' := now + 1000 * field e.args 4 2 }
  match l.run with
  | some r =>
    if r.cell = c.cell then
      let same := r.direction == c.direction && r.current == c.current && decide (now ≤ r.until')
      { l with run := some { c with since := if same then r.since else now } }
    else { l.endRun now with run := some c }
  | none => { l with run := some c }

/-- What a response to a transfer entry tells of the run: a start begins it, a stop ends it (R314 to R316). -/
def SatLease.answered (now : Nat) (e : RingEntry) (p : RingReply) (l : SatLease) : SatLease :=
  let l := { l with mean := s16Of (field p.result 3 2) }
  if p.status ≠ 0 then l else if e.code = 0x10 then l.start now e else l.endRun now

/-- A refused XFER_START tells of a converter fault (R340). DEDUCED: its arguments are within R313 and its cell is not masked, so the
fault is the converter's unless the rail it reports lies outside the window of directions 0 to 2 (R314). -/
def refusedForFault (e : RingEntry) (p : RingReply) : Bool :=
  let rail := field p.result 1 2
  p.status == 3 && e.code == 0x10 && (field e.args 1 1 == 3 || (10000 ≤ rail && rail ≤ 14000))

/-- A response to a transfer command: rail, mean current and flags (R314, R338, R339, R343, R345). -/
def transferResponse (k : Nat) (e : RingEntry) (p : RingReply) (s : State) : State :=
  let n := e.addr
  let flags := field p.result 0 1
  let rail := field p.result 1 2
  let l := (s.balOf k).leases.getD n {}
  let s := s.modBal k (fun b => { b with
    leases := modAt b.leases n (·.answered s.time.now e p), rail := some rail,
    railStart := b.railStart && decide (rail < 10000) })
  let s := if flags.testBit 4 && e.code == 0x10 && l.held && l.renewal then raiseSat 0x7B k n s else s
  let s := if flags.testBit 3 then railFault k n s else s
  let b := s.balOf k
  let s := if e.code = 0x10 ∧ b.trimSat = some n then
      if flags.testBit 2 || flags.testBit 1 then
        let run := b.trimRun + 1
        let s := s.modBal k (fun b => { b with trimRun := run, scaled := b.scaled || decide (2 ≤ run) })
        if run = 2 then raiseSat 0x76 k n s else s
      else s.modBal k (fun b => { b with trimRun := 0, scaled := false })
    else s
  if refusedForFault e p && !l.excluded then converterFault k n s else s

end Sys2Proof.Machine
end

