-- ==== Sys2Proof/Machine/Guard.lean ====
section
/-! DEFINITION. The guard die and AC0's supervision: flag lanes, overcurrent, watchdog, dual-channel inputs, path tests, guard
configuration, strand-trip clearing and the lock-out reset (chapters 04 and 13). -/
namespace Sys2Proof.Machine
open Sys2Proof

/-! ## Flag lanes (R199, R475, R476) -/

/-- The conditions of a ring's lanes act: OV and OT lock out, UV, SF and lane loss trip the strand; a condition no satellite
holds ends. -/
def judgeLanes (r n : Nat) (s : State) : State :=
  let ls := s.guard.lanes.getD r []
  let any := fun (f : GuardLane → Nat) => ls.any (fun l => l.admitted && decide (2 ≤ f l))
  let act := (s.tripOf r).active
  let lock := fun (b src : Nat) (holds : Bool) (s : State) =>
    if holds then (if act.testBit b then s else lockout src (raiseSat src r n (causeOn r b s)))
    else if act.testBit b then causeOff r b s else s
  let s := lock 1 0xA5 (any (·.ov)) s
  let s := judgeTrip r 2 true (any (·.uv)) (raiseSat 0xA6 r n) s
  let s := lock 3 0xA7 (any (·.ot)) s
  let s := judgeTrip r 4 true (any (·.sf) || (act.testBit 4 && (s.tripOf r).ac0Latch && (s.measOf r).contradictions.any (2 ≤ ·)))
    (raiseSat 0xA8 r n) s
  spoilPress (judgeTrip r 5 true (ls.any (·.lost)) (raiseSat 0xA9 r n) s)

/-- A lane is valid (R199). DESIGN CHOICE: the first lane of an admitted address that has no earlier valid lane counts whatever its
counter; no rule says what it is measured against. -/
def GuardLane.accepts (l : Lane) (g : GuardLane) : Bool :=
  l.checkOk && g.admitted && !g.seen &&
  (match g.counter with
   | none => true
   | some c => (c + 1) % 8 == l.counter % 8 || (c + 2) % 8 == l.counter % 8)

/-- Runs of set flags after a valid lane. -/
def GuardLane.take (l : Lane) (g : GuardLane) : GuardLane :=
  { g with counter := some (l.counter % 8), lost := false,
           ov := if l.ov then g.ov + 1 else 0, uv := if l.uv then g.uv + 1 else 0,
           ot := if l.ot then g.ot + 1 else 0, sf := if l.sf then g.sf + 1 else 0 }

/-- Change one lane record. -/
def modLane (r n : Nat) (f : GuardLane → GuardLane) (s : State) : State :=
  { s with guard := { s.guard with lanes := modAt s.guard.lanes r (fun ls => modAt ls n f) } }

/-- `FLAG_LANE`: the guard die decodes one lane; one that is not valid neither counts nor breaks a run (R199, R475). -/
def execFlagLane (ring : Nat) (lane : Half) (s : State) : Host.Outcome State Fault Refusal :=
  .next (
    let lane := decodeLane lane
    let g := (s.guard.lanes.getD ring []).getD lane.addr {}
    if !s.alive || 4 ≤ ring || !g.admitted then s
    else if g.accepts lane then
      let s := modLane ring lane.addr (fun g => { g.take lane with seen := true }) s
      if s.evaluates then judgeLanes ring lane.addr s else s
    else modLane ring lane.addr (fun g => { g with seen := true }) s)

/-- `LANE_TIMEOUT`: an admitted satellite without a valid lane for `SAFE.LANE_TIMEOUT` (R476, SF6). -/
def execLaneTimeout (ring addr : Nat) (s : State) : Host.Outcome State Fault Refusal :=
  .next (
    let g := (s.guard.lanes.getD ring []).getD addr {}
    if s.alive && s.evaluates && ring < 4 && g.admitted && !g.lost then
      judgeLanes ring addr (modLane ring addr (fun g => { g with lost := true }) s)
    else s)

/-! ## Overcurrent (R479, SF1) -/

/-- A comparator has been asserted for 100 µs: lockout, or a strand trip, as `SAFE.OC_LOCKOUT` says. -/
def overcurrent (k : Nat) (s : State) : State :=
  if s.gn 0x0C08 ≠ 0 then lockout 0xA4 (raiseStrand 0xA4 k (causeOn k 0 s)) else judgeTrip k 0 true true (raiseStrand 0xA4 k) s

/-- `OC_COMPARATOR`: the comparator has stayed asserted for 100 µs, or releases. -/
def execOcComparator (strand : Nat) (asserted : Bool) (s : State) : Host.Outcome State Fault Refusal :=
  .next (if !s.sys.powered || 4 ≤ strand then s else
    let was := (s.tripOf strand).ocNow
    let s := s.modTrip strand (fun t => { t with ocNow := asserted })
    if asserted then
      if was || !s.evaluates then s else overcurrent strand s
    else if (s.tripOf strand).active.testBit 0 then causeOff strand 0 s else s)

/-! ## Watchdog and supervision task (R127, R481, R482) -/

/-- Change the watchdog. -/
def modWatchdog (f : Watchdog → Watchdog) (s : State) : State :=
  { s with guard := { s.guard with watchdog := f s.guard.watchdog } }

/-- The response a challenge asks for (R481). -/
def watchdogAnswer (challenge signature : Nat) : Nat := crc16 (leBytes 2 challenge ++ leBytes 2 signature)

/-- `WATCHDOG_CHALLENGE`: the guard die sends a challenge. -/
def execWatchdogChallenge (value : Nat) (s : State) : Host.Outcome State Fault Refusal :=
  .next (if s.alive && s.guard.watchdog.armed then
    modWatchdog (fun w => { w with challenge := some (value % 65536), responses := 0, good := false, toAnswer := true }) s
  else s)

/-- `WATCHDOG_RESPONSE`: a response reaches the guard die, between 1.0 ms and 4.5 ms after its challenge or not. -/
def execWatchdogResponse (value : Nat) (intime : Bool) (s : State) : Host.Outcome State Fault Refusal :=
  .next (match s.guard.watchdog.challenge with
  | none => s
  | some c =>
    if !s.alive then s else
    modWatchdog (fun w => { w with
      responses := w.responses + 1,
      good := w.responses == 0 && intime && value == watchdogAnswer c s.guard.signature }) s)

/-- `WATCHDOG_WINDOW_CLOSE`: a miss or a correct response; the third miss in a row is a watchdog loss (R482). -/
def execWatchdogWindowClose (s : State) : Host.Outcome State Fault Refusal :=
  .next (match s.guard.watchdog.challenge with
  | none => s
  | some _ =>
    if !s.alive then s else
    let w := s.guard.watchdog
    let s := modWatchdog (fun w => { w with challenge := none, toAnswer := false }) s
    if w.good && w.responses == 1 then modWatchdog (fun w => { w with misses := 0 }) s
    else
      let s := modWatchdog (fun w => { w with misses := w.misses + 1 }) s
      let s := failWindow (raise0 0xB6 { s with upd := { s.upd with misses := s.upd.misses + 1 } })
      if 3 ≤ s.guard.watchdog.misses then resetModule 0x05 (lockout 0xB7 (raise0 0xB7 s)) else s)

/-- `AC0_SUPERVISION_TASK`: AC0's 1 ms task answers the challenge and writes the guard die its lockout-fault word (R127,
R481). -/
def execAc0SupervisionTask (s : State) : Host.Outcome State Fault Refusal :=
  .next (if s.ac0On && s.sys.ready then
    let bad := s.ac0Faults
    let s := modWatchdog (fun w => { w with toAnswer := false }) s
    { s with
      sys := { s.sys with lock := { s.sys.lock with ac0Fault := bad, ac0Silent := false } },
      pins := { s.pins with lockFault := s.pins.lockFault || bad } }
  else s)

/-- `AC0_WORD_TIMEOUT`: no word for 5 ms counts as a fault (R127). -/
def execAc0WordTimeout (s : State) : Host.Outcome State Fault Refusal :=
  .next { s with
    sys := { s.sys with lock := { s.sys.lock with ac0Silent := true } },
    pins := { s.pins with lockFault := true } }

/-! ## Dual-channel inputs (R484 to R486, SF7) -/

/-- Word of pair `p` as the guard die holds it. -/
def State.pairWord (s : State) (p : Nat) : Nat := s.gn (0x0C20 + p)

/-- The demand of a pair takes effect or ends; the switch-off stops the transfers of the strands it opens (R322, R323, R473,
R484). -/
def judgeDemand (p : Nat) (s : State) : State :=
  let q := s.pairOf p
  let now := !(q.aClosed && q.bClosed)
  let s := { s with guard := { s.guard with pairs := modAt s.guard.pairs p (fun q => { q with demanded := now }) } }
  spoilPress (
    if !s.pairOn p || now == q.demanded then s
    else if now then
      let outs := bits (s.pairWord p) 11 0
      let s := withdraw outs (raise 0xB0 0 9 p [] s)
      (List.range 4).foldl (fun s k => if (outs &&& s.guardMap k) != 0 then stopTransfers k (openStrand k s) else s) s
    else raise 0xB1 0 9 p [] s)

/-- `SAFETY_INPUT_CHANGE`: the filtered state of a channel changes (R484, R486, R511); the level of the field input follows. -/
def execSafetyInputChange (input : Nat) (closed : Bool) (s : State) : Host.Outcome State Fault Refusal :=
  .next (if !s.sys.powered || 16 ≤ input then s else
    let p := input / 2
    let level := if input % 2 = 1 ∧ (s.pairWord p).testBit 30 = true ∧ s.pairOn p = true then !closed else closed
    let s := { s with field := { s.field with di := maskSet s.field.di input level, diRaw := maskSet s.field.diRaw input level } }
    let s := { s with guard := { s.guard with pairs := modAt s.guard.pairs p (fun q =>
      let q := if input % 2 = 0 then { q with aClosed := closed } else { q with bClosed := closed }
      { q with timing := q.aClosed != q.bClosed, fault := q.fault && q.aClosed != q.bClosed }) } }
    if s.evaluates then judgeDemand p s
    else
      let q := s.pairOf p
      { s with guard := { s.guard with pairs := modAt s.guard.pairs p (fun x => { x with demanded := !(q.aClosed && q.bClosed) }) } })

/-- `DISCREPANCY_TIMEOUT`: the other channel has not followed (R486). -/
def execDiscrepancyTimeout (pair : Nat) (s : State) : Host.Outcome State Fault Refusal :=
  .next (
    let q := s.pairOf pair
    if s.evaluates && pair < 8 && s.pairOn pair && q.timing && q.aClosed != q.bClosed then
      let s := { s with guard := { s.guard with pairs := modAt s.guard.pairs pair (fun q => { q with fault := true, timing := false }) } }
      lockout 0xB2 (raise 0xB2 0 9 pair [] s)
    else s)

/-- Supply of an input's channel. -/
def State.supplyOf (s : State) (i : Nat) : Nat :=
  if i % 2 = 0 then bits (s.pairWord (i / 2)) 27 26 else bits (s.pairWord (i / 2)) 25 24

/-- Whether an input's channel is checked in a dark window: enabled, fed from a supply, reading closed, and carrying current
(R485). -/
def State.pulseChecked (s : State) (i : Nat) : Bool :=
  let w := s.pairWord (i / 2)
  let q := s.pairOf (i / 2)
  s.pairOn (i / 2) && (if i % 2 = 0 then !w.testBit 29 && q.aClosed else !w.testBit 28 && !w.testBit 30 && q.bClosed)

/-- `TS_DARK_WINDOW`: the check 300 µs into the dark window of a supply; `own` are the inputs whose own pulse is missing,
`foreign` those that do not read closed (R485). -/
def execTsDarkWindow (group : Nat) (own foreign : Nat) (s : State) : Host.Outcome State Fault Refusal :=
  .next (if !s.evaluates || 4 ≤ group then s else
    (List.range 16).foldl (fun s i =>
      if !s.pulseChecked i then
        { s with guard := { s.guard with ownFails := if s.supplyOf i = group then setAt s.guard.ownFails i 0 else s.guard.ownFails,
                                         foreignFails := setAt s.guard.foreignFails (4 * i + group) 0 } }
      else if s.supplyOf i = group then
        let n := if own.testBit i then s.guard.ownFails.getD i 0 + 1 else 0
        let s := { s with guard := { s.guard with ownFails := setAt s.guard.ownFails i n } }
        if n = 2 then lockout 0xB3 (raise 0xB3 0 9 (i / 2) [] s) else if n = 0 then s else spoilPress s
      else
        let j := 4 * i + group
        let n := if foreign.testBit i then s.guard.foreignFails.getD j 0 + 1 else 0
        let s := { s with guard := { s.guard with foreignFails := setAt s.guard.foreignFails j n } }
        if n = 2 then lockout 0xB4 (raise 0xB4 0 9 (i / 2) [] s) else if n = 0 then s else spoilPress s) s)

/-- What the guard die finds where its evaluation begins: pairs that are open, comparators that are asserted (R474, R479,
R484). -/
def guardFirstLook (s : State) : State :=
  let s := (List.range 8).foldl (fun s p => if s.pairOn p && (s.pairOf p).demanded then raise 0xB0 0 9 p [] s else s) s
  (List.range 4).foldl (fun s k => if (s.tripOf k).ocNow && !(s.tripOf k).active.testBit 0 then overcurrent k s else s) s

/-! ## Path tests and the oscillator (R491, R493) -/

/-- `ENABLE_TEST_GAP`: the guard die's test of an output; the second failure in a row locks out (R491). -/
def execEnableTestGap (output : Nat) (passed : Bool) (s : State) : Host.Outcome State Fault Refusal :=
  .next (if !s.evaluates || !s.outputOn output then s else
    let n := if passed then 0 else s.guard.enableFails.getD output 0 + 1
    let s := { s with guard := { s.guard with enableFails := setAt s.guard.enableFails output n } }
    if n = 2 then lockout 0xBE (raise 0xBE 0 9 output [] s) else s)

/-- `AC0_COMMAND_TEST`: AC0's test; the second failure in a row gives verdict 7 and locks out (R491). -/
def execAc0CommandTest (output : Nat) (passed : Bool) (s : State) : Host.Outcome State Fault Refusal :=
  .next (if !s.evaluates || !s.outputOn output then s else
    let n := if passed then 0 else s.guard.commandFails.getD output 0 + 1
    let s := { s with guard := { s.guard with commandFails := setAt s.guard.commandFails output n } }
    if n = 2 then
      let s := commandOff output { s with field := { s.field with so := modAt s.field.so output (fun o => { o with verdict := 7 }) } }
      lockout 0xB9 (raise 0xB9 0 9 output [] (raise 0xCB 0 9 output [] s))
    else s)

/-- `OSCILLATOR_CHECK`: TB13 against TB0 every second; two failures in a row lock out (R493). -/
def execOscillatorCheck (good : Bool) (s : State) : Host.Outcome State Fault Refusal :=
  .next (if !s.evaluates then s else
    let n := if good then 0 else s.guard.oscFails + 1
    let s := { s with guard := { s.guard with oscFails := n } }
    if n = 2 then lockout 0xBF (raise0 0xBF s) else s)

/-! ## Guard configuration (R494) -/

/-- Records of block 0x0C in the applied set that differ from the defaults. -/
def ParamState.guarded (p : ParamState) : List (Nat × PVal) := p.applied.filter (fun e => e.1 / 256 == 0x0C)

/-- The supervisor writes the guard configuration; verified, the guard die takes it as a whole and arms its watchdog. -/
def writeGuardConfig (s : State) : State :=
  { s with guard := { s.guard with config := s.param.guarded, valid := true,
                                   watchdog := { s.guard.watchdog with armed := true } } }

/-- The guard configuration does not match: a lockout fault. -/
def guardMismatch (s : State) : State :=
  lockout 0xBA (raise0 0xBA { s with guard := { s.guard with valid := false } })

/-- `GUARD_CONFIG_CRC_CHECK`: the guard die recomputes the CRC every 1 ms. -/
def execGuardConfigCrcCheck (good : Bool) (s : State) : Host.Outcome State Fault Refusal :=
  .next (if s.evaluates && s.guard.valid && !good then guardMismatch s else s)

/-- `GUARD_CONFIG_READBACK`: AC0 compares the configuration with the applied set every 100 ms. -/
def execGuardConfigReadback (good : Bool) (s : State) : Host.Outcome State Fault Refusal :=
  .next (if s.evaluates && s.guard.valid && !good then guardMismatch s else s)

/-! ## Clearing a strand trip (R472) -/

/-- `SAFE.TRIP_HOLD` has passed since the latest cause of the strand ended. -/
def TripState.heldLongEnough (s : State) (t : TripState) : Bool := decide (t.endedAt + 1000 * s.pn 0x0C0E ≤ s.time.now)

/-- `STRAND_TRIP_CLEAR`: `SAFE.TRIP_HOLD` after the causes ended AC0 clears its latch and asks the guard die, which refuses
while a cause of its own holds. -/
def execStrandTripClear (strand : Nat) (s : State) : Host.Outcome State Fault Refusal :=
  .next (
    let t := s.tripOf strand
    if !s.alive || 4 ≤ strand || !(t.guardLatch || t.ac0Latch) || 256 ≤ t.active || !t.heldLongEnough s then s
    else if t.active ≠ 0 then s.modTrip strand (fun t => { t with ac0Latch := false })
    else raiseStrand 0xAF strand (s.modTrip strand (fun t => { t with ac0Latch := false, guardLatch := false, word := 0 })))

/-! ## The lock-out reset (R127 to R130) -/

/-- `LOCK_RST_PRESS`: the button's input rises. -/
def execLockRstPress (s : State) : Host.Outcome State Fault Refusal :=
  .next { s with pins := { s.pins with lockRst := some s.sys.lock.armed, lockFault := s.guardFaults } }

/-- `LOCK_RST_RELEASE`: the hold in microseconds of TB13 decides; an accepted press clears the latch and its record and
resets the module with code 0x08. -/
def execLockRstRelease (held : Nat) (s : State) : Host.Outcome State Fault Refusal :=
  .next (match s.pins.lockRst with
  | none => s
  | some risen =>
    let bad := s.pins.lockFault || s.guardFaults
    let arm := s.gn 0x0C02 == 0 || (risen && s.sys.lock.armed)
    let s := { s with pins := { s.pins with lockRst := none, lockFault := false },
                      sys := { s.sys with lock := { s.sys.lock with armed := false } } }
    if !s.alive || s.sys.mode != .lockout || !s.sys.lock.latch then s
    else if 3000000 < held then raise 0xA3 0 0 0 [] s
    else if held < 250000 ∨ bad = true ∨ arm = false then raise 0xA3 0 0 0 [] s
    else
      let s := raise0 0xA2 { s with sys := { s.sys with lock := { s.sys.lock with latch := false, record := false, causes := [] } } }
      resetWithJournal 0x08 s)

/-- `LOCKOUT_ARM_EXPIRY`: the 60 s of an arming end (R128). -/
def execLockoutArmExpiry (s : State) : Host.Outcome State Fault Refusal :=
  .next { s with sys := { s.sys with lock := { s.sys.lock with armed := false } },
                 pins := { s.pins with lockRst := s.pins.lockRst.map (fun _ => false) } }

/-- Opcode of `LOCKOUT_RESET_ARM`. -/
def opLockArm : Nat := 0x0120

/-- Opcode of `CHANGE_LOG_READ`. -/
def opChangeLog : Nat := 0x0510

/-- One change-log entry's 32 bytes (R497). -/
def ChangeEntry.bytes (e : ChangeEntry) : List Byte :=
  let b := leBytes 4 e.seq ++ leBytes 4 e.opSec ++ leBytes 3 e.powerCycles ++ leBytes 1 e.kind ++ leBytes 4 e.userTag ++
    leBytes 4 e.oldCrc ++ leBytes 4 e.newCrc ++ leBytes 2 e.changed ++ leBytes 1 e.transport ++ [0, 0, 0]
  b ++ leBytes 2 (crc16 b)

/-- Append an entry to the change log, the newest 1,024 kept; sequences start at 1 (R497). -/
def logChange (e : ChangeEntry) (s : State) : State :=
  let n := match s.guard.changeLog.getLast? with | some x => x.seq + 1 | none => 1
  let l := s.guard.changeLog ++ [{ e with seq := n }]
  raise0 0xBC { s with guard := { s.guard with changeLog := l.drop (l.length - 1024) } }

/-- CRC over the block 0x0C records in force, without the password (R497). -/
def guardedCrc (p : ParamState) : Nat :=
  let ids := (List.range 0x3B).map (fun i => 0x0C01 + i)
  crc32 ((ids.filter (fun i => i ≠ passwordId ∧ (paramSpec i).isSome = true)).flatMap (fun i => recordBytes i (p.get i) false))

end Sys2Proof.Machine
end

