-- ==== Sys2Proof/Machine/Feeds.lean ====
section
/-! DEFINITION. Feeds, handover, proof test, hold-up and the power-fail commit (chapter 03). -/
namespace Sys2Proof.Machine
open Sys2Proof

/-- A feed event (R103): its PD0 counter advances, and the event is raised. -/
def feedEvent (src : Nat) (detail : List Byte) (s : State) : State :=
  raise src 0 0 0 detail
    { s with feed := { s.feed with eventCounts := modAt s.feed.eventCounts (src - 0x10) (· + 1) } }

/-- Feed state underneath a commit; the code shown is `FeedState.code`. -/
def State.feedCode (s : State) : FeedCode :=
  if s.feed.commit.isNone then s.feed.code else if s.feed.proof.isSome then .proof else s.feed.codeBefore

/-- Set the feed state; during a commit the code shown stays 5. -/
def setFeedCode (c : FeedCode) (s : State) : State :=
  if s.feed.commit.isSome then { s with feed := { s.feed with codeBefore := c } }
  else { s with feed := { s.feed with code := c } }

/-- The other feed. -/
def otherFeed : FeedId → FeedId
  | .a => .b
  | .b => .a

/-- Millivolts of a feed. -/
def FeedState.mv (f : FeedState) : FeedId → Nat
  | .a => f.mvA
  | .b => f.mvB

/-- Note the voltage of a feed. -/
def setFeedMv (x : FeedId) (mv : Nat) (s : State) : State :=
  match x with
  | .a => { s with feed := { s.feed with mvA := mv } }
  | .b => { s with feed := { s.feed with mvB := mv } }

/-- The feed's converter failed a start, and the feed has not recovered since (R79). -/
def FeedState.barred (f : FeedState) : FeedId → Bool
  | .a => f.barredA
  | .b => f.barredB

/-- The feed is blocked by reverse polarity (R72). -/
def FeedState.reversed (f : FeedState) : FeedId → Bool
  | .a => f.reversedA
  | .b => f.reversedB

/-- A module carried by one feed alone is single feed while the standby is identical, absent or reversed (R76, R729). -/
def FeedState.single (f : FeedState) (active : FeedId) : Bool := f.identical || f.absent && f.judged || f.reversed (otherFeed active) && f.judged

/-- State code of a module carried by a feed, with or without a standby. -/
def activeCode (x : FeedId) (single : Bool) : FeedCode :=
  if single then .single else match x with | .a => .aActive | .b => .bActive

/-- Code of a handover to a feed. -/
def towards : FeedId → FeedCode
  | .a => .toA
  | .b => .toB

/-- Feed a handover code leads to. -/
def handoverTo : FeedCode → Option FeedId
  | .toA => some .a
  | .toB => some .b
  | _ => none

/-- The load is carried by `x`: event 0x11, and the other feed becomes the standby, unavailable until it has recovered (R81);
a bar of the other feed stays until then (R79). -/
def carry (x : FeedId) (s : State) : State :=
  let s := feedEvent 0x11 [] s
  let f : FeedState :=
    { s.feed with active := some x, starting := none, standbyOk := false, absent := false,
                  barredA := s.feed.barredA && x != .a, barredB := s.feed.barredB && x != .b }
  setFeedCode (activeCode x (f.single x)) { s with feed := f }

/-- Step of a proof test (R85). DESIGN CHOICE: the standby counts as in regulation, and the window as open, at the latest
instants that R85 allows, 2.5 ms and 3 ms after step 1; the end of the window is its row. -/
def State.proofStep (s : State) (t : ProofTest) : Nat :=
  if s.time.now < t.since + 2500 then 1 else if s.time.now < t.since + 3000 then 2 else 3

/-- Set-point of the active converter, mV: 0.6 V below the standby's from step 3 of a proof test to its end (R74, R85). -/
def State.activeSetpoint (s : State) : Nat :=
  match s.feed.proof with
  | some t => if s.proofStep t = 3 then s.pn 0x0203 - 600 else s.pn 0x0203
  | none => s.pn 0x0203

/-- A proof test ends by a handover with result 3 (R86, R88): the minima of a window that was open are no higher than what is
known of them, and open below that. -/
def abortProof (x : FeedId) (s : State) : State :=
  match s.feed.proof with
  | none => s
  | some t =>
    let s' := { s with feed := { s.feed with proof := none } }
    match t.by' with
    | some r =>
      let hold := min s.feed.holdMv (Config.freeNat s.free)
      let feed := min (s.feed.mv (otherFeed x)) (Config.freeNat (s.free + 1))
      complete r 0x0702 stOk noDetail ([3] ++ leBytes 2 hold ++ leBytes 2 feed) { s' with free := s.free + 2 }
    | none => s'

/-! ## Handover (R78 to R82, R728) -/

/-- `FEED_BELOW_THRESHOLD`: the two feed voltages after 20 µs. A standby below the threshold is unavailable until it has
recovered. Where the active feed is below it, a handover to a standby at or above it starts, else event 0x13 (R72, R78, R80); a
running proof test ends by the handover, which completes at once where the standby carries the load (R88). -/
def execFeedBelowThreshold (mvA mvB : Nat) (s : State) : Host.Outcome State Fault Refusal :=
  .next (match s.feed.active with
  | none => s
  | some x =>
    if !s.sys.powered then s else
    let s := setFeedMv .b mvB (setFeedMv .a mvA s)
    let low := decide (s.feed.mv (otherFeed x) < s.pn 0x0201)
    let s := { s with feed := { s.feed with standbyOk := s.feed.standbyOk && !low } }
    if s.pn 0x0201 ≤ s.feed.mv x then s else
    match s.feedCode with
    | .aActive | .bActive =>
      if s.feed.standbyOk then setFeedCode (towards (otherFeed x)) (feedEvent 0x10 [] s) else feedEvent 0x13 [] s
    | .single => if low then feedEvent 0x13 [] s else s
    | .proof =>
      let carried := match s.feed.proof with | some t => s.proofStep t == 3 | none => false
      let s := feedEvent 0x10 [] s
      if carried then abortProof x (carry (otherFeed x) s)
      else abortProof x (setFeedCode (towards (otherFeed x)) s)
    | _ => s)

/-- `HANDOVER_COMPLETE`: the started converter carries the load (R81, R728). -/
def execHandoverComplete (s : State) : Host.Outcome State Fault Refusal :=
  .next (match handoverTo s.feedCode, s.feed.starting with
  | some x, _ => carry x s
  | none, some x => carry x s
  | none, none => s)

/-- `HANDOVER_FAILED`: the started converter is stopped and barred until its feed recovers, event 0x12, hold only (R79,
R728). -/
def execHandoverFailed (s : State) : Host.Outcome State Fault Refusal :=
  .next (match (handoverTo s.feedCode).or s.feed.starting with
  | some x =>
    setFeedCode .holdOnly (feedEvent 0x12 []
      { s with feed := { s.feed with active := none, starting := none, standbyOk := false,
                                     barredA := s.feed.barredA || x == .a, barredB := s.feed.barredB || x == .b } })
  | none => s)

/-- `STANDBY_RESTORED`: a feed 1 V above the threshold for 100 ms has recovered; beside a carrying feed it becomes the standby
(R79, R81, R729). -/
def execStandbyRestored (feed : FeedId) (mv : Nat) (s : State) : Host.Outcome State Fault Refusal :=
  .next (if !s.sys.powered || s.feed.active == some feed || (s.feed.identical && s.feed.active.isSome) || mv < s.pn 0x0201 + 1000 then s else
    let s := setFeedMv feed mv s
    let f : FeedState :=
      { s.feed with standbyOk := s.feed.active.isSome, absent := false, reversedA := s.feed.reversedA && feed != .a,
                    reversedB := s.feed.reversedB && feed != .b, barredA := s.feed.barredA && feed != .a,
                    barredB := s.feed.barredB && feed != .b }
    let s := { s with feed := f }
    match s.feed.active with
    | some x => if s.feedCode = .single then setFeedCode (activeCode x false) s else s
    | none => s)

/-- A feed at this voltage for 20 µs may be started from cold in hold only (R79, R728). -/
def State.coldStart (s : State) (x : FeedId) (mv : Nat) : Bool := !s.feed.barred x && s.pn 0x0201 + 1000 ≤ mv

/-- `HOLD_ONLY_RECOVERY`: the voltages that both feeds have held for 20 µs; one 1 V above the threshold is started from cold,
unless its converter failed before. FEED_A wins a tie (R79, R728). -/
def execHoldOnlyRecovery (mvA mvB : Nat) (s : State) : Host.Outcome State Fault Refusal :=
  .next (if s.sys.powered && s.feedCode == .holdOnly && s.feed.starting.isNone then
    let s := setFeedMv .b mvB (setFeedMv .a mvA s)
    if s.coldStart .a mvA then { s with feed := { s.feed with starting := some .a } }
    else if s.coldStart .b mvB then { s with feed := { s.feed with starting := some .b } }
    else s
  else s)

/-- `FEEDS_IDENTICAL`: the judgement of the second after a start: identical, absent or reversed, or a standby (R76, R729). In
hold only the verdict holds for the feed that carries the module next. -/
def execFeedsIdentical (same absent : Bool) (s : State) : Host.Outcome State Fault Refusal :=
  .next (if !s.sys.powered || s.feed.judged then s else
    let s := { s with feed := { s.feed with judged := true, identical := same, absent := absent } }
    let s := if same then feedEvent 0x15 [] s else s
    match s.feed.active with
    | none => s
    | some x =>
      if s.feed.single x then setFeedCode .single s else s)

/-- `FEED_ABOVE_36V`: event 0x1C and no handover (R82). DESIGN CHOICE: the record's detail carries the feed's stored voltage;
chapter 03 names no detail for this event. -/
def execFeedAbove36v (feed : FeedId) (s : State) : Host.Outcome State Fault Refusal :=
  .next (if s.sys.powered then feedEvent 0x1C (leBytes 2 (s.feed.mv feed)) s else s)

/-- A judged module carried by one feed shows single feed once its standby is absent or reversed (R729). -/
def showSingle (s : State) : State :=
  match s.feed.active with
  | some x => if s.feed.single x && s.feedCode == activeCode x false then setFeedCode .single s else s
  | none => s

/-- `FEED_REVERSED`: the feed is blocked and reported (R72); a standby that is reversed leaves single feed (R729). -/
def execFeedReversed (feed : FeedId) (s : State) : Host.Outcome State Fault Refusal :=
  .next (if !s.sys.powered then s else
    let f : FeedState := match feed with
      | .a => { s.feed with reversedA := true, mvA := 0 }
      | .b => { s.feed with reversedB := true, mvB := 0 }
    showSingle (feedEvent 0x14 [] { s with feed := { f with standbyOk := f.standbyOk && f.active == some feed } }))

/-- `FEED_STOP_THRESHOLD`: a running converter whose feed is below 7.5 V stops; with no standby taking over, HOLD carries
the module alone (R75). -/
def execFeedStopThreshold (feed : FeedId) (s : State) : Host.Outcome State Fault Refusal :=
  .next (if !s.sys.powered || s.feed.active != some feed then s else
    let s := { s with feed := { s.feed with active := none } }
    if (handoverTo s.feedCode).isSome then s else setFeedCode .holdOnly s)

/-! ## Proof test (R84 to R88, R730) -/

/-- Opcode of `PROOF_TEST_FEED`. -/
def opProofTest : Nat := 0x0702

/-- Status of a request for a proof test (R84). -/
def State.proofStatus (s : State) : Nat :=
  match s.feed.code with
  | .toA | .toB | .holdOnly | .commit | .proof => stBusy
  | c =>
    if s.feed.holdMv + 500 < s.pn 0x0203 then stBusy
    else if c = .single ∨ s.feed.standbyOk = false ∨ s.feed.active = none then stNotPermitted
    else stAccepted

/-- A proof test starts (step 1 of R85); the next period counts from it (R730). -/
def startProof (by' : Option Requester) (s : State) : State :=
  { s with feed := { s.feed with codeBefore := s.feed.code, code := .proof,
                                 proof := some { by' := by', since := s.time.now }, proofRetry := false,
                                 proofAt := s.time.now } }

/-- `PROOF_TEST_FEED`. -/
def serveProofTest (p : Port) (tag : Half) (pl : List Byte) (s : State) : State :=
  serve opProofTest modesFive (pl.length == 0) p tag (fun s =>
    let st := s.proofStatus
    let s := reply p opProofTest tag st noDetail [] s
    if st = stAccepted then startProof (some (.packet p tag)) s else s) s

/-- `PROOF_TEST_FEED`. -/
def execProofTestFeed (port : Port) (tag : Half) (payload : List Byte) (s : State) : Host.Outcome State Fault Refusal :=
  .next (hostRow 0x0702 serveProofTest port tag payload s)

/-- A scheduled test falls due: `FEED.PROOF_PERIOD` after the latest test, or 60 s after an attempt that R84 refused (R730).
DEDUCED: before the first test the period counts from the start from unpowered. -/
def State.proofDue (s : State) : Bool :=
  s.pn 0x0204 != 0 &&
    (if s.feed.proofRetry then s.feed.proofTried + 60000000 ≤ s.time.now
     else s.feed.proofAt + 3600000000 * s.pn 0x0204 ≤ s.time.now)

/-- `PROOF_TEST_DUE`: a scheduled test, or its retry after 60 s (R730). -/
def execProofTestDue (s : State) : Host.Outcome State Fault Refusal :=
  .next (if !s.sys.ready || !s.proofDue then s
  else if s.opAllowed opProofTest modesFive && s.proofStatus == stAccepted then startProof none s
  else { s with feed := { s.feed with proofRetry := true, proofTried := s.time.now } })

/-- Result of a proof test's end: a pass needs HOLD within 0.3 V of the standby's set-point (R86). -/
def State.proofResult (s : State) (result lowHold : Nat) : Nat :=
  if result = 0 ∧ lowHold + 300 < s.pn 0x0203 then 1 else result

/-- `PROOF_TEST_WINDOW_END`: result 0 pass, 1 regulation lost, 2 current limit, with the lowest voltages (R85 to R87). Before
step 3 a test ends with result 1 only. -/
def execProofTestWindowEnd (result lowHold lowFeed : Nat) (s : State) : Host.Outcome State Fault Refusal :=
  .next (match s.feed.proof with
  | none => s
  | some t =>
    let result := s.proofResult result lowHold
    if 2 < result ∨ (result ≠ 1 ∧ s.proofStep t < 3) then s else
    let body := leBytes 1 result ++ leBytes 2 lowHold ++ leBytes 2 lowFeed
    let s := { s with feed :=
      { s.feed with proof := none, code := if s.feed.commit.isSome then s.feed.code else s.feed.codeBefore, proofFailed := result != 0 } }
    let s := feedEvent (if result = 0 then 0x1A else 0x1B) body s
    match t.by' with
    | some r => complete r opProofTest stOk noDetail body s
    | none => s)

/-! ## Power-fail commit (R92 to R97, R733) -/

/-- Step 2 of the commit: planning and transmission stop, a write-back is abandoned, open learning cycles end (cause 8 of
R397), and the silt intake switches to its RAM tail. -/
def commitStep2 (s : State) : State :=
  let s := (List.range 4).foldl (fun s k => disqualifyStrand k 8 s) (abandonWrite s)
  let s := (List.range 4).foldl (fun s k =>
    (if s.enabled k then stopTransfers k s else s).modBal k (fun b => { b with awaitUpdate := true })) s
  { s with silt := { s.silt with tailOn := true } }

/-- Step 4: intake records and the counts of open records are written (R656). -/
def commitStep4 (s : State) : State :=
  let t := siltDrain s.silt.intake.length s.silt
  let sync := fun (r : SiltRecord) => if r.isOpen then { r with writtenRep := r.rep } else r
  { s with silt := { t with ordinary := t.ordinary.map sync, pinned := t.pinned.map sync } }

/-- Run the steps of R92 after step `a`, up to step `b`. Steps 5 and 6 give the slot; in HOLLOW the RAM states are not
journalled (R389). -/
def commitSteps (a b : Nat) (s : State) : State :=
  let s := if a < 2 ∧ 2 ≤ b then commitStep2 s else s
  let s := if a < 3 ∧ 3 ≤ b then writeCounters s else s
  let s := if a < 4 ∧ 4 ≤ b then commitStep4 s else s
  if a < 6 ∧ 6 ≤ b then
    let s := if s.sys.mode = .hollow ∨ s.est.summary = [] then s else journalWrite 3 s
    let s := if s.sys.lock.latch then { s with sys := { s.sys with lock := { s.sys.lock with record := true } } } else s
    feedEvent 0x18 [] s
  else s

/-- Step 7a: services resume, and the RAM tail is written to the silt log (R92, R656). -/
def commitResume (s : State) : State :=
  let t := s.silt
  let s := { s with feed := { s.feed with commit := none, recovered := false, code := s.feedCode },
                    silt := { t with tailOn := false, tail := [], intake := t.intake ++ t.tail } }
  feedEvent 0x19 [] s

/-- `POWER_FAIL_COMMIT`: HOLD below 11 V; the commit begins and reaches step `steps`, 2 to 5 (R92). A proof test in progress runs
on to its end. -/
def execPowerFailCommit (mv : Nat) (steps : Nat) (s : State) : Host.Outcome State Fault Refusal :=
  .next (if !s.alive || s.feed.commit.isSome || 11000 ≤ mv then s else
    let n := min 5 (max 2 steps)
    let s := { s with feed := { s.feed with holdMv := mv, commit := some n, recovered := false, journalDue := false,
                                            codeBefore := if s.feed.code = .proof then s.feed.codeBefore else s.feed.code,
                                            code := .commit } }
    commitSteps 1 n (feedEvent 0x17 [] s))

/-- `COMMIT_COMPLETE`: the remaining steps run to step 6; services resume at once where HOLD has recovered (R733). -/
def execCommitComplete (s : State) : Host.Outcome State Fault Refusal :=
  .next (match s.feed.commit with
  | some n =>
    if n = 6 then s else
    let s := commitSteps n 6 { s with feed := { s.feed with commit := some 6 } }
    if s.feed.recovered then commitResume s else s
  | none => s)

/-- `SUPPLY_RECOVERED`: HOLD at or above 13 V for 10 ms; it acts only after step 6 (R733). -/
def execSupplyRecovered (s : State) : Host.Outcome State Fault Refusal :=
  .next (match s.feed.commit with
  | some n =>
    let s := { s with feed := { s.feed with holdMv := s.pn 0x0203 } }
    if n = 6 then commitResume s else { s with feed := { s.feed with recovered := true } }
  | none => s)

/-- The slot a commit was writing is torn and no longer valid (R102). DEDUCED: a slot that a periodic write had already
invalidated stays so. -/
def tearSlot (s : State) : State :=
  match s.feed.slotA, s.feed.slotB with
  | some x, some y =>
    if seqBefore x.seq y.seq then { s with feed := { s.feed with slotA := none } }
    else { s with feed := { s.feed with slotB := none } }
  | _, _ => s

/-- `ORDERED_SHUTDOWN`: HOLD below 9 V (R95); a commit cut short leaves a torn slot, and a write-back in progress a torn
copy, which the next start finds (R102, R416). -/
def execOrderedShutdown (s : State) : Host.Outcome State Fault Refusal :=
  .next (if !s.sys.powered then s else
    let s := match s.feed.commit with
      | some n => if 4 ≤ n ∧ n < 6 ∧ s.sys.mode ≠ .hollow ∧ s.est.summary ≠ [] then tearSlot s else s
      | none => s
    powerDown s)

/-- `HIBERNATE_HOLD_LOW`: the counters, with the operating seconds that PD0 has counted since the entry to HIBERNATE, are written
and nothing else (R97). DESIGN CHOICE: the row tells no time, so the TB2 periods since the entry are a free value (entry 4). -/
def execHibernateHoldLow (s : State) : Host.Outcome State Fault Refusal :=
  .next (if s.sys.powered && s.sys.mode == .hibernate then
    { s with feed := (writeCounters (advance (tb2Micros (Config.freeNat s.free)) s)).feed, free := s.free + 1 }
  else s)

/-- `JOURNAL_PERIODIC`: a periodic entry; asked for after the quiesce mark it waits for the next frame (R100, R726). -/
def execJournalPeriodic (s : State) : Host.Outcome State Fault Refusal :=
  .next (if !s.opAllowed opProofTest modesFive || s.sys.mode == .hollow || s.feed.commit.isSome || s.est.summary.isEmpty then s
  else if s.time.quiesced then { s with feed := { s.feed with journalDue := true } }
  else journalBegin s)

end Sys2Proof.Machine
end

