-- ==== Sys2Proof/Machine/Points.lean ====
section
/-! DEFINITION. The value of every point (R17 to R20 and the point tables of the chapters); none where the point reads as R17
prescribes. -/
namespace Sys2Proof.Machine
open Sys2Proof

/-! ## Dispatch standing (R587, R588, R591, R602) -/

/-- Module ID (R588). -/
def State.moduleId (s : State) : Nat := 256 * s.pn 0x1102 + s.pn 0x1103

/-- Ledger entry of strand 0 of a module ID (R588). -/
def ledgerIndex (id : Nat) : Nat := 4 * (40 * (id / 256) + id % 256)

/-- Dispatch runs: not off, and AC1 serves it (R587). -/
def State.dispatches (s : State) : Bool :=
  s.alive && s.pn 0x1101 != 0 && (match s.sys.mode with | .standby | .run | .service | .lockout => true | _ => false)

/-- A dispatch service of AC1 runs: not during a power-fail commit (R92, R587). -/
def State.dispatchRuns (s : State) : Bool := s.dispatches && s.feed.commit.isNone

/-- The segment channel, or the trunk channel, of network time and dispatch; 3 none. -/
def State.segCh (s : State) : Nat := s.pn 0x1002

/-- The trunk channel. -/
def State.trunkCh (s : State) : Nat := s.pn 0x1003

/-- Channel `c` of CAN. -/
def State.canOf (s : State) (c : Nat) : CanState := s.can.getD c {}

/-- The conditions of R591, applied to a channel. -/
def State.candidateOn (s : State) (ch : Nat) : Bool :=
  s.pn 0x1105 == 1 && 2 ≤ s.pn 0x1101 && s.dispatches && ch < 3 && (s.canOf ch).state == 0 && !s.disp.duplicate

/-- This module leads its segment; a duplicate leads nothing (R593). -/
def State.leadsSegment (s : State) : Bool := 2 ≤ s.pn 0x1101 && !s.disp.duplicate && s.disp.segLead == some s.moduleId

/-- This module leads the trunk. -/
def State.leadsTrunk (s : State) : Bool := s.pn 0x1101 == 3 && !s.disp.duplicate && s.disp.trunkLead == some s.moduleId

/-- This module takes the set-point: standalone, the segment lead of tier 2, the trunk lead of tier 3 (R587). -/
def State.topLead (s : State) : Bool :=
  match s.pn 0x1101 with
  | 1 => true
  | 2 => s.leadsSegment
  | 3 => s.leadsTrunk
  | _ => false

/-! ## Values by class -/

/-- A value 0x8000_0000 is the invalid value of R17 whatever it came from. -/
def pointValue (v : Int) : Option Int := if v = -2147483648 then none else some v

/-- A word of flags as a point. -/
def flagPoint (w : Nat) : Option Int := pointValue (s32Of w)

/-- A count modulo 2^31. -/
def countPoint (n : Nat) : Option Int := some ((n % 2 ^ 31 : Nat) : Int)

/-- A value saturating at 2^31 − 1. -/
def satPoint (n : Nat) : Option Int := some ((min 0x7FFFFFFF n : Nat) : Int)

/-- Cell classes 0x10, 0x11 and 0x13 (R242, R344). The positions of a satellite that is not admitted read as R17 prescribes, those
of an unreachable one are invalid (R207, R222). -/
def State.cellPoint (s : State) (cls k c : Nat) : Option Int :=
  let o := s.cell k c
  let x := (s.ring k).sat (c / 16)
  match (s.measOf k).newest with
  | none => none
  | some h =>
    if cls = 0x10 then (if x.usable then o.value else none)
    else if cls = 0x11 then (if x.usable then o.secondary else none)
    else if !x.admitted then none
    else
      let flags := bit (o.noData || o.value.isNone || !x.usable) * 2 ^ 30 + bit o.invalidWire * 2 ^ 29 + bit o.balAffected * 2 ^ 28 + bit o.plausFail * 2 ^ 27 +
        bit o.stale * 2 ^ 26 + bit o.wireSuspect * 2 ^ 25
      flagPoint (flags + h.plan.getD c 0)

/-- Estimate classes 0x30 and 0x32 to 0x34 (R392). -/
def State.estPoint (s : State) (cls k c : Nat) : Option Int :=
  let e := (s.estOf k).cell c
  if s.sys.mode = .hollow ∨ e.present = false ∨ ((s.ring k).sat (c / 16)).admitted = false then none
  else e.pub.map (fun v =>
    if cls = 0x30 then roundRat (v.1 * 100000)
    else if cls = 0x32 then roundRat (v.2.1 * 1000)
    else if cls = 0x33 then roundRat (v.2.2.1 * 1000000)
    else roundRat (v.2.2.2 * 100000))

/-- Strand classes 0x20, 0x22, 0x23 and 0x31 (R271, R275, R278, R392). -/
def State.strandPoint (s : State) (cls k : Nat) : Option Int :=
  let e := s.estOf k
  if !s.enabled k then none
  else if cls = 0x20 then (s.strandHv k).voltage.bind (fun v => s.pair k (4 + k) (if (s.strandHv k).watch.clamped then 0 else v))
  else if cls = 0x22 then (s.strandHv k).current
  else if s.sys.mode = .hollow then none
  else if cls = 0x23 then e.iUsed.map (fun i => roundRat (i * 1000))
  else e.strandSoc.map (fun x => roundRat (x * 100000))

/-- Class 0x21 (R271, R275). -/
def State.busPoint (s : State) (i : Nat) : Option Int :=
  if i = 0 then s.hv.bus.bind (fun v => s.pair 8 9 (if s.hv.busWatch.clamped then 0 else v))
  else
    let k := i % 16
    if !s.enabled k then none
    else if i / 16 = 1 then (s.strandHv k).uPos.bind (s.pair k 8) else (s.strandHv k).uNeg.bind (s.pair (4 + k) 9)

/-- Class 0x35: charge at k, discharge at 4 + k (R385, R389). -/
def State.limitPoint (s : State) (i : Nat) : Option Int :=
  if !s.enabled (i % 4) then none
  else let l := s.limits (i % 4); satPoint (if i < 4 then l.2 else l.1)

/-- Class 0x51 (R530). -/
def OutputState.point (o : OutputState) : Nat :=
  o.verdict % 16 * 2 ^ 27 + o.partner % 32 * 2 ^ 22 + min 3 o.cutoffs * 2 ^ 20 + bit o.on * 2 ^ 16 + min 65535 o.current

/-- The output an instance of class 0x51 names. -/
def FieldState.output (f : FieldState) (i : Nat) : OutputState :=
  if i < 16 then f.so.getD i {} else if i < 32 then f.go.getD (i - 16) {} else f.ts.getD (i - 32) {}

/-- Class 0x52 (R526). -/
def State.aiPoint (s : State) (i : Nat) : Option Int :=
  let a := s.field.ai.getD (i % 16) {}
  if 16 ≤ i then some (a.status : Int)
  else if s.pn (0x0D30 + i) / 2 ^ 30 = 0 ∨ a.wireBreak = true ∨ (s.pn (0x0D30 + i) / 2 ^ 30 = 1 ∧ a.burdenOpen = true) ∨ s.ac0On = false
    then none
  else pointValue (roundRat a.value)

/-- Class 0x53 (R528). -/
def State.piPoint (s : State) (i : Nat) : Option Int :=
  let p := s.field.pi'.getD (i % 16) {}
  if !(s.pn (0x0D36 + i % 16)).testBit 31 then none
  else if 16 ≤ i then countPoint p.edges else satPoint p.mHz

/-- Class 0x54 (R527). -/
def State.aoPoint (s : State) (i : Nat) : Option Int :=
  let a := s.field.ao.getD (i % 16) {}
  if s.pn (0x0D32 + i % 16) / 2 ^ 30 = 0 then none
  else if 16 ≤ i then some (a.status : Int) else pointValue a.readback

/-- Channels of junction temperatures (R534). -/
def junctions : List Nat := List.range 14 ++ [22, 23]

/-- Highest valid reading of some channels, with its channel. -/
def ThermalState.hottest (t : ThermalState) (l : List Nat) : Option (Nat × Int) :=
  l.foldl (fun a c => match t.temps.getD c none, a with
    | some v, some (_, w) => if w < v then some (c, v) else a
    | some v, none => some (c, v)
    | none, _ => a) none

/-- Thermal status (R550). -/
def ThermalState.status (t : ThermalState) : Nat :=
  (match t.hottest junctions with | some (c, _) => c | none => 0) * 2 ^ 16 + t.step % 4 * 2 ^ 8 + bit t.warn.set * 2 ^ 7 +
    bit t.component.set * 2 ^ 6 + bit (t.temps.any (·.isNone)) * 2 ^ 5 + bit t.blind * 2 ^ 4 + bit t.disagree * 2 ^ 3

/-- Guard status (R499). -/
def State.guardStatus (s : State) : Nat :=
  bit s.sys.lock.latch * 2 ^ 31 + bit s.sys.lock.thermal * 2 ^ 30 + bit s.guard.valid * 2 ^ 29 + bit s.guard.watchdog.armed * 2 ^ 28 +
    maskOf 4 (fun k => (s.tripOf k).ocNow) * 2 ^ 20 + maskOf 4 (fun k => (s.tripOf k).guardLatch) * 2 ^ 16 +
    maskOf 8 (fun p => s.pairOn p && (s.pairOf p).demanded) * 2 ^ 8 + bit s.guard.isoLine * 2 ^ 7 + bit s.sys.lock.armed * 2 ^ 6 +
    min 15 s.guard.watchdog.misses

/-- Cause word of strand `k` (R499): the recorded causes, a pair demand and a lock-out as they stand. -/
def State.causeWord (s : State) (k : Nat) : Nat :=
  maskSet (maskSet (s.tripOf k).word 7 (s.demandOn k || (s.tripOf k).word.testBit 7)) 16
    (s.sys.lock.latch || (s.tripOf k).word.testBit 16)

/-- Estimator flags of a strand (R392). -/
def StrandEst.flags (e : StrandEst) : Nat :=
  min 65535 (e.cells.countP (·.outlier)) * 2 ^ 16 + bit (e.cells.any (·.noSaved)) * 2 ^ 7 + bit e.obsLow * 2 ^ 6 +
    bit e.inferInvalid * 2 ^ 5 + bit e.assist * 2 ^ 4 + bit e.reversed * 2 ^ 3 + bit e.disagree * 2 ^ 2 + bit e.anchorStale * 2 +
    bit e.atRest

/-- Instances 0x0020 to 0x0033 of class 0x61: a strand's estimator figures and its cycles (R392, R421). -/
def State.estFigure (s : State) (i : Nat) : Option Int :=
  let k := i % 4
  let e := s.estOf k
  if !s.enabled k then none
  else if 0x30 ≤ i then
    (match s.mem.strands[k]? with | some r => satPoint (roundRat (r.ram.cycles * 1000)).toNat | none => none)
  else if s.sys.mode = .hollow then none
  else if i < 0x24 then some (roundRat (e.obs * 1000))
  else if i < 0x28 then
    if e.cells.any (·.present) then
      satPoint ((e.cells.filter (·.present)).foldl (fun a c => max a (c.ageAt s.time.now)) 0 / 1000)
    else none
  else if i < 0x2C then flagPoint e.flags
  else e.dk.map (fun d => roundRat (d * 1000))

/-- Status of CAN channel `c` (R584). -/
def CanState.status (c : CanState) : Nat :=
  c.state % 4 * 2 ^ 30 + bit c.swapped * 2 ^ 29 + bit c.txdTimeout * 2 ^ 28 + min 255 c.rec' * 2 ^ 16 + min 255 c.tec * 2 ^ 8 +
    min 255 c.busoffs

/-- Feed, rail, guard and channel instances of class 0x61 below 0x1000 (R103, R345, R499, R523, R532, R584, R615). -/
def State.supplyPoint (s : State) (i : Nat) : Option Int :=
  let f := s.feed
  let volt := s.pn 0x0203
  if i = 0 then some (f.mvA : Int)
  else if i = 1 then some (f.mvB : Int)
  else if i = 2 then some (f.holdMv : Int)
  else if i = 3 then some (f.capUf : Int)
  else if i = 4 then satPoint (f.capUf * (volt * volt - 121000000) / 7800000)
  else if i = 5 then some (Machine.feedCode f.code : Int)
  else if i < 0x20 then
    let k := i % 4
    if !s.enabled k ∨ (s.balOf k).rail.isNone = true then none
    else if i < 0x14 then (s.balOf k).rail.bind satPoint else satPoint (s.balOf k).donorMw
  else if i < 0x34 then s.estFigure i
  else if i = 0x40 then flagPoint s.guardStatus
  else if i < 0x45 then some (s.causeWord (i - 0x41) : Int)
  else if i = 0x45 then some ((s.guard.commands % 4096 * 2 ^ 16 + maskOf 12 s.guardEnable : Nat) : Int)
  else if i = 0x46 then
    flagPoint ((List.range 8).foldl (fun a p =>
      let q := s.pairOf p
      a + (bit q.aClosed + 2 * bit q.bClosed + 4 * bit q.demanded + 8 * bit q.fault) * 16 ^ p) 0)
  else if i < 0x52 then some ((s.field.lplus.getD (i - 0x50) {}).mv : Int)
  else if i < 0x68 then pointValue (s.thermal.supplies.getD (i - 0x60) 0)
  else if i < 0x73 then flagPoint (s.canOf (i - 0x70)).status
  else if i < 0x76 then satPoint ((s.canOf (i - 0x73)).drops.foldl (· + ·) 0)
  else ((s.twc.slots.getD (i - 0x90) {}).value).bind pointValue

/-- Cell instances of class 0x61 (R421). -/
def State.cellFigure (s : State) (i : Nat) : Option Int :=
  let c := i % 0x1000
  let m := s.cellMem (c / 512) (c % 512)
  if !s.enabled (c / 512) ∨ s.masked (c / 512) (c % 512) = true then none
  else if i < 0x2000 then satPoint (roundRat (m.cycles * 1000)).toNat
  else if m.learned then some (roundRat (m.sigma * 100000)) else none

/-- Roles as two bits (R585). -/
def ntRoleCode : NtRole → Nat
  | .none => 0 | .follower => 1 | .master => 2

/-- Grandmaster: the master of a role that follows none (R574, R576). -/
def ClockState.grandmaster (c : ClockState) (role : Nat) : Bool :=
  if role = 2 then c.segment == .master
  else c.trunk == .master

/-- Class 0x70 (R585). -/
def State.timePoint (s : State) (i : Nat) : Option Int :=
  let c := s.clock
  if i = 0 then flagPoint (c.epoch % 256 * 2 ^ 16 + bit (c.traceable || c.grandmaster (s.pn 0x1001)) * 2 ^ 11 +
    bit (c.grandmaster (s.pn 0x1001)) * 2 ^ 10 + ntRoleCode c.trunk * 2 ^ 8 + ntRoleCode c.segment * 2 ^ 6 + c.state % 8)
  else if i = 5 then countPoint c.used
  else if c.state = 0 then none
  else if i = 1 then some (clampInt (-2147483647) 2147483647 c.residual)
  else if i = 2 then some (clampInt (-2147483647) 2147483647 c.corr)
  else if i = 3 then countPoint (s.net / 1000000000)
  else some ((s.net % 1000000000 : Nat) : Int)

/-- Source value of sources 1 to 4 (R432). -/
def State.sourceValue (s : State) : Option Int :=
  match s.pn 0x1108 with
  | 1 => s.aiPoint 0
  | 2 => s.aiPoint 1
  | 3 => s.piPoint 0
  | 4 => s.piPoint 1
  | _ => none

/-- The set-point of the module's source, kW; the module is a holder while there is one (R595). -/
def State.ownSetpoint (s : State) : Option Int :=
  if s.pn 0x1108 = 5 then some s.disp.setpoint5
  else s.sourceValue.map (fun x =>
    let p0 := s.pi 0x110C
    let p1 := s.pi 0x110D
    let dx := s.pi 0x110B - s.pi 0x110A
    let p := if dx = 0 then p0 else p0 + roundRat (((p1 - p0) * (x - s.pi 0x110A) : Int) / (dx : Rat))
    clampInt (min p0 p1) (max p0 p1) p)

/-- Dispatch status (R602). -/
def State.dispStatus (s : State) : Nat :=
  let tier := s.pn 0x1101
  let seg := if tier < 2 then 0 else if s.leadsSegment then 2 else 1
  let trunk := if tier < 3 ∨ s.leadsSegment = false then 0 else if s.leadsTrunk then 2 else 1
  (if s.leadsSegment then min 255 s.disp.members.length else 0) * 2 ^ 16 + trunk * 2 ^ 10 + seg * 2 ^ 8 + bit s.ownSetpoint.isSome * 2 ^ 7 +
    bit s.disp.duplicate * 2 ^ 6 + bit s.disp.tagMismatch * 2 ^ 5 + bit s.disp.allocStale * 2 ^ 4 + bit s.disp.noSetpoint * 2 ^ 3 +
    bit s.disp.saturated * 2 ^ 2 + bit (s.candidateOn s.segCh) * 2

/-- Ledger instances of class 0x71 (R601, R602). -/
def State.ledgerPoint (s : State) (i : Nat) : Option Int :=
  match assocGet (i % 0x2800) s.disp.ledger with
  | none => none
  | some e =>
    if i < 0x2800 then pointValue e.alloc
    else if i < 0x5000 then pointValue e.dis
    else if i < 0x7800 then pointValue e.chg
    else satPoint ((s.time.now - e.at') / 1000)

/-- Class 0x71 (R587, R602). -/
def State.dispPoint (s : State) (i : Nat) : Option Int :=
  let d := s.disp
  if !s.dispatches then none
  else if i < 0xA000 then s.ledgerPoint i
  else if i < 0xF004 then pointValue (d.allocI.getD (i - 0xF000) 0)
  else if i < 0xF008 then pointValue (d.allocW.getD (i - 0xF004) 0)
  else if i = 0xF010 then flagPoint s.dispStatus
  else if i = 0xF011 then if s.topLead then pointValue (d.inForce / 1000) else none
  else if i = 0xF012 then if s.topLead then pointValue (d.unserved / 1000) else none
  else if i = 0xF013 then d.segLead.map (fun x => (x : Int))
  else d.trunkLead.map (fun x => (x : Int))

/-- PD14 is on (R36, R38). -/
def State.hvOn (s : State) : Bool := s.ac0On

/-- The value of a known point, by class and instance; none where it reads as R17 prescribes. -/
def State.point (s : State) (cls i : Nat) : Option Int :=
  match cls with
  | 0x10 | 0x11 | 0x13 =>
    if !s.enabled (i / 512) ∨ s.masked (i / 512) (i % 512) = true then none else s.cellPoint cls (i / 512) (i % 512)
  | 0x12 => if !s.enabled (i / 256) then none
    else if ((s.ring (i / 256)).sat (i % 256 / 8)).usable then ((s.measOf (i / 256)).temps.getD (i % 256) {}).value else none
  | 0x20 | 0x22 => if s.hvOn then s.strandPoint cls i else none
  | 0x23 | 0x31 => s.strandPoint cls i
  | 0x21 => if s.hvOn then s.busPoint i else none
  | 0x24 => if s.hvOn && s.pn 0x070D == 1 && !s.hv.earthFault && (i == 0) == (s.connMask != 0) && (i == 0 || s.enabled (i - 1)) then
      (s.hv.iso.getD i none).map (fun x => (x : Int)) else none
  | 0x30 | 0x32 | 0x33 | 0x34 =>
    if !s.enabled (i / 512) ∨ s.masked (i / 512) (i % 512) = true then none else s.estPoint cls (i / 512) (i % 512)
  | 0x35 => s.limitPoint i
  | 0x40 => pointValue ((s.loop.loops.getD (i / 16) {}).nodes.getD (i % 16) 0)
  | 0x50 => some ((if i = 0 then s.field.di else s.field.diRaw : Nat) : Int)
  | 0x51 => flagPoint (s.field.output i).point
  | 0x52 => s.aiPoint i
  | 0x53 => s.piPoint i
  | 0x54 => s.aoPoint i
  | 0x60 => if i = 0x30 then flagPoint s.thermal.status else s.thermal.temps.getD i none
  | 0x61 => if i < 0x1000 then s.supplyPoint i else s.cellFigure i
  | 0x70 => s.timePoint i
  | 0x71 => s.dispPoint i
  | _ => none

/-- The value of a point ID; none for an unknown one too. -/
def State.readPoint (s : State) (id : Nat) : Option Int :=
  if pointKnown id then s.point (id / 65536) (id % 65536) else none

/-- A point as a 32-bit word: the invalid value of R17 where it has none. -/
def pointWord (v : Option Int) : Nat :=
  match v with
  | some x => (BitVec.ofInt 32 x).toNat
  | none => 0x80000000

end Sys2Proof.Machine
end

