-- ==== Sys2Proof/Machine/FieldIo.lean ====
section
/-! DEFINITION. The field die: outputs and their verdicts, L+ supervision, digital, analogue and pulse channels, and the direct
commands of outputs (chapter 14). -/
namespace Sys2Proof.Machine
open Sys2Proof

/-! ## Outputs -/

/-- Number of an output in records and in `FIO.LATCH_CLEAR`: SO 0–11, GO 12–19, TS 20–23 (R522, R651). -/
def outNo : OutputId → Nat
  | .so n => n % 12
  | .go n => 12 + n % 8
  | .ts n => 20 + n % 4

/-- Supply that serves output number `i`: 0 L+A, 1 L+B (chapter 02). -/
def outSupply (i : Nat) : Nat :=
  if i < 12 then i / 6 else if i < 20 then (i - 12) / 4 else (i - 20) / 2

/-- State of output number `i`. -/
def FieldState.out (f : FieldState) (i : Nat) : OutputState :=
  if i < 12 then f.so.getD i {} else if i < 20 then f.go.getD (i - 12) {} else f.ts.getD (i - 20) {}

/-- Change output number `i`. -/
def modOut (i : Nat) (f : OutputState → OutputState) (s : State) : State :=
  let g := s.field
  { s with field :=
      if i < 12 then { g with so := modAt g.so i f }
      else if i < 20 then { g with go := modAt g.go (i - 12) f } else { g with ts := modAt g.ts (i - 20) f } }

/-- The supply of output `i` is held by supervision or missing (R523, R525). -/
def State.supplyHeld (s : State) (i : Nat) : Bool :=
  let l := s.field.lplus.getD (outSupply i) {}
  l.held || l.missing

/-- USED of an output's configuration; a TS is always in use. -/
def State.outUsed (s : State) (i : Nat) : Bool :=
  if i < 12 then (s.pn (0x0D10 + i)).testBit 31 else if i < 20 then (s.pn (0x0D20 + i - 12)).testBit 31 else true

/-- OPEN_CHECK of an output's configuration. -/
def State.openCheck (s : State) (i : Nat) : Bool :=
  if i < 12 then (s.pn (0x0D10 + i)).testBit 30 else if i < 20 then (s.pn (0x0D20 + i - 12)).testBit 29 else false

/-- Output `i` is commanded on: AC0's command and the guard die's enable for SO, a duty for GO, always for TS. -/
def State.outCommanded (s : State) (i : Nat) : Bool :=
  if i < 12 then s.commanded i && s.guardEnable i else if i < 20 then s.field.goDuty.getD (i - 12) 0 != 0 else true

/-- Command of an output withdrawn; a contactor output opens its strand (R520, R524). -/
def withdrawOut (i : Nat) (s : State) : State :=
  if i < 12 then
    let s := (List.range 4).foldl (fun s k => if s.soPos k = i ∨ s.soNeg k = i then openStrand k s else s) s
    let s := commandOff i s
    { s with field := { s.field with soCmd := maskSet s.field.soCmd i false } }
  else if i < 20 then
    { s with field := { s.field with goDuty := setAt s.field.goDuty (i - 12) 0, goCmd := setAt s.field.goCmd (i - 12) 0 } }
  else s

/-- Low-pole duty of a safety output that is on, %: full for PULL_IN ms after the switch-on, then the economiser's hold
duty referred to 24 V (R515). -/
def State.holdDuty (s : State) (x : Nat) : Nat :=
  let w := s.pn (0x0D10 + x)
  let mv := (s.field.lplus.getD (outSupply x) {}).mv
  if !w.testBit 29 ∨ s.time.now < (s.field.so.getD x {}).onSince + 1000 * bits w 15 0 ∨ mv = 0 then 100
  else min 100 (bits w 23 16 * 24000 / mv)

/-- A verdict that is a lockout fault on a safety output (R519, R521): event 0xB9 and the lock-out. -/
def soLock (i : Nat) (s : State) : State := if i < 12 then lockout 0xB9 (raise 0xB9 0 9 i [] s) else s

/-- Verdict given to an output, its retry dropped. -/
def setVerdict (i v : Nat) (s : State) : State := modOut i (fun o => { o with verdict := v, partner := 31, retry := false }) s

/-- `FIELD_READBACK`: the read-back of one output and the verdicts it gives (R519). -/
def execFieldReadback (output : OutputId) (data : Readback) (s : State) : Host.Outcome State Fault Refusal :=
  .next (
    let i := outNo output
    if !s.ac0On then s else
    let s := modOut i (fun o => { o with on := data.conducting, current := data.current })
      { s with field := { s.field with reportAt := s.time.now } }
    let v := (s.field.out i).verdict
    if !s.outUsed i then s
    else if (s.field.lplus.getD (outSupply i) {}).missing then if v ≤ 2 ∨ v = 8 then setVerdict i 9 s else s
    else if !s.outCommanded i ∧ 10 < data.pole ∧ i < 20 ∧ (v ≤ 3 ∨ v = 8) then
      soLock i (withdrawOut i (raise 0xCB 0 9 i [] (setVerdict i 7 s)))
    else if s.supplyHeld i ∨ !s.openCheck i then s
    else if v = 0 ∧ data.openLoad = true then raise 0xC5 0 9 i [] (setVerdict i 1 s)
    else if v = 1 ∧ data.openLoad = false then raise 0xC5 0 9 i [] (setVerdict i 0 s)
    else s)

/-- `OVERLOAD_CUTOFF`: a thermal cut-off; the fourth of a sequence latches (R520). -/
def execOverloadCutoff (output : OutputId) (s : State) : Host.Outcome State Fault Refusal :=
  .next (
    let i := outNo output
    if !s.ac0On || !s.outUsed i || s.supplyHeld i || !s.outCommanded i || 2 ≤ (s.field.out i).verdict
    then s else
    let n := (s.field.out i).cutoffs + 1
    let now := s.time.now
    let s := raise 0xC6 0 9 i [] (modOut i (fun o => { o with
      cutoffs := n, on := false, current := 0, cutAt := now, retryAt := now + 1000000 }) s)
    if 4 ≤ n then withdrawOut i (raise 0xC7 0 9 i [] (setVerdict i 3 s))
    else modOut i (fun o => { o with verdict := 2, retry := true }) s)

/-- `OVERLOAD_RETRY`: 1 s after a cut-off the output is tried again if it is still commanded (R520, R525). -/
def execOverloadRetry (output : OutputId) (s : State) : Host.Outcome State Fault Refusal :=
  .next (
    let i := outNo output
    let o := s.field.out i
    if s.alive && o.retry && o.verdict == 2 && !s.supplyHeld i && decide (o.retryAt ≤ s.time.now) then
      modOut i (fun o => { o with verdict := 0, retry := false, onSince := s.time.now }) s
    else s)

/-- `OVERLOAD_SEQUENCE_END`: 60 s without a cut-off (R520). -/
def execOverloadSequenceEnd (output : OutputId) (s : State) : Host.Outcome State Fault Refusal :=
  .next (modOut (outNo output) (fun o => if o.cutAt + 60000000 ≤ s.time.now then { o with cutoffs := 0 } else o) s)

/-- `SHORT_SEARCH`: an output commanded off whose pin stays above 12 V; the search opens the outputs that are on and names the
partner it is wired to, or none (R519, R521, R525). -/
def execShortSearch (output : OutputId) (partner : Option Nat) (s : State) : Host.Outcome State Fault Refusal :=
  .next (
    let i := outNo output
    let v := (s.field.out i).verdict
    if !s.ac0On || 20 ≤ i || !s.outUsed i || s.supplyHeld i || s.outCommanded i ||
        (4 ≤ v && v ≤ 7) then s else
    match partner with
    | some p =>
      if 20 ≤ p ∨ p = i ∨ s.outCommanded p = false then s else
      let s := modOut i (fun o => { o with verdict := 5, partner := p, retry := false }) s
      let s := modOut p (fun o => { o with verdict := 5, partner := i, retry := false }) s
      soLock p (soLock i (raise 0xC9 0 9 i [] (withdrawOut p (withdrawOut i s))))
    | none => soLock i (raise 0xC8 0 9 i [] (withdrawOut i (setVerdict i 4 s))))

/-! ## L+ supervision (R523 to R525) -/

/-- Change one L+ supply. -/
def modLplus (x : Nat) (f : LPlus → LPlus) (s : State) : State :=
  { s with field := { s.field with lplus := modAt s.field.lplus x f } }

/-- `LPLUS_WARNING`: the warning sets below 19.2 V and clears above 19.7 V. -/
def execLplusWarning (supply : Nat) (mv : Nat) (low : Bool) (s : State) : Host.Outcome State Fault Refusal :=
  .next (
    let was := (s.field.lplus.getD supply {}).warning
    if !s.ac0On || 2 ≤ supply then s else
    let s := modLplus supply (fun l => { l with mv := mv }) s
    let now := if low then was || decide (mv < 19200) else was && !decide (19700 < mv)
    if now == was then s
    else raise (0xC0 + supply) 0 5 supply [] (modLplus supply (fun l => { l with warning := now }) s))

/-- `LPLUS_LOW`: below 14 V every SO and GO the supply serves switches off; below 5 V the supply counts as missing. -/
def execLplusLow (supply : Nat) (mv : Nat) (s : State) : Host.Outcome State Fault Refusal :=
  .next (
    if !s.ac0On || 2 ≤ supply || 14000 ≤ mv then s else
    let was := (s.field.lplus.getD supply {}).held
    let missing := decide (mv < 5000)
    let s := modLplus supply (fun l => { l with mv := mv, held := true, missing := missing }) s
    let s := if was then s else raise (0xC2 + supply) 0 5 supply [] s
    let outs := (List.range 24).filter (fun i => outSupply i == supply)
    outs.foldl (fun s i =>
      let v := (s.field.out i).verdict
      let s := if 20 ≤ i ∨ was = true then s else withdrawOut i s
      let s := if was = true then s else modOut i (fun o => { o with retryAt := o.retryAt - s.time.now }) s
      if 3 ≤ v ∧ v ≤ 7 then s
      else if missing then modOut i (fun o => { o with verdict := 9, on := false, current := 0 }) s
      else if i < 20 then modOut i (fun o => { o with verdict := 8, on := false, current := 0 }) s
      else if v = 9 then modOut i (fun o => { o with verdict := 0 }) s else s) s)

/-- `LPLUS_RELEASE`: above 18 V for 500 ms without a break; the outputs accept commands again. -/
def execLplusRelease (supply : Nat) (mv : Nat) (s : State) : Host.Outcome State Fault Refusal :=
  .next (
    if !s.ac0On || 2 ≤ supply || !(s.field.lplus.getD supply {}).held || mv ≤ 18000 then s else
    let s := modLplus supply (fun l => { l with mv := mv, held := false, missing := false }) s
    let s := ((List.range 24).filter (fun i => outSupply i == supply)).foldl (fun s i =>
      let s := modOut i (fun o => { o with retryAt := o.retryAt + s.time.now }) s
      if 8 ≤ (s.field.out i).verdict then modOut i (fun o => { o with verdict := if o.retry then 2 else 0 }) s else s) s
    raise 0xC4 0 5 supply [] s)

/-! ## Digital, analogue and pulse inputs -/

/-- `DI_FILTER`: an input of DI16 to DI23 has held its state for `FIO.DI_FILTER` (R511). -/
def execDiFilter (input : Nat) (level : Bool) (s : State) : Host.Outcome State Fault Refusal :=
  .next (if s.ac0On && 16 ≤ input && input < 24 then
    { s with field := { s.field with di := maskSet s.field.di input level, diRaw := maskSet s.field.diRaw input level } }
  else s)

/-- Change one analogue input. -/
def modAi (i : Nat) (f : AiState → AiState) (s : State) : State := { s with field := { s.field with ai := modAt s.field.ai i f } }

/-- Status of an analogue input from its mode and filtered value (R526). -/
def aiStatus (mode : Nat) (neg broken : Bool) (v : Rat) : Nat :=
  if mode = 1 then if broken then 1 else if 21000 < v then 3 else 0
  else if neg then 2 else if 10500000 < v then 3 else 0

/-- A new status of an analogue input; event 0xCC tells its change. -/
def setAiStatus (i st : Nat) (s : State) : State :=
  if (s.field.ai.getD i {}).status = st then s
  else raise 0xCC 0 5 i [] (modAi i (fun a => { a with status := st }) s)

/-- `AI_SAMPLE`: a conversion in µA or µV, filtered to first order with the time constant of `FIO.AI_CFG_i` (R526). -/
def execAiSample (input : Nat) (micro : Int) (s : State) : Host.Outcome State Fault Refusal :=
  .next (
    let w := s.pn (0x0D30 + input)
    let mode := w / 2 ^ 30
    let a := s.field.ai.getD input {}
    if !s.ac0On || 2 ≤ input || mode == 0 || (mode == 1 && a.burdenOpen) then s
    else if mode = 1 ∧ 25000 < micro then modAi input (fun a => { a with burdenOpen := true, openAt := s.time.now }) s
    else
      let neg := decide (mode = 2) && decide (micro < 0)
      let x : Rat := if neg = true then 0 else (micro : Rat)
      let tau := bits w 15 0
      let f : Rat := if tau = 0 then 1 else 1 - expRat (-(1 / (tau : Rat)))
      let v := roundF32 (a.value + f * (x - a.value))
      setAiStatus input (aiStatus mode neg a.wireBreak v) (modAi input (fun a => { a with value := v }) s))

/-- `AI_WIRE_BREAK`: below 3.6 mA for 100 ms, or above 3.8 mA for 100 ms (R526). -/
def execAiWireBreak (input : Nat) (broken : Bool) (s : State) : Host.Outcome State Fault Refusal :=
  .next (
    let a := s.field.ai.getD input {}
    if !s.ac0On || 2 ≤ input || s.pn (0x0D30 + input) / 2 ^ 30 != 1 || a.wireBreak == broken then s
    else setAiStatus input (aiStatus 1 false broken a.value) (modAi input (fun a => { a with wireBreak := broken }) s))

/-- `AI_BURDEN_REOPEN`: the burden opened by an over-current closes again after 1 s (R526). -/
def execAiBurdenReopen (input : Nat) (s : State) : Host.Outcome State Fault Refusal :=
  .next (if s.ac0On && decide ((s.field.ai.getD input {}).openAt + 1000000 ≤ s.time.now) then
    modAi input (fun a => { a with burdenOpen := false }) s
  else s)

/-- Change one pulse input. -/
def modPi (i : Nat) (f : PiState → PiState) (s : State) : State := { s with field := { s.field with pi' := modAt s.field.pi' i f } }

/-- A pulse input is enabled (`FIO.PI_CFG_i`). -/
def State.piOn (s : State) (i : Nat) : Bool := s.ac0On && i < 2 && (s.pn (0x0D36 + i)).testBit 31

/-- `PI_EDGE`: a rising edge stamped in 62.5 ns ticks; one after a pulse or pause below 4 µs is rejected (R528). -/
def execPiEdge (input : Nat) (stamp : Nat) (short : Bool) (s : State) : Host.Outcome State Fault Refusal :=
  .next (if !s.piOn input then s
    else if short then raise 0xCE 0 5 input [] s
    else modPi input (fun p =>
      { p with
        edges := (p.edges + 1) % 2 ^ 31, count := p.count + 1, first := if p.count = 0 then stamp else p.first, last := stamp,
        period := if p.edges = 0 ∨ stamp ≤ p.last then p.period else some (stamp - p.last) }) s)

/-- Frequency in mHz of `n` whole periods over `ticks` of 62.5 ns, rounded. -/
def milliHertz (n ticks : Nat) : Nat := if ticks = 0 then 0 else (roundRat ((16000000000 * n : Nat) / (ticks : Rat))).toNat

/-- `PI_GATE`: a gate ends and its frequency is formed; event 0xCE tells that it passes 100 kHz (R528, R531). -/
def execPiGate (input : Nat) (s : State) : Host.Outcome State Fault Refusal :=
  .next (if !s.piOn input then s else
    let p := s.field.pi'.getD input {}
    let f := if 2 ≤ p.count then milliHertz (p.count - 1) (p.last - p.first)
      else match p.period with | some t => milliHertz 1 t | none => 0
    let tooFast := decide (100000000 < f)
    let s := if tooFast && !p.tooFast then raise 0xCE 0 5 input [] s else s
    modPi input (fun p => { p with mHz := min 125000000 f, count := 0, tooFast := tooFast }) s)

/-- `PI_NO_INPUT`: 10 s without an edge (R528). -/
def execPiNoInput (input : Nat) (s : State) : Host.Outcome State Fault Refusal :=
  .next (if s.piOn input then modPi input (fun p => { p with mHz := 0, period := none, count := 0, tooFast := false }) s else s)

/-! ## Analogue outputs and general outputs -/

/-- Nominal read-back of an analogue output, µA or µV (R527). -/
def aoNominal (mode u : Nat) : Int :=
  if mode = 0 then 0 else if mode = 1 then 4000 + 16 * (u : Int) / 10 else 1000 * (u : Int)

/-- Analogue output `i` driven at `u` hundredths of a per cent of its range; nothing drives it while the field die is off
(R38). -/
def driveAo (i u : Nat) (s : State) : State :=
  if !s.ac0On then s else
  let mode := s.pn (0x0D32 + i) / 2 ^ 30
  { s with field := { s.field with ao := modAt s.field.ao i (fun a =>
      { a with command := u, readback := if a.status = 0 then aoNominal mode u else a.readback }) } }

/-- An analogue output under a changed configuration: its status clears and it drives its command in the new range. -/
def reconfigureAo (i : Nat) (s : State) : State :=
  driveAo i (s.field.ao.getD i {}).command
    { s with field := { s.field with ao := modAt s.field.ao i (fun a => { a with status := 0 }) } }

/-- A general output takes commands: the field die is on, the output in use, and no verdict or hold keeps it off (R38, R519,
R523). -/
def State.goTakes (s : State) (y : Nat) : Bool := s.ac0On && s.outUsed (12 + y) && (s.field.go.getD y {}).verdict ≤ 2

/-- General output `y` driven at a duty in 0.01 %; a command to an output that takes none is ignored (R516). -/
def driveGo (y u : Nat) (s : State) : State :=
  if s.goTakes y then { s with field := { s.field with goDuty := setAt s.field.goDuty y u } } else s

/-- An enabled loop of this kind and index drives the channel (R440). -/
def State.loopDrives (s : State) (p : Nat → Bool) : Bool :=
  (List.range 32).any (fun n => let c := s.pn (0x0B20 + 7 * n); c.testBit 31 && p c)

/-- A loop names general output `y`. -/
def State.loopGo (s : State) (y : Nat) : Bool := s.loopDrives (fun c => bits c 10 8 == 1 && bits c 7 5 == y)

/-- A loop names analogue output `i`, directly or as a current reference. -/
def State.loopAo (s : State) (i : Nat) : Bool :=
  s.loopDrives (fun c => (bits c 10 8 == 2 && bits c 7 5 == i) || (bits c 10 8 == 4 && bits c 7 7 == i))

/-- The target of a loop's CONFIG word cannot follow (R441): a GO held or latched off, an AO in fault or without L+B. -/
def State.targetFails (s : State) (config : Nat) : Bool :=
  let ao := fun (i : Nat) => (s.field.ao.getD i {}).status != 0 || s.supplyHeld 11
  match bits config 10 8 with
  | 1 => 2 ≤ (s.field.go.getD (bits config 7 5) {}).verdict
  | 2 => ao (bits config 7 5)
  | 4 => ao (bits config 7 7)
  | _ => false

/-- TARGET_FAULT of loop `n` follows its target, with event 0x96 on a change (R441). -/
def judgeTarget (n : Nat) (s : State) : State :=
  match s.loop.loops[n]? with
  | none => s
  | some l =>
    let bad := l.enabled && l.mode != .off && s.targetFails l.config
    if bad == l.targetFault then s
    else
      let bit7 := fun (v : Int) => ((maskSet v.toNat 7 bad : Nat) : Int)
      raise 0x96 0 6 n [] { s with loop := { s.loop with loops := modAt s.loop.loops n (fun l =>
        { l with targetFault := bad, nodes := modAt l.nodes 11 bit7 }) } }

/-- `AO_FAULT`: compliance limit (code 1) or current limit (code 2) held for 50 ms, or gone (code 0) (R527). -/
def execAoFault (output code : Nat) (readback : Int) (s : State) : Host.Outcome State Fault Refusal :=
  .next (
    let mode := s.pn (0x0D32 + output) / 2 ^ 30
    if !s.ac0On || 2 ≤ output || mode == 0 || (code != 0 && code != mode) then s else
    let was := (s.field.ao.getD output {}).status
    let s := { s with field := { s.field with ao := modAt s.field.ao output (fun a =>
      { a with status := code, readback := if code = 0 then aoNominal mode a.command else readback }) } }
    if was = code then s else
    (List.range 32).foldl (fun s n =>
      let c := (s.loop.loops.getD n {}).config
      if (bits c 10 8 == 2 && bits c 7 5 == output) || (bits c 10 8 == 4 && bits c 7 7 == output) then judgeTarget n s else s)
      (raise 0xCD 0 5 output [] s))

/-! ## Immediate parameters (R517, R518, R522) -/

/-- `FIO.SO_CMD` takes effect: only in RUN, and only on outputs in use that no contactor service commands. -/
def applySoCmd (v : Nat) (s : State) : State :=
  if s.sys.mode ≠ .run then s else
  let m := v &&& (4095 ^^^ s.contactorMask)
  let s := { s with field := { s.field with soCmd := m } }
  (List.range 12).foldl (fun s x =>
    if s.contactorMask.testBit x then s else if m.testBit x then commandOn x s else commandOff x s) s

/-- `FIO.LATCH_CLEAR` takes effect. -/
def applyLatchClear (v : Nat) (s : State) : State :=
  (List.range 24).foldl (fun s i =>
    let d := (s.field.out i).verdict
    if v.testBit i && (d == 3 || (12 ≤ i && i < 20 && (d == 4 || d == 5 || d == 7))) then
      raise 0xCF 0 9 i [] (modOut i (fun o => { o with verdict := 0, partner := 31 }) s)
    else s) s

/-- `FIO.GO_CMD_y` takes effect, unless a loop drives the output. -/
def applyGoCmd (y u : Nat) (s : State) : State :=
  if s.loopGo y || !s.ac0On then s else driveGo y u { s with field := { s.field with goCmd := setAt s.field.goCmd y u } }

/-- `FIO.AO_CMD_i` takes effect, unless a loop drives the output. -/
def applyAoCmd (i u : Nat) (s : State) : State :=
  if s.loopAo i || !s.ac0On then s else driveAo i u { s with field := { s.field with aoCmd := setAt s.field.aoCmd i u } }

/-- Every group F output off (R38, R542). -/
def fieldOff (s : State) : State :=
  { s with field := { s.field with
      goDuty := List.replicate 8 0, goCmd := List.replicate 8 0, aoCmd := List.replicate 2 0, soCmd := 0,
      so := s.field.so.map (fun o => { o with on := false, current := 0 }),
      go := s.field.go.map (fun o => { o with on := false, current := 0 }),
      ts := s.field.ts.map (fun o => { o with on := false, current := 0 }),
      ao := s.field.ao.map (fun a => { a with command := 0, readback := 0 }),
      ai := s.field.ai.map (fun a => { a with burdenOpen := true }) } }

/-- The field die runs: the burdens of the current inputs close (R60). -/
def fieldOn (s : State) : State := { s with field := { s.field with ai := s.field.ai.map (fun a => { a with burdenOpen := false }) } }

end Sys2Proof.Machine
end

