-- ==== Sys2Proof/Machine/Loops.lean ====
section
/-! DEFINITION. The loop engine: samples, the control law, modes and transfers, mode commands and traces (chapter 12). -/
namespace Sys2Proof.Machine
open Sys2Proof

/-! ## The loop record (R423, R427, R428) -/

/-- Value of a D16 code (R427). -/
def d16 (c : Nat) : Rat :=
  let m : Rat := (bits c 10 0 : Rat)
  let e := bits c 14 11
  let v := if 9 ≤ e then m * ((10 ^ (e - 9) : Nat) : Rat) else m / ((10 ^ (9 - e) : Nat) : Rat)
  if c.testBit 15 then -v else v

/-- Sample periods in µs, by code (R423). -/
def loopPeriods : List Nat :=
  [50, 100, 200, 250, 500, 1000, 2000, 2500, 5000, 10000, 20000, 25000, 50000, 100000, 200000, 250000, 500000, 1000000,
   2000000, 2500000, 5000000, 10000000]

/-- The applied seven words of loop `n`. -/
def State.loopWords (s : State) (n : Nat) : List Nat :=
  (List.range 7).map (fun i => (BitVec.ofInt 32 (s.pi (0x0B20 + 7 * n + i))).toNat)

/-- A word of a loop record. -/
abbrev word (w : List Nat) (i : Nat) : Nat := w.getD i 0

/-- Sample period, µs. -/
def wPeriod (w : List Nat) : Nat := loopPeriods.getD (bits (word w 0) 23 19) 10000000

/-- SP_KIND. -/
def wSpKind (w : List Nat) : Nat := bits (word w 0) 18 16

/-- SP_INDEX. -/
def wSpIndex (w : List Nat) : Nat := bits (word w 0) 15 11

/-- OUT_MIN in 0.01 %. -/
def wOutMin (w : List Nat) : Rat := ((bits (word w 1) 31 24 * 50 : Nat) : Rat)

/-- OUT_MAX in 0.01 %. -/
def wOutMax (w : List Nat) : Rat := ((bits (word w 2) 31 24 * 50 : Nat) : Rat)

/-- `LOOP_n.SP`. -/
def wSp (w : List Nat) : Rat := (s32Of (word w 3) : Rat)

/-- SP_SCALE. -/
def wSpScale (w : List Nat) : Rat := d16 (bits (word w 4) 31 16)

/-- FF_GAIN. -/
def wFfGain (w : List Nat) : Rat := d16 (bits (word w 4) 15 0)

/-- KP. -/
def wKp (w : List Nat) : Rat := d16 (bits (word w 5) 31 16)

/-- TI, s. -/
def wTi (w : List Nat) : Rat := d16 (bits (word w 5) 15 0)

/-- TD, s. -/
def wTd (w : List Nat) : Rat := d16 (bits (word w 6) 31 16)

/-- SLEW, 0.01 %/s. -/
def wSlew (w : List Nat) : Rat := d16 (bits (word w 6) 15 0)

/-- Derivative filter time Tf = TD / (N + 2). -/
def wTf (w : List Nat) : Rat := wTd w / ((bits (word w 0) 27 24 + 2 : Nat) : Rat)

/-- A new record retunes a loop in AUTO (R448). -/
def retuned (a b : List Nat) : Bool :=
  bits (word a 0) 29 24 != bits (word b 0) 29 24 || word a 5 != word b 5 || bits (word a 6) 31 16 != bits (word b 6) 31 16 ||
  bits (word a 4) 15 0 != bits (word b 4) 15 0 || bits (word a 1) 23 0 != bits (word b 1) 23 0 ||
  bits (word a 2) 23 0 != bits (word b 2) 23 0

/-! ## Inputs (R431, R432) -/

/-- Loop `n`. -/
def State.loopOf (s : State) (n : Nat) : LoopState := s.loop.loops.getD n {}

/-- Change loop `n`. -/
def modLoop (n : Nat) (f : LoopState → LoopState) (s : State) : State :=
  { s with loop := { s.loop with loops := modAt s.loop.loops n f } }

/-- Value x of the set-point source. -/
def State.spSource (s : State) (w : List Nat) : Option Int :=
  match wSpKind w with
  | 0 => some 0
  | 1 => s.aiPoint 0
  | 2 => s.aiPoint 1
  | 3 => s.piPoint 0
  | 4 => s.piPoint 1
  | 5 => pointValue ((s.loopOf (wSpIndex w)).nodes.getD 8 0)
  | 6 => s.dispPoint (0xF000 + wSpIndex w)
  | _ => none

/-- Process value. -/
def State.pvSource (s : State) (w : List Nat) : Option Int := s.readPoint (bits (word w 1) 23 0)

/-- A loop may be put into TRACK by a child: running, not in HOLD, not commanded out of TRACK (R446, R454, R456). -/
def LoopState.tracks (l : LoopState) : Bool :=
  l.enabled && !l.noTrack && (match l.mode with | .manual | .auto | .track => true | _ => false)

/-- The lowest child of loop `n` that is in MANUAL or HOLD (R446). -/
def State.trackChild (s : State) (n : Nat) : Option Nat :=
  (List.range 32).find? (fun c =>
    let l := s.loopOf c
    l.enabled && wSpKind l.words == 5 && wSpIndex l.words == n && (l.mode == .manual || l.mode == .hold))

/-! ## Modes at a sample (R442 to R448, R456) -/

/-- The mode of this sample: the command takes effect, then TRACK is entered or left. -/
def LoopState.modeStep (child : Option Nat) (l : LoopState) : LoopState :=
  let l := match l.commanded, l.mode with
    | some .manual, .auto => { l with mode := .manual, own := .manual, manual := l.uPrev, preset := false }
    | some .manual, .track => { l with mode := .manual, own := .manual, noTrack := true }
    | some .manual, .hold => { l with mode := .manual, own := .manual }
    | some .auto, .manual => { l with mode := .auto, own := .auto, preset := true, uPrev := l.manual, noTrack := false }
    | some .auto, .hold => { l with mode := .auto, own := .auto, preset := true, uPrev := l.manual, noTrack := false }
    | some .auto, .track => { l with own := .auto }
    | _, _ => l
  let l := { l with commanded := none }
  match child with
  | some _ => if l.tracks then { l with own := if l.mode = .track then l.own else l.mode, mode := .track, preset := false } else l
  | none =>
    let l := { l with noTrack := false }
    if l.mode = .track then
      if l.own = .auto then { l with mode := .auto } else { l with mode := .manual, manual := l.uPrev }
    else l

/-! ## The control law (R435 to R439) -/

/-- What a sample computes. -/
structure LoopCalc where
  e : Option Rat := none
  p : Rat := 0
  d : Rat := 0
  ff : Rat := 0
  v : Rat := 0
  w : Rat := 0
  u : Rat := 0
  integ : Rat := 0
  x : Rat := 0
  /-- Clamps of R439: discharge, charge. -/
  capMax : Bool := false
  capMin : Bool := false
  held : Bool := false
  deriving DecidableEq, Repr

/-- Strand of a kind-4 output. -/
def wRefStrand (w : List Nat) : Nat := bits (word w 0) 6 5

/-- The output after the clamp of a strand current reference to the strand's limits; flags at discharge and at charge (R439). -/
def State.clampRef (s : State) (w : List Nat) (u : Rat) : Rat × Bool × Bool :=
  if bits (word w 0) 10 8 ≠ 4 then (u, false, false) else
  let k := wRefStrand w
  let z : Rat := (s.pi (0x0B10 + k) : Rat)
  let f : Rat := (s.pi (0x0B14 + k) : Rat)
  if f = z then (u, false, false) else
  let i := z + (f - z) * u / 10000
  let l := s.limits k
  let back := fun (x : Rat) => (x - z) * 10000 / (f - z)
  if (l.1 : Rat) < i then (back (l.1 : Rat), true, false)
  else if i < -(l.2 : Rat) then (back (-(l.2 : Rat)), false, true)
  else (u, false, false)

/-- Output of a parent that reproduces a child's set-point value (R446, R447); none where SP_SCALE is 0. -/
def reproduce (w : List Nat) (sp : Rat) : Option Rat := if wSpScale w = 0 then none else some ((sp - wSp w) / wSpScale w)

/-- The law for one sample: `sp` and `pv` where valid, `ff` the feedforward term, `want` the output TRACK asks for. -/
def LoopState.law (s : State) (w : List Nat) (sp pv : Option Rat) (ff : Rat) (want : Rat) (l : LoopState) : LoopCalc :=
  let ts : Rat := (wPeriod w : Rat) / 1000000
  let rev := (word w 0).testBit 29
  let lo := wOutMin w
  let hi := wOutMax w
  let e : Option Rat := match sp, pv with
    | some a, some b => some (roundF32 (if rev then b - a else a - b))
    | _, _ => none
  let x : Rat := match e, pv with
    | some e, some b => if (word w 0).testBit 28 then (if rev then b else -b) else e
    | _, _ => l.xPrev
  let p := roundF32 (wKp w * e.getD 0)
  let tf := wTf w
  let d : Rat :=
    if l.preset = true ∨ wTd w = 0 then 0
    else if e.isNone then l.deriv
    else roundF32 (tf / (tf + ts) * l.deriv + wKp w * wTd w / (tf + ts) * (x - l.xPrev))
  let i : Rat := if l.mode = .auto ∧ l.preset = true then roundF32 (l.uPrev - p - ff) else l.integ
  let v := roundF32 (p + i + d + ff)
  let sat := clampRat lo hi v
  let slew := wSlew w * ts
  let u0 : Rat := match l.mode with
    | .auto => if slew = 0 then sat else clampRat (l.uPrev - slew) (l.uPrev + slew) sat
    | .track => clampRat lo hi want
    | .off => 0
    | _ => l.manual
  let c := s.clampRef w u0
  let u := roundF32 c.1
  match l.mode with
  | .auto =>
    let ti := wTi w
    if ti = 0 then { e := e, p := p, d := d, ff := ff, v := v, w := sat, u := u, integ := i, x := x, capMax := c.2.1, capMin := c.2.2 }
    else
      let di := roundF32 (wKp w * ts / ti * e.getD 0)
      let held := ((decide (u ≤ lo) || c.2.2) && decide (di < 0)) || ((decide (hi ≤ u) || c.2.1) && decide (0 < di)) || l.targetFault
      let tt := if 0 < wTd w then sqrtRat (ti * wTd w) else ti
      let back := if tt = 0 then 0 else ts / tt * (u - v)
      { e := e, p := p, d := d, ff := ff, v := v, w := sat, u := u, integ := roundF32 (i + (if held then 0 else di) + back),
        x := x, capMax := c.2.1, capMin := c.2.2, held := held }
  | .track => { e := e, p := p, d := d, ff := ff, v := v, w := u, u := u, integ := roundF32 (u - p - ff - d), x := x,
                capMax := c.2.1, capMin := c.2.2 }
  | _ => { e := e, p := p, d := d, ff := ff, v := v, w := u, u := u, integ := l.integ, x := x, capMax := c.2.1, capMin := c.2.2 }

/-! ## Output (R438, R449) -/

/-- The output of a loop reaches its target: `u` in 0.01 %; none in OFF, where a ceiling is released. -/
def writeTarget' (config : Nat) (u : Option Nat) (s : State) : State :=
  let v := u.getD 0
  match bits config 10 8 with
  | 1 => driveGo (bits config 7 5) v s
  | 2 => driveAo (bits config 7 5) v s
  | 3 => s.modBal (bits config 7 5) (fun b => { b with ceiling := u.map (fun u => s.pn 0x0802 * u / 10000 / 10 * 10) })
  | 4 => driveAo (bits config 7 7) v s
  | _ => s

/-- A node value: the nearest integer; a value beyond 32 bits is open. -/
def nodeValue (free : Nat) (x : Rat) : Int :=
  let v := roundRat x
  if -2147483647 ≤ v ∧ v ≤ 2147483647 then v else Config.freeInt free

/-- Node 12 of a loop (R455). -/
def LoopState.counts (l : LoopState) : Int :=
  ((min 32767 l.totalOverruns * 2 ^ 16 + min 255 l.invalids * 2 ^ 8 + min 255 l.overruns : Nat) : Int)

/-- A loop enters HOLD: the output at entry becomes the manual value. -/
def holdLoop (n : Nat) (s : State) : State :=
  setLoopMode n .hold (modLoop n (fun l => { l with manual := l.uPrev, preset := false }) s)

/-! ## Traces (R459 to R463) -/

/-- Change the recorder. -/
def modTrace (f : TraceState → TraceState) (s : State) : State := { s with loop := { s.loop with trace := f s.loop.trace } }

/-- Bit 4, trace triggers, of a source's routing mask. -/
def routeTrace (src : Nat) (on : Bool) (s : State) : State :=
  { s with router := modAt s.router src (fun r => { r with mask := if on then r.mask ||| 0x10#8 else r.mask &&& 0xEF#8 }) }

/-- Values of the eight channels; an unused one records 0. -/
def State.traceValues (s : State) (t : TraceState) : List Int :=
  t.channels.map (fun c => if c = 0 then 0 else s32Of (pointWord (s.readPoint c)))

/-- Opcode of `TRACE_ARM`. -/
def opTraceArm : Nat := 0x0410

/-- The trace freezes with its notification (R460, R462). -/
def traceFreeze (s : State) : State :=
  let t := s.loop.trace
  let s := raise 0x9A 0 6 t.clock [] (modTrace (fun t => { t with state := 3, by' := none }) s)
  match t.by' with
  | some r => complete r opTraceArm stOk noDetail
      (leBytes 2 t.preHeld ++ leBytes 2 (t.samples.length - t.preHeld) ++ leBytes 4 0 ++ leBytes 8 t.trigTime) s
  | none => s

/-- A trigger condition judged at one completed sample (R460). -/
def TraceState.triggers (t : TraceState) (at' : Nat) (recorded : Bool) (now : Option Int) : Bool :=
  match t.kind with
  | 0 => recorded
  | 1 => recorded && (match t.fired with | some f => decide (f ≤ at') | none => false)
  | 2 => (match t.prev, now with | some a, some b => decide (a < t.level) && decide (t.level ≤ b) | _, _ => false)
  | _ => (match t.prev, now with | some a, some b => decide (t.level < a) && decide (b ≤ t.level) | _, _ => false)

/-- Channel `c` of a stream takes one value; a full block is posted to Q44 + c, and the oldest of more than four, or of more than a
configured depth, is dropped (R44, R463). -/
def streamPush (c : Nat) (v : Int) (s : State) : State :=
  let t := s.loop.trace
  let f := t.filling.getD c [] ++ [v]
  if f.length < 512 then modTrace (fun t => { t with filling := setAt t.filling c f }) s
  else
    let full := min 4 (s.qDepth (44 + c)) ≤ (t.blocks.getD c []).length
    let s := modTrace (fun t => { t with
      filling := setAt t.filling c [],
      blocks := modAt t.blocks c (fun b => (if full then b.drop 1 else b) ++ [f]),
      drops := if full then modAt t.drops c (fun d => satAdd 16 d 1) else t.drops }) s
    if full then raise 0x9B 0 6 t.clock [] s else s

/-- One completed sample of the clock loop. -/
def traceStep (n at' : Nat) (s : State) : State :=
  let t := s.loop.trace
  if t.clock ≠ n ∨ t.state = 0 ∨ t.state = 3 then s else
  let recorded := t.tick % t.decimation == 0
  let vals := s.traceValues t
  let chan := if t.kind < 2 then none else s.readPoint (t.channels.getD t.arg 0)
  let fire := t.state == 1 && t.triggers at' recorded chan
  let s := modTrace (fun t => { t with tick := t.tick + 1, prev := chan }) s
  if t.state = 4 then
    if recorded then
      (List.range 8).foldl (fun s c => if t.channels.getD c 0 = 0 then s else streamPush c (vals.getD c 0) s) s
    else s
  else if fire then
    let pre := if t.kind = 0 then 0 else t.pre
    let held := min pre t.samples.length
    let s := modTrace (fun t => { t with
      state := 2, samples := t.samples.drop (t.samples.length - held) ++ [vals], preHeld := held, postLeft := 4095 - pre,
      trigTime := at' }) s
    let s := raise 0x99 0 6 n [] (if t.kind = 1 then routeTrace t.arg false s else s)
    if 4095 - pre = 0 then traceFreeze s else s
  else if t.state = 1 then
    if recorded then modTrace (fun t =>
      { t with samples := let l := t.samples ++ [vals]; l.drop (l.length - t.pre) }) s else s
  else if recorded then
    let s := modTrace (fun t => { t with samples := t.samples ++ [vals], postLeft := t.postLeft - 1 }) s
    if t.postLeft = 1 then traceFreeze s else s
  else s

/-! ## A sample -/

/-- Loops run in this mode (R451). -/
def State.loopsRun (s : State) : Bool :=
  s.alive && (match s.sys.mode with | .standby | .run | .service | .lockout | .hollow => true | _ => false)

/-- A computation that did not finish (R452, R453). -/
def loopOverrun (n : Nat) (w : List Nat) (s : State) : State :=
  let s := modLoop n (fun l =>
    let l := { l with totalOverruns := min 32767 (l.totalOverruns + 1), overruns := min 255 (l.overruns + 1) }
    { l with nodes := setAt l.nodes 12 l.counts }) s
  let s := raise 0x91 0 6 n [] s
  let limit := if bits (word w 0) 3 0 = 0 then s.pn 0x0B01 else bits (word w 0) 3 0
  if limit ≤ (s.loopOf n).overruns ∧ (s.loopOf n).mode ≠ .hold then raise 0x92 0 6 n [] (holdLoop n s) else s

/-- Status bits that do not come from the law: OVERRUN, HOLLOW_STOPPED, TRACKING, TARGET_FAULT. -/
def LoopState.standing (l : LoopState) : Nat :=
  bit (l.overruns != 0) * 2 ^ 10 + bit l.hollowStopped * 2 ^ 9 + bit (l.mode == .track) * 2 ^ 8 + bit l.targetFault * 2 ^ 7

/-- A sample skipped for an invalid input (R433). -/
def loopSkip (n : Nat) (spBad pvBad : Bool) (s : State) : State :=
  let s := modLoop n (fun l =>
    let l := { l with invalids := min 255 (l.invalids + 1) }
    let st : Nat := l.standing + bit spBad * 2 ^ 5 + bit pvBad * 2 ^ 4
    { l with nodes := setAt (setAt l.nodes 12 l.counts) 11 (st : Int) }) s
  let s := raise 0x93 0 6 n [] s
  if s.pn 0x0B02 ≤ (s.loopOf n).invalids then raise 0x94 0 6 n [] (holdLoop n s) else s

/-- The sample's results enter the loop and its nodes (R455). -/
def LoopState.take (free : Nat) (w : List Nat) (sp pv : Option Rat) (c : LoopCalc) (ffBad : Bool) (at' delay : Nat) (lim : Nat)
    (l : LoopState) : LoopState :=
  let node := nodeValue free
  let inv := fun (v : Option Rat) => match v with | some x => node x | none => -2147483648
  let st : Nat := l.standing + bit ffBad * 2 ^ 6 + bit (sp.isNone && pv.isSome) * 2 ^ 5 + bit pv.isNone * 2 ^ 4 + bit c.held * 2 ^ 3 +
    bit (l.mode == .auto && c.u != c.w) * 2 ^ 2 + lim / 2 % 2 * 2 + lim % 2
  let l := { l with
    words := w, overruns := 0, invalids := if sp.isNone ∨ pv.isNone then l.invalids else 0, samples := (l.samples + 1) % 2 ^ 31,
    integ := c.integ, deriv := c.d, xPrev := c.x, uPrev := c.u, preset := false, ffLast := c.ff,
    spLast := sp.getD l.spLast, pvLast := pv.getD l.pvLast, atLimit := lim, actedAt := at' + delay / 1000 }
  { l with nodes :=
      [inv sp, inv pv, inv c.e, node c.p, node c.integ, node c.d, node c.ff, node c.v, node c.u, node l.manual,
       (loopModeCode l.mode : Int), (st : Int), l.counts, ((delay - delay % 25 : Nat) : Int),
       (((at' + delay / 1000) % 2 ^ 31 : Nat) : Int), (l.samples : Int)] }

/-- A completed sample: the law, the write, the nodes and the events. -/
def loopComplete (n : Nat) (w : List Nat) (sp pv : Option Rat) (want : Option Rat) (at' delay : Nat) (s : State) : State :=
  let l := s.loopOf n
  let ffId := bits (word w 2) 23 0
  let ffv := if ffId = 0 then some 0 else s.readPoint ffId
  let ff : Rat := match ffv with | some x => roundF32 (wFfGain w * (x : Rat)) | none => l.ffLast
  let c := l.law s w sp pv ff (want.getD l.uPrev)
  let lim := bit (decide (c.u ≤ wOutMin w) || c.capMin) + 2 * bit (decide (wOutMax w ≤ c.u) || c.capMax)
  let s := writeTarget' (word w 0) (some (min 10000 (roundRat c.u).toNat)) s
  let first := l.mode == .auto && l.preset && (decide (c.v < wOutMin w) || decide (wOutMax w < c.v))
  let s := { modLoop n (·.take s.free w sp pv c ffv.isNone at' delay lim) s with free := s.free + 1 }
  let s := if first then raise 0x97 0 6 n [] s else s
  let s := if lim != l.atLimit then raise 0x95 0 6 n [] s else s
  traceStep n at' s

/-- The turn of loop `n` at an instant: each loop samples once there, in rising loop number (R423, R424). -/
def State.loopTurn (s : State) (n at' : Nat) : Bool :=
  match s.loop.last with
  | none => true
  | some (t, m) => decide (t < at' ∨ (t = at' ∧ m < n))

/-- `LOOP_SAMPLE`: loop `n` samples in its turn at an instant that is a whole multiple of its period (R423, R424). -/
def execLoopSample (loop : Nat) (data : LoopData) (s : State) : Host.Outcome State Fault Refusal :=
  .next (
    let n := loop
    let w := s.loopWords n
    let at' := s.time.now - s.time.now % 1000 + data.offset
    if !s.loopsRun || 32 ≤ n || !(word w 0).testBit 31 || (s.loopOf n).mode == .off || at' % wPeriod w != 0 || !s.loopTurn n at' then s
    else
    let s := { s with loop := { s.loop with last := some (at', n) } }
    if data.overrun then loopOverrun n w s
    else
      let was := (s.loopOf n).mode
      let child := s.trackChild n
      let s := modLoop n (fun l =>
        let l := if l.mode = .auto ∧ retuned l.words w = true then { l with preset := true } else l
        { l.modeStep child with words := w }) s
      let l := s.loopOf n
      let s := if l.mode = was then s else raise 0x90 0 6 n [] s
      let s := match l.adopt with
        | some c => modLoop n (fun l =>
            if l.mode = .auto then
              { l with adopt := none, preset := true, uPrev := (reproduce (s.loopWords c) (s.loopOf c).spLast).getD l.uPrev }
            else { l with adopt := none }) s
        | none => s
      let s := judgeTarget n s
      let l := s.loopOf n
      let pv : Option Rat := (s.pvSource w).map (fun x => (x : Rat))
      let follows := wSpKind w == 5 && (l.mode == .manual || l.mode == .hold) && (s.loopOf (wSpIndex w)).tracks
      let sp : Option Rat := if follows then pv else (s.spSource w).map (fun x => wSp w + wSpScale w * (x : Rat))
      if (l.mode == .auto || l.mode == .track) && (pv.isNone || sp.isNone) then loopSkip n sp.isNone pv.isNone s
      else
        let want := match child with
          | some c => (match s.pvSource (s.loopOf c).words with
              | some x => reproduce (s.loopOf c).words (x : Rat)
              | none => none)
          | none => none
        loopComplete n w sp pv want at' data.delay s)

/-- `LOOP_TARGET_FAULT`: the target's ability to follow is judged (R441). -/
def execLoopTargetFault (loop : Nat) (s : State) : Host.Outcome State Fault Refusal :=
  .next (if s.loopsRun then judgeTarget loop s else s)

/-! ## Starting, stopping and applying (R447, R449, R450) -/

/-- A loop starts in MANUAL at OUT_MIN, and passes into AUTO at its first sample where AUTO_START is set (R450). -/
def startLoop (n : Nat) (s : State) : State :=
  let w := s.loopWords n
  if !(word w 0).testBit 31 then s else
  setLoopMode n .manual (modLoop n (fun _ =>
    { words := w, manual := wOutMin w, uPrev := wOutMin w, commanded := none }) s) |>
  modLoop n (fun l => { l with commanded := if (word w 0).testBit 4 then some .auto else none })

/-- A loop goes OFF and its target takes the off value (R449). -/
def stopLoop (n : Nat) (s : State) : State :=
  let s := writeTarget' (s.loopOf n).config none (setLoopMode n .off s)
  modLoop n (fun l => { l with words := s.loopWords n, targetFault := false }) s

/-- Every enabled loop starts (step 15 of R114). -/
def startLoops (s : State) : State := (List.range 32).foldl (fun s n => startLoop n s) s

/-- The target a CONFIG word names is named by an enabled loop (R440). -/
def State.targetNamed (s : State) (config : Nat) : Bool :=
  match bits config 10 8 with
  | 1 => s.loopGo (bits config 7 5)
  | 2 => s.loopAo (bits config 7 5)
  | 3 => s.loopDrives (fun c => bits c 10 8 == 3 && bits c 7 5 == bits config 7 5)
  | 4 => s.loopAo (bits config 7 7)
  | _ => true

/-- ENABLE of loop `n` changed by an apply starts or stops it (R449); a target it leaves to no loop takes the off value (R440). -/
def applyEnable (old : Nat → List Nat) (n : Nat) (s : State) : State :=
  let was := (word (old n) 0).testBit 31
  let on := (word (s.loopWords n) 0).testBit 31
  if on && !was && s.loopsRun then startLoop n s
  else if !on && was then stopLoop n s
  else if on && was && !s.targetNamed (word (old n) 0) then writeTarget' (word (old n) 0) none s
  else s

/-- A new cascade parent of loop `n` is to adopt it (R447). -/
def applyParent (old : Nat → List Nat) (n : Nat) (s : State) : State :=
  let a := old n
  let b := s.loopWords n
  if (word b 0).testBit 31 && wSpKind b == 5 && (wSpKind a != 5 || wSpIndex a != wSpIndex b) then
    modLoop (wSpIndex b) (fun l => { l with adopt := some n }) s
  else s

/-- Loops after an apply: ENABLE starts or stops a loop, a target no loop names any more takes its off value, and a new cascade
parent is to adopt its child (R440, R447, R449). `old` gives the words before the apply. -/
def applyLoops (old : Nat → List Nat) (s : State) : State :=
  let s := (List.range 32).foldl (fun s n => applyEnable old n s) s
  (List.range 32).foldl (fun s n => applyParent old n s) s

/-! ## Commands -/

/-- Opcode of `LOOP_SET_MODE`. -/
def opLoopSetMode : Nat := 0x0401

/-- Opcode of `LOOP_SET_MANUAL`. -/
def opLoopSetManual : Nat := 0x0402

/-- A loop takes mode commands: enabled, running, not held for HOLLOW (R451, R456). -/
def State.loopTakes (s : State) (n : Nat) : Bool :=
  (word (s.loopWords n) 0).testBit 31 && (s.loopOf n).mode != .off && !(s.loopOf n).hollowStopped

/-- `LOOP_SET_MODE` (R456). -/
def serveLoopSetMode (p : Port) (tag : Half) (pl : List Byte) (s : State) : State :=
  serve opLoopSetMode modesWork (pl.length == 4) p tag (fun s =>
    let n := field pl 0 1
    let m := field pl 1 1
    let w := s.loopWords n
    if 32 ≤ n ∨ m = 0 ∨ 2 < m ∨ field pl 2 2 ≠ 0 then reply p opLoopSetMode tag stOutOfRange noDetail [] s
    else if !s.loopTakes n || (m == 2 && ((s.pvSource w).isNone || (s.spSource w).isNone)) then
      reply p opLoopSetMode tag stNotPermitted noDetail [] s
    else
      reply p opLoopSetMode tag stOk noDetail [] (modLoop n (fun l =>
        { l with commanded := some (if m = 1 then .manual else .auto),
                 manual := if m = 1 ∧ l.mode = .track then l.uPrev else l.manual }) s)) s

/-- `LOOP_SET_MANUAL` (R457). -/
def serveLoopSetManual (p : Port) (tag : Half) (pl : List Byte) (s : State) : State :=
  serve opLoopSetManual modesWork (pl.length == 8) p tag (fun s =>
    let n := field pl 0 1
    let v := s32Of (field pl 4 4)
    let l := s.loopOf n
    if 32 ≤ n ∨ field pl 1 3 ≠ 0 ∨ v < 0 ∨ 10000 < v then reply p opLoopSetManual tag stOutOfRange noDetail [] s
    else if !s.loopTakes n || !(l.mode == .manual || (l.mode == .track && (l.own == .manual || l.commanded == some .manual))) then
      reply p opLoopSetManual tag stNotPermitted noDetail [] s
    else reply p opLoopSetManual tag stOk noDetail [] (modLoop n (fun l => { l with manual := (v : Rat) }) s)) s

/-- The eight channels of a `TRACE_ARM` payload. -/
def traceChannels (pl : List Byte) : List Nat := (List.range 8).map (fun i => field pl (12 + 4 * i) 4)

/-- The fields of a `TRACE_ARM` other than mode 0 are known and its trigger channel is used (R458). -/
def traceArmOk (pl : List Byte) : Bool :=
  let kind := field pl 2 1
  let arg := field pl 3 1
  let ch := traceChannels pl
  field pl 0 1 ≤ 2 && field pl 1 1 < 32 && kind ≤ 3 && field pl 4 2 ≤ 4095 && 1 ≤ field pl 6 2 &&
  ch.all (fun c => c == 0 || pointKnown c) && (kind != 0 || arg == 0) &&
  (kind < 2 || (arg < 8 && ch.getD arg 0 != 0))

/-- The recorder stops; an unfinished single trace is told (R462). -/
def traceDisarm (s : State) : State :=
  let t := s.loop.trace
  let s := if t.state = 1 ∧ t.kind = 1 then routeTrace t.arg false s else s
  let s := modTrace (fun _ => {}) s
  match t.by' with
  | some r => if t.state = 1 ∨ t.state = 2 then complete r opTraceArm stNotPermitted noDetail [] s else s
  | none => s

/-- `TRACE_ARM` (R458). -/
def serveTraceArm (p : Port) (tag : Half) (pl : List Byte) (s : State) : State :=
  serve opTraceArm modesWork (pl.length == 44) p tag (fun s =>
    let mode := field pl 0 1
    if mode = 0 then reply p opTraceArm tag stOk noDetail [] (traceDisarm s)
    else if !traceArmOk pl then reply p opTraceArm tag stOutOfRange noDetail [] s
    else if !(word (s.loopWords (field pl 1 1)) 0).testBit 31 then reply p opTraceArm tag stNotPermitted noDetail [] s
    else if s.loop.trace.state = 1 ∨ s.loop.trace.state = 2 ∨ s.loop.trace.state = 4 then
      reply p opTraceArm tag stBusy noDetail [] s
    else
      let t : TraceState :=
        { state := if mode = 1 then 1 else 4, clock := field pl 1 1, kind := if mode = 1 then field pl 2 1 else 0,
          arg := if mode = 1 then field pl 3 1 else 0, pre := field pl 4 2, decimation := field pl 6 2,
          level := s32Of (field pl 8 4), channels := traceChannels pl, by' := if mode = 1 then some (.packet p tag) else none }
      let s := reply p opTraceArm tag (if mode = 1 then stAccepted else stOk) noDetail [] (modTrace (fun _ => t) s)
      if t.kind = 1 then routeTrace t.arg true s else s) s

/-- Opcode of `TRACE_READ`. -/
def opTraceRead : Nat := 0x0411

/-- `TRACE_READ` (R464). -/
def serveTraceRead (p : Port) (tag : Half) (pl : List Byte) (s : State) : State :=
  serve opTraceRead modesWork (pl.length == 8) p tag (fun s =>
    let c := field pl 0 1
    let first := field pl 2 2
    let count := field pl 4 2
    let t := s.loop.trace
    let result := fun (vals : List Int) (last : Nat) =>
      leBytes 1 t.state ++ leBytes 1 c ++ leBytes 2 first ++ leBytes 2 vals.length ++ leBytes 2 last ++ vals.flatMap s32Bytes
    if 8 ≤ c ∨ field pl 1 1 ≠ 0 ∨ count = 0 ∨ 1021 < count ∨ field pl 6 2 ≠ 0 then reply p opTraceRead tag stOutOfRange noDetail [] s
    else if t.state = 1 ∨ t.state = 2 then reply p opTraceRead tag stBusy noDetail [] s
    else if t.channels.getD c 0 = 0 ∨ (first = 0xFFFF ∧ t.state ≠ 4) then reply p opTraceRead tag stNotPermitted noDetail [] s
    else if t.state = 4 then
      if first = 0xFFFF then
        let b := (t.blocks.getD c []).headD []
        reply p opTraceRead tag stOk noDetail (result (b.take count) (t.drops.getD c 0))
          (modTrace (fun t => { t with blocks := modAt t.blocks c (·.drop 1), drops := setAt t.drops c 0 }) s)
      else
        reply p opTraceRead tag stOk noDetail (result ((((t.blocks.getD c []).flatMap (fun b => b)).drop first).take count)
          (t.drops.getD c 0)) (modTrace (fun t => { t with drops := setAt t.drops c 0 }) s)
    else
      reply p opTraceRead tag stOk noDetail
        (result (((t.samples.map (fun l => l.getD c 0)).drop first).take count) t.preHeld) s) s

/-- `LOOP_SET_MODE`. -/
def execLoopSetMode (port : Port) (tag : Half) (payload : List Byte) (s : State) : Host.Outcome State Fault Refusal :=
  .next (hostRow 0x0401 serveLoopSetMode port tag payload s)

/-- `LOOP_SET_MANUAL`. -/
def execLoopSetManual (port : Port) (tag : Half) (payload : List Byte) (s : State) : Host.Outcome State Fault Refusal :=
  .next (hostRow 0x0402 serveLoopSetManual port tag payload s)

/-- `TRACE_ARM`. -/
def execTraceArm (port : Port) (tag : Half) (payload : List Byte) (s : State) : Host.Outcome State Fault Refusal :=
  .next (hostRow 0x0410 serveTraceArm port tag payload s)

/-- `TRACE_READ`. -/
def execTraceRead (port : Port) (tag : Half) (payload : List Byte) (s : State) : Host.Outcome State Fault Refusal :=
  .next (hostRow 0x0411 serveTraceRead port tag payload s)

end Sys2Proof.Machine
end

