-- ==== Sys2Proof/Machine/Ram.lean ====
section
/-! DEFINITION. The scratchpad's bytes: reading and writing in one canonical form (chapter 19). -/
namespace Sys2Proof.Machine
open Sys2Proof

/-- Bytes of one bank. -/
def bankBytes : Nat := 262144

/-- Address of a byte of a bank. -/
def bankAddr (bank offset : Nat) : Nat := bankBytes * bank + offset

/-- What an unlisted byte holds: clearing writes zero (R639). -/
def Memory.blank : Byte := 0

/-- Byte at an address. -/
def Memory.read : List Host.Cell → Nat → Byte
  | [], _ => Memory.blank
  | c :: m, a => if c.1 = a then c.2 else Memory.read m a

/-- The list with the byte at `a` changed; a blank byte is not listed. -/
def Memory.write : List Host.Cell → Nat → Byte → List Host.Cell
  | [], a, b => if b = Memory.blank then [] else [(a, b)]
  | c :: m, a, b =>
    if a < c.1 then (if b = Memory.blank then c :: m else (a, b) :: c :: m)
    else if a = c.1 then (if b = Memory.blank then m else (a, b) :: m)
    else c :: Memory.write m a b

/-- Several bytes written upwards from an address. -/
def Memory.writeAll : List Host.Cell → Nat → List Byte → List Host.Cell
  | m, _, [] => m
  | m, a, b :: bs => Memory.writeAll (Memory.write m a b) (a + 1) bs

/-- Every byte of a bank set to zero (R639). -/
def Memory.clearBank (m : List Host.Cell) (bank : Nat) : List Host.Cell :=
  m.filter (fun c => c.1 / bankBytes != bank)

/-- Addresses above `lo`, strictly rising, and no blank entry. -/
def Memory.sortedFrom : Nat → List Host.Cell → Bool
  | _, [] => true
  | lo, c :: m => decide (lo ≤ c.1) && c.2 != Memory.blank && Memory.sortedFrom (c.1 + 1) m

/-- The canonical form. -/
def Memory.wf (m : List Host.Cell) : Bool := Memory.sortedFrom 0 m

/-- `n` bytes that nothing constrains. -/
def freeBytes (n : Nat) (s : State) : List Byte × State :=
  ((List.range n).map (fun i => BitVec.ofNat 8 (Config.freeNat (s.free + i))), { s with free := s.free + n })

/-- A single-precision value as four bytes. -/
def f32Bytes (x : Rat) : List Byte := leBytes 4 (f32Bits (roundF32 x))

/-- The upper triangle of a covariance, row by row (R369). -/
def triangle (p : List (List Rat)) : List Rat :=
  (List.range 16).flatMap (fun i => (List.range (16 - i)).map (fun j => (p.getD i []).getD (i + j) 0))

/-- The first 688 bytes of a cell's record in banks 12 to 17, at an instant (R369, R373). -/
def CellEst.record (now : Nat) (e : CellEst) : List Byte :=
  (List.range 16).flatMap (fun i => f32Bytes (e.x.getD i 0)) ++ (triangle e.p).flatMap f32Bytes ++
  [e.rser, e.rpol, e.cpol, e.cap, e.temp, e.iConv, e.innovation, e.s, e.soc, e.socVar, e.reported, e.uncertainty].flatMap f32Bytes ++
  leBytes 4 (e.ageAt now / 1000) ++ leBytes 4 e.restMs ++
  leBytes 4 (bit e.present + 2 * bit e.outlier + 4 * bit e.rejected + 8 * bit e.noSaved + 16 * bit e.tempInvalid) ++
  leBytes 2 e.rejections ++ leBytes 2 e.outlierCount ++ leBytes 4 e.index ++ f32Bytes e.ocv ++ f32Bytes e.eta1 ++ f32Bytes e.eta2

/-- Byte `at'` of the estimator's banks, counted from the start of bank 12: records of 768 bytes, whose last 80, the learning and
impedance accumulators, have no layout in the spec and read as the open value `open'` (R369, R408). -/
def State.estimatorByte (s : State) (at' : Nat) (open' : Byte) : Byte :=
  let c := at' / 768
  ((s.estOf (c / 512)).cell (c % 512)).record s.time.now |>.getD (at' % 768) open'

/-- A bank whose contents the services keep in layouts that the spec does not give; general use of bank 23 ends with the first
snapshot (R625). -/
def State.serviceHeld (s : State) (bank : Nat) : Bool := bank < 23 || s.rings.any (fun g => g.frames != 0)

/-- Byte of a bank as a reader sees it: what a master wrote, else what the service left there: the estimator's records (R369), and
elsewhere open values. -/
def State.bankByte (s : State) (bank offset i : Nat) : Byte :=
  let b := Memory.read s.banks.mem (bankAddr bank (offset + i))
  let free : Byte := BitVec.ofNat 8 (Config.freeNat (s.free + i))
  if b ≠ Memory.blank then b
  else if 12 ≤ bank ∧ bank < 18 then s.estimatorByte (bankBytes * (bank - 12) + offset + i) free
  else if s.serviceHeld bank then free else b

/-- `n` bytes of a bank from an offset, and the state with the open ones taken. -/
def readBank (bank offset n : Nat) (s : State) : List Byte × State :=
  ((List.range n).map (s.bankByte bank offset), { s with free := s.free + n })

end Sys2Proof.Machine
end

