-- ==== Sys2Proof/Machine/Banks.lean ====
section
/-! DEFINITION. Scratchpad banks: ownership, mailbox, ECC, March tests and row repair (chapter 19). -/
namespace Sys2Proof.Machine
open Sys2Proof

/-- Number of a master (chapter 19). -/
def masterNo : Master → Nat
  | .supervisor => 0 | .ac0 => 1 | .ac1 => 2 | .loop => 3 | .array => 4 | .queue => 5 | .port => 6

/-- Bank `b`. -/
def State.bank (s : State) (b : Nat) : BankState := s.banks.banks.getD b { owner := 0xF }

/-- Change bank `b`. -/
def modBank (b : Nat) (f : BankState → BankState) (s : State) : State :=
  { s with banks := { s.banks with banks := modAt s.banks.banks b f } }

/-- The access status a master learns its last write from (R629). -/
def accessStatus (m : Nat) (refused : Bool) (s : State) : State :=
  { s with banks := { s.banks with refused := setAt s.banks.refused m refused } }

/-- A refused access: counted against the master, told in its access status, with event 0xD9 naming bank and master (R629). -/
def bankConflict (m b : Nat) (s : State) : State :=
  raise 0xD9 0 7 b [BitVec.ofNat 8 m]
    (accessStatus m true { s with banks := { s.banks with conflicts := modAt s.banks.conflicts m (fun n => satAdd 32 n 1) } })

/-! ## Ownership (R625 to R631) -/

/-- One write of a master to a bank (R626, R628, R630, R633): done, waiting for a handover, or refused. The host port, master 6,
writes into no bank but through its command slots (R634). -/
def bankStore (m b off : Nat) (bytes : List Byte) (s : State) : State :=
  let k := s.bank b
  if bankBytes < off + bytes.length ∨ k.readOnly ∨ m = 6 then bankConflict m b s
  else if k.owner = 0xF ∨ k.owner = m then
    accessStatus m false { s with banks := { s.banks with mem := Memory.writeAll s.banks.mem (bankAddr b off) bytes } }
  else match k.handover with
    | some n =>
      if n = 0xF ∨ n = m then modBank b (fun k => { k with waiting := k.waiting ++ [(m, off, bytes)] }) s
      else bankConflict m b s
    | none => bankConflict m b s

/-- Writes that waited for a handover are judged again, in their order. -/
def settleWaiting (b : Nat) (s : State) : State :=
  (s.bank b).waiting.foldl (fun s e => bankStore e.1 b e.2.1 e.2.2 s) (modBank b (fun k => { k with waiting := [] }) s)

/-- A master's domain is on (R36). -/
def State.masterPowered (s : State) : Master → Bool
  | .supervisor | .queue => s.alive
  | .ac0 | .ac1 | .loop => s.ac0On
  | .array => s.arrayOn
  | .port => s.portUp

/-- `BANK_WRITE`: a master writes bytes of a bank, unaligned accesses included (R626, R630 to R633). -/
def execBankWrite (by' : Master) (bank offset : Nat) (bytes : List Byte) (s : State) : Host.Outcome State Fault Refusal :=
  .next (if s.alive && s.masterPowered by' && bank < 24 then bankStore (masterNo by') bank offset bytes s else s)

/-- `BANK_OWNER_WRITE`: accepted from the owner or the supervisor, never while RUNNING (R627). -/
def execBankOwnerWrite (by' : Master) (bank : Nat) (word : Word) (s : State) : Host.Outcome State Fault Refusal :=
  .next (if s.alive && s.masterPowered by' && bank < 24 then
    let m := masterNo by'
    let k := s.bank bank
    let owner := word.toNat % 16
    if (m ≠ 0 ∧ (k.owner = 0xF ∨ k.owner ≠ m)) ∨ k.running ∨ (7 ≤ owner ∧ owner ≤ 14) then bankConflict m bank s
    else
      let s := modBank bank (fun k => { k with readOnly := word.getLsbD 6, handover := if owner = k.owner then none else some owner })
        (accessStatus m false s)
      if owner = k.owner then settleWaiting bank s else s
  else s)

/-- `OWNER_HANDOVER_EFFECT`: the accesses in flight have completed (R628). -/
def execOwnerHandoverEffect (bank : Nat) (s : State) : Host.Outcome State Fault Refusal :=
  .next (match s.alive, (s.bank bank).handover with
  | true, some n =>
    settleWaiting bank (raise 0xD8 0 7 bank (leBytes 1 (s.bank bank).owner ++ leBytes 1 n)
      (modBank bank (fun k => { k with owner := n, handover := none, handovers := (k.handovers + 1) % 256 }) s))
  | _, _ => s)

/-! ## The dual-ported mailbox (R635) -/

/-- Bytes at mailbox offsets `a` to `a + 3` of a running MBX_READ become open values. -/
def undefineWord (a : Nat) (s : State) : State :=
  match s.port.mbxAt with
  | none => s
  | some at' =>
    let f := fun (e : Byte × Nat) =>
      if (at' + e.2) % 524288 / 4 = a / 4 then BitVec.ofNat 8 (Config.freeNat (s.free + e.2 % 4)) else e.1
    { s with port := { s.port with shifted := s.port.shifted.zipIdx.map f }, free := s.free + 4 }

/-- `MAILBOX_COLLISION`: the later port's master counts it; a host reading what the core writes gets undefined data, and as the
later port it sees HBUSY_N low, unless both read (R635, R147). -/
def execMailboxCollision (offset : Nat) (hostLater hostReads coreReads : Bool) (s : State) : Host.Outcome State Fault Refusal :=
  .next (if s.alive && offset < 524288 then
    let cnt := modAt s.banks.collisions (if hostLater then 6 else 0) (fun n => satAdd 32 n 1)
    let s := { s with banks := { s.banks with collisions := cnt } }
    let s := if hostReads && !coreReads then undefineWord offset s else s
    let s := if hostLater && !(hostReads && coreReads) then { s with port := { s.port with collided := true } } else s
    raise 0xDA 0 7 (20 + offset / bankBytes + 256 * (offset % bankBytes / 512)) [BitVec.ofNat 8 (if hostLater then 6 else 0)] s
  else s)

/-! ## ECC (R636 to R638, R643) -/

/-- Whether a March test of bank `b` runs now. -/
def State.testing (s : State) (b : Nat) : Bool :=
  match s.banks.march with
  | some j => maskHas j.mask b
  | none => false

/-- One corrected error of a row (R636, R643). -/
def eccOnce (b row : Nat) (s : State) : State :=
  let n := (assocGet row (s.bank b).rows).getD 0 + 1
  let s := raise 0x06 0 7 (b + 256 * row) []
    (modBank b (fun k => { k with corrected := satAdd 16 k.corrected 1, rows := assocSet row n k.rows }) s)
  if n = 16 then
    raise 0xDE 0 7 (b + 256 * row) []
      (modBank b (fun k => { k with marked := if k.marked.contains row then k.marked else k.marked ++ [row] }) s)
  else s

/-- `ECC_CORRECTED`. -/
def execEccCorrected (bank row : Nat) (s : State) : Host.Outcome State Fault Refusal :=
  .next (if s.alive && bank < 24 && row < 512 then eccOnce bank row s else s)

/-- `SCRUB`: a pass over one row finds and corrects `found` single-bit errors; a bank under test is skipped (R637). -/
def execScrub (bank row : Nat) (found : Nat) (s : State) : Host.Outcome State Fault Refusal :=
  .next (if s.alive && bank < 24 && row < 512 && !s.testing bank then Nat.repeat (eccOnce bank row) found s else s)

/-- Every loop that runs is held and every trace disarmed (R638). -/
def holdAllLoops (s : State) : State :=
  traceDisarm ((List.range 32).foldl (fun s n => if (s.loopOf n).mode = .off then s else
    setLoopMode n .hold (modLoop n (fun l => { l with manual := l.uPrev, preset := false }) s)) s)

/-- The consequence of an uncorrectable error, or of a bank beyond repair, for its bank (R638, R645). -/
def bankLost (src b : Nat) (s : State) : State :=
  if b < 12 then
    if (s.bank b).running then resetModule 0x07 s else modBank b (fun k => { k with unusable := true }) s
  else if b < 18 then hollowFault src (startRecord s)
  else if b < 20 then holdAllLoops s
  else resetModule 0x07 s

/-- The location that stands for the estimation array's operand stores, which are no bank (R108). -/
def operandStores : Nat := 24

/-- `ECC_UNCORRECTABLE`: detected and reported, with the consequence of its bank (R636, R638); one in the operand stores is a
HOLLOW fault (R108). -/
def execEccUncorrectable (bank row : Nat) (s : State) : Host.Outcome State Fault Refusal :=
  .next (if s.alive && bank == operandStores then
    (if s.arrayOn then hollowFault 0x07 (raise 0x07 0 0 0 [] s) else s)
  else if s.alive && bank < 24 && row < 512 then
    bankLost 0x07 bank (raise 0x07 0 7 (bank + 256 * row) []
      (modBank bank (fun k => { k with uncorrectable := satAdd 16 k.uncorrectable 1 }) s))
  else s)

/-! ## March test (R640 to R645) -/

/-- Opcode of `MARCH_TEST`. -/
def opMarch : Nat := 0x0701

/-- Whether an update image, or the image kept for fallback, is in the code bank that does not run (R644, R685). -/
def State.otherBankLoaded (s : State) : Bool :=
  (match s.upd.handover with | some h => h.comp == 0 | none => false) ||
  (match s.upd.comps[0]? with | some c => c.old.isSome | none => false)

/-- Banks a destructive test may name: open ones, and those of the other code bank while no update image is in it (R644). -/
def State.mayWipe (s : State) (b : Nat) : Bool :=
  (s.bank b).owner == 0xF || (b < 12 && !(s.bank b).running && !s.otherBankLoaded)

/-- `MARCH_TEST` (R644). -/
def serveMarch (p : Port) (tag : Half) (pl : List Byte) (s : State) : State :=
  serve opMarch [.service] (pl.length == 8) p tag (fun s =>
    let mask := field pl 0 4
    let mode := field pl 4 1
    let st := if mask = 0 ∨ 2 ^ 24 ≤ mask ∨ 1 < mode ∨ zeros (pl.drop 5) = false then stOutOfRange
      else if mode = 0 ∧ (List.range 24).any (fun b => maskHas mask b && !s.mayWipe b) then stNotPermitted
      else if s.banks.march.isSome then stBusy
      else stAccepted
    let s := reply p opMarch tag st noDetail [] s
    if st = stAccepted then
      { s with banks := { s.banks with march := some { mask := mask, preserving := mode == 1, by' := .packet p tag } } }
    else s) s

/-- `MARCH_TEST`. -/
def execMarchTest (port : Port) (tag : Half) (payload : List Byte) (s : State) : Host.Outcome State Fault Refusal :=
  .next (hostRow 0x0701 serveMarch port tag payload s)

/-- Rows of a bank that can be repaired now: the first failing ones, as far as field-repair rows are free (R642). -/
def BankState.repairable (k : BankState) (failing : List Nat) : List Nat :=
  (failing.filter (fun r => r < 512)).eraseDups.take (2 - k.repaired.length)

/-- Rows of a bank among those a test found failing. -/
def badRows (failing : List (Nat × Nat)) (b : Nat) : List Nat :=
  (((failing.filter (fun e => e.1 == b)).map (·.2)).filter (fun r => r < 512)).eraseDups

/-- Whether a bank has too few field-repair rows for its failing rows (R642). -/
def State.beyondRepair (s : State) (failing : List (Nat × Nat)) (b : Nat) : Bool :=
  ((s.bank b).repairable (badRows failing b)).length < (badRows failing b).length

/-- One bank's part of a finished test: its notification entry and the state (R642, R644, R645). -/
def marchBank (failing : List (Nat × Nat)) (wipe : Bool) (b : Nat) (s : State) : List Byte × State :=
  let bad := badRows failing b
  let fix := (s.bank b).repairable bad
  let beyond := s.beyondRepair failing b
  let s := if wipe then { s with banks := { s.banks with mem := Memory.clearBank s.banks.mem b } } else s
  let s := modBank b (fun k => { k with repaired := k.repaired ++ fix, unusable := k.unusable || beyond,
                                        marked := k.marked.filter (fun r => !fix.contains r) }) s
  let s := if bad.isEmpty then raise 0xDB 0 7 b [] s else fix.foldl (fun s r => raise 0xDC 0 7 (b + 256 * r) [] s) s
  let s := if beyond then raise 0xDD 0 7 b [] s else s
  ([BitVec.ofNat 8 b, BitVec.ofNat 8 (if beyond then 2 else if bad.isEmpty then 0 else 1), BitVec.ofNat 8 fix.length,
    BitVec.ofNat 8 (s.bank b).repaired.length], s)

/-- `MARCH_TEST_COMPLETE`: rows are repaired, the notification is posted, and a bank beyond repair has its consequence. -/
def execMarchTestComplete (failing : List (Nat × Nat)) (s : State) : Host.Outcome State Fault Refusal :=
  .next (match s.banks.march with
  | none => s
  | some j =>
    if !s.alive then s else
    let named := (List.range 24).filter (maskHas j.mask)
    let lost := named.filter (s.beyondRepair failing)
    let r := named.foldl (fun (a : List Byte × State) b =>
      let x := marchBank failing (!j.preserving) b a.2
      (a.1 ++ x.1, x.2)) ([], { s with banks := { s.banks with march := none } })
    lost.foldl (fun s b => bankLost 0xDD b s)
      (complete j.by' opMarch stOk noDetail ([BitVec.ofNat 8 named.length, 0, 0, 0] ++ r.1) r.2))

/-! ## Reports (R646, R647) -/

/-- Opcode of `BANK_STATUS`. -/
def opBankStatus : Nat := 0x0801
/-- Opcode of `BANK_READ`. -/
def opBankRead : Nat := 0x0802

/-- One bank's record (R646). -/
def State.bankRecord (s : State) (b : Nat) : List Byte :=
  let k := s.bank b
  let flags := bit k.readOnly + 2 * bit k.running + 4 * bit (!k.marked.isEmpty) + 8 * bit k.unusable + 16 * bit (s.testing b)
  [BitVec.ofNat 8 (if k.owner = 0xF then 0xFF else k.owner), BitVec.ofNat 8 flags, BitVec.ofNat 8 (Config.factorySpares b).val,
   BitVec.ofNat 8 k.repaired.length] ++ leBytes 2 k.corrected ++ leBytes 2 k.uncorrectable

/-- `BANK_STATUS`. -/
def serveBankStatus (p : Port) (tag : Half) (pl : List Byte) (s : State) : State :=
  serve opBankStatus modesAll (pl.length == 0) p tag (fun s =>
    let masters := (List.range 7).flatMap (fun m =>
      leBytes 4 (s.banks.conflicts.getD m 0) ++ leBytes 4 (s.banks.collisions.getD m 0))
    reply p opBankStatus tag stOk noDetail ((List.range 24).flatMap s.bankRecord ++ masters) s) s

/-- `BANK_STATUS`. -/
def execBankStatus (port : Port) (tag : Half) (payload : List Byte) (s : State) : Host.Outcome State Fault Refusal :=
  .next (hostRow 0x0801 serveBankStatus port tag payload s)

/-- `BANK_READ` (R647). -/
def serveBankRead (p : Port) (tag : Half) (pl : List Byte) (s : State) : State :=
  serve opBankRead modesAll (pl.length == 8) p tag (fun s =>
    let b := field pl 0 1
    let n := field pl 2 2
    let off := field pl 4 4
    if 23 < b ∨ n = 0 ∨ 4084 < n ∨ bankBytes < off + n ∨ field pl 1 1 ≠ 0 then reply p opBankRead tag stOutOfRange noDetail [] s
    else if s.testing b && (match s.banks.march with | some j => !j.preserving | none => false) then
      reply p opBankRead tag stBusy noDetail [] s
    else
      let r := readBank b off n s
      reply p opBankRead tag stOk noDetail (leBytes 8 s.time.now ++ r.1) r.2) s

/-- `BANK_READ`. -/
def execBankRead (port : Port) (tag : Half) (payload : List Byte) (s : State) : Host.Outcome State Fault Refusal :=
  .next (hostRow 0x0802 serveBankRead port tag payload s)

end Sys2Proof.Machine
end

