-- ==== Sys2Proof/Machine/Can.lean ====
section
/-! DEFINITION. CAN channels: routing, queues, error states, and the command transport (R151 to R155, R552 to R572). -/
namespace Sys2Proof.Machine
open Sys2Proof

/-! ## Channels -/

/-- Change channel `c`. -/
def State.modCan (s : State) (c : Nat) (f : CanState → CanState) : State := { s with can := modAt s.can c f }

/-- MODE of `CAN.CFG_k`: 0 disabled, 1 Classical, 2 FD (R552). -/
def State.canMode (s : State) (c : Nat) : Nat := bits (s.pn (0x0F02 + c)) 31 30

/-- `CAN.CMD_CHANNEL`. -/
def State.cmdCh (s : State) : Nat := s.pn 0x0F10

/-- Channel `c` runs (R553). -/
def State.canRuns (s : State) (c : Nat) : Bool :=
  s.alive && s.sys.ready && c < 3 && s.canMode c != 0 && (s.sys.mode != .loader || c == s.cmdCh)

/-- Channel `c` runs and is not bus-off. -/
def State.canUp (s : State) (c : Nat) : Bool := s.canRuns c && (s.canOf c).state ≤ 1

/-- Event about a channel (R586). -/
def raiseCan (src c : Nat) (s : State) : State := raise src 0 5 c [] s

/-- Whether an identifier word of `CAN.CMD_RX_ID`'s layout names a frame (R151). -/
def idMatches (w : Nat) (f : CanFrame) : Bool :=
  w.testBit 31 == f.extended && (if f.extended then w % 2 ^ 29 else w % 2 ^ 11) == f.id

/-- A data length some DLC spells (R556). -/
def lengthOk (fd : Bool) (n : Nat) : Bool := n ≤ 8 || (fd && [12, 16, 20, 24, 32, 48, 64].contains n)

/-- Smallest length of an FD frame that holds `n` bytes (R556). -/
def fdLength (n : Nat) : Nat := if n ≤ 8 then n else ([12, 16, 20, 24, 32, 48].find? (n ≤ ·)).getD 64

/-! ## Routing of received frames (R563, R564) -/

/-- Filter entry `f` of channel `c` matches a frame. -/
def State.filterHit (s : State) (c f : Nat) (fr : CanFrame) : Bool :=
  let id := s.pn (0x0F40 + 64 * c + 2 * f)
  let m := s.pn (0x0F41 + 64 * c + 2 * f)
  let w := if fr.extended then 2 ^ 29 else 2 ^ 11
  m.testBit 31 && id.testBit 31 == fr.extended && ((m % w) &&& ((id % w) ^^^ (fr.id % w))) == 0

/-- A frame *Dispatch and federation* reserves (R590), on a channel that carries them. -/
def State.dispatchFrame (s : State) (c : Nat) (fr : CanFrame) : Bool :=
  2 ≤ s.pn 0x1101 && (c == s.segCh || (s.pn 0x1101 == 3 && c == s.trunkCh)) && fr.extended && fr.fd && fr.data.length == 64 &&
    bits fr.id 28 24 == s.pn 0x1107 && 1 ≤ bits fr.id 23 20 && bits fr.id 23 20 ≤ 5 && bits fr.id 19 16 == 0

/-- Receive class of a frame: none where it matches nothing. In LOADER only command segments are taken (R553). -/
def State.rxClass (s : State) (c : Nat) (fr : CanFrame) : Option Nat :=
  if c = s.cmdCh ∧ idMatches (s.pn 0x0F11) fr = true then some 0
  else if s.sys.mode = .loader then none
  else if (c = s.segCh ∨ c = s.trunkCh) ∧ (idMatches (s.pn 0x1005) fr || idMatches (s.pn 0x1006) fr) = true then some 0
  else if s.dispatchFrame c fr then some 1
  else ((List.range 32).find? (fun f => s.filterHit c f fr)).map (fun f => bits (s.pn (0x0F41 + 64 * c + 2 * f)) 30 29)

/-- Post a received frame in class `q`; a full queue drops it, with event 0xE3 on the first drop after a post (R561). -/
def postRx (c q : Nat) (fr : CanFrame) (s : State) : State :=
  let k := s.canOf c
  if (k.rx.getD q []).length < s.qDepth (20 + 8 * c + q) then
    s.modCan c (fun k => { k with rx := modAt k.rx q (· ++ [{ frame := fr, stamp := s.time.now }]),
                                  dropLatched := setAt k.dropLatched q false })
  else
    let first := !k.dropLatched.getD q false
    let s := s.modCan c (fun k => { k with drops := modAt k.drops q (satAdd 32 · 1), dropLatched := setAt k.dropLatched q true })
    if first then raiseCan 0xE3 c s else s

/-- The supervisor takes the oldest frame of class `q` with this data and acknowledges its descriptor (R561). -/
def ackRx (c q : Nat) (data : List Byte) (s : State) : State :=
  s.modCan c (fun k => { k with rx := modAt k.rx q (fun l =>
    match l.findIdx? (fun d => d.frame.data == data) with | some i => l.eraseIdx i | none => l) })

/-! ## Error counters (R566) -/

/-- Error-active or error-passive by the counters. -/
def CanState.active (k : CanState) : Bool := k.tec ≤ 127 && k.rec' ≤ 127

/-- Bus-off is entered (R566, R567). -/
def busOff (c : Nat) (s : State) : State :=
  raiseCan 0xE1 c (s.modCan c (fun k =>
    { k with state := 2, recovering := false, offAt := s.time.now, heard := false, busoffs := min 255 (k.busoffs + 1) }))

/-- The state follows the counters of a channel that is on. -/
def judgeErrors (c : Nat) (s : State) : State :=
  let k := s.canOf c
  if 1 < k.state then s
  else if 255 < k.tec then busOff c s
  else
    let n := if k.active then 0 else 1
    if n = k.state then s else raiseCan 0xE0 c (s.modCan c (fun k => { k with state := n }))

/-- Receive error counter after a good reception; from the passive range it returns to 119 to 127, which of them is open. -/
def goodReception (c : Nat) (s : State) : State :=
  let k := s.canOf c
  let f := s.takeFree
  let s := if 127 < k.rec' then f.2.modCan c (fun k => { k with rec' := 119 + Config.freeNat f.1 % 9 })
           else s.modCan c (fun k => { k with rec' := k.rec' - 1 })
  judgeErrors c (s.modCan c (fun k => { k with heard := true, swapped := false }))

/-! ## Transmission (R558 to R560, R565) -/

/-- Post a transmit descriptor; a full queue refuses it (R43). -/
def postTx (c p : Nat) (d : TxDesc) (s : State) : State × Bool :=
  if ((s.canOf c).tx.getD p []).length < s.qDepth (16 + 8 * c + p) then
    (s.modCan c (fun k => { k with tx := modAt k.tx p (· ++ [{ d with posted := s.time.now }]) }), true)
  else (raise 0x09 0 0 0 (leBytes 1 (16 + 8 * c + p)) s, false)

/-- The queue whose head the controller offered at an instant, ns of the module timebase: the lowest-numbered one that held a
posted descriptor then (R559). -/
def CanState.offered (k : CanState) (sof : Nat) : Option Nat :=
  (List.range 4).find? (fun p => match k.tx.getD p [] with | d :: _ => 1000 * d.posted ≤ sof | [] => false)

/-- The head of a queue is acknowledged and leaves it. -/
def popTx (c p : Nat) (s : State) : State := s.modCan c (fun k => { k with tx := modAt k.tx p (List.drop 1) })

/-- Every descriptor of a channel is returned with ABORTED_MODE, and received ones are discarded (R558, R570). -/
def abortChannel (c : Nat) (s : State) : State :=
  s.modCan c (fun k => { k with tx := List.replicate 4 [], rx := List.replicate 4 [] })

/-- A channel is switched on by an apply or a start, or off by one. -/
def switchChannel (c : Nat) (on : Bool) (s : State) : State :=
  (abortChannel c s).modCan c (fun k =>
    { k with state := if on then 0 else 3, tec := 0, rec' := 0, recovering := false, heard := false, swapped := false,
             txdTimeout := false, delayHigh := false })

/-! ## Replies and notifications as segments (R152, R155) -/

/-- One segment: header byte and data, padded to a length a frame can have. -/
def canSegment (fd first last : Bool) (seq : Nat) (data : List Byte) : List Byte :=
  let b := BitVec.ofNat 8 (bit first * 128 + bit last * 64 + seq % 64) :: data
  if fd then padTo (fdLength b.length) b else b

/-- A packet's segments; `n` bounds their number. -/
def segments (fd : Bool) : Nat → Nat → List Byte → List (List Byte)
  | 0, _, _ => []
  | n + 1, seq, b =>
    let k := if fd then 63 else 7
    if b.length ≤ k then [canSegment fd (seq == 0) true seq b]
    else canSegment fd (seq == 0) false seq (b.take k) :: segments fd n (seq + 1) (b.drop k)

/-- Waiting segments enter transmit queue 1 while it has room. -/
def postSegments (c : Nat) : List (List Byte) → State → State
  | [], s => { s with port := { s.port with canSegs := [] } }
  | x :: l, s =>
    let w := s.pn 0x0F12
    if ((s.canOf c).tx.getD 1 []).length < s.qDepth (17 + 8 * c) then
      let id := if w.testBit 31 then w % 2 ^ 29 else w % 2 ^ 11
      let d : TxDesc :=
        { frame := { id := id, extended := w.testBit 31, fd := s.canMode c == 2, data := x }, kind := .segment }
      postSegments c l (postTx c 1 d s).1
    else { s with port := { s.port with canSegs := x :: l } }

/-- Take the packets of Q6 in order, as many as leave no segment waiting; `n` bounds their number. -/
def drainCan (c : Nat) : Nat → State → State
  | 0, s => s
  | n + 1, s =>
    let s := postSegments c s.port.canSegs s
    if !s.port.canSegs.isEmpty then s else
    match s.port.canOut.slots with
    | [] => s
    | k :: rest =>
      let o := s.port.canOut
      let s := packetGone .can k (s.setOut .can { o with slots := rest, noteUnread := o.noteUnread && k.opcode != opNotifyDropped })
      let segs := segments (s.canMode c == 2) 600 0 k.bytes
      drainCan c n { refillSlots .can s with port := { (refillSlots .can s).port with canSegs := segs } }

/-- The CAN stack moves packets that leave into the transmit queue; a power-fail commit stops transmission (R92). -/
def pumpCan (s : State) : State :=
  if s.cmdCh < 3 && s.canRuns s.cmdCh && s.feed.commit.isNone then drainCan s.cmdCh 66 s else s

/-! ## Reassembly of commands (R153, R154) -/

/-- Header fields of a packet whose 12 bytes are there. -/
def parseCmd (p : Port) (b : List Byte) : Cmd :=
  let n := field b 6 2
  let whole := 16 + n ≤ b.length
  let pl := (b.drop 12).take n
  { port := p, opcode := field b 0 2, tag := field b 2 2, flags := field b 4 1, version := field b 5 1,
    reserved := field b 8 2, payload := pl, whole := whole,
    crcOk := whole && field b (12 + n) 4 == (if n = 0 then 0 else crc32 pl) }

/-- The header CRC of a packet is right (check 2 of R140). -/
def headerOk (b : List Byte) : Bool := field b 10 2 == crc16 (b.take 10)

/-- Change the reassembly. -/
def setReasm (r : Reassembly) (s : State) : State := { s with port := { s.port with reasm := r } }

/-- The packet in reassembly is abandoned: `ST_BAD_LENGTH` where its header was complete (R153). -/
def abandonPacket (s : State) : State :=
  let r := s.port.reasm
  let s := setReasm {} s
  if r.active && 12 ≤ r.bytes.length then
    reply .can (field r.bytes 0 2) (BitVec.ofNat 16 (field r.bytes 2 2)) stBadLength noDetail [] s
  else s

/-- A complete packet enters Q2 (checks 1 and 4 of R140, R155). -/
def postCanCmd (b : List Byte) (s : State) : State :=
  if b.length < 12 then irq .spi 3 s else postCmd (parseCmd .can b) s

/-- One segment in its turn is added, `short` where it is shorter than R152 requires; checks 2 and 3 of R140 are made once the
header is complete, before a short segment abandons the packet (R153, R154). -/
def takeSegment (last short : Bool) (data : List Byte) (s : State) : State :=
  let r := s.port.reasm
  let b := r.bytes ++ data
  let header := 12 ≤ b.length && r.bytes.length < 12
  if header && !headerOk b then reply .can 0 0 stBadCrc noDetail [] (setReasm {} s)
  else if header && 4096 < field b 6 2 then
    reply .can (field b 0 2) (BitVec.ofNat 16 (field b 2 2)) stLengthExceeds noDetail [] (setReasm {} s)
  else if short then abandonPacket (setReasm { bytes := b, next := r.next, active := true } s)
  else if last then postCanCmd b (setReasm {} s)
  else setReasm { bytes := b, next := (r.next + 1) % 64, active := true } s

/-! ## Meanings -/

/-- `CAN_FRAME_RECEIVED`: routing, filters and queues; a remote frame is counted and not stored, an FD frame on a Classical
channel is passed over (R552, R556, R561 to R564, R569). -/
def execCanFrameReceived (channel : Nat) (frame : CanFrame) (s : State) : Host.Outcome State Fault Refusal :=
  if !lengthOk frame.fd frame.data.length then .fault .badFrameLength
  else .next (
    if !s.canUp channel || (frame.fd && s.canMode channel != 2) then s else
    let s := goodReception channel s
    if frame.remote then s.modCan channel (fun k => { k with remote := k.remote + 1 }) else
    match s.rxClass channel frame with
    | some q => postRx channel q frame s
    | none =>
      if s.sys.mode == .loader then s else s.modCan channel (fun k => { k with unmatched := k.unmatched + 1 }))

/-- The FOLLOW_UP of a SYNC whose start of frame was captured at `sof` ns of the module timebase (R575, R576). -/
def followUpFrame (seq sof : Nat) (s : State) : TxDesc :=
  let w := s.pn 0x1006
  let nt := (((sof : Int) + s.clock.offset) % 2 ^ 64).toNat
  { frame := { id := if w.testBit 31 then w % 2 ^ 29 else w % 2 ^ 11, extended := w.testBit 31, fd := false,
               data := leBytes 1 seq ++ leBytes 7 nt }, kind := .followUp }

/-- The deadline of a descriptor has passed at a timebase instant (R560). -/
def TxDesc.late (d : TxDesc) (now : Nat) : Bool := match d.deadline with | some t => decide (t < now) | none => false

/-- `CAN_TX_COMPLETE`: the descriptor that was on the bus comes back; `sof` is its start of frame and `delay` the measured loop
delay, ns; none while a power-fail commit has stopped transmission (R92, R555, R558, R565, R575). -/
def execCanTxComplete (channel : Nat) (status : TxStatus) (sof delay : Nat) (s : State) : Host.Outcome State Fault Refusal :=
  .next (if !s.canUp channel || s.feed.commit.isSome then s else
    match (s.canOf channel).offered sof with
    | none => s
    | some p =>
      match (s.canOf channel).tx.getD p [] with
      | [] => s
      | d :: _ =>
        match status with
        | .transmitted =>
          let s := judgeErrors channel ((popTx channel p s).modCan channel (fun k => { k with tec := k.tec - 1 }))
          let long := s.canMode channel == 2 && 1000 ≤ s.pn (0x0F05 + channel) % 65536 && d.frame.fd && 400 < delay
          let s := if long && !(s.canOf channel).delayHigh then raiseCan 0xE6 channel s else s
          let s := s.modCan channel (fun k => { k with delayHigh := long })
          let s := match d.kind with | .sync seq => (postTx channel 0 (followUpFrame seq sof s) s).1 | _ => s
          pumpCan s
        | .cancelled => if d.cancel then pumpCan (popTx channel p s) else s
        | .abortedDeadline => if d.late s.time.now then pumpCan (raiseCan 0xE5 channel (popTx channel p s)) else s
        | .abortedMode => s)

/-- `CAN_TX_DEADLINE`: the deadline of a descriptor passes before its start of frame; deadlines run on in bus-off (R560,
R567). -/
def execCanTxDeadline (channel prio index : Nat) (s : State) : Host.Outcome State Fault Refusal :=
  .next (if !s.canUp channel then s else
    let q := (s.canOf channel).tx.getD prio []
    match q[index]? with
    | none => s
    | some d =>
      if !d.late s.time.now then s else
      raiseCan 0xE5 channel (s.modCan channel (fun k => { k with tx := modAt k.tx prio (fun l => l.eraseIdx index) })))

/-- `CAN_BUS_ERROR`: an error moves a counter by `weight`; a frame destroyed after its cancellation is not offered again (R565
to R567). -/
def execCanBusError (channel : Nat) (transmit : Bool) (weight : Nat) (s : State) : Host.Outcome State Fault Refusal :=
  .next (if !s.canUp channel || 8 < weight then s else
    if transmit then
      let s := match (s.canOf channel).offered (1000 * s.time.now) with
        | some p => (match (s.canOf channel).tx.getD p [] with
          | d :: _ => if d.cancel then popTx channel p s else s
          | [] => s)
        | none => s
      judgeErrors channel (s.modCan channel (fun k => { k with tec := k.tec + weight }))
    else judgeErrors channel (s.modCan channel (fun k => { k with rec' := min 255 (k.rec' + weight) })))

/-- `CAN_BUSOFF_HOLDOFF`: `CAN.BUSOFF_HOLDOFF` after the entry to bus-off recovery begins, unless only `CAN.RECOVER` starts it
(R568). -/
def execCanBusoffHoldoff (channel : Nat) (s : State) : Host.Outcome State Fault Refusal :=
  .next (if s.canRuns channel && (s.canOf channel).state == 2 && s.pn 0x0F01 != 65535 &&
      decide ((s.canOf channel).offAt + 1000 * s.pn 0x0F01 ≤ s.time.now) then
    s.modCan channel (fun k => { k with recovering := true })
  else s)

/-- `CAN.RECOVER` takes effect: recovery of the named channels begins at once (R568). -/
def applyRecover (v : Nat) (s : State) : State :=
  (List.range 3).foldl (fun s c =>
    if v.testBit c && (s.canOf c).state == 2 then s.modCan c (fun k => { k with recovering := true }) else s) s

/-- `CAN_RECOVERY_COMPLETE`: the recessive sequences were seen; expired descriptors return, and the channel is error-active
(R568). -/
def execCanRecoveryComplete (channel : Nat) (s : State) : Host.Outcome State Fault Refusal :=
  .next (let k := s.canOf channel
    if !s.canRuns channel || k.state != 2 || !k.recovering then s else
    let n := k.tx.foldl (fun a q => a + q.countP (·.late s.time.now)) 0
    let s := s.modCan channel (fun k =>
      { k with tx := k.tx.map (fun q => q.filter (fun d => !d.late s.time.now)), state := 0, tec := 0, rec' := 0, recovering := false,
               txdTimeout := false })
    raiseCan 0xE2 channel ((List.range n).foldl (fun s _ => raiseCan 0xE5 channel s) s))

/-- `CAN_LINES_SWAPPED`: 32 reversed dominant phases with no valid frame since the channel was enabled or since its last
bus-off (R569). -/
def execCanLinesSwapped (channel : Nat) (s : State) : Host.Outcome State Fault Refusal :=
  .next (let k := s.canOf channel
    if s.canRuns channel && !k.heard && !k.swapped then
      raiseCan 0xE4 channel (s.modCan channel (fun k => { k with swapped := true }))
    else s)

/-- `TXD_TIMEOUT`: 2 ms of dominant drive: the transceiver releases the bus, and the channel is bus-off (R557). -/
def execTxdTimeout (channel : Nat) (s : State) : Host.Outcome State Fault Refusal :=
  .next (if s.canUp channel then
    busOff channel (raiseCan 0xE6 channel (s.modCan channel (fun k => { k with txdTimeout := true })))
  else s)

/-- `CAN_REASSEMBLY_TIMEOUT`: 50 ms without the next segment (R153). -/
def execCanReassemblyTimeout (s : State) : Host.Outcome State Fault Refusal :=
  .next (if s.port.reasm.active then abandonPacket s else s)

end Sys2Proof.Machine
end

