-- ==== Sys2Proof/Machine/NetTime.lean ====
section
/-! DEFINITION. Module timebase and network time (R573 to R581). -/
namespace Sys2Proof.Machine
open Sys2Proof

/-- Change the clock. -/
def modClock (f : ClockState → ClockState) (s : State) : State := { s with clock := f s.clock }

/-- `TIME.REF_PERIOD`, ms. -/
def State.refMs (s : State) : Nat := s.pn 0x1004

/-! ## Roles (R574, R581) -/

/-- Parts in network time on the trunk and the segment channel. -/
def State.ntRoles (s : State) : NtRole × NtRole :=
  match s.pn 0x1001 with
  | 1 => (if s.leadsTrunk then .master else if s.pn 0x1101 == 3 && s.leadsSegment then .follower else .none,
          if s.leadsSegment then .master else .follower)
  | 2 => (.none, .master)
  | 3 => (.none, .follower)
  | _ => (.none, .none)

/-- Master on some channel. -/
def ClockState.master' (c : ClockState) : Bool := c.trunk == .master || c.segment == .master

/-- Channel the module follows a master on: the trunk before the segment. -/
def State.followCh (s : State) : Option Nat :=
  if s.clock.trunk = .follower then some s.trunkCh
  else if s.clock.segment = .follower then some s.segCh
  else none

/-- Event of network time, naming the channel followed. -/
def raiseNt (src : Nat) (s : State) : State := raise src 0 5 s.clock.channel [] s

/-- The state of network time changes, with its event (R580, R586), and at the entry to SYNCED a correlation record (R662). -/
def setNtState (n src : Nat) (s : State) : State :=
  if s.clock.state = n then s
  else if n = 2 then correlate (raiseNt src (modClock (fun c => { c with state := n }) s))
  else raiseNt src (modClock (fun c => { c with state := n }) s)

/-- Network time stepped: event 0xEB and a correlation record (R573, R662). -/
def ntStepped (s : State) : State := correlate (raiseNt 0xEB s)

/-- A module that becomes master continues its network time, or starts one of its own with a new epoch (R581). -/
def becomeMaster (s : State) : State :=
  if s.synced then setNtState 2 0xE8 s
  else
    let moved := s.clock.offset != 0
    let s := modClock (fun c => { c with offset := 0, epoch := (c.epoch + 1) % 256 }) s
    setNtState 2 0xE8 (if moved then ntStepped s else s)

/-- Role changes take effect, at the start of a reference period (R574). -/
def takeRoles (s : State) : State :=
  let r := s.ntRoles
  let c := s.clock
  if c.trunk = r.1 ∧ c.segment = r.2 then s else
  let became := (r.1 == .master && c.trunk != .master) || (r.2 == .master && c.segment != .master)
  let s := modClock (fun c => { c with trunk := r.1, segment := r.2, awaited := none, prev := none, masterEpoch := none,
                                       lastPair := s.time.now }) s
  if became then becomeMaster s else s

/-- A reference period starts between two instants of network time. -/
def State.refStarts (s : State) (before after : Nat) : Bool :=
  let p := 1000000 * s.refMs
  before / p != after / p

/-! ## Master (R575, R576) -/

/-- Flags of a SYNC: TRACEABLE and GRANDMASTER. -/
def State.syncFlags (s : State) : Nat :=
  let c := s.clock
  let g := c.grandmaster (s.pn 0x1001)
  bit (g || (c.trunk == .follower && s.synced && c.traceable)) + 2 * bit g

/-- Whether the module is master on a channel now. -/
def State.masterOn (s : State) (ch : Nat) : Bool :=
  (ch == s.trunkCh && s.clock.trunk == .master) || (ch == s.segCh && s.clock.segment == .master)

/-- `SYNC`: at an instant of network time that is a whole multiple of the reference period, the master posts a SYNC in priority
queue 0 with a deadline 1 ms later; none while a power-fail commit has stopped transmission (R92, R575). -/
def execSync (channel : Nat) (s : State) : Host.Outcome State Fault Refusal :=
  .next (if !s.canRuns channel || s.sys.mode == .loader || !s.masterOn channel || s.feed.commit.isSome then s else
    let p := 1000000 * s.refMs
    let at' := (s.net + p / 2) / p * p
    let seq := s.clock.seq.getD channel 0
    let tier := if s.pn 0x1001 = 2 then 2 else if channel = s.trunkCh then 0 else 1
    let w := s.pn 0x1005
    let due := ((at' : Int) - s.clock.offset) / 1000
    let data := leBytes 1 seq ++ leBytes 1 tier ++ leBytes 1 s.syncFlags ++ leBytes 1 s.clock.epoch ++ leBytes 2 s.moduleId ++
      leBytes 2 (at' / 2 ^ 48)
    let f : CanFrame :=
      { id := if w.testBit 31 then w % 2 ^ 29 else w % 2 ^ 11, extended := w.testBit 31, fd := false, data := data }
    let r := postTx channel 0 { frame := f, kind := .sync seq, deadline := some (due.toNat + 1000) } s
    if r.2 then modClock (fun c => { c with seq := modAt c.seq channel (fun n => (n + 1) % 256) }) r.1 else r.1)

/-! ## Follower (R577 to R580) -/

/-- `SYNC_RECEIVED`: on the follower channel, the SYNC waits for its FOLLOW_UP; `capture` is its start of frame, ns of the module timebase. -/
def execSyncReceived (channel : Nat) (bytes : List Byte) (capture : Nat) (s : State) : Host.Outcome State Fault Refusal :=
  .next (if !s.canUp channel || s.sys.mode == .loader || bytes.length != 8 then s else
    let s := ackRx channel 0 bytes s
    if s.followCh != some channel then s else
    let y : SyncHeard :=
      { channel := channel, seq := field bytes 0 1, flags := field bytes 2 1, epoch := field bytes 3 1,
        master := field bytes 4 2, high := field bytes 6 2, capture := capture }
    modClock (fun c => { c with awaited := some y }) s)

/-- Master time of a SYNC's start of frame: bits 63 to 56 of its high bits above the 56 low bits of the FOLLOW_UP, with the
carry between the two (R577). -/
def masterTime (high low : Nat) : Nat :=
  let t := high / 256 * 2 ^ 56 + low
  if low / 2 ^ 48 < high % 256 then t + 2 ^ 56 else t

/-- The pair's master is one the follower may use (R578). -/
def State.masterFits (s : State) (y : SyncHeard) : Bool :=
  s.pn 0x1001 != 1 || (if s.clock.trunk = .follower then s.disp.trunkLead else s.disp.segLead) == some y.master

/-- A signed difference of two 64-bit times. -/
def wrap64 (x : Int) : Int := (BitVec.ofInt 64 x).toInt

/-- Residual of a pair, ns (R579). -/
def State.pairResidual (s : State) (y : SyncHeard) (tm : Nat) : Int :=
  let delay := if s.clock.trunk = .follower then s.pn 0x1008 else s.pn 0x1007
  wrap64 ((tm : Int) + (delay : Int) - ((y.capture : Int) + s.clock.offset))

/-- Rate error over the interval since the previous pair, 0.001 ppm; the rate in force where there is none. -/
def ClockState.rateError (c : ClockState) (tm own : Int) : Int :=
  match c.prev with
  | none => c.rate
  | some (m, o) =>
    let dl : Rat := ((own - o : Int) : Rat) / 1000000
    if dl ≤ 0 then c.rate else roundRat ((((wrap64 (tm - m) : Int) : Rat) - dl) / dl * 1000000000)

/-- One pair is used (R579, R580). -/
def usePair (y : SyncHeard) (tm : Nat) (s : State) : State :=
  let c := s.clock
  let r := s.pairResidual y tm
  let own : Int := (y.capture : Int) * 1000000 - c.drift
  let fresh := fun (c : ClockState) => { c with
    used := c.used + 1, prev := some ((tm : Int), own), masterEpoch := some y.epoch, master := some y.master,
    channel := y.channel, residual := r, traceable := y.flags.testBit 0 }
  if c.state = 0 ∨ 100000 < r.natAbs ∨ (c.masterEpoch.getD y.epoch ≠ y.epoch) then
    let rate := if c.state = 0 then 0 else c.rate
    let s := modClock (fun c => { fresh c with
      offset := c.offset + r, rate := rate, corr := rate, goodRun := 0, state := 1, lastPair := s.time.now,
      epoch := if c.master' then (c.epoch + 1) % 256 else y.epoch }) s
    if c.used = 0 then s else ntStepped s
  else
    let rate := c.rate + clampInt (-10000) 10000 (c.rateError tm own - c.rate)
    let corr := clampInt (-100000) 100000 (rate + r * 500 / (s.refMs : Int))
    let good := decide (r.natAbs ≤ 1000)
    let run := if good then c.goodRun + 1 else 0
    let s := modClock (fun c => { fresh c with
      rate := rate, corr := corr, goodRun := run, epoch := if c.master' then c.epoch else y.epoch,
      lastPair := if c.state = 3 then c.lastPair else s.time.now }) s
    if c.state = 1 then if 3 ≤ run then setNtState 2 0xE8 s else s
    else if c.state = 3 ∧ good = true then modClock (fun c => { c with lastPair := s.time.now }) (setNtState 2 0xE8 s)
    else s

/-- `FOLLOW_UP_RECEIVED`: the pair is used where R578 allows it, and counted and ignored where not; `late` tells that it came
later than half a reference period after its SYNC, as the timebase may show too. -/
def execFollowUpReceived (channel : Nat) (bytes : List Byte) (late : Bool) (s : State) : Host.Outcome State Fault Refusal :=
  .next (if !s.canUp channel || s.sys.mode == .loader || bytes.length != 8 then s else
    let s := ackRx channel 0 bytes s
    if s.followCh.isNone then s
    else if s.followCh != some channel then modClock (fun c => { c with failed := c.failed + 1 }) s
    else
    let fail := fun (s : State) => modClock (fun c => { c with failed := c.failed + 1, awaited := none }) s
    match s.clock.awaited with
    | none => fail s
    | some y =>
      if late || 1000 * s.time.now > y.capture + 500000 * s.refMs || y.channel != channel || field bytes 0 1 != y.seq || !s.masterFits y then fail s
      else usePair y (masterTime y.high (field bytes 1 7)) (modClock (fun c => { c with awaited := none }) s))

/-- The module's network time does not depend on a master now (R581). -/
def State.ntOwn (s : State) : Bool := s.clock.master' && s.followCh.isNone

/-- `NT_PAIR_TIMEOUT`: three reference periods without a usable pair (R580). -/
def execNtPairTimeout (s : State) : Host.Outcome State Fault Refusal :=
  .next (if !s.alive || s.ntOwn || s.time.now + 1000 < s.clock.lastPair + 3000 * s.refMs then s else
    match s.clock.state with
    | 1 => setNtState 0 0xEA (modClock (fun c => { c with prev := none, goodRun := 0 }) s)
    | 2 => setNtState 3 0xE9 (modClock (fun c => { c with corr := c.rate, lastPair := s.time.now }) s)
    | _ => s)

/-- `NT_HOLDOVER_EXPIRY`: `TIME.HOLDOVER` has passed in HOLDOVER (R580). -/
def execNtHoldoverExpiry (s : State) : Host.Outcome State Fault Refusal :=
  .next (if s.alive && s.clock.state == 3 && s.clock.lastPair + 1000000 * s.pn 0x1009 ≤ s.time.now + 1000 then
    setNtState 0 0xEA (modClock (fun c => { c with prev := none, goodRun := 0 }) s)
  else s)

end Sys2Proof.Machine
end

