-- ==== Sys2Proof/Machine/Federation.lean ====
section
/-! DEFINITION. Dispatch and federation: cycle, election, set-point, allocation, ledger (R587 to R602). -/
namespace Sys2Proof.Machine
open Sys2Proof

/-- Change the dispatch state. -/
def modDisp (f : DispState → DispState) (s : State) : State := { s with disp := f s.disp }

/-- `DISP.CYCLE`, ms. -/
def State.cycleMs (s : State) : Nat := s.pn 0x1106

/-- `DISP.TIER`. -/
def State.tier (s : State) : Nat := s.pn 0x1101

/-- Number of the cycle that begins now: by network time, or by the module timebase while not synchronised (R589). -/
def State.cycleNumber (s : State) : Nat :=
  let p := if s.synced then 1000000 * s.cycleMs else 1000 * s.cycleMs
  ((if s.synced then s.net else s.time.now) + p / 2) / p % 65536

/-- Cycle in which the next allocation takes effect. -/
def State.nextCycle (s : State) : Nat := (s.disp.cycle + 1) % 65536

/-- Event of dispatch, naming a module ID and a channel (R604). -/
def raiseDisp (src id ch : Nat) (s : State) : State := raise src 0 8 id (leBytes 1 ch) s

/-- The last 8 characters of the module serial before its padding (R590). -/
def serial8 : List Byte :=
  let t := Config.serial.takeWhile (· != 0)
  padTo 8 (t.drop (t.length - 8))

/-- A byte string below another, compared byte by byte (R593). -/
def bytesBelow : List Byte → List Byte → Bool
  | a :: l, b :: m => a.toNat < b.toNat || (a == b && bytesBelow l m)
  | _, _ => false

/-! ## Limits and own standing (R595 to R597) -/

/-- Whether strand `k` publishes limits. -/
def State.strandOffers (s : State) (k : Nat) : Bool :=
  let t := s.tripOf k
  s.connected k && !t.guardLatch && !t.ac0Latch && t.active == 0 && !s.disp.duplicate

/-- Published limits of strand `k`, in 100 W: discharge and charge (R597). -/
def State.offered (s : State) (k : Nat) : Nat × Nat :=
  match s.strandPoint 0x20 k with
  | some v =>
    if s.strandOffers k then
      let w := fun (ma : Nat) => min 65535 (s.pn 0x110E * ma * v.toNat / 10000000000)
      (w (s.limits k).1, w (s.limits k).2)
    else (0, 0)
  | none => (0, 0)

/-- The module's own STATUS as data. -/
def State.ownMember (s : State) : Member :=
  { id := s.moduleId,
    flags := bit (s.candidateOn s.segCh) + 2 * bit s.leadsSegment + 4 * bit s.leadsTrunk + 8 * bit s.ownSetpoint.isSome +
      16 * s.connMask,
    setpoint := s.ownSetpoint.getD 0,
    dis := (List.range 4).map (fun k => (s.offered k).1), chg := (List.range 4).map (fun k => (s.offered k).2),
    alloc := s.disp.allocW }

/-- A value in W as s16 in 100 W. -/
def hundreds (w : Int) : List Byte := s16Bytes (clampInt (-32768) 32767 (Int.tdiv w 100))

/-- The three blocks of limits and allocations that STATUS and SEG_DETAIL share. -/
def Member.blocks (m : Member) : List Byte :=
  m.dis.flatMap (leBytes 2) ++ m.chg.flatMap (leBytes 2) ++ m.alloc.flatMap hundreds

/-- The blocks read back. -/
def readBlocks (b : List Byte) (off : Nat) : List Nat × List Nat × List Int :=
  ((List.range 4).map (fun k => field b (off + 2 * k) 2), (List.range 4).map (fun k => field b (off + 8 + 2 * k) 2),
   (List.range 4).map (fun k => 100 * s16Of (field b (off + 16 + 2 * k) 2)))

/-! ## Frames (R590) -/

/-- Post a dispatch frame, padded to 64 bytes, with a deadline `share` tenths of the cycle from now. -/
def postDispatch (ch prio type share : Nat) (data : List Byte) (s : State) : State :=
  let id := s.pn 0x1107 * 2 ^ 24 + type * 2 ^ 20 + s.moduleId
  let f : CanFrame := { id := id, extended := true, fd := true, data := padTo 64 data }
  let d : TxDesc := { frame := f, kind := .dispatch, deadline := some (s.time.now + 100 * share * s.cycleMs) }
  if s.canRuns ch then (postTx ch prio d s).1 else s

/-- STATUS of the cycle. -/
def sendStatus (s : State) : State :=
  let m := s.ownMember
  postDispatch s.segCh 0 1 2 (leBytes 2 s.disp.cycle ++ leBytes 1 (modeCode s.sys.mode) ++ leBytes 1 m.flags ++
    leBytes 4 (s.pn 0x1104) ++ s32Bytes m.setpoint ++ serial8 ++ m.blocks) s

/-- Frames still waiting on a channel from the cycle before: the one that may be on the bus is cancelled, the others withdrawn
(R565). -/
def cancelDispatch (ch : Nat) (s : State) : State :=
  let at' := (s.canOf ch).offered (1000 * s.time.now)
  let flag := fun (d : TxDesc) => if d.kind = .dispatch then { d with cancel := true } else d
  let keep := fun (l : List TxDesc) => l.filter (fun d => d.kind != .dispatch)
  s.modCan ch (fun k => { k with tx := (List.range 4).map (fun p =>
    match k.tx.getD p [] with
    | [] => []
    | d :: l => if at' = some p then flag d :: keep l else keep (d :: l)) })

/-! ## Ledger (R601) -/

/-- Whether the module holds the ledger entries of a module ID. -/
def State.holdsLedger (s : State) (id : Nat) : Bool :=
  if s.tier = 1 then id == s.moduleId
  else s.leadsTrunk || (s.leadsSegment && id / 256 == s.moduleId / 256)

/-- Refresh the four entries of a module. -/
def refreshLedger (m : Member) (s : State) : State :=
  if !s.holdsLedger m.id then s else
  let entry := fun (k : Nat) => LedgerEntry.mk (m.alloc.getD k 0) (100 * (m.dis.getD k 0 : Int)) (100 * (m.chg.getD k 0 : Int))
    s.time.now
  let put := fun (l : List (Nat × LedgerEntry)) (k : Nat) => assocSet (ledgerIndex m.id + k) (entry k) l
  modDisp (fun d => { d with ledger := (List.range 4).foldl put d.ledger }) s

/-- Entries the role no longer gives the module are dropped. -/
def pruneLedger (s : State) : State :=
  modDisp (fun d => { d with ledger := d.ledger.filter (fun e =>
    let id := 256 * (e.1 / 160) + e.1 / 4 % 40
    s.holdsLedger id) }) s

/-! ## Election (R592, R593) -/

/-- A frame with or without CANDIDATE was heard from a module. -/
def hearCandidate (id : Nat) (l : List Candidate) : List Candidate :=
  if l.any (·.id == id) then l.map (fun c => if c.id = id then { c with now := true } else c)
  else l ++ [{ id := id, now := true }]

/-- The cycle's step of one candidate; none once it has left. -/
def Candidate.step (c : Candidate) : Option Candidate :=
  if c.now then
    some { c with now := false, heard := min 3 (c.heard + 1), missed := 0, inSet := c.inSet || 3 ≤ c.heard + 1 }
  else if c.inSet && c.missed + 1 < 3 then some { c with heard := 0, missed := c.missed + 1 }
  else none

/-- Lowest module ID of a set, with the module's own where it is a candidate. -/
def electLead (own : Option Nat) (l : List Candidate) : Option Nat :=
  (l.filter (·.inSet)).foldl (fun a c => some (match a with | some x => min x c.id | none => c.id)) own

/-! ## Set-point (R596) -/

/-- Lowest-ID holder of a list of (ID, set-point in kW) pairs. -/
def lowestHolder (l : List (Nat × Int)) : Option (Nat × Int) :=
  l.foldl (fun a e => match a with | some x => if e.1 < x.1 then some e else some x | none => some e) none

/-- The top lead takes its target, and the set-point in force moves toward it by at most `DISP.RAMP` · `DISP.CYCLE`. -/
def takeTarget (h : Option Int) (s : State) : State :=
  let ramp : Int := ((s.pn 0x110F * s.cycleMs : Nat) : Int)
  modDisp (fun d =>
    let target := match h with | some kw => 1000 * kw | none => d.target
    { d with target := target, holderRun := if h.isSome then 0 else d.holderRun + 1, noSetpoint := d.noSetpoint && h.isNone,
             inForce := d.inForce + clampInt (-ramp) ramp (target - d.inForce) }) s

/-! ## Allocation (R598) -/

/-- Shares of a power among limits (discharge, charge) in W, rounded toward zero to `unit`, with what is not served. -/
def allocate (unit p : Int) (l : List (Int × Int)) : List Int × Int :=
  let sd := l.foldl (fun a e => a + e.1) 0
  let sc := l.foldl (fun a e => a + e.2) 0
  if 0 ≤ p then
    (l.map (fun e => if sd = 0 then 0 else if sd ≤ p then e.1 else Int.tdiv (p * e.1) (sd * unit) * unit), max 0 (p - sd))
  else
    (l.map (fun e => if sc = 0 then 0 else if sc ≤ -p then -e.2 else Int.tdiv (p * e.2) (sc * unit) * unit), min 0 (p + sc))

/-- SATURATED follows an unserved power, with event 0xEF where it is new. -/
def setSaturated (b : Bool) (s : State) : State :=
  let was := s.disp.saturated
  let s := modDisp (fun d => { d with saturated := b }) s
  if b && !was then raiseDisp 0xEF s.moduleId s.segCh s else s

/-- Frames of at most `n` entries of `k` bytes: the allocations of SEG_ALLOC and ALLOC; `fuel` bounds their number. -/
def postAllocs (ch type n k : Nat) : Nat → List (List Byte) → State → State
  | 0, _, s => s
  | _ + 1, [], s => s
  | fuel + 1, l, s =>
    let part := l.take n
    postAllocs ch type n k fuel (l.drop n)
      (postDispatch ch 2 type (if type = 3 then 2 else 4) (leBytes 2 s.nextCycle ++ leBytes 1 part.length ++ [0] ++ part.flatten) s)

/-- Limits of a member's strands, W. -/
def Member.strands (m : Member) : List (Int × Int) :=
  (List.range 4).map (fun k => (100 * (m.dis.getD k 0 : Int), 100 * (m.chg.getD k 0 : Int)))

/-- A segment lead, or a standalone module, shares its power among the strands of the members heard and itself; the others are
told by ALLOC. The second part is what is not served. -/
def allocateSegment (p : Int) (s : State) : State × Int :=
  let ms := if s.tier = 1 then [s.ownMember] else s.ownMember :: s.disp.members
  let r := allocate 100 p (ms.flatMap (·.strands))
  let own := r.1.take 4
  let entries := (List.range ms.length).map (fun i =>
    leBytes 2 ((ms.map (·.id)).getD i 0) ++ ((r.1.drop (4 * i)).take 4).flatMap hundreds)
  let s := if s.disp.duplicate then s else modDisp (fun d => { d with pendingAlloc := some (s.nextCycle, own) }) s
  (if s.tier = 1 then s else postAllocs s.segCh 4 6 10 ms.length (entries.drop 1) s, r.2)

/-- This module's segment as its lead reports it (R590). -/
def State.ownSegment (s : State) : SegHeard :=
  let ms := s.ownMember :: s.disp.members
  let h := lowestHolder ((ms.filter (·.flags.testBit 3)).map (fun m => (m.id, m.setpoint)))
  { seg := s.pn 0x1102, dis := ms.foldl (fun a m => a + 100 * m.dis.sum) 0, chg := ms.foldl (fun a m => a + 100 * m.chg.sum) 0,
    alloc := ms.foldl (fun a m => a + m.alloc.foldl (· + ·) 0) 0, holder := (h.map (·.1)).getD 0xFFFF,
    setpoint := (h.map (·.2)).getD 0 }

/-! ## Meanings -/

/-- Allocations take effect: powers into currents, clamped to the limits in force (R599). A current the spec gives no value for,
that of a connected strand without a voltage, is open within those limits. -/
def effectAlloc (l : List Int) (s : State) : State :=
  let f := s.takeFree
  let cur := (List.range 4).map (fun k =>
    let a := l.getD k 0
    let i := if a = 0 then 0 else match s.strandPoint 0x20 k with
      | some v => if v = 0 then Config.freeInt f.1 else Int.tdiv (1000000 * a) v
      | none => Config.freeInt f.1
    if s.connected k then clampInt (-((s.limits k).2 : Int)) ((s.limits k).1 : Int) i else 0)
  modDisp (fun d => { d with allocW := (List.range 4).map (fun k => l.getD k 0), allocI := cur, staleRun := 0, allocStale := false,
                             pendingAlloc := none }) f.2

/-- `DISPATCH_CYCLE_START`: the allocation of this cycle takes effect, what was heard in the last one is forgotten, and STATUS is
sent (steps 1 and 5 of R589). -/
def execDispatchCycleStart (s : State) : Host.Outcome State Fault Refusal :=
  .next (if !s.dispatchRuns then s else
    let n := s.cycleNumber
    let s := cancelDispatch s.trunkCh (cancelDispatch s.segCh s)
    let s := modDisp (fun d => { d with cycle := n, members := [], segments := [] }) s
    let s := match s.disp.pendingAlloc with
      | some (c, l) => if c = n then effectAlloc l s
                       else modDisp (fun d => { d with pendingAlloc := none, staleRun := d.staleRun + 1 }) s
      | none => modDisp (fun d => { d with staleRun := d.staleRun + 1 }) s
    let s := refreshLedger s.ownMember s
    if 2 ≤ s.tier then sendStatus s else s)

/-- The role of this module changed by an election: event 0xEC, and the ledger follows (R594, R601); one that leads nothing serves
no power. -/
def roleChanged (was : Bool × Bool) (ch : Nat) (s : State) : State :=
  if (s.leadsSegment, s.leadsTrunk) = was then s
  else
    let s := modDisp (fun d => { d with saturated := d.saturated && s.leadsSegment }) s
    pruneLedger (raiseDisp 0xEC ((if ch = s.trunkCh then s.disp.trunkLead else s.disp.segLead).getD 0xFFFF) ch s)

/-- SEG_STATUS of this segment. -/
def sendSegStatus (s : State) : State :=
  let g := s.ownSegment
  postDispatch s.trunkCh 0 2 2 (leBytes 2 s.disp.cycle ++ leBytes 1 g.seg ++ leBytes 1 (s.disp.members.length + 1) ++
    leBytes 4 (s.pn 0x1104) ++ leBytes 4 g.dis ++ leBytes 4 g.chg ++ s32Bytes g.alloc ++ leBytes 2 g.holder ++
    leBytes 1 (bit (s.candidateOn s.trunkCh) + 2 * bit s.leadsTrunk) ++ [0] ++ s32Bytes g.setpoint ++ serial8) s

/-- SEG_DETAIL of the next two members in rising slot order round the segment. -/
def sendDetail (s : State) : State :=
  let ms := s.ownMember :: s.disp.members
  let slots := (List.range 40).map (fun i => (s.disp.detailNext + i) % 40)
  let pick := (slots.filterMap (fun x => ms.find? (fun m => m.id % 256 == x))).take 2
  let body := pick.flatMap (fun m => leBytes 1 (m.id % 256) ++ leBytes 1 (m.flags / 16) ++ [0, 0] ++ m.blocks)
  let next := match pick.getLast? with | some m => (m.id % 256 + 1) % 40 | none => 0
  postDispatch s.trunkCh 3 5 2 (leBytes 2 s.disp.cycle ++ leBytes 1 (s.pn 0x1102) ++ leBytes 1 pick.length ++ body)
    (modDisp (fun d => { d with detailNext := next }) s)

/-- `SEGMENT_ELECTION`: the segment's lead by the candidate set; a segment lead of tier 3 sends SEG_STATUS and SEG_DETAIL (step 2
of R589, R592). -/
def execSegmentElection (s : State) : Host.Outcome State Fault Refusal :=
  .next (if !s.dispatchRuns || s.tier < 2 then s else
    let was := (s.leadsSegment, s.leadsTrunk)
    let set' := s.disp.segSet.filterMap (·.step)
    let own := if s.candidateOn s.segCh then some s.moduleId else none
    let s := roleChanged was s.segCh (modDisp (fun d => { d with segSet := set', segLead := electLead own set' }) s)
    if s.tier == 3 && s.leadsSegment then sendDetail (sendSegStatus s) else s)

/-- The trunk lead's allocation to the segments heard this cycle and its own (R596, R598). -/
def allocateTrunk (s : State) : State :=
  let own := s.ownSegment
  let gs := own :: s.disp.segments.filter (fun g => g.seg != own.seg)
  let s := takeTarget ((lowestHolder ((gs.filter (·.holder != 0xFFFF)).map (fun g => (g.holder, g.setpoint)))).map (·.2)) s
  let r := allocate 1 s.disp.inForce (gs.map (fun g => ((g.dis : Int), (g.chg : Int))))
  let s := modDisp (fun d => { d with unserved := r.2, segAlloc := some (s.nextCycle, r.1.headD 0) }) s
  let entries := (List.range gs.length).map (fun i => leBytes 1 ((gs.map (·.seg)).getD i 0) ++ [0, 0, 0] ++ s32Bytes (r.1.getD i 0))
  setSaturated (r.2 != 0) (postAllocs s.trunkCh 3 7 8 gs.length (entries.drop 1) s)

/-- `TRUNK_ELECTION`: the trunk's lead; it computes and sends SEG_ALLOC (step 3 of R589). -/
def execTrunkElection (s : State) : Host.Outcome State Fault Refusal :=
  .next (if !s.dispatchRuns || s.tier != 3 then s else
    let was := (s.leadsSegment, s.leadsTrunk)
    let set' := s.disp.trunkSet.filterMap (·.step)
    let own := if s.leadsSegment && s.candidateOn s.trunkCh then some s.moduleId else none
    let s := roleChanged was s.trunkCh (modDisp (fun d => { d with trunkSet := set', trunkLead := electLead own set' }) s)
    if s.leadsTrunk then allocateTrunk s else s)

/-- `SEGMENT_ALLOCATION`: the segment lead, or a standalone module, allocates (step 4 of R589, R598). -/
def execSegmentAllocation (s : State) : Host.Outcome State Fault Refusal :=
  .next (if !s.dispatchRuns then s else
    if s.tier = 3 then
      match s.disp.segAlloc with
      | some (c, p) =>
        if s.leadsSegment && c == s.nextCycle then
          let r := allocateSegment p s
          setSaturated (r.2 != 0 || (s.leadsTrunk && s.disp.unserved != 0)) r.1
        else s
      | none => s
    else if s.topLead then
      let ms := if s.tier = 1 then [s.ownMember] else s.ownMember :: s.disp.members
      let s := takeTarget ((lowestHolder ((ms.filter (·.flags.testBit 3)).map (fun m => (m.id, m.setpoint)))).map (·.2)) s
      let r := allocateSegment s.disp.inForce s
      setSaturated (r.2 != 0) (modDisp (fun d => { d with unserved := r.2 }) r.1)
    else s)

/-- One frame more was ignored and counted. -/
def ignoreFrame (s : State) : State := modDisp (fun d => { d with ignored := d.ignored + 1 }) s

/-- A frame on a dispatch channel reaches AC1: acknowledged, and of 64 bytes. -/
def takeFrame (ch : Nat) (bytes : List Byte) (body : State → State) (s : State) : State :=
  if !s.dispatches || s.tier < 2 || !s.canUp ch || bytes.length != 64 then s else body (ackRx ch 1 bytes s)

/-- A frame that carries a tag, in its cycle and in time (R589, R590). -/
def taggedFrame (bytes : List Byte) (late : Bool) (body : State → State) (s : State) : State :=
  if field bytes 4 4 ≠ s.pn 0x1104 then modDisp (fun d => { d with tagMismatch := true }) s
  else if late || field bytes 0 2 != s.disp.cycle then ignoreFrame s
  else body s

/-- Another candidate shows this module's ID: the higher serial loses it, and the allocation and the lead it held (R593). -/
def meetTwin (serial : List Byte) (ch : Nat) (s : State) : State :=
  if s.candidateOn ch && bytesBelow serial serial8 then
    roleChanged (s.leadsSegment, s.leadsTrunk) ch
      (raiseDisp 0xED s.moduleId ch (modDisp (fun d => { d with duplicate := true, pendingAlloc := none }) s))
  else s

/-- A frame of a candidate with this module's ID: a duplicate elects it as any other (R592, R593). -/
def hearTwin (flags : Nat) (serial : List Byte) (ch : Nat) (trunk : Bool) (s : State) : State :=
  if !flags.testBit 0 then s else
  let s := meetTwin serial ch s
  if !s.disp.duplicate then s else
  modDisp (fun d => if trunk then { d with trunkSet := hearCandidate s.moduleId d.trunkSet }
                    else { d with segSet := hearCandidate s.moduleId d.segSet }) s

/-- `STATUS_RECEIVED`: a member's STATUS. -/
def execStatusReceived (src : Nat) (bytes : List Byte) (late : Bool) (s : State) : Host.Outcome State Fault Refusal :=
  .next (takeFrame s.segCh bytes (taggedFrame bytes late (fun s =>
    let flags := field bytes 3 1
    if src = s.moduleId then hearTwin flags ((bytes.drop 12).take 8) s.segCh false s
    else
      let b := readBlocks bytes 20
      let m : Member := { id := src, flags := flags, setpoint := s32Of (field bytes 8 4), dis := b.1, chg := b.2.1, alloc := b.2.2 }
      let s := modDisp (fun d => { d with
        members := d.members.filter (·.id != src) ++ [m],
        segSet := if flags.testBit 0 then hearCandidate src d.segSet else d.segSet }) s
      refreshLedger m s)) s)

/-- `SEG_STATUS_RECEIVED`: a segment lead's SEG_STATUS. -/
def execSegStatusReceived (src : Nat) (bytes : List Byte) (late : Bool) (s : State) : Host.Outcome State Fault Refusal :=
  .next (if s.tier ≠ 3 then s else takeFrame s.trunkCh bytes (taggedFrame bytes late (fun s =>
    let flags := field bytes 22 1
    if src = s.moduleId then hearTwin flags ((bytes.drop 28).take 8) s.trunkCh true s
    else
      let g : SegHeard := { seg := field bytes 2 1, dis := field bytes 8 4, chg := field bytes 12 4,
                            alloc := s32Of (field bytes 16 4), holder := field bytes 20 2, setpoint := s32Of (field bytes 24 4) }
      modDisp (fun d => { d with
        segments := d.segments.filter (·.seg != g.seg) ++ [g],
        trunkSet := if flags.testBit 0 then hearCandidate src d.trunkSet else d.trunkSet }) s)) s)

/-- An allocation frame of the lead, for the next cycle and in time; any other is ignored and counted (R589, R593). -/
def leadFrame (lead : Option Nat) (src : Nat) (bytes : List Byte) (late : Bool) (body : State → State) (s : State) : State :=
  if late || lead != some src || field bytes 0 2 != s.nextCycle then ignoreFrame s else body s

/-- `SEG_ALLOC_RECEIVED`: the trunk lead's allocation to this segment. -/
def execSegAllocReceived (src : Nat) (bytes : List Byte) (late : Bool) (s : State) : Host.Outcome State Fault Refusal :=
  .next (if s.tier ≠ 3 then s else takeFrame s.trunkCh bytes (fun s => leadFrame s.disp.trunkLead src bytes late (fun s =>
    let entries := List.range (min 7 (field bytes 2 1))
    match entries.find? (fun i => field bytes (4 + 8 * i) 1 == s.pn 0x1102) with
    | some i => modDisp (fun d => { d with segAlloc := some (s.nextCycle, s32Of (field bytes (8 + 8 * i) 4)) }) s
    | none => s) s) s)

/-- `ALLOC_RECEIVED`: the segment lead's allocation to this module; a duplicate takes none (R593). -/
def execAllocReceived (src : Nat) (bytes : List Byte) (late : Bool) (s : State) : Host.Outcome State Fault Refusal :=
  .next (takeFrame s.segCh bytes (fun s => leadFrame s.disp.segLead src bytes late (fun s =>
    let entries := List.range (min 6 (field bytes 2 1))
    match entries.find? (fun i => field bytes (4 + 10 * i) 2 == s.moduleId) with
    | some i =>
      if s.disp.duplicate then s else
      let mine := (List.range 4).map (fun k => 100 * s16Of (field bytes (6 + 10 * i + 2 * k) 2))
      modDisp (fun d => { d with pendingAlloc := some (s.nextCycle, mine) }) s
    | none => s) s) s)

/-- `SEG_DETAIL_RECEIVED`: the trunk lead takes the ledger entries of other segments from SEG_DETAIL (R601). -/
def execSegDetailReceived (src : Nat) (bytes : List Byte) (late : Bool) (s : State) : Host.Outcome State Fault Refusal :=
  .next (if s.tier ≠ 3 then s else takeFrame s.trunkCh bytes (fun s =>
    if late || field bytes 0 2 != s.disp.cycle then ignoreFrame s
    else if !s.leadsTrunk || src == s.moduleId then s
    else (List.range (min 2 (field bytes 3 1))).foldl (fun s i =>
      let off := 4 + 28 * i
      let b := readBlocks bytes (off + 4)
      refreshLedger { id := 256 * field bytes 2 1 + field bytes off 1, flags := 0, setpoint := 0, dis := b.1, chg := b.2.1,
                      alloc := b.2.2 } s) s) s)

/-- `ALLOC_STALE`: no allocation took effect for `DISP.LEASE` cycles: every current allocation is 0 (R600). -/
def execAllocStale (s : State) : Host.Outcome State Fault Refusal :=
  .next (if s.dispatches && s.pn 0x1110 ≤ s.disp.staleRun && !s.disp.allocStale then
    raiseDisp 0xEE s.moduleId s.segCh (modDisp (fun d => { d with allocI := List.replicate 4 0, allocStale := true }) s)
  else s)

/-- `NO_SETPOINT`: the top lead heard no holder for `DISP.LEASE` cycles: the target is 0 (R596). -/
def execNoSetpoint (s : State) : Host.Outcome State Fault Refusal :=
  .next (if s.dispatches && s.topLead && s.pn 0x1110 ≤ s.disp.holderRun && !s.disp.noSetpoint then
    raiseDisp 0xEE s.moduleId s.segCh (modDisp (fun d => { d with target := 0, noSetpoint := true }) s)
  else s)

end Sys2Proof.Machine
end

