-- ==== Sys2Proof/Machine/Flags.lean ====
section
/-! DEFINITION. Status words, interrupt lines and status pins, computed from the state (R104, R147, R149, R150, R156, R160). -/
namespace Sys2Proof.Machine
open Sys2Proof

/-! ## Status words -/

/-- Flag byte of `GET_STATUS` (R160). -/
def State.statusFlags (s : State) : Nat :=
  bit (!s.param.shadow.isEmpty) + 2 * bit s.param.pendingApply.isSome + 4 * bit s.param.unlocked.isSome + 8 * bit s.synced +
    16 * bit s.feed.proofFailed + 32 * bit s.feed.identical + 64 * bit (s.feed.holdInadequate || s.feed.holdMissing) +
    128 * bit s.sys.limp

/-- The 32-byte status block (R160). -/
def State.statusBlock (s : State) : List Byte :=
  leBytes 1 (modeCode s.sys.mode) ++ leBytes 1 s.sys.resetCause ++ leBytes 1 (Machine.feedCode s.feed.code) ++
  leBytes 1 s.thermal.step ++ leBytes 1 s.connMask ++ leBytes 1 s.sys.incomplete ++ leBytes 1 (s.sys.lock.causes.headD 0) ++
  leBytes 1 s.statusFlags ++ leBytes 4 s.time.opSec ++ leBytes 3 s.time.powerCycles ++ [0] ++ leBytes 8 s.time.now ++
  leBytes 4 s.silt.newest ++ leBytes 2 (min 65535 s.time.noSaddle) ++ [0, 0]

/-- The word of the two-wire STATUS code: status `ST_OK`, mode, connected strands, reset cause (R156). -/
def State.twStatus (s : State) : Nat := modeCode s.sys.mode % 16 * 256 + s.connMask % 16 * 16 + s.sys.resetCause % 16

/-- `HP_STATUS` (R149). -/
def State.hpStatus (s : State) : Nat :=
  let free := if s.sys.ready then cmdSlots - s.port.slotsUsed else 0
  modeCode s.sys.mode * 2 ^ 24 + min 32 s.port.out.slots.length * 2 ^ 16 + free * 2 ^ 8 + bit s.sys.ready * 2 ^ 7 +
    bit s.param.owner.isSome * 2 ^ 6 + bit s.param.pendingApply.isSome * 2 ^ 5

/-! ## Event lines (R45, R149, R150) -/

/-- Pending for HIRQ0_N or HIRQ1_N. -/
def RouterSource.hirq (r : RouterSource) : Bool := r.pending.getLsbD 5 || r.pending.getLsbD 6

/-- Lowest-numbered source pending for a host interrupt line. -/
def State.hirqSource (s : State) : Option Nat := s.router.findIdx? (·.hirq)

/-- `HP_EVENT`: bit 31 valid, bits 7 to 0 the source. -/
def State.hpEvent (s : State) : Nat :=
  match s.hirqSource with
  | some i => 2 ^ 31 + i
  | none => 0

/-- Line HIRQ0_N or HIRQ1_N is low; open-drain, and not driven while the port is down (R56, R57, R150). -/
def State.hirqLow (s : State) (line1 : Bool) : Bool :=
  let en := s.port.irqPend &&& s.port.irqEn
  s.portUp && ((en &&& (if line1 then s.port.irqRoute else ~~~s.port.irqRoute)) != 0 ||
    s.router.any (fun r => r.pending.getLsbD (if line1 then 6 else 5)))

/-! ## Host-port registers (R149) -/

/-- What a read of the register at a byte address returns, the effects of HP_EVENT and HP_TIME_LO aside. -/
def State.hpReg (s : State) (addr : Nat) : Nat :=
  if addr = 0x00 then 0x20480100
  else if addr = 0x04 then s.hpStatus
  else if addr = 0x08 then s.port.irqPend.toNat
  else if addr = 0x0C then s.port.irqEn.toNat
  else if addr = 0x10 then s.port.irqRoute.toNat
  else if addr = 0x14 then s.hpEvent
  else if addr = 0x18 then min 65535 s.port.crcErrors * 65536 + min 65535 s.port.framingErrors
  else if addr = 0x1C then s.port.out.drops
  else if addr = 0x20 then s.time.now % 2 ^ 32
  else if addr = 0x24 then s.port.timeHi.toNat
  else if addr = 0x28 then s.port.scratch.toNat
  else 0

/-! ## Status pins -/

/-- HBUSY_N is low (R147). -/
def State.hbusyLow (s : State) : Bool := s.portUp && s.port.busy

/-- Level of the push-pull output HBUSY_N: none while it is not driven (R56, R57, R147). -/
def State.hbusyLevel (s : State) : Option Bool := if s.portUp then some (!s.hbusyLow) else none

/-- Level of MODE_OK (R104): none while it is not driven. -/
def State.modeOk (s : State) : Option Bool :=
  match s.sys.mode with
  | .standby | .run | .service => some true
  | .start => if s.sys.ready then some false else none
  | .hibernate => none
  | _ => some false

end Sys2Proof.Machine
end

