-- ==== Sys2Proof/Machine/HostPort.lean ====
section
/-! DEFINITION. The host SPI port: packets in and out, mailbox reads, registers (R140, R142 to R150), and the router's
deliveries (R45, R46). -/
namespace Sys2Proof.Machine
open Sys2Proof

/-- A transaction begins: a mailbox read has ended with the one before it. -/
def beginSpi (s : State) : State := modPort (fun p => { p with mbxAt := none, collided := false }) s

/-! ## PACKET_WRITE (R136, R140, R143 to R145) -/

/-- A packet takes a command slot and is being stored; bytes beyond its end are counted (R143, R147). -/
def storePacket (b : List Byte) (s : State) : State :=
  let c := parseCmd .spi b
  let s := if 16 + field b 6 2 < b.length then framingError s else s
  modPort (fun p => { p with slotsUsed := p.slotsUsed + 1, storing := some c }) s

/-- Checks 1 to 4 of R140 on the bytes of one transaction. -/
def writePacket (b : List Byte) (s : State) : State :=
  let op := field b 0 2
  let tag := field b 2 2
  if b.length < 12 then irq .spi 3 s
  else if !headerOk b then
    reply .spi 0 0 stBadCrc noDetail [] (irq .spi 3 (crcError s))
  else if 4096 < field b 6 2 then reply .spi op (BitVec.ofNat 16 tag) stLengthExceeds noDetail [] (irq .spi 3 s)
  else if s.port.busy then refusePacket op tag s
  else storePacket b s

/-- `PACKET_WRITE`. -/
def execPacketWrite (bytes : List Byte) (s : State) : Host.Outcome State Fault Refusal :=
  .next (if s.portUp then writePacket bytes (beginSpi s) else s)

/-! ## PACKET_READ (R139, R146) -/

/-- The oldest out packet has been read whole: its slot goes to the oldest that waits. -/
def consumePacket (k : OutPacket) (s : State) : State :=
  let o := s.port.out
  packetGone .spi k (refillSlots .spi (modPort (fun p => { p with out :=
    { o with slots := o.slots.drop 1, noteUnread := o.noteUnread && k.opcode != opNotifyDropped } }) s))

/-- `PACKET_READ` with so many bytes clocked: zeros where nothing waits; the packet is consumed only with its last byte. What
follows its end is open. -/
def execPacketRead (clocked : Nat) (s : State) : Host.Outcome State Fault Refusal :=
  .next (if !s.portUp then s else
    let s := beginSpi s
    match s.port.out.slots with
    | [] => modPort (fun p => { p with shifted := List.replicate clocked 0 }) s
    | k :: _ =>
      let b := k.bytes
      let r := freeBytes (clocked - b.length) s
      let s := modPort (fun p => { p with shifted := b.take clocked ++ r.1 }) r.2
      if b.length ≤ clocked then consumePacket k s else s)

/-! ## Mailbox and unknown instructions (R142) -/

/-- Byte at a mailbox offset: bank 20, then bank 21; nothing lies above them, and what is read there is open. -/
def State.mailboxByte (s : State) (off i : Nat) : Byte :=
  let b := Memory.read s.banks.mem (bankAddr 20 (off + i))
  if off + i < 2 * bankBytes ∧ b ≠ Memory.blank then b else BitVec.ofNat 8 (Config.freeNat (s.free + i))

/-- `MBX_READ`. -/
def execMbxRead (offset length : Nat) (s : State) : Host.Outcome State Fault Refusal :=
  .next (if s.portUp && offset < 2 ^ 24 then
    let s := beginSpi s
    let b := (List.range length).map (fun i => s.mailboxByte offset i)
    modPort (fun p => { p with shifted := b, mbxAt := some offset }) { s with free := s.free + length }
  else s)

/-- `SPI_UNKNOWN_INSTRUCTION`: the transaction is ignored, a framing error counted, `PROTOCOL` set (R142). Bit 7 selects quad
mode of a known instruction. -/
def execSpiUnknownInstruction (code : Byte) (s : State) : Host.Outcome State Fault Refusal :=
  .next (if s.portUp && !([0x01, 0x05, 0x0A, 0x0B, 0x0C].contains (code.toNat % 128)) then framingError (beginSpi s) else s)

/-! ## Registers (R149) -/

/-- The bits of the interrupt registers that exist (R11, R149). -/
def irqMask : Word := 0x3F

/-- A write of HP_IRQ_PEND: each 1 clears its bit. -/
def clearIrq (data : Word) (s : State) : State := modPort (fun p => { p with irqPend := p.irqPend &&& ~~~data }) s

/-- A write of a register; reserved and read-only ones ignore it. -/
def writeReg (addr : Nat) (data : Word) (s : State) : State :=
  if addr = 0x08 then clearIrq data s
  else if addr = 0x0C then modPort (fun p => { p with irqEn := data &&& irqMask }) s
  else if addr = 0x10 then modPort (fun p => { p with irqRoute := data &&& irqMask }) s
  else if addr = 0x28 then modPort (fun p => { p with scratch := data }) s
  else s

/-- `REG_WRITE`. -/
def execRegWrite (addr : Nat) (data : Word) (s : State) : Host.Outcome State Fault Refusal :=
  .next (if s.portUp then writeReg addr data (beginSpi s) else s)

/-- `HP_IRQ_PEND_WRITE`. -/
def execHpIrqPendWrite (data : Word) (s : State) : Host.Outcome State Fault Refusal :=
  .next (if s.portUp then clearIrq data (beginSpi s) else s)

/-- A read shifts out the four bytes of a register's value, the least significant first (R6). -/
def shiftReg (v : Nat) (s : State) : State := modPort (fun p => { p with shifted := leBytes 4 v }) s

/-- `HP_EVENT_READ`: the lowest pending source, whose HIRQ pending bits both clear (R45, R149). -/
def execHpEventRead (s : State) : Host.Outcome State Fault Refusal :=
  .next (if s.portUp then
    let s := shiftReg s.hpEvent (beginSpi s)
    match s.hirqSource with
    | some i => { s with router := modAt s.router i (fun r => { r with pending := r.pending &&& 0x9F }) }
    | none => s
  else s)

/-- `HP_TIME_LO_READ`: the low half is read, the high half latched (R149). -/
def execHpTimeLoRead (s : State) : Host.Outcome State Fault Refusal :=
  .next (if s.portUp then
    let s := shiftReg (s.time.now % 2 ^ 32) (beginSpi s)
    modPort (fun p => { p with timeHi := BitVec.ofNat 32 (s.time.now / 2 ^ 32) }) s
  else s)

/-! ## Deliveries to the cores (R45, R46) -/

/-- Pending bit of a core. -/
def destBit : CoreDest → Nat
  | .supervisor => 0 | .ac0 => 1 | .ac1 => 2

/-- The source a core takes next: the safety and guard group first, then rising number (R46). -/
def State.nextEvent (s : State) (b : Nat) : Option Nat :=
  let has := fun (i : Nat) => match s.router[i]? with | some r => r.pending.getLsbD b | none => false
  match (List.range 32).find? (fun i => has (0xA0 + i)) with
  | some i => some (0xA0 + i)
  | none => (List.range 256).find? has

/-- `EVENT_TAKEN`: a core takes an event and clears its own pending bit. -/
def execEventTaken (dest : CoreDest) (s : State) : Host.Outcome State Fault Refusal :=
  .next (if !(match dest with | .supervisor => s.alive | .ac0 | .ac1 => s.ac0On) then s else
    match s.nextEvent (destBit dest) with
    | some i =>
      { s with router := modAt s.router i (fun r => { r with pending := r.pending &&& ~~~(BitVec.ofNat 8 (2 ^ destBit dest)) }) }
    | none => s)

end Sys2Proof.Machine
end

