-- ==== Sys2Proof/Machine/Hv.lean ====
section
/-! DEFINITION. The HV die: rounds of the multiplexer, shunt offsets, insulation monitor and contactor voltages
(chapter 08). -/
namespace Sys2Proof.Machine
open Sys2Proof

/-! ## One round (R271 to R276) -/

/-- The reversal counter of a pair after a reading in mV (R275); the flag tells that it was clamped just now. -/
def PairWatch.step (v : Int) (w : PairWatch) : PairWatch × Bool :=
  if v < -20000 then
    let n := w.below + 1
    ({ below := n, above := 0, clamped := w.clamped || decide (3 ≤ n) }, !w.clamped && decide (3 ≤ n))
  else if v = -20000 then ({ w with below := 0, above := 0 }, false)
  else
    let n := w.above + 1
    ({ below := 0, above := n, clamped := w.clamped && decide (n < 3) }, false)

/-- Readings of one round for strand `k`. -/
def roundStrand (k : Nat) (d : HvStrand) (s : State) : State :=
  let h := s.strandHv k
  let w := h.watch.step d.volt
  let cm : Int := s.pn 0x0708
  let high := decide (cm < d.pos.natAbs) || decide (cm < d.neg.natAbs)
  let quarter := decide (d.volt.natAbs ≤ 4 * d.pos.natAbs) || decide (d.volt.natAbs ≤ 4 * d.neg.natAbs)
  let s := s.modHv k (fun h => { h with
    rawV := d.volt, rawPos := d.pos, rawNeg := d.neg, rawShunt := d.shunt, watch := w.1,
    highRun := if h.connected && high then h.highRun + 1 else 0,
    quarterRun := if h.connected && quarter then h.quarterRun + 1 else 0,
    contactorHigh := h.contactorHigh && h.connected && high })
  let s := if w.2 then raise 0x60 0 1 k [] s else s
  if (s.tripOf k).active.testBit 15 && (s.strandHv k).quarterRun == 0 then causeOff k 15 s else s

/-- Reference and offset checks of a round (R274). -/
def roundReference (bad : Bool) (s : State) : State :=
  let b := if bad then s.hv.refBad + 1 else 0
  let g := if bad then 0 else s.hv.refGood + 1
  let set := !s.hv.refFault && decide (3 ≤ b)
  let s := { s with hv := { s.hv with refBad := b, refGood := g, refFault := (s.hv.refFault || set) && decide (g < 3) } }
  if set then raise0 0x62 s else s

/-- The sense pin visited in a round (R276). -/
def roundPin (mask : Nat) (s : State) : State :=
  let i := s.hv.rounds % 10
  let n := if mask.testBit i then s.hv.pinShifts.getD i 0 + 1 else 0
  let was := s.pinBad i
  let s := { s with hv := { s.hv with
    pinShifts := setAt s.hv.pinShifts i n, pinOpen := setAt s.hv.pinOpen i (if n = 0 then false else was || decide (3 ≤ n)) } }
  if !was && 3 ≤ n then (if i < 8 then raiseStrand 0x61 (i % 4) s else raise 0x61 0 9 4 [] s) else s

/-- `HV_ROUND`: readings, checks, and one step of the connection and the weld check in progress (R271 to R276, R298 to
R307). -/
def execHvRound (data : HvRound) (s : State) : Host.Outcome State Fault Refusal :=
  .next (if !s.ac0On then s else
    let s := { s with hv := { s.hv with rounds := s.hv.rounds + 1 } }
    let s := (List.range 4).foldl (fun s k => roundStrand k (data.strands.getD k {}) s) s
    let w := s.hv.busWatch.step data.bus
    let s := { s with hv := { s.hv with
      busWatch := w.1, rawBus := data.bus, busHistory := (data.bus :: s.hv.busHistory).take 21 } }
    let s := if w.2 then raise 0x60 0 9 4 [] s else s
    weldStep (connectStep (roundPin data.openPins (roundReference data.refBad s))))

/-- `SHUNT_OFFSET`: the mean of a shunt channel over 1 s with both contactors open and the last weld check passed (R279). -/
def execShuntOffset (strand : Nat) (microvolts : Int) (s : State) : Host.Outcome State Fault Refusal :=
  .next (
    let h := s.strandHv strand
    if s.ac0On && strand < 4 && s.enabled strand && h.weldPassed && !h.connected && !s.commanded (s.soPos strand) &&
        !s.commanded (s.soNeg strand) then
      if microvolts.natAbs ≤ 50 then s.modHv strand (fun h => { h with offset := microvolts, offsetBad := false })
      else
        let s := s.modHv strand (fun h => { h with offsetBad := true })
        if h.offsetBad then s else raiseStrand 0x6F strand s
    else s)

/-! ## Insulation (R286 to R295) -/

/-- The insulation fault line follows its causes; SF8 acts on its assertion (R289, R293, R294, R474). -/
def followLine (s : State) : State :=
  let line := (s.hv.isoLine || s.hv.earthFault) && s.pn 0x070D == 1
  let was := s.guard.isoLine
  let s := { s with guard := { s.guard with isoLine := line } }
  if line && !was then
    if s.gn 0x0C0A = 1 ∧ s.evaluates = true then
      (List.range 4).foldl (fun s k => if s.enabled k then tripStrand k 6 true s else s) (raise0 0xB5 s)
    else s
  else if was && !line then (List.range 4).foldl (fun s k => causeOff k 6 s) s
  else s

/-- A result becomes a point: 0 below 10 kΩ, the largest value above 10 MΩ (R288). -/
def isoPoint (ohms : Nat) : Nat := if ohms < 10000 then 0 else if 10000000 < ohms then 0x7FFFFFFF else ohms

/-- The warning after one more result, and whether it was just raised: two results below the level set it, two above 1.25 times
the level clear it (R291). -/
def IsoWatch.step (level ohms : Nat) (w : IsoWatch) : IsoWatch × Bool :=
  let b := if ohms < level then w.below + 1 else 0
  let g := if 5 * level < 4 * ohms then w.above + 1 else 0
  let set := !w.on && decide (2 ≤ b)
  ({ below := b, above := g, on := (w.on || set) && decide (g < 2) }, set)

/-- The warning level of R291 for the system measured; the record of a strand's warning names it (R312). -/
def isoWarning (which ohms : Nat) (s : State) : State :=
  let w := (s.hv.isoWarns.getD which {}).step (s.pn 0x070E) ohms
  let s := { s with hv := { s.hv with isoWarns := setAt s.hv.isoWarns which w.1 } }
  if w.2 then (if which = 0 then raise0 0x65 s else raiseStrand 0x65 (which - 1) s) else s

/-- A result for the bus system (R289). -/
def isoBus (ohms : Nat) (s : State) : State :=
  let rf := s.pn 0x0C09
  let high := if 5 * rf < 4 * ohms then s.hv.isoHighRun + 1 else 0
  let s := { s with hv := { s.hv with isoHighRun := high } }
  if ohms < rf then
    if s.hv.isoLine then s
    else followLine (raise 0x66 0 0 0 [] { s with hv := { s.hv with isoLine := true } })
  else if s.hv.isoLine ∧ 2 ≤ high then followLine (raise 0x67 0 0 0 [] { s with hv := { s.hv with isoLine := false } })
  else s

/-- A result for a disconnected strand (R290). -/
def isoStrand (k ohms : Nat) (s : State) : State :=
  let rf := s.pn 0x0C09
  if ohms < rf then
    let was := (s.strandHv k).isoRefused
    let s := s.modHv k (fun h => { h with isoRefused := true })
    if was then s else raiseStrand 0x66 k s
  else if 5 * rf < 4 * ohms then s.modHv k (fun h => { h with isoRefused := false })
  else s

/-- The system the monitor's half-period is for: the bus while any strand is connected, else the enabled strands in turn, four
half-periods each (R286). -/
def State.isoTurn (s : State) : Option Nat :=
  if s.connMask != 0 then some 0
  else if s.hv.isoRef != 0 && s.enabled (s.hv.isoRef - 1) && s.hv.isoTurns < 4 then some s.hv.isoRef
  else (((List.range 4).map (fun i => (s.hv.isoRef + i) % 4)).find? s.enabled).map (1 + ·)

/-- Results kept under the present configuration: of the bus while a strand is connected, of the strands otherwise (R286). -/
def State.isoKept (s : State) : List (Option Nat) :=
  (List.range 5).map (fun i => if (i == 0) == (s.connMask != 0) then s.hv.iso.getD i none else none)

/-- One half-period's result for a system (R286 to R291, R307). -/
def isoResult (which ohms : Nat) (s : State) : State :=
  let r := some (isoPoint ohms)
  let s := { s with hv := { s.hv with
    iso := setAt s.isoKept which r,
    strands := s.hv.strands.zipIdx.map (fun e =>
      if (if which = 0 then e.1.connected else e.2 + 1 == which) then { e.1 with isoLast := r } else e.1) } }
  let s := isoWarning which ohms s
  if which = 0 then isoBus ohms s else isoStrand (which - 1) ohms s

/-- `INSULATION_RESULT`: one half-period of the monitor: system 0 the bus, 1 + k strand k. The first half-period after a
change of reference, and one with a weld check's bias, gives no result (R286 to R291, R295). -/
def execInsulationResult (which ohms : Nat) (s : State) : Host.Outcome State Fault Refusal :=
  .next (
    if !s.ac0On || s.pn 0x070D != 1 || s.hv.earthFault || s.isoTurn != some which then s
    else
      let moved := s.hv.isoRef != which
      let spent := if moved then 1 else s.hv.isoTurns % 4 + 1
      let drop := moved || s.hv.isoSkip
      let s := { s with hv := { s.hv with isoRef := which, isoTurns := spent, isoSkip := s.biased, iso := s.isoKept } }
      if drop then s else isoResult which ohms s)

/-- `EARTH_CHECK`: the resistance through the earth structure, every 10 s (R293, R294). -/
def execEarthCheck (good : Bool) (s : State) : Host.Outcome State Fault Refusal :=
  .next (if !s.ac0On || s.pn 0x070D == 0 then s else
    let b := if good then 0 else s.hv.earthBad + 1
    let g := if good then s.hv.earthGood + 1 else 0
    let set := !s.hv.earthFault && decide (2 ≤ b)
    let s := { s with hv := { s.hv with earthBad := b, earthGood := g, earthFault := (s.hv.earthFault || set) && decide (g < 2) } }
    let s := if set then raise0 0x68 { s with hv := { s.hv with iso := List.replicate 5 none } } else s
    followLine s)

/-! ## Contactor voltages (R310) -/

/-- `CONTACTOR_VOLTAGE_HIGH`: above `STRING.CLOSED_MAX` for 1 s event 0x6E; at a quarter of the strand voltage for 100 ms a
protection trip. Rounds are 500 µs. -/
def execContactorVoltageHigh (strand : Nat) (s : State) : Host.Outcome State Fault Refusal :=
  .next (
    let h := s.strandHv strand
    if !s.ac0On || 4 ≤ strand || !h.connected then s
    else
      let s := if 2000 ≤ h.highRun ∧ h.contactorHigh = false then
          raiseStrand 0x6E strand (s.modHv strand (fun h => { h with contactorHigh := true })) else s
      if 200 ≤ h.quarterRun ∧ s.evaluates = true then judgeTrip strand 15 false true (fun s => s) s else s)

end Sys2Proof.Machine
end

