-- ==== Sys2Proof/Machine/Intake.lean ====
section
/-! DEFINITION. Intake of a completed snapshot by AC0 (R242 to R260, R273, R278, R350), and the responses of COMMAND frames
(R201, R217). -/
namespace Sys2Proof.Machine
open Sys2Proof

/-! ## Snapshot intake -/

/-- Linear interpolation, the instant in parts of the spacing after the older sample (R273). -/
def interpolate (older newer : Int) (after parts : Nat) : Int :=
  roundRat (((older : Rat) * ((parts - after : Nat) : Rat) + (newer : Rat) * (after : Rat)) / (parts : Rat))

/-- A pair's value, or the shunt's, at the sampling instant: interpolated at bypass and corners 4 and 5, through the replica of the
corner filter at corners 1 to 3 (R273, R278). -/
def hvAt (corner : Nat) (d : IntakeData) (f : HvSample → Int) (after parts : Nat) : Int :=
  if 1 ≤ corner ∧ corner ≤ 3 then f d.filtered else interpolate (f d.older) (f d.newer) after parts

/-- The HV quantities of the snapshot's sampling instant, under its parameters (R35, R273 to R278). -/
def takeHv (k : Nat) (h : SnapHeader) (d : IntakeData) (s : State) : State :=
  let v := s.strandHv k
  let pair := fun (f : HvSample → Int) => hvAt h.corner d f d.after 500
  let shunt := hvAt h.corner d (·.shunt) d.shuntAfter 125
  let cur : Int := (shunt - v.offset) * 1000000 / (h.set.nat (0x0710 + k) : Int)
  let bus := s.pair 8 9 (pair (·.bus))
  let s := s.modHv k (fun x => { x with
    voltage := s.pair k (4 + k) (pair (·.volt)), uPos := s.pair k 8 (pair (·.pos)), uNeg := s.pair (4 + k) 9 (pair (·.neg)),
    current := some cur })
  { s with hv := { s.hv with bus := bus } }

/-- Snapshots waiting for the array, over all strands: the entries of Q60. -/
def EstState.waiting (e : EstState) : Nat := e.strands.foldl (fun n x => n + x.toInfer.length) 0

/-- The snapshot goes on to the estimator through Q60: to the inference, and where it starts a model update to the filter, unless
the previous update is not complete (R347, R350). DESIGN CHOICE: a snapshot that a full Q60 refuses is not handed over, with event
0x09; R43 lets AC0 keep it, and the spec does not say for how long. -/
def feedEstimator (k : Nat) (h : SnapHeader) (s : State) : State :=
  if s.sys.mode = .hollow ∨ s.sys.mode = .loader then s else
  let m := s.measOf k
  let o : HandOff := { head := h, cells := m.cells, temps := m.temps, current := (s.strandHv k).current, posted := s.time.now }
  if s.qDepth 60 ≤ s.est.waiting then raise 0x09 0 0 0 (leBytes 1 60) s else
  let s := s.modEst k (fun e => { e with toInfer := e.toInfer ++ [o] })
  if !h.model then s
  else if (s.estOf k).updating.isSome then disqualifyStrand k 8 (raiseStrand 0x81 k s)
  else s.modEst k (fun e => { e with updating := some o, updateIk := none, updateView := {} })

/-- `SNAPSHOT_INTAKE`: AC0 takes the oldest completed buffer of a ring and releases it (R29, R50, R244). -/
def execSnapshotIntake (ring : Nat) (data : IntakeData) (s : State) : Host.Outcome State Fault Refusal :=
  .next (match (s.ring ring).bufs with
  | [] => s
  | buf :: rest =>
    if !s.ac0Starts then s else
    let k := ring
    let h := buf.head
    let s := s.modRing k (fun g => { g with bufs := rest })
    let s := followLanes k buf (satFaults k buf s)
    let s := takeHv k h data (measureCells k buf s)
    let s := judgeLimits k h.sampled (protectCells k h (judgeSum k h.set s))
    feedEstimator k h (owtStep k h (judgeConverters k buf s)))

/-! ## Responses to COMMAND entries -/

/-- A response that ends an entry: done, unknown code or refused; a CRC failure or busy leads to a repeat. That of a diagnostic
code is the EV-16's own and is not interpreted (R201, R724). -/
def replyEnds (code : Nat) (p : RingReply) : Bool :=
  (0x50 ≤ code && code ≤ 0x5F) || p.status == 0 || p.status == 2 || p.status == 3

/-- The response to an entry among those that came back. -/
def findReply (e : RingEntry) (l : List RingReply) : Option RingReply :=
  l.find? (fun p => p.addr == e.addr && p.tag == e.tag && p.code == (e.code ||| 0x80) && replyEnds e.code p)

/-- A response entry's bytes (R201). -/
def replyBytes (p : RingReply) : List Byte :=
  let b := leBytes 1 p.addr ++ leBytes 1 p.code ++ leBytes 2 p.tag ++ leBytes 1 p.status ++ padTo 7 p.result
  b ++ leBytes 4 (crc32 b)

/-- What one answered entry does. -/
def entryAnswered (r : Nat) (purpose : Purpose) (e : RingEntry) (p : RingReply) (s : State) : State :=
  match purpose with
  | .config | .reAddress => if p.status = 0 then s.modSat r e.addr (fun x => x.took e) else s
  | .plan | .stop | .survey => transferResponse r e p s
  | .satCommand by' => complete by' opSatCommand stOk noDetail (replyBytes p) s
  | .wakeCause =>
    let cause := field p.result 0 1
    if p.status ≠ 0 ∨ cause = 0 then s
    else if cause = 1 then raiseSat 0x50 r e.addr s
    else note 0x50 cause 3 (32 * r + e.addr) [] s
  | .inject _ _ | .imageSwitch => s

/-- What an entry does whose retries are exhausted (R217, R341): a silt record and a failed result. -/
def entryFailed (r : Nat) (purpose : Purpose) (e : RingEntry) (s : State) : State :=
  let s := note (ringSource r 6) 1 3 (32 * r + e.addr) [] s
  match purpose with
  | .plan | .stop | .survey => transferFailed r e.addr s
  | .satCommand by' => complete by' opSatCommand stInternalFault noDetail [] s
  | _ => s

/-- The next satellite above `n` that has got an address and waits for its configuration (R208). -/
def RingState.unconfigured (g : RingState) (n : Nat) : Option Nat :=
  (List.range 32).find? (fun i => n < i && (g.sat i).usable && !(g.sat i).confirmed)

/-- A descriptor has no entries left: what waited for it goes on. -/
def purposeDone (r : Nat) (purpose : Purpose) (failed : List Nat) (s : State) : State :=
  match purpose with
  | .config => updateIncomplete r s
  | .reAddress =>
    let s := s.modRing r (fun g => { g with reAddr := g.reAddr.bind (fun e => (g.unconfigured e.1).map (fun n => (n, 2))) })
    updateIncomplete r (writeAdmitted r s)
  | .inject _ _ | .survey => phaseArmed r failed s
  | _ => s

/-- An entry that no longer goes out again: an XFER_START of a plan or a survey under a stop condition (R324). -/
def State.halted (s : State) (r : Nat) (purpose : Purpose) (e : RingEntry) : Bool :=
  e.code == 0x10 && (match purpose with | .plan => (s.balOf r).stopped | .survey => s.surveyBarred r | _ => false)

/-- The direct entries of an enumeration or a search go on: those to be sent again, then the rest; with none left the phase ends
(step 6 of R206 and of R221). -/
def directNext (r : Nat) (again : List RingEntry) (s : State) : State :=
  let s := (ringGap r s).modRing r (fun g => ({ g with direct := again ++ g.direct } : RingState).sendDirect)
  if (s.ring r).inFlight.isSome then s
  else match (s.ring r).phase with
    | .configuring => finishEnum r s
    | .latencies => endSearch r s
    | _ => s

/-- `COMMAND_RESPONSE`: a COMMAND frame comes back with its response entries; entries without the expected response are sent
again in the next window, three times (R202, R213, R217). -/
def execCommandResponse (ring : Nat) (entries : List RingReply) (s : State) : Host.Outcome State Fault Refusal :=
  .next (match (s.ring ring).inFlight with
  | none => s
  | some d =>
    if !s.ac0On then s else
    let r := ring
    let s := s.modRing r (fun g => { g with inFlight := none })
    let unanswered := d.entries.filter (fun e => (findReply e entries).isNone)
    let again := (unanswered.filter (fun e => e.tries < 3 && !s.halted r d.purpose e)).map (fun e => { e with tries := e.tries + 1 })
    let lost := unanswered.filter (fun e => 3 ≤ e.tries)
    let s := d.entries.foldl (fun s e => match findReply e entries with
      | some p => entryAnswered r d.purpose e p s
      | none => s) s
    let s := lost.foldl (fun s e => entryFailed r d.purpose e s) s
    let refused := (d.entries.filter (fun e => match findReply e entries with | some p => p.status != 0 | none => false)).map (·.addr)
    let bad := refused ++ lost.map (·.addr)
    let s := match d.purpose with
      | .inject _ _ | .survey => s.modMeas r (fun m => { m with owt := m.owt.map (fun t => { t with failed := t.failed ++ bad }) })
      | _ => s
    if (s.ring r).phase == .configuring || (s.ring r).phase == .latencies then directNext r again s
    else if again.isEmpty then
      sendNext r (if (s.ring r).queue.any (fun q => q.purpose == d.purpose) then s else purposeDone r d.purpose [] s)
    else s.modRing r (fun g => { g with queue := { d with entries := again } :: g.queue }))

end Sys2Proof.Machine
end

