-- ==== Sys2Proof/Machine/Operands.lean ====
section
/-! DEFINITION. Operand forms of command payloads: strand masks, point lists, parameter records (R161, R163, R168, R170). -/
namespace Sys2Proof.Machine
open Sys2Proof

/-! ## Strand masks -/

/-- The mask of CONNECT_STRANDS and DISCONNECT_STRANDS: byte 0, bits 0 to 3; none where a reserved field is nonzero, the mask is 0,
or it names a strand that is not enabled (R12, R161). -/
def State.strandMask (s : State) (pl : List Byte) : Option Nat :=
  let m := Sys2Proof.field pl 0 1
  if zeros (pl.drop 1) && m != 0 && m < 16 && (List.range 4).all (fun k => !m.testBit k || s.enabled k) then some m else none

/-! ## Lists of point IDs -/

/-- `n` IDs of 4 bytes from an offset. -/
def idList (pl : List Byte) (off n : Nat) : List Nat := (List.range n).map (fun i => field pl (off + 4 * i) 4)

/-- Why a point ID in a list is refused: reserved bits, or an unknown class or instance (R163, R165). -/
def pointFault (id : Nat) : Option Nat :=
  if 2 ^ 24 ≤ id then some stOutOfRange else if pointKnown id then none else some stBadParamId

/-- The first entry of a list that is refused: its index and status (R135). -/
def firstFault {α : Type} (f : α → Option Nat) : Nat → List α → Option (Nat × Nat)
  | _, [] => none
  | i, a :: l => match f a with
    | some st => some (i, st)
    | none => firstFault f (i + 1) l

/-! ## Parameter records -/

/-- One record as it arrives; `whole` tells that its value and its padding are there, and the padding zero. -/
structure RawRecord where
  id : Nat
  ty : Nat
  size : Nat
  value : List Byte
  whole : Bool
  deriving DecidableEq, Repr

/-- The records of a payload, each padded to a multiple of 4 (R168); `fuel` bounds their number. -/
def parseRecords : Nat → List Byte → List RawRecord
  | 0, _ => []
  | fuel + 1, b =>
    if b.isEmpty then [] else
    let size := field b 3 1
    let len := 4 + (size + 3) / 4 * 4
    let whole := 4 ≤ b.length && len ≤ b.length && zeros ((b.take len).drop (4 + size))
    let r : RawRecord := { id := field b 0 2, ty := field b 2 1, size := size, value := (b.drop 4).take size, whole := whole }
    r :: (if b.length < len then [] else parseRecords fuel (b.drop len))

/-- The value a record spells: numbers in 32 bits, s32 sign-extended. -/
def RawRecord.val (r : RawRecord) : PVal :=
  if r.ty = 7 then .str r.value else if r.ty = 4 then .num (s32Of (leNat r.value)) else .num (leNat r.value : Int)

/-- Why a record is refused (R170): an unknown ID, or a wrong type, size or value. -/
def recordFault (r : RawRecord) : Option Nat :=
  match paramSpec r.id with
  | none => some stBadParamId
  | some p =>
    if !r.whole || r.ty != p.ty.code || (p.ty != .str && r.size != 4) || !valueOk p r.val then some stOutOfRange else none

/-- Records whose parameters take effect at once (R13). -/
def RawRecord.immediate (r : RawRecord) : Bool := match paramSpec r.id with | some p => p.apply == .immediate | none => false

/-- Records that would enter the shadow set. -/
def RawRecord.staged (r : RawRecord) : Bool := match paramSpec r.id with | some p => p.apply != .immediate | none => false

end Sys2Proof.Machine
end

