-- ==== Sys2Proof/Machine/Requests.lean ====
section
/-! DEFINITION. Identity, status, modes, strands, resets and points on request (R105, R107, R123, R129, R131, R159 to R167,
R297, R304). -/
namespace Sys2Proof.Machine
open Sys2Proof

/-! ## Identity, status, echo -/

/-- The 88-byte identity block (R131). -/
def State.identity (s : State) : List Byte :=
  [1, Config.grade, 0, 0] ++ padTo 16 Config.serial ++ Config.dateCode ++
    (List.range 4).flatMap (fun i => leBytes 4 (s.ident.getD i 0)) ++ (List.range 4).flatMap Config.dieRecord

/-- `GET_IDENTITY`. -/
def serveIdentity (p : Port) (tag : Half) (pl : List Byte) (s : State) : State :=
  serve 0x0001 modesAll (pl.length == 0) p tag (fun s => reply p 0x0001 tag stOk noDetail s.identity s) s

/-- `GET_STATUS`. -/
def serveStatus (p : Port) (tag : Half) (pl : List Byte) (s : State) : State :=
  serve 0x0002 modesAll (pl.length == 0) p tag (fun s => reply p 0x0002 tag stOk noDetail s.statusBlock s) s

/-- `ECHO`. -/
def serveEcho (p : Port) (tag : Half) (pl : List Byte) (s : State) : State :=
  serve 0x0003 modesAll (pl.length ≤ 4092) p tag (fun s => reply p 0x0003 tag stOk noDetail pl s) s

/-! ## Mode requests (R104, R105, R107) -/

/-- Mode a requestable code names (R104). -/
def modeOfCode (n : Nat) : Option Mode :=
  if n = 2 then some .standby else if n = 3 then some .run else if n = 4 then some .service
  else if n = 8 then some .hibernate else none

/-- A protection fault of an enabled strand is active. -/
def State.faultActive (s : State) : Bool :=
  (List.range 4).any (fun k => s.enabled k &&
    ((s.tripOf k).guardLatch || (s.tripOf k).ac0Latch || (s.tripOf k).active != 0))

/-- The transition table of R107 for a request. -/
def State.modeStatus (s : State) (t : Mode) : Nat :=
  match s.sys.mode, t with
  | .standby, .run => if s.faultActive then stNotPermitted else stAccepted
  | .standby, .standby | .standby, .service | .standby, .hibernate | .lockout, .hibernate | .run, .run | .run, .standby
  | .service, .service | .service, .standby => stAccepted
  | _, _ => stWrongMode

/-- An allowed request is accepted and waits for its saddle point; RUN to STANDBY opens every closed strand first (R107). -/
def acceptMode (t : Mode) (by' : Requester) (s : State) : State :=
  let off := s.sys.mode == .run && t == .standby
  let byHost := match by' with | .packet _ _ => t == .run | .twoWire => false
  let s := { s with sys := { s.sys with pendingMode := s.sys.pendingMode ++ [{ target := t, by' := by', disconnecting := off }],
                                        autoRunBarred := s.sys.autoRunBarred && !byHost } }
  if off then openStrands s.connMask (cancelConnect s) else s

/-- `REQUEST_MODE`. -/
def serveRequestMode (p : Port) (tag : Half) (pl : List Byte) (s : State) : State :=
  serve opRequestMode modesFive (pl.length == 4) p tag (fun s =>
    match zeros (pl.drop 1), modeOfCode (field pl 0 1) with
    | true, some t =>
      let st := s.modeStatus t
      let s := reply p opRequestMode tag st noDetail [] s
      if st = stAccepted then acceptMode t (.packet p tag) s else s
    | _, _ => reply p opRequestMode tag stOutOfRange noDetail [] s) s

/-! ## Strands (R161, R297, R304) -/

/-- A `CONNECT_STRANDS` of a mask is refused by the module's state (R161, R297, R495). -/
def State.connectRefused (s : State) (m : Nat) : Bool :=
  s.param.defaultsMark || (s.connMask == 0 && !m.testBit (s.pn 0x0701)) || (List.range 4).any (fun k => m.testBit k && s.strandBarred k)

/-- `CONNECT_STRANDS`. -/
def serveConnect (p : Port) (tag : Half) (pl : List Byte) (s : State) : State :=
  serve opConnect [.run] (pl.length == 4) p tag (fun s =>
    match s.strandMask pl with
    | none => reply p opConnect tag stOutOfRange noDetail [] s
    | some m =>
      if s.connectRefused m then reply p opConnect tag stNotPermitted noDetail [] s
      else if s.hv.connect.isSome || !s.hv.welds.isEmpty then reply p opConnect tag stBusy noDetail [] s
      else startConnect m (some (.packet p tag)) (reply p opConnect tag stAccepted noDetail [] s)) s

/-- Strands of a mask that a disconnection has something to do for: closed or being connected, or with a stored verdict. -/
def State.toDisconnect (s : State) (m : Nat) : List Nat :=
  (List.range 4).filter (fun k => m.testBit k && (s.connected k || (s.strandHv k).weld != 0 ||
    (match s.hv.connect with | some q => q.strand == k | none => false)))

/-- The strands of a mask open and are checked; the requester is told when the checks have ended (R161, R303, R304). The second
part is the status. -/
def disconnect (m : Nat) (by' : Requester) (s : State) : State × Nat :=
  let l := s.toDisconnect m
  if l.isEmpty then (s, stOk)
  else
    let job : DisconnectJob := { by' := by', strands := l, results := (List.range 4).map (fun k => if m.testBit k then 0 else 1) }
    let s := { s with hv := { s.hv with disconnects := s.hv.disconnects ++ [job] } }
    (l.foldl (fun s k => enqueueWeld k (openStrand k s)) s, stAccepted)

/-- `DISCONNECT_STRANDS`. -/
def serveDisconnect (p : Port) (tag : Half) (pl : List Byte) (s : State) : State :=
  serve opDisconnect modesFive (pl.length == 4) p tag (fun s =>
    match s.strandMask pl with
    | none => reply p opDisconnect tag stOutOfRange noDetail [] s
    | some m =>
      let st := if (s.toDisconnect m).isEmpty then stOk else stAccepted
      (disconnect m (.packet p tag) (reply p opDisconnect tag st noDetail [] s)).1) s

/-! ## Lockout reset and module reset (R123, R128, R129, R162) -/

/-- `LOCKOUT_RESET_ARM` (R129): a refusal carries the source of the first fault present as its result byte. A press that began
before the reply stays outside the window (R128). -/
def serveLockArm (p : Port) (tag : Half) (pl : List Byte) (s : State) : State :=
  serve opLockArm [.lockout] (pl.length == 0) p tag (fun s =>
    match s.faultsPresent with
    | src :: _ => reply p opLockArm tag stNotPermitted noDetail (leBytes 1 src) s
    | [] =>
      let s := reply p opLockArm tag stOk noDetail [] s
      if s.gn 0x0C02 = 1 then
        { s with sys := { s.sys with lock := { s.sys.lock with armed := true } },
                 pins := { s.pins with lockRst := s.pins.lockRst.map (fun _ => false) } }
      else s) s

/-- Opcode of `RESET_MODULE`. -/
def opResetModule : Nat := 0x0130

/-- `RESET_MODULE`: the reply first; the reset follows (R162). -/
def serveResetModule (p : Port) (tag : Half) (pl : List Byte) (s : State) : State :=
  serve opResetModule modesAll (pl.length == 0) p tag (fun s =>
    let s := reply p opResetModule tag stOk noDetail [] s
    s.awaitRead 0x04 p opResetModule tag true) s

/-- A reset that waits may act: its packet has been read, or 20 ms have passed since its posting (R162, R680). -/
def PendingReset.ripe (r : PendingReset) (now : Nat) : Bool := r.read || r.stamp + 20000 ≤ now

/-- `MODULE_RESET_AFTER_REPLY`: the reply has been read, or 20 ms have passed (R162, R680). -/
def execModuleResetAfterReply (s : State) : Host.Outcome State Fault Refusal :=
  .next (match s.sys.pendingReset with
  | some r => if s.alive && r.ripe s.time.now then resetWithJournal r.code s else s
  | none => s)

/-! ## Points (R163 to R167) -/

/-- Values of a list of points, 4 bytes each (R17). -/
def State.pointBytes (s : State) (ids : List Nat) : List Byte := ids.flatMap (fun id => leBytes 4 (pointWord (s.readPoint id)))

/-- Opcode of `READ_POINTS`. -/
def opReadPoints : Nat := 0x0201

/-- `READ_POINTS` (R163). -/
def serveReadPoints (p : Port) (tag : Half) (pl : List Byte) (s : State) : State :=
  let n := field pl 0 2
  serve opReadPoints modesAll (8 ≤ pl.length && pl.length ≤ 4084 && pl.length == 4 + 4 * n) p tag (fun s =>
    let ids := idList pl 4 n
    if field pl 2 2 ≠ 0 then reply p opReadPoints tag stOutOfRange noDetail [] s
    else match firstFault pointFault 0 ids with
      | some (i, st) => reply p opReadPoints tag st i [] s
      | none => reply p opReadPoints tag stOk noDetail (leBytes 8 s.time.now ++ s.pointBytes ids) s) s

/-- Opcode of `SUBSCRIBE_POINTS`. -/
def opSubscribe : Nat := 0x0202

/-- `SUBSCRIBE_POINTS` (R167, R182). -/
def serveSubscribe (p : Port) (tag : Half) (pl : List Byte) (s : State) : State :=
  let n := field pl 4 2
  serve opSubscribe modesAll (8 ≤ pl.length && n ≤ 256 && pl.length == 8 + 4 * n) p tag (fun s =>
    let num := field pl 0 1
    let period := field pl 2 2
    let ids := idList pl 8 n
    if 15 < num ∨ field pl 1 1 ≠ 0 ∨ field pl 6 2 ≠ 0 ∨ (period ≠ 0 ∧ (period < 10 ∨ 60000 < period ∨ n = 0)) then
      reply p opSubscribe tag stOutOfRange noDetail [] s
    else match firstFault pointFault 0 ids with
      | some (i, st) => reply p opSubscribe tag st i [] s
      | none =>
        let o := s.outOf p
        let rest := o.subs.filter (fun b => b.num != num)
        let subs := if period = 0 then rest else rest ++ [{ num := num, period := period, points := ids }]
        reply p opSubscribe tag stOk noDetail [] (s.setOut p { o with subs := subs })) s

/-- The running frame began at a whole multiple of a period in ms. -/
def TimeState.multiple (t : TimeState) (period : Nat) : Bool := (t.now - t.now % 1000) % (1000 * period) == 0

/-- Subscriptions a condition names are due where the running frame began at a multiple of their period (R167). -/
def markSubs (p : Port) (f : Subscription → Bool) (s : State) : State :=
  let o := s.outOf p
  s.setOut p { o with subs := o.subs.map (fun b => if f b && s.time.multiple b.period then { b with due := true } else b) }

/-- `POINT_DATA`: the instant just passed is a whole multiple of the period; the next saddle point posts (R167). -/
def execPointData (port : Port) (num : Nat) (s : State) : Host.Outcome State Fault Refusal :=
  .next (if s.alive then markSubs port (fun b => b.num == num) s else s)

/-- Post the `POINT_DATA` of every subscription of a transport that is due (R137, R167). DESIGN CHOICE: where several are due at
one saddle point, those of the SPI transport come first, and within a transport the one subscribed earlier; the spec gives no
order. -/
def postDue (p : Port) (s : State) : State :=
  let o := s.outOf p
  let due := o.subs.filter (·.due)
  due.foldl (fun s b =>
    postDroppable p
      { opcode := 0xFF01, tag := b.num, isReply := false,
        payload := answer stOk noDetail (leBytes 8 s.time.now ++ leBytes 8 (s.netField s.time.now) ++ s.pointBytes b.points) } s)
    (s.setOut p { o with subs := o.subs.map (fun b => { b with due := false }) })

/-- Opcode of `READ_SNAPSHOT`. -/
def opReadSnapshot : Nat := 0x0203

/-- Instances of a class of `READ_SNAPSHOT` per strand (R166). -/
def snapRange (cls : Nat) : Nat :=
  if cls = 0x12 then 256
  else if [0x10, 0x11, 0x13, 0x30, 0x32, 0x33, 0x34].contains cls then 512 else 0

/-- Sequence, network time and instant of the snapshot, or of the model update for the estimate classes (R166). -/
def State.snapHead (s : State) (k cls : Nat) : Option (Nat × Nat × Nat) :=
  if cls < 0x30 then (s.measOf k).newest.map (fun h => (h.seq, h.net, h.at')) else (s.estOf k).lastHead

/-- `READ_SNAPSHOT` (R166); before the first snapshot its header fields are open. -/
def serveReadSnapshot (p : Port) (tag : Half) (pl : List Byte) (s : State) : State :=
  serve opReadSnapshot modesAll (pl.length == 8) p tag (fun s =>
    let k := field pl 0 1
    let cls := field pl 1 1
    let first := field pl 2 2
    let n := field pl 4 2
    let range := snapRange cls
    if 3 < k ∨ range = 0 ∨ n = 0 ∨ 512 < n ∨ range < first + n ∨ field pl 6 2 ≠ 0 then
      reply p opReadSnapshot tag stOutOfRange noDetail [] s
    else if !s.enabled k then reply p opReadSnapshot tag stNotPermitted noDetail [] s
    else
      let ids := (List.range n).map (fun i => 65536 * cls + range * k + first + i)
      let vals := leBytes 2 n ++ [0, 0] ++ s.pointBytes ids
      match s.snapHead k cls with
      | some (q, net, at') => reply p opReadSnapshot tag stOk noDetail (leBytes 4 q ++ leBytes 8 net ++ leBytes 8 at' ++ vals) s
      | none =>
        let f := Config.freeNat
        reply p opReadSnapshot tag stOk noDetail
          (leBytes 4 (f s.free) ++ leBytes 8 (f (s.free + 1)) ++ leBytes 8 (f (s.free + 2)) ++ vals)
          { s with free := s.free + 3 }) s

/-! ## Meanings -/

/-- `GET_IDENTITY`. -/
def execGetIdentity (port : Port) (tag : Half) (payload : List Byte) (s : State) : Host.Outcome State Fault Refusal :=
  .next (hostRow 0x0001 serveIdentity port tag payload s)

/-- `GET_STATUS`. -/
def execGetStatus (port : Port) (tag : Half) (payload : List Byte) (s : State) : Host.Outcome State Fault Refusal :=
  .next (hostRow 0x0002 serveStatus port tag payload s)

/-- `ECHO`. -/
def execEcho (port : Port) (tag : Half) (payload : List Byte) (s : State) : Host.Outcome State Fault Refusal :=
  .next (hostRow 0x0003 serveEcho port tag payload s)

/-- `REQUEST_MODE`. -/
def execRequestMode (port : Port) (tag : Half) (payload : List Byte) (s : State) : Host.Outcome State Fault Refusal :=
  .next (hostRow 0x0101 serveRequestMode port tag payload s)

/-- `CONNECT_STRANDS`. -/
def execConnectStrands (port : Port) (tag : Half) (payload : List Byte) (s : State) : Host.Outcome State Fault Refusal :=
  .next (hostRow 0x0110 serveConnect port tag payload s)

/-- `DISCONNECT_STRANDS`. -/
def execDisconnectStrands (port : Port) (tag : Half) (payload : List Byte) (s : State) : Host.Outcome State Fault Refusal :=
  .next (hostRow 0x0111 serveDisconnect port tag payload s)

/-- `LOCKOUT_RESET_ARM`. -/
def execLockoutResetArm (port : Port) (tag : Half) (payload : List Byte) (s : State) : Host.Outcome State Fault Refusal :=
  .next (hostRow 0x0120 serveLockArm port tag payload s)

/-- `RESET_MODULE`. -/
def execResetModule (port : Port) (tag : Half) (payload : List Byte) (s : State) : Host.Outcome State Fault Refusal :=
  .next (hostRow 0x0130 serveResetModule port tag payload s)

/-- `READ_POINTS`. -/
def execReadPoints (port : Port) (tag : Half) (payload : List Byte) (s : State) : Host.Outcome State Fault Refusal :=
  .next (hostRow 0x0201 serveReadPoints port tag payload s)

/-- `SUBSCRIBE_POINTS`. -/
def execSubscribePoints (port : Port) (tag : Half) (payload : List Byte) (s : State) : Host.Outcome State Fault Refusal :=
  .next (hostRow 0x0202 serveSubscribe port tag payload s)

/-- `READ_SNAPSHOT`. -/
def execReadSnapshot (port : Port) (tag : Half) (payload : List Byte) (s : State) : Host.Outcome State Fault Refusal :=
  .next (hostRow 0x0203 serveReadSnapshot port tag payload s)

end Sys2Proof.Machine
end

