-- ==== Sys2Proof/Machine/Checks.lean ====
section
/-! DEFINITION. The consistency checks of every block (R174, R175 and the check tables of the chapters), on a set of values. -/
namespace Sys2Proof.Machine
open Sys2Proof

/-- A violation: check code, first and second parameter ID, packed so that numbers order as R174 orders entries. -/
def vio (code a b : Nat) : Nat := (code * 65536 + a) * 65536 + b

/-- A violation where a condition holds. -/
def vioIf (c : Bool) (code a b : Nat) : List Nat := if c then [vio code a b] else []

/-- A set of parameter values under check. -/
abbrev Values := Nat → Int

/-- A value as a natural number. -/
def Values.n (v : Values) (id : Nat) : Nat := (v id).toNat

/-- Bit `k` of a value. -/
def Values.bit (v : Values) (id k : Nat) : Bool := (v.n id).testBit k

/-- Strands 0 to 3 enabled under the set. -/
def Values.strands (v : Values) : List Nat := (List.range 4).filter (v.bit 0x0502)

/-- Checks 0x0501 and 0x0601 to 0x0602 (R175, R190, R243). -/
def checkRing (v : Values) : List Nat :=
  vioIf (1000000 % v.n 0x0501 != 0) 0x0501 0x0501 0 ++
  vioIf (v.n 0x0602 == 0 && v.n 0x0603 == 0) 0x0601 0x0602 0x0603 ++
  v.strands.flatMap (fun k => (List.range (v.n 0x0503 / 256 ^ k % 256)).flatMap (fun n =>
    vioIf (v.n (0x0680 + 32 * k + n) == 65535) 0x0602 (0x0680 + 32 * k + n) 0x0503))

/-- The nine parameters that name a contactor's output. -/
def contactorIds : List Nat := (List.range 9).map (0x0730 + ·)

/-- Unordered pairs of a list, in its order. -/
def pairs {α : Type} : List α → List (α × α)
  | [] => []
  | a :: l => l.map (fun b => (a, b)) ++ pairs l

/-- Checks 0x0701 to 0x0705 (R311) and 0x0801 to 0x0803 (R321). -/
def checkString (v : Values) : List Nat :=
  (pairs contactorIds).flatMap (fun e => vioIf (v.n e.1 == v.n e.2 && v.n e.1 != 255) 0x0701 e.1 e.2) ++
  v.strands.flatMap (fun k => vioIf (v.n (0x0730 + k) == 255) 0x0702 (0x0730 + k) 0x0502 ++
    vioIf (v.n (0x0734 + k) == 255) 0x0702 (0x0734 + k) 0x0502) ++
  vioIf (v.n 0x0738 == 255 && !v.strands.isEmpty) 0x0703 0x0738 0x0502 ++
  vioIf (!v.bit 0x0502 (v.n 0x0701)) 0x0704 0x0701 0x0502 ++
  vioIf (v.n 0x0702 ≤ 4 * v.n 0x0703) 0x0705 0x0703 0x0702 ++
  vioIf (v 0x0807 ≤ v 0x0806) 0x0801 0x0806 0x0807 ++ vioIf (v 0x0809 ≤ v 0x0808) 0x0802 0x0808 0x0809 ++
  (List.range 4).flatMap (fun k => vioIf (v.bit 0x0801 k && !v.bit 0x0502 k) 0x0803 0x0801 0x0502)

/-- Checks 0x0901 to 0x0906 (R175, R391) and 0x0A01 to 0x0A03 (R420). -/
def checkEst (v : Values) : List Nat :=
  let d := fun (j : Nat) => v (0x0960 + j) - v (0x0940 + j)
  vioIf (v.n 0x0501 % v.n 0x0901 != 0) 0x0901 0x0501 0x0901 ++
  vioIf (v 0x0921 < v 0x0920 + 100000) 0x0902 0x0920 0x0921 ++ vioIf (v 0x0922 < v 0x0923 + 100000) 0x0903 0x0922 0x0923 ++
  (match (List.range 32).find? (fun j => j != 0 && decide (d j ≤ d (j - 1))) with
    | some j => [vio 0x0904 (0x0940 + j) (0x0960 + j)]
    | none => []) ++
  vioIf (v 0x0914 < v 0x0913 + 2 * v 0x0915) 0x0905 0x0913 0x0914 ++ vioIf (v 0x0912 ≤ v 0x0911) 0x0906 0x0911 0x0912 ++
  vioIf (v 0x0A03 ≤ v 0x0A02) 0x0A01 0x0A02 0x0A03 ++ vioIf (v 0x0A05 ≤ v 0x0A04) 0x0A02 0x0A04 0x0A05 ++
  vioIf (v 0x0A09 < v 0x0A0A) 0x0A03 0x0A0A 0x0A09

/-! ## Loops (R430) -/

/-- ID of word `w` of loop `n`. -/
def loopId (n w : Nat) : Nat := 0x0B20 + 7 * n + w

/-- CONFIG of loop `n`. -/
def Values.loop (v : Values) (n : Nat) : Nat := v.n (loopId n 0)

/-- Enabled loops. -/
def Values.loops (v : Values) : List Nat := (List.range 32).filter (fun n => (v.loop n).testBit 31)

/-- The target a CONFIG word names, as a kind and an index: a GO, an AO by either kind, or a strand's ceiling. -/
def loopTarget (c : Nat) : Option (Nat × Nat) :=
  match bits c 10 8 with
  | 1 => some (1, bits c 7 5)
  | 2 => some (2, bits c 7 5)
  | 3 => some (3, bits c 7 5)
  | 4 => some (2, bits c 7 7)
  | _ => none

/-- The chain of parents of loop `n`, from loop `m`, returns to `n`; `fuel` bounds it. -/
def Values.returns (v : Values) (n : Nat) : Nat → Nat → Bool
  | 0, _ => false
  | fuel + 1, m => m == n || (bits (v.loop m) 18 16 == 5 && v.returns n fuel (bits (v.loop m) 15 11))

/-- A point HOLLOW stops. -/
def hollowStops (id : Nat) : Bool :=
  let c := id / 65536
  let i := id % 65536
  id != 0 && (c == 0x23 || (0x30 ≤ c && c ≤ 0x34) || (c == 0x61 && 0x20 ≤ i && i ≤ 0x2F) || c == 0x71)

/-- A loop's process value, feedforward or set-point comes from what HOLLOW stops. -/
def checkEssential (v : Values) (n : Nat) : List Nat :=
  let c := v.loop n
  let sp := bits c 18 16
  if !c.testBit 30 then [] else
  vioIf (hollowStops (v.n (loopId n 1) % 2 ^ 24)) 0x0B04 (loopId n 0) (loopId n 1) ++
  vioIf (hollowStops (v.n (loopId n 2) % 2 ^ 24)) 0x0B04 (loopId n 0) (loopId n 2) ++
  vioIf (sp == 6 || (sp == 5 && !(v.loop (bits c 15 11)).testBit 30)) 0x0B04 (loopId n 0) (loopId n 0)

/-- Checks 0x0B01 to 0x0B06. -/
def checkLoops (v : Values) : List Nat :=
  (pairs v.loops).flatMap (fun e =>
    vioIf (loopTarget (v.loop e.1) == loopTarget (v.loop e.2) && (loopTarget (v.loop e.1)).isSome) 0x0B01 (loopId e.1 0)
      (loopId e.2 0)) ++
  v.loops.flatMap (fun n =>
    let p := bits (v.loop n) 15 11
    vioIf (bits (v.loop n) 18 16 == 5 && (!(v.loop p).testBit 31 || v.returns n 32 p)) 0x0B02 (loopId n 0) (loopId p 0)) ++
  (List.range 32).flatMap (fun n =>
    vioIf (v.n (loopId n 2) / 2 ^ 24 < v.n (loopId n 1) / 2 ^ 24) 0x0B03 (loopId n 1) (loopId n 2)) ++
  v.loops.flatMap (checkEssential v) ++
  v.loops.flatMap (fun n => vioIf (v.n (loopId n 1) % 2 ^ 24 == 0) 0x0B05 (loopId n 0) (loopId n 1)) ++
  (List.range 4).flatMap (fun k =>
    vioIf (v (0x0B10 + k) == v (0x0B14 + k) && v.loops.any (fun n => bits (v.loop n) 10 8 == 4 && bits (v.loop n) 6 5 == k))
      0x0B06 (0x0B10 + k) (0x0B14 + k))

/-! ## Guarded set, field I/O, thermal (R496, R529, R549) -/

/-- Check 0x0C06 of the output a STRING parameter names, for one strand. -/
def checkMap (v : Values) (id k : Nat) : Bool := v.n id < 12 && !v.bit (0x0C30 + v.n id) k

/-- Checks 0x0C01 to 0x0C07. DESIGN CHOICE: where `STRING.SO_PRE` lacks the bits of several enabled strands, check 0x0C06 gives one
entry, since its pair of identifiers is the same for all (R174 speaks of two strands, and each of them has entries of its own for
the contactor outputs). -/
def checkSafe (v : Values) : List Nat :=
  let t := ntcCentiDeg (v.n 0x0C07) (v.n 0x060E) (v.n 0x060F)
  vioIf (v 0x0C03 ≤ v 0x0C04 + 2 * v 0x0C06) 0x0C01 0x0C04 0x0C03 ++
  vioIf (v 0x0C03 ≤ v 0x0912) 0x0C02 0x0912 0x0C03 ++ vioIf (v 0x0911 ≤ v 0x0C04) 0x0C02 0x0911 0x0C04 ++
  vioIf (t < v 0x0C05 + 200 || v 0x0C05 + 1500 < t) 0x0C03 0x0C07 0x0C05 ++
  vioIf (v.n 0x0C0B * min (v.n 0x0501) 100 < 3000) 0x0C04 0x0C0B 0x0501 ++
  (List.range 8).flatMap (fun p =>
    let w := v.n (0x0C20 + p)
    vioIf (w.testBit 31 && bits w 27 26 == bits w 25 24 && !w.testBit 29 && !w.testBit 28) 0x0C05 (0x0C20 + p) (0x0C20 + p) ++
    vioIf (w.testBit 31 && bits w 11 0 == 0) 0x0C07 (0x0C20 + p) (0x0C20 + p)) ++
  v.strands.flatMap (fun k =>
    vioIf (checkMap v (0x0730 + k) k) 0x0C06 (0x0C30 + v.n (0x0730 + k)) (0x0730 + k) ++
    vioIf (checkMap v (0x0734 + k) k) 0x0C06 (0x0C30 + v.n (0x0734 + k)) (0x0734 + k)) ++
  vioIf (v.strands.any (checkMap v 0x0738)) 0x0C06 (0x0C30 + v.n 0x0738) 0x0738

/-- Checks 0x0D01 to 0x0D03 and 0x0E01. -/
def checkField (v : Values) : List Nat :=
  contactorIds.flatMap (fun id => vioIf (v.n id < 12 && !v.bit (0x0D10 + v.n id) 31) 0x0D01 (0x0D10 + v.n id) id) ++
  v.loops.flatMap (fun n => match loopTarget (v.loop n) with
    | some (1, y) => vioIf (!v.bit (0x0D20 + y) 31) 0x0D02 (0x0D20 + y) (loopId n 0)
    | some (2, i) => vioIf (bits (v.n (0x0D32 + i)) 31 30 == 0) 0x0D02 (0x0D32 + i) (loopId n 0)
    | _ => []) ++
  (List.range 8).flatMap (fun y =>
    vioIf (v.bit (0x0D20 + y) 30 && 1000 < bits (v.n (0x0D20 + y)) 15 0) 0x0D03 (0x0D20 + y) (0x0D20 + y)) ++
  vioIf (v 0x0E02 ≤ v 0x0E01) 0x0E01 0x0E01 0x0E02

/-! ## CAN, network time, dispatch, two-wire bus (R175, R583, R603, R623) -/

/-- MODE of channel `c`. -/
def Values.can (v : Values) (c : Nat) : Nat := bits (v.n (0x0F02 + c)) 31 30

/-- Checks 0x0F01 to 0x0F10. -/
def checkCan (v : Values) : List Nat :=
  (List.range 3).flatMap (fun c =>
    let r := v.n (0x0F05 + c) / 65536
    let d := v.n (0x0F05 + c) % 65536
    let w := v.n (0x0F02 + c)
    vioIf (v.can c != 0 && (80000 % r != 0 || (v.can c == 2 && (80000 % d != 0 || d < r)))) 0x0F01 (0x0F05 + c) (0x0F02 + c) ++
    vioIf (bits w 28 27 == 2 && (!([125, 250, 500, 1000].contains r) || 8 < bits w 26 23)) 0x0F03 (0x0F02 + c) (0x0F05 + c)) ++
  vioIf (v.n 0x0F10 < 3 && v.can (v.n 0x0F10) == 0) 0x0F02 0x0F10 (0x0F02 + v.n 0x0F10) ++
  vioIf (v 0x0F11 == v 0x0F12) 0x0F10 0x0F11 0x0F12

/-- Checks 0x1001 to 0x1104. -/
def checkNet (v : Values) : List Nat :=
  let seg := v.n 0x1002
  let trunk := v.n 0x1003
  let cmd := v.n 0x0F10
  let off := fun (c : Nat) => c < 3 && v.can c == 0
  let tier := v.n 0x1101
  vioIf ((v.n 0x1001 != 0 && seg == 3) || (seg == trunk && seg != 3) || off seg || off trunk) 0x1001 0x1002 0x1003 ++
  vioIf (v 0x1005 == v 0x1006 || (cmd < 3 && (cmd == seg || cmd == trunk) &&
    [0x0F11, 0x0F12].any (fun id => v id == v 0x1005 || v id == v 0x1006))) 0x1002 0x1005 0x1006 ++
  vioIf (2 ≤ tier && v.n 0x1001 != 1) 0x1101 0x1101 0x1001 ++
  vioIf (2 ≤ tier && !(seg < 3 && v.can seg == 2)) 0x1102 0x1101 0x1002 ++
  vioIf (tier == 3 && !(trunk < 3 && v.can trunk == 2)) 0x1102 0x1101 0x1003 ++
  vioIf (1 ≤ v.n 0x1108 && v.n 0x1108 ≤ 4 && v 0x110A == v 0x110B) 0x1103 0x110A 0x110B ++
  vioIf (2 ≤ tier && v.n 0x1106 < 2 * v.n 0x1004) 0x1104 0x1106 0x1004

/-- A slot's CFG word uses a reserved code. -/
def slotReserved (w : Nat) : Bool := bits w 29 28 == 3 || bits w 27 26 == 3 || 10 < bits w 16 13

/-- Checks 0x1201 to 0x1204. -/
def checkTw (v : Values) : List Nat :=
  let f := v.n 0x1202
  let sp := v.n 0x1201
  vioIf ((sp != 0 && f < 2) || (sp == 1 && 8 < f) || (sp == 2 && 4 < f)) 0x1201 0x1202 0x1201 ++
  vioIf (v 0x1203 == v 0x1204 && v 0x1203 != 0) 0x1202 0x1203 0x1204 ++
  (List.range 8).flatMap (fun j =>
    let id := 0x1220 + 3 * j
    let w := v.n id
    let src := v.n (id + 2)
    if !w.testBit 31 then [] else
    vioIf (v.n 0x1203 != 0 && bits w 23 17 == v.n 0x1203) 0x1203 id 0x1203 ++
    vioIf (v.n 0x1204 != 0 && bits w 23 17 == v.n 0x1204) 0x1203 id 0x1204 ++
    vioIf ((w.testBit 30 && !pointKnown src) || slotReserved w) 0x1204 id (id + 2))

/-! ## The list (R174) -/

/-- Insert into a rising list. -/
def insertNat (x : Nat) : List Nat → List Nat
  | [] => [x]
  | y :: l => if x ≤ y then x :: y :: l else y :: insertNat x l

/-- Every violation of a set, in the order of R174. -/
def violations (v : Values) : List Nat :=
  (checkRing v ++ checkString v ++ checkEst v ++ checkLoops v ++ checkSafe v ++ checkField v ++ checkCan v ++ checkNet v ++
    checkTw v).foldr insertNat []

/-- Violations of the applied set overlaid with the shadow set. -/
def State.stageViolations (s : State) : List Nat := violations (fun id => s.param.overInt s.param.shadow id)

/-- Result of `CHECK_STAGE`: digest, staged count, violations listed, and their entries. -/
def State.checkResult (s : State) (vs : List Nat) : List Byte :=
  let listed := vs.take 510
  leBytes 4 (stageDigest s.param.shadow) ++ leBytes 2 s.param.shadow.length ++ leBytes 2 listed.length ++
    listed.flatMap (fun x => leBytes 2 (x / 2 ^ 32) ++ leBytes 2 (x / 65536 % 65536) ++ leBytes 2 (x % 65536) ++ [0, 0])

end Sys2Proof.Machine
end

