-- ==== Sys2Proof/Machine/Sha.lean ====
section
/-! DEFINITION. SHA-256, which the update service uses for pieces, images and checks (R669, R670). The spec names the hash and not
its inside: what stands here is PRESUMED (the published standard), in the form of two histories that one round each extends. -/
namespace Sys2Proof.Machine
open Sys2Proof

/-- The primes below 312. -/
def shaPrimes : List Nat :=
  (List.range 312).filter (fun n => 1 < n && (List.range 18).all (fun d => d < 2 || n ≤ d || n % d != 0))

/-- Largest `r` below 2⁴⁰ whose `k`-th power does not exceed `n`. -/
def rootBelow (k n : Nat) : Nat := (List.range 40).foldr (fun b r => if (r + 2 ^ b) ^ k ≤ n then r + 2 ^ b else r) 0

/-- First 32 bits of the fraction of the `k`-th root of `p`. -/
def rootFraction (k p : Nat) : Word := BitVec.ofNat 32 (rootBelow k (p * 2 ^ (32 * k)))

/-- A number as `n` bytes, most significant first. -/
def beBytes (n v : Nat) : List Byte := (List.range n).map (fun i => BitVec.ofNat 8 (v / 256 ^ (n - 1 - i)))

/-- Big-endian number of a byte string. -/
def beNat (l : List Byte) : Nat := l.foldl (fun v b => 256 * v + b.toNat) 0

/-- Exclusive or of a word turned right by each of three amounts. -/
def turned (x : Word) (i j k : Nat) : Word := x.rotateRight i ^^^ x.rotateRight j ^^^ x.rotateRight k

/-- The compression of one block under way: the histories of the first and the fifth working word, newest first, and the next 16
words of the schedule, in order. -/
structure ShaRun where
  /-- The first working word, now and one, two and three rounds ago. -/
  fast : List Word
  /-- The fifth working word, the same way. -/
  slow : List Word
  /-- Words of the schedule that come next. -/
  window : List Word
  deriving DecidableEq, Repr

/-- The word that follows a window of 16. -/
def shaNext (w : List Word) : Word :=
  let early := w.getD 1 0
  let late := w.getD 14 0
  w.getD 0 0 + w.getD 9 0 + (early.rotateRight 7 ^^^ early.rotateRight 18 ^^^ (early >>> 3)) +
    (late.rotateRight 17 ^^^ late.rotateRight 19 ^^^ (late >>> 10))

/-- One round under constant `k`. -/
def ShaRun.round (r : ShaRun) (k : Word) : ShaRun :=
  let u := fun i => r.fast.getD i 0
  let v := fun i => r.slow.getD i 0
  let mix := v 3 + k + r.window.getD 0 0 + turned (v 0) 6 11 25 + (v 2 ^^^ (v 0 &&& (v 1 ^^^ v 2)))
  { fast := (mix + turned (u 0) 2 13 22 + ((u 0 &&& u 1) ||| (u 2 &&& (u 0 ||| u 1)))) :: r.fast.take 3,
    slow := (u 3 + mix) :: r.slow.take 3,
    window := r.window.drop 1 ++ [shaNext r.window] }

/-- One block of 64 bytes taken into the eight words of the hash. -/
def shaAbsorb (h : List Word) (b : List Byte) : List Word :=
  let start : ShaRun :=
    { fast := h.take 4, slow := h.drop 4,
      window := (List.range 16).map (fun i => BitVec.ofNat 32 (beNat ((b.drop (4 * i)).take 4))) }
  let r := shaPrimes.foldl (fun r p => r.round (rootFraction 3 p)) start
  List.zipWith (· + ·) h (r.fast ++ r.slow)

/-- SHA-256 of a byte string: a 1 bit, zeros up to 8 bytes before the end of a block, and its length in bits. -/
def sha256 (m : List Byte) : List Byte :=
  let n := m.length
  let zeros' := (64 - (n + 9) % 64) % 64
  let padded := m ++ 0x80 :: List.replicate zeros' 0 ++ beBytes 8 (8 * n)
  let h := (List.range ((n + 9 + zeros') / 64)).foldl (fun h i => shaAbsorb h ((padded.drop (64 * i)).take 64))
    ((shaPrimes.take 8).map (rootFraction 2))
  h.flatMap (fun w => beBytes 4 w.toNat)

end Sys2Proof.Machine
end

