-- ==== Sys2Proof/Machine/Update.lean ====
section
/-! DEFINITION. Field update: sessions, pieces, verification, handover and the health window (chapter 21). -/
namespace Sys2Proof.Machine
open Sys2Proof

/-- Opcodes 0x0601 to 0x0607. -/
def opUpd (n : Nat) : Nat := 0x0600 + n

/-- Component `c`. -/
def State.comp (s : State) (c : Nat) : CompState := s.upd.comps.getD c {}

/-- Change component `c`; any change of the main image's state is a write to its region (R121). -/
def modComp (c : Nat) (f : CompState → CompState) (s : State) : State :=
  { s with upd := { s.upd with comps := modAt s.upd.comps c f },
           sys := { s.sys with imageFlag := s.sys.imageFlag && c != 0 } }

/-- An update event: its record names the component (R698). -/
def updEvent (src code c : Nat) (s : State) : State := raise src code 0 0 [BitVec.ofNat 8 c] s

/-! ## The manifest (R669) -/

/-- Component of a manifest. -/
def mComp (m : List Byte) : Nat := field m 4 1
/-- Key slot. -/
def mKey (m : List Byte) : Nat := field m 5 1
/-- State format. -/
def mFormat (m : List Byte) : Nat := field m 6 2
/-- Version. -/
def mVersion (m : List Byte) : Nat := field m 8 4
/-- Image size. -/
def mSize (m : List Byte) : Nat := field m 12 4
/-- Piece count. -/
def mCount (m : List Byte) : Nat := field m 16 2
/-- Security level. -/
def mLevel (m : List Byte) : Nat := field m 18 2
/-- Requires, in component order. -/
def mRequires (m : List Byte) : List Nat := (List.range 5).map (fun c => field m (20 + 4 * c) 4)

/-- Largest image of a component (R667). -/
def largestImage (c : Nat) : Nat :=
  if c = 0 then 1572864 else if c = 1 then 1048576 else if c = 4 then 122880 else 262144

/-- Magic, component, reserved fields, piece count and size (first row of R674). -/
def manifestOk (m : List Byte) : Bool :=
  field m 0 4 == 0x46485550 && mComp m ≤ 4 && zeros ((m.drop 104).take 88) && (mComp m == 0 || mFormat m == 0) &&
  (mRequires m).getD (mComp m) 0 == 0 && mCount m == ceilDiv (mSize m) 2048 && mSize m ≤ largestImage (mComp m)

/-- Key slot usable, signature valid, level not below the floor (R671, R672). -/
def State.manifestTrusted (s : State) (m : List Byte) : Bool :=
  mKey m < 2 && !s.upd.revoked.getD (mKey m) false && Config.signatureValid s.upd.keyGen (mKey m) m &&
  (s.comp (mComp m)).floor ≤ mLevel m

/-- First missing index, 0xFFFF if none. -/
def UpdState.firstMissing (u : UpdState) : Nat :=
  match (List.range (mCount u.manifest)).find? (fun i => (assocGet i u.pieces).isNone) with
  | some i => i
  | none => 0xFFFF

/-- Pieces held and first missing index. -/
def UpdState.heldBytes (u : UpdState) : List Byte := leBytes 2 u.pieces.length ++ leBytes 2 u.firstMissing

/-- Any component is in its health window. -/
def State.inWindow (s : State) : Bool := s.upd.comps.any (fun c => c.window.isSome)

/-! ## Transfer (R674 to R677) -/

/-- `UPD_BEGIN` (R674). -/
def serveUpdBegin (p : Port) (tag : Half) (pl : List Byte) (s : State) : State :=
  serve (opUpd 1) modesAll (pl.length == 260) p tag (fun s =>
    let m := pl.drop 4
    let same := s.upd.session == 1 && s.upd.manifest == m
    let answer' := fun (st : Nat) => reply p (opUpd 1) tag st noDetail [] s
    if 1 < field pl 0 1 ∨ field pl 1 3 ≠ 0 ∨ manifestOk m = false then answer' stOutOfRange
    else if mComp m = 4 ∧ s.sys.mode ≠ .service then answer' stWrongMode
    else if mComp m = 4 ∧ s.param.unlocked = none then answer' stLocked
    else if !s.manifestTrusted m then answer' stNotPermitted
    else if s.upd.session = 1 ∧ s.upd.manifest ≠ m then answer' stBusy
    else if s.inWindow then answer' stBusy
    else
      let s := if field pl 0 1 = 1 ∧ same = true then s
        else modComp (mComp m) (fun c => { c with state := 1 })
          { s with upd := { s.upd with session := 1, manifest := m, pieces := [] } }
      updEvent 0xF4 0 (mComp m) (reply p (opUpd 1) tag stOk noDetail (s.upd.heldBytes ++ leBytes 4 0) s)) s

/-- `UPD_BEGIN`. -/
def execUpdBegin (port : Port) (tag : Half) (payload : List Byte) (s : State) : Host.Outcome State Fault Refusal :=
  .next (hostRow 0x0601 serveUpdBegin port tag payload s)

/-- Length of piece `i` of an image. -/
def pieceLength (m : List Byte) (i : Nat) : Nat := min 2048 (mSize m - 2048 * i)

/-- A piece is written, read back and held; the previous copy of component 2 or 3 is secured first (R675, R676). -/
def storePiece (i : Nat) (x : Piece) (s : State) : State :=
  let c := mComp s.upd.manifest
  let s := if c = 2 ∨ c = 3 then
      { s with upd := { s.upd with reserve := modAt s.upd.reserve (c - 2) (fun r => some (r.getD (s.comp c).running)) } }
    else s
  modComp c (fun c => c) { s with upd := { s.upd with pieces := assocSet i x s.upd.pieces } }

/-- `UPD_PIECE` (R676). DESIGN CHOICE: while no session is open, nonzero reserved bytes answer `ST_NOT_PERMITTED` (R676), not
`ST_OUT_OF_RANGE` (R12): neither rule states an order. -/
def serveUpdPiece (p : Port) (tag : Half) (pl : List Byte) (s : State) : State :=
  let i := field pl 0 2
  let m := s.upd.manifest
  let fits := 12 ≤ pl.length && pl.length ≤ 2060 &&
    (s.upd.session != 1 || mCount m ≤ i || pl.length == 12 + pieceLength m i)
  serve (opUpd 2) modesAll fits p tag (fun s =>
    let check := (pl.drop 4).take 8
    let data := pl.drop 12
    if s.upd.session ≠ 1 then reply p (opUpd 2) tag stNotPermitted noDetail [] s
    else if mCount m ≤ i ∨ field pl 2 2 ≠ 0 then updEvent 0xF5 0 (mComp m) (reply p (opUpd 2) tag stOutOfRange noDetail [] s)
    else if (sha256 data).take 8 ≠ check then updEvent 0xF5 0 (mComp m) (reply p (opUpd 2) tag stBadCrc i [] s)
    else match assocGet i s.upd.pieces with
      | some x =>
        if x.check = check then reply p (opUpd 2) tag stOk noDetail [] s
        else updEvent 0xF5 0 (mComp m) (reply p (opUpd 2) tag stBadCrc i [] s)
      | none => reply p (opUpd 2) tag stOk noDetail [] (storePiece i { check := check, data := data } s)) s

/-- `UPD_PIECE`. -/
def execUpdPiece (port : Port) (tag : Half) (payload : List Byte) (s : State) : Host.Outcome State Fault Refusal :=
  .next (hostRow 0x0602 serveUpdPiece port tag payload s)

/-- Version a satellite runs (R204). -/
def identVersion (e : SatIdentity) : Nat := if e.image = 0 then e.versionA else e.versionB

/-- Versions of the admitted satellites. -/
def State.satVersions (s : State) : List Nat :=
  s.rings.flatMap (fun g => (g.admittedSet.filterMap (fun n => (g.sat n).ident)).map identVersion)

/-- Version a component runs; for satellites the lowest among the admitted ones (R677). -/
def State.runningVersion (s : State) (c : Nat) : Nat :=
  if c = 1 then
    match s.satVersions with
    | [] => (s.comp 1).running
    | v :: l => l.foldl min v
  else (s.comp c).running

/-- One component record of `UPD_PROGRESS`. -/
def State.compRecord (s : State) (c : Nat) : List Byte :=
  let x := s.comp c
  let left := match x.window with | some e => min 255 (e - s.time.opSec) | none => 0
  leBytes 4 (s.runningVersion c) ++ leBytes 4 x.stored ++ [BitVec.ofNat 8 x.state, BitVec.ofNat 8 left] ++ leBytes 2 x.floor ++
    leBytes 4 0

/-- The piece bitmap, 224 bytes (R673). -/
def UpdState.bitmap (u : UpdState) : List Byte :=
  (List.range 224).map (fun b => BitVec.ofNat 8 (maskOf 8 (fun i => (assocGet (8 * b + i) u.pieces).isSome)))

/-- `UPD_PROGRESS` (R677). -/
def serveUpdProgress (p : Port) (tag : Half) (pl : List Byte) (s : State) : State :=
  serve (opUpd 3) modesAll (pl.length == 0) p tag (fun s =>
    let u := s.upd
    let head := [BitVec.ofNat 8 u.session, BitVec.ofNat 8 (mComp u.manifest)] ++ leBytes 2 (mCount u.manifest) ++ u.heldBytes ++
      leBytes 4 (mVersion u.manifest) ++ leBytes 4 0
    reply p (opUpd 3) tag stOk noDetail (head ++ u.bitmap ++ (List.range 5).flatMap s.compRecord) s) s

/-- `UPD_PROGRESS`. -/
def execUpdProgress (port : Port) (tag : Half) (payload : List Byte) (s : State) : Host.Outcome State Fault Refusal :=
  .next (hostRow 0x0603 serveUpdProgress port tag payload s)

/-! ## Verification (R678 to R680) -/

/-- `UPD_VERIFY` (R678). -/
def serveUpdVerify (p : Port) (tag : Half) (pl : List Byte) (s : State) : State :=
  serve (opUpd 4) modesAll (pl.length == 0) p tag (fun s =>
    if s.upd.session ≠ 1 then reply p (opUpd 4) tag stNotPermitted noDetail [] s
    else if s.upd.verify.isSome then reply p (opUpd 4) tag stBusy noDetail [] s
    else if s.upd.firstMissing ≠ 0xFFFF then reply p (opUpd 4) tag stNotPermitted s.upd.firstMissing [] s
    else reply p (opUpd 4) tag stAccepted noDetail [] { s with upd := { s.upd with verify := some (.packet p tag) } }) s

/-- `UPD_VERIFY`. -/
def execUpdVerify (port : Port) (tag : Half) (payload : List Byte) (s : State) : Host.Outcome State Fault Refusal :=
  .next (hostRow 0x0604 serveUpdVerify port tag payload s)

/-- The verdict of R678; `good` tells that the image reads back from flash as it was written. -/
def State.verdict (s : State) (good : Bool) : Nat :=
  let m := s.upd.manifest
  if sha256 (s.upd.pieces.flatMap (fun e => e.2.check)) ≠ (m.drop 72).take 32 then 1
  else if !good || sha256 (s.upd.pieces.flatMap (fun e => e.2.data)) != (m.drop 40).take 32 then 2
  else if !Config.signatureValid s.upd.keyGen (mKey m) m then 3 else 0

/-- `VERIFICATION_COMPLETE` (R679); a main image verified in LOADER starts through a reset (R680). -/
def execVerificationComplete (good : Bool) (s : State) : Host.Outcome State Fault Refusal :=
  .next (match s.upd.verify with
  | none => s
  | some r =>
    let v := s.verdict good
    let m := s.upd.manifest
    let c := mComp m
    let s := { s with upd := { s.upd with verify := none } }
    let s := if v = 0 then
        modComp c (fun x => { x with state := 2, stored := mVersion m, image := m }) { s with upd := { s.upd with session := 2 } }
      else { s with upd := { s.upd with pieces := [] } }
    let s := complete r (opUpd 4) stOk noDetail [BitVec.ofNat 8 v] (updEvent 0xF6 v c s)
    match r with
    | .packet p tag => if v = 0 ∧ c = 0 ∧ s.sys.mode = .loader then s.awaitRead 0x09 p (opUpd 4) tag false else s
    | .twoWire => s)

/-! ## Health (R690) -/

/-- Point validity of the strands: voltage, contactor voltages and current. -/
def State.strandPointsValid (s : State) : List Nat :=
  s.hv.strands.flatMap (fun h => [bit h.voltage.isSome, bit h.uPos.isSome, bit h.uNeg.isSome, bit h.current.isSome])

/-- Verdicts of the outputs. -/
def State.outputVerdicts (s : State) : List Nat := (s.field.so ++ s.field.go ++ s.field.ts).map (·.verdict)

/-- What the criteria compare with, as it stands at a handover. -/
def markBase (c : Nat) (s : State) : State :=
  { s with upd := { s.upd with baseIncomplete := s.sys.incomplete, baseMisses := s.upd.misses, baseReinits := s.upd.reinits,
                               baseVerdicts := if c = 2 then s.strandPointsValid else s.outputVerdicts } }

/-- A model update of every enabled strand within two model periods. -/
def State.updatesRecent (s : State) : Bool :=
  (List.range 4).all (fun k => !s.enabled k ||
    (!(s.estOf k).inferInvalid && (s.estOf k).cells.any (fun c => c.present && s.time.now ≤ c.updatedAt + 2 * s.modelPeriod s.param)))

/-- Whether a component is healthy now (R690). -/
def State.healthy (s : State) (c : Nat) : Bool :=
  if c = 0 then
    (List.range 4).all (fun k => !s.enabled k || (s.ring k).op == .loop || (s.ring k).op == .split) &&
    (List.range 4).all (fun k => !maskHas s.sys.incomplete k || maskHas s.upd.baseIncomplete k) &&
    s.updatesRecent && s.upd.reinits == s.upd.baseReinits && s.upd.misses == s.upd.baseMisses && s.sys.mode != .hollow
  else if c = 1 then
    s.upd.switched.all (fun e => ((s.ring e.1).sat e.2).usable &&
      (match ((s.ring e.1).sat e.2).ident with | some i => identVersion i == (s.comp 1).stored | none => false))
  else if c = 2 then
    !s.hv.refFault && (List.zipWith (fun now base => base == 0 || now == 1) s.strandPointsValid s.upd.baseVerdicts).all id
  else decide (s.time.now ≤ s.field.reportAt + 100) &&
    (List.zipWith (fun (now base : Nat) => now == 0 || now == base) s.outputVerdicts s.upd.baseVerdicts).all id

/-- Put a version into the identity block (R131, R691). -/
def setIdent (c v : Nat) (s : State) : State :=
  let i : Option Nat := if c = 0 then some 0 else if c = 4 then some 1 else if c = 2 then some 2 else if c = 3 then some 3 else none
  match i with
  | some i => { s with ident := setAt s.ident i v }
  | none => s

/-- Code banks that hold no image any more take writes again; the running ones never do. -/
def releaseBanks (s : State) : State :=
  { s with banks := { s.banks with banks := s.banks.banks.zipIdx.map (fun e =>
      if e.2 < 12 then { e.1 with readOnly := e.1.running } else e.1) } }

/-- Confirmation (R691). -/
def confirm (c : Nat) (s : State) : State :=
  let x := s.comp c
  let s := modComp c (fun x => { x with state := 0, window := none, old := none, floor := max x.floor (mLevel x.image),
                                        running := x.stored }) s
  let s := if c = 0 then releaseBanks s else s
  let s := { s with upd := { s.upd with fallback := none, switched := if c = 1 then [] else s.upd.switched,
                                        reserve := if c = 2 ∨ c = 3 then setAt s.upd.reserve (c - 2) none else s.upd.reserve } }
  updEvent 0xF8 0 c (setIdent c x.stored s)

/-! ## Handover (R681 to R688, R697) -/

/-- Components that go before another one (R681). -/
def earlier (c : Nat) : List Nat :=
  if c = 3 then [1] else if c = 2 then [1, 3] else if c = 0 then [1, 3, 2] else []

/-- A condition of R681 holds against the handover of component `c`. -/
def State.incompatible (s : State) (c : Nat) : Bool :=
  let m := (s.comp c).image
  s.inWindow ||
  (c != 4 && ((List.range 5).any (fun y => s.runningVersion y < (mRequires m).getD y 0) ||
    (List.range 5).any (fun y => y != c && mVersion m < (s.comp y).requires.getD c 0) ||
    (earlier c).any (fun y => (s.comp y).state == 2)))

/-- R684: formats differ without RESTART, or the other code bank is unusable. -/
def State.mainRefused (s : State) (restart : Bool) : Bool :=
  (mFormat (s.comp 0).image != (s.comp 0).format && !restart) ||
  (List.range 12).any (fun b => !(s.bank b).running && (s.bank b).unusable)

/-- Whether the component's stored image is verified. -/
def State.verified (s : State) (c : Nat) : Bool := (s.comp c).state == 2

/-- `UPD_HANDOVER` (R682, R684). -/
def serveUpdHandover (p : Port) (tag : Half) (pl : List Byte) (s : State) : State :=
  serve (opUpd 5) [.standby, .run, .service] (pl.length == 4) p tag (fun s =>
    let c := field pl 0 1
    let fl := field pl 1 1
    let mask := field pl 2 1
    let restart := c == 0 && fl.testBit 0
    let no := reply p (opUpd 5) tag stNotPermitted noDetail [] s
    if 4 < c ∨ 3 < fl ∨ 15 < mask ∨ (c ≠ 1 ∧ mask ≠ 0) ∨ (c = 1 ∧ mask = 0) ∨ field pl 3 1 ≠ 0 then
      reply p (opUpd 5) tag stOutOfRange noDetail [] s
    else if !s.verified c then no
    else if s.incompatible c then updEvent 0xFA 0 c no
    else if s.upd.handover.isSome then reply p (opUpd 5) tag stBusy noDetail [] s
    else if c = 0 ∧ s.mainRefused restart = true then no
    else if restart then
      if s.sys.mode = .run then no else
      let s := complete (.packet p tag) (opUpd 5) stOk noDetail [] (reply p (opUpd 5) tag stAccepted noDetail [] s)
      s.awaitRead 0x09 p (opUpd 5) tag false
    else
      let h : Handover := { comp := c, flags := fl, strands := mask, by' := .packet p tag }
      reply p (opUpd 5) tag stAccepted noDetail [] { s with upd := { s.upd with handover := some h } }) s

/-- `UPD_HANDOVER`. -/
def execUpdHandover (port : Port) (tag : Half) (payload : List Byte) (s : State) : Host.Outcome State Fault Refusal :=
  .next (hostRow 0x0605 serveUpdHandover port tag payload s)

/-- A handover has taken place: the image runs, its window opens, event 0xF7, and the requester is told (R683, R691). -/
def handedOver (h : Handover) (s : State) : State :=
  let c := h.comp
  let old := (s.comp c).running
  let s := modComp c (fun x =>
    { x with old := some (old, x.requires, x.format), running := x.stored, requires := mRequires x.image,
             format := mFormat x.image, state := 3, window := some (s.time.opSec + s.pn 0x1401) }) (markBase c s)
  let s := { s with upd := { s.upd with handover := none, session := if s.upd.manifest = (s.comp c).image then 3 else s.upd.session } }
  complete h.by' (opUpd 5) stOk noDetail [] (updEvent 0xF7 0 c s)

/-- RUNNING moves to the other code bank, whose OWNER then reads 0; the bank it leaves keeps its image read-only (R627, R685). -/
def swapRunning (s : State) : State :=
  { s with banks := { s.banks with banks := s.banks.banks.zipIdx.map (fun e =>
      if 12 ≤ e.2 then e.1
      else if e.1.running then { e.1 with running := false, readOnly := true }
      else { e.1 with running := true, readOnly := true, owner := 0, handover := none, waiting := [] }) } }

/-- The commit of a copied handover at a saddle point (R179, R683, R686). -/
def commitHandover (s : State) : State :=
  match s.upd.handover with
  | none => s
  | some h =>
    if !h.ready then s else
    let s := if h.comp = 0 then
        let s := swapRunning s
        { s with upd := { s.upd with keptSignature := s.guard.signature },
                 guard := { s.guard with signature := Config.freeNat s.free % 65536 }, free := s.free + 1 }
      else s
    handedOver h s

/-- Satellites of the masked rings that take the image, in rising address (R688). -/
def State.switchList (s : State) (h : Handover) : List (Nat × Nat) :=
  (List.range 4).flatMap (fun r => if !maskHas h.strands r then [] else
    ((s.ring r).admittedSet.filter (fun n => !h.flags.testBit 1 ||
      (match ((s.ring r).sat n).ident with | some i => identVersion i != (s.comp 1).stored | none => true))).map (fun n => (r, n)))

/-- `IMAGE_COPY_COMPLETE`: the copy is checked; a main, HV die or field die image waits for the saddle point, satellites are
switched one after another, and a loader body is confirmed by its readback (R683, R686, R688, R697). -/
def execImageCopyComplete (good : Bool) (s : State) : Host.Outcome State Fault Refusal :=
  .next (match s.upd.handover with
  | none => s
  | some h =>
    if h.ready then s else
    if !good then
      let u := { s.upd with handover := none, loaderBody := s.upd.loaderBody && h.comp != 4 }
      complete h.by' (opUpd 5) stInternalFault noDetail [] { s with upd := u }
    else if h.comp = 4 then
      let u := { s.upd with handover := none, loaderBody := true, keyGen := s.upd.keyGen + 1,
                            revoked := [Config.freeBool s.free, Config.freeBool (s.free + 1)] }
      let s := modComp 4 (fun x => { x with state := 0, floor := max x.floor (mLevel x.image) })
        { s with upd := u, free := s.free + 2 }
      let s := updEvent 0xF8 0 4 (updEvent 0xF7 0 4 (setIdent 4 (s.comp 4).stored s))
      complete h.by' (opUpd 5) stOk noDetail [] s
    else
      let h := { h with ready := true }
      if h.comp = 1 then
        let l := s.switchList h
        if l = [] then handedOver h { s with upd := { s.upd with switched := [] } }
        else
          let u := { s.upd with handover := some { h with ready := false }, toSwitch := l, switched := [] }
          { s with upd := u }
      else { s with upd := { s.upd with handover := some h } })

/-- A satellite runs its other image, at version `v`. -/
def flipImage (v : Nat) (x : SatState) : SatState :=
  { x with ident := x.ident.map (fun i =>
      if i.image = 0 then { i with image := 1, versionB := v } else { i with image := 0, versionA := v }) }

/-- `SATELLITE_SWITCH`: the next satellite of a ring restarts; `image` tells that it appends from its new image (R688). -/
def execSatelliteSwitch (ring sat : Nat) (image : Bool) (s : State) : Host.Outcome State Fault Refusal :=
  .next (match s.upd.handover with
  | none => s
  | some h =>
    if s.upd.toSwitch.find? (fun e => e.1 == ring) != some (ring, sat) then s else
    let s : State := if image then s.modSat ring sat (flipImage (s.comp 1).stored) else s
    let u := { s.upd with toSwitch := s.upd.toSwitch.filter (fun e => e != (ring, sat)), switched := s.upd.switched ++ [(ring, sat)] }
    let s := { s with upd := u }
    if s.upd.toSwitch.isEmpty then handedOver h s else s)

/-! ## Restore and fallback (R693, R695) -/

/-- The running main image goes back into its region; a session of component 0 is closed and its pieces lost (R689, R695). -/
def startRestore (s : State) : State :=
  let main := mComp s.upd.manifest == 0 && s.upd.session != 0
  let u := { s.upd with restoring := true, session := if main then 3 else s.upd.session, pieces := if main then [] else s.upd.pieces,
                        verify := if main then none else s.upd.verify }
  modComp 0 (fun x => { x with state := 6 }) { s with upd := u }

/-- Whether the code bank that does not run can take over. -/
def State.otherBankUsable (s : State) : Bool := (List.range 12).all (fun b => (s.bank b).running || !(s.bank b).unusable)

/-- Every UPD_ABORT that waited for a restore or a fallback is told (R696). -/
def tellAbort (st : Nat) (s : State) : State :=
  s.upd.abortBy.foldl (fun s r => complete r (opUpd 7) st noDetail [] s) { s with upd := { s.upd with abortBy := [] } }

/-- The hand-back at a saddle point after a failed window (R693). -/
def commitFallback (s : State) : State :=
  match s.upd.fallback with
  | none => s
  | some c =>
    let x := s.comp c
    let s := { s with upd := { s.upd with fallback := none } }
    let told := tellAbort stOk
    match x.old with
    | none => told (updEvent 0xF9 2 c (modComp c (fun x => { x with state := if c = 0 then 5 else 0, window := none }) s))
    | some o =>
      if c = 0 ∧ s.otherBankUsable = false then
        told (updEvent 0xF9 2 c (modComp c (fun x => { x with state := 5, window := none, old := none }) s))
      else
        let s := modComp c (fun x =>
          { x with running := o.1, requires := o.2.1, format := o.2.2, state := 0, window := none, old := none }) s
        let s := if c = 1 then
            let s := s.upd.switched.foldl (fun s e => s.modSat e.1 e.2 (fun y => match y.ident with
              | some i => if identVersion i = x.stored then
                  { y with ident := some { i with image := 1 - i.image } } else y
              | none => y)) s
            { s with upd := { s.upd with switched := [] } }
          else s
        let s := updEvent 0xF9 1 c s
        if c = 0 then
          startRestore (releaseBanks (swapRunning { s with guard := { s.guard with signature := s.upd.keptSignature } }))
        else told s

/-- `RESTORE_COMPLETE` (R695): the region holds the running image again; a hibernation that waited goes on (R689). -/
def execRestoreComplete (good : Bool) (s : State) : Host.Outcome State Fault Refusal :=
  .next (if !s.upd.restoring then s else
    let hib := s.upd.hibernateAfter
    let u := { s.upd with restoring := false, hibernateAfter := none }
    let s := { s with upd := u }
    let s := if good then updEvent 0xFB 1 0 (modComp 0 (fun x => { x with state := 0, stored := x.running }) s)
             else updEvent 0xFB 2 0 s
    let s := tellAbort (if good then stOk else stInternalFault) s
    match hib with
    | some r =>
      if good then { s with sys := { s.sys with pendingMode := s.sys.pendingMode ++ [{ target := .hibernate, by' := r }] } }
      else complete r opRequestMode stInternalFault noDetail [] s
    | none => s)

/-- `HEALTH_WINDOW_END`: confirmation where `UPD.AUTO_CONFIRM` asks for it and the component is healthy, else failure (R691,
R692). -/
def execHealthWindowEnd (s : State) : Host.Outcome State Fault Refusal :=
  .next (match s.upd.comps.findIdx? (fun c => c.window.isSome) with
  | none => s
  | some c => if s.pn 0x1402 = 1 ∧ s.healthy c = true ∧ s.upd.fallback = none then confirm c s else failWindow s)

/-- `UPD_CONFIRM` (R691). -/
def serveUpdConfirm (p : Port) (tag : Half) (pl : List Byte) (s : State) : State :=
  serve (opUpd 6) modesAll (pl.length == 4) p tag (fun s =>
    let c := field pl 0 1
    if 4 < c ∨ field pl 1 3 ≠ 0 then reply p (opUpd 6) tag stOutOfRange noDetail [] s
    else if (s.comp c).window = none ∨ s.upd.fallback.isSome ∨ s.healthy c = false then
      reply p (opUpd 6) tag stNotPermitted noDetail [] s
    else reply p (opUpd 6) tag stOk noDetail [] (confirm c s)) s

/-- `UPD_CONFIRM`. -/
def execUpdConfirm (port : Port) (tag : Half) (payload : List Byte) (s : State) : Host.Outcome State Fault Refusal :=
  .next (hostRow 0x0606 serveUpdConfirm port tag payload s)

/-- The session of a component is closed and its journal cleared; a handover of it that still waits ends. -/
def closeSession (c : Nat) (s : State) : State :=
  let own := (s.upd.session == 1 || s.upd.session == 2) && mComp s.upd.manifest == c
  let s := if own then { s with upd := { s.upd with session := 3, pieces := [], verify := none } } else s
  match s.upd.handover with
  | some h =>
    if h.comp = c then complete h.by' (opUpd 5) stNotPermitted noDetail [] { s with upd := { s.upd with handover := none, toSwitch := [] } }
    else s
  | none => s

/-- `UPD_ABORT` (R696). -/
def serveUpdAbort (p : Port) (tag : Half) (pl : List Byte) (s : State) : State :=
  serve (opUpd 7) modesAll (pl.length == 4) p tag (fun s =>
    let c := field pl 0 1
    let x := s.comp c
    if 4 < c ∨ field pl 1 3 ≠ 0 then reply p (opUpd 7) tag stOutOfRange noDetail [] s
    else if x.window.isSome then
      reply p (opUpd 7) tag stAccepted noDetail []
        { s with upd := { s.upd with fallback := some c, abortBy := s.upd.abortBy ++ [.packet p tag] } }
    else if x.state = 1 ∨ x.state = 2 then
      let s := closeSession c s
      if c = 0 ∧ s.sys.mode ≠ .loader then
        let s := startRestore (reply p (opUpd 7) tag stAccepted noDetail [] s)
        { s with upd := { s.upd with abortBy := s.upd.abortBy ++ [.packet p tag] } }
      else
        reply p (opUpd 7) tag stOk noDetail [] (if c = 0 then s else modComp c (fun x => { x with state := 0, stored := x.running }) s)
    else reply p (opUpd 7) tag stNotPermitted noDetail [] s) s

/-- `UPD_ABORT`. -/
def execUpdAbort (port : Port) (tag : Half) (payload : List Byte) (s : State) : Host.Outcome State Fault Refusal :=
  .next (hostRow 0x0607 serveUpdAbort port tag payload s)

/-! ## Starts and hibernation (R687, R689, R694, R697) -/

/-- Components 1 to 4 at a start: trials of the dies and satellites end, a replaced loader body runs for the first time. -/
def updStartPeers (s : State) : State :=
  let back := fun (x : CompState) => if x.state = 3 then
      (match x.old with
       | some o => { x with state := 2, window := none, old := none, running := o.1, requires := o.2.1, format := o.2.2 }
       | none => { x with state := 2, window := none })
    else x
  let s := modComp 3 back (modComp 2 back (modComp 1 back s))
  let s := modComp 4 (fun x =>
    if x.state = 0 ∧ x.stored ≠ x.running then { x with running := x.stored, requires := mRequires x.image } else x) s
  if s.upd.loaderBody then s else updEvent 0xFB 3 4 s

/-- The main image at a start: whether the start ends in LOADER (R689, R694). -/
def updStartMain (cause : Nat) (s : State) : State × Bool :=
  let x := s.comp 0
  let s := { s with upd := { s.upd with restoring := false } }
  if (x.state = 3 ∨ x.state = 4) ∧ (cause = 0x05 ∨ cause = 0x07) then
    (modComp 0 (fun x => { x with state := 5, window := none, old := none }) s, true)
  else if x.state = 2 ∨ x.state = 3 ∨ x.state = 4 then
    (modComp 0 (fun x => { x with state := 4, old := none, running := x.stored, requires := mRequires x.image,
                                  format := mFormat x.image, window := some (s.time.opSec + s.pn 0x1401) }) s, false)
  else (s, x.state != 0)

/-- An accepted hibernation meets the main image's state (R689): whether the entry goes on now. -/
def hibernateGate (by' : Requester) (s : State) : State × Bool :=
  let wait := fun (s : State) => ({ s with upd := { s.upd with hibernateAfter := some by' } }, false)
  match (s.comp 0).state with
  | 1 | 2 => wait (startRestore s)
  | 3 => if s.healthy 0 then (confirm 0 s, true) else
    let t := commitFallback { s with upd := { s.upd with fallback := some 0 } }
    if t.upd.restoring then wait t else (t, true)
  | 4 => if s.healthy 0 then (confirm 0 s, true) else (s, true)
  | 6 => wait s
  | _ => (s, true)

end Sys2Proof.Machine
end

