-- ==== Sys2Proof/Machine/Stage.lean ====
section
/-! DEFINITION. Parameters: reading, staging, checking, applying, discarding, unlocking, and the change log (R13 to R16, R168 to
R181, R497, R498). -/
namespace Sys2Proof.Machine
open Sys2Proof

/-- Opcode of `READ_PARAM`. -/
def opReadParam : Nat := 0x0301
/-- Opcode of `STAGE_PARAM`. -/
def opStage : Nat := 0x0310
/-- Opcode of `CHECK_STAGE`. -/
def opCheck : Nat := 0x0311
/-- Opcode of `FORD_APPLY`. -/
def opFord : Nat := 0x0312
/-- Opcode of `DISCARD_STAGE`. -/
def opDiscard : Nat := 0x0313
/-- Opcode of `UNLOCK_SAFETY_SET`. -/
def opUnlock : Nat := 0x0320

/-- Change the parameter state. -/
def modParam (f : ParamState → ParamState) (s : State) : State := { s with param := f s.param }

/-- Another transport owns the shadow set (R172). -/
def State.foreign (s : State) (p : Port) : Bool := match s.param.owner with | some q => q != p | none => false

/-! ## READ_PARAM (R169) -/

/-- The value of a parameter in force; immediate parameters live where they act, and two of them read 0 (R518, R522, R568). -/
def State.paramNow (s : State) (id : Nat) : PVal :=
  if id = 0x0D03 then .num (s.field.soCmd : Int)
  else if 0x0D28 ≤ id ∧ id < 0x0D30 then .num (s.field.goCmd.getD (id - 0x0D28) 0 : Int)
  else if 0x0D34 ≤ id ∧ id < 0x0D36 then .num (s.field.aoCmd.getD (id - 0x0D34) 0 : Int)
  else if id = 0x1109 then .num s.disp.setpoint5
  else s.param.get id

/-- The value a source gives: 0 applied, 1 staged where there is one, 2 factory default. -/
def State.paramFrom (s : State) (source id : Nat) : PVal :=
  if source = 2 then paramDefault id
  else if source = 1 then (assocGet id s.param.shadow).getD (s.paramNow id) else s.paramNow id

/-- Records in order while they fit in `room` bytes. -/
def fitRecords : Nat → List (List Byte) → List (List Byte)
  | _, [] => []
  | room, r :: l => if r.length ≤ room then r :: fitRecords (room - r.length) l else []

/-- `READ_PARAM`. -/
def serveReadParam (p : Port) (tag : Half) (pl : List Byte) (s : State) : State :=
  let n := field pl 2 2
  serve opReadParam modesAll (6 ≤ pl.length && pl.length == 4 + 2 * n && n ≤ 1023) p tag (fun s =>
    if 2 < field pl 0 1 ∨ field pl 1 1 ≠ 0 then reply p opReadParam tag stOutOfRange noDetail [] s else
    let ids := (List.range n).map (fun i => field pl (4 + 2 * i) 2)
    match firstFault (fun id => if (paramSpec id).isSome then none else some stBadParamId) 0 ids with
    | some (i, st) => reply p opReadParam tag st i [] s
    | none =>
      let all := ids.map (fun id => recordBytes id (s.paramFrom (field pl 0 1) id) (id == passwordId))
      let fit := fitRecords 4092 all
      reply p opReadParam tag stOk (if fit.length = n then noDetail else fit.length) fit.flatten s) s

/-! ## STAGE_PARAM (R170 to R173, R177) -/

/-- Why an immediate record is refused by the state (R517, R518). -/
def State.immediateFault (s : State) (r : RawRecord) : Option Nat :=
  let v := leNat r.value
  if r.id = 0x0D03 then
    if s.sys.mode ≠ .run then some stWrongMode else if v &&& s.contactorMask ≠ 0 then some stNotPermitted else none
  else if 0x0D28 ≤ r.id ∧ r.id < 0x0D30 then if s.loopGo (r.id - 0x0D28) then some stNotPermitted else none
  else if 0x0D34 ≤ r.id ∧ r.id < 0x0D36 then if s.loopAo (r.id - 0x0D34) then some stNotPermitted else none
  else none

/-- Why a record is refused. -/
def State.stageFault (s : State) (r : RawRecord) : Option Nat :=
  match recordFault r with
  | some st => some st
  | none => s.immediateFault r

/-- The shadow set after the records that enter it. -/
def enterShadow (rs : List RawRecord) (sh : List (Nat × PVal)) : List (Nat × PVal) :=
  (rs.filter (·.staged)).foldl (fun l r => assocSet r.id r.val l) sh

/-- `STAGE_PARAM`. -/
def serveStageParam (p : Port) (tag : Half) (pl : List Byte) (s : State) : State :=
  serve opStage modesAll (4 ≤ pl.length && pl.length ≤ 4096) p tag (fun s =>
    let rs := parseRecords 1024 pl
    let say := fun (st d : Nat) => reply p opStage tag st d [] s
    if s.param.pendingApply.isSome then say stStageConflict noDetail
    else if s.foreign p && rs.any (·.staged) then say stStageConflict noDetail
    else
      let g := rs.findIdx? (fun r => r.id / 256 == 0x0C)
      match (if s.sys.mode = .service then (if s.param.unlocked.isNone then g.map (fun i => (i, stLocked)) else none)
             else g.map (fun i => (i, stWrongMode))) with
      | some (i, st) => say st i
      | none =>
        match firstFault s.stageFault 0 rs with
        | some (i, st) => say st i
        | none =>
          match (List.range rs.length).find? (fun i => 1024 < (enterShadow (rs.take (i + 1)) s.param.shadow).length) with
          | some i => say stOutOfRange i
          | none =>
            let q := s.param
            reply p opStage tag stOk noDetail [] { s with param := { q with
              shadow := enterShadow rs q.shadow,
              owner := if q.owner.isNone && rs.any (·.staged) then some p else q.owner,
              immediate := q.immediate ++ (rs.filter (·.immediate)).map (fun r => (r.id, r.val)) } }) s

/-! ## CHECK_STAGE and FORD_APPLY (R174, R176, R177) -/

/-- `CHECK_STAGE`. -/
def serveCheckStage (p : Port) (tag : Half) (pl : List Byte) (s : State) : State :=
  serve opCheck modesAll (pl.length == 0) p tag (fun s =>
    if s.foreign p then reply p opCheck tag stStageConflict noDetail [] s else
    let vs := s.stageViolations
    reply p opCheck tag (if vs.isEmpty then stOk else stCheckFailed) (min vs.length 0xFFFE) (s.checkResult vs) s) s

/-- The shadow set holds a parameter of an apply kind. -/
def ParamState.stages (q : ParamState) (f : Nat → Bool) : Bool := q.shadow.any (fun e => f e.1)

/-- A Ford+SERVICE parameter (R15). -/
def isService (id : Nat) : Bool := match paramSpec id with | some r => r.apply == .service | none => false

/-- The conditions of R15 on an apply that needs SERVICE, or the unlocked guarded set. -/
def State.r15 (s : State) (service guarded : Bool) : Option Nat :=
  if service && s.sys.mode != .service then some stWrongMode
  else if guarded && s.param.unlocked.isNone then some stLocked else none

/-- The status a `FORD_APPLY` is refused with, in the order of R176; `some` of check violations aside. -/
def State.fordRefused (s : State) (instant digest : Nat) : Option Nat :=
  let q := s.param
  if q.shadow.isEmpty then some stNotPermitted
  else if instant ≠ 0 ∧ s.synced = false then some stNotPermitted
  else if instant ≠ 0 ∧ s.net + 86400 * 1000000000 < instant then some stOutOfRange
  else if digest ≠ 0 ∧ digest ≠ stageDigest q.shadow then some stStageConflict
  else if q.pendingApply.isSome then some stStageConflict else none

/-- `FORD_APPLY`. -/
def serveFordApply (p : Port) (tag : Half) (pl : List Byte) (s : State) : State :=
  serve opFord modesAll (pl.length == 12) p tag (fun s =>
    let say := fun (st : Nat) => reply p opFord tag st noDetail [] s
    let q := s.param
    if s.foreign p then say stStageConflict else
    match s.fordRefused (field pl 0 8) (field pl 8 4) with
    | some st => say st
    | none =>
      let vs := s.stageViolations
      if !vs.isEmpty then reply p opFord tag stCheckFailed (min vs.length 0xFFFE) (s.checkResult vs) s else
      let sv := q.stages isService
      let gd := q.stages (fun id => id / 256 == 0x0C)
      match s.r15 sv gd with
      | some st => say st
      | none =>
        let a : PendingApply := { instant := field pl 0 8, port := p, tag := tag, service := sv, guarded := gd }
        modParam (fun q => { q with pendingApply := some a }) (say stAccepted)) s

/-! ## DISCARD_STAGE (R180) -/

/-- Network time of the coming frame boundary. -/
def State.boundaryNet (s : State) : Nat := s.netAt (s.time.now + (1000 - s.time.now % 1000))

/-- The coming boundary commits the pending apply, where it is a saddle point (R32). -/
def State.applyDue (s : State) : Bool :=
  match s.param.pendingApply with
  | some a => a.instant == 0 || decide (a.instant ≤ s.boundaryNet)
  | none => false

/-- A pending apply that the coming saddle point commits, past the quiesce mark: a discard finds the shadow set empty. -/
def State.applyFrozen (s : State) : Bool := s.time.quiesced && s.applyDue

/-- The record of a forced discard, naming the transport; the spec gives its source no number. -/
def noteForced (p : Port) (s : State) : State :=
  let f := s.takeFree
  note (Config.freeNat f.1 % 256) 0 5 (match p with | .spi => 0 | .can => 1) [] f.2

/-- `DISCARD_STAGE`. -/
def serveDiscard (p : Port) (tag : Half) (pl : List Byte) (s : State) : State :=
  serve opDiscard modesAll (pl.length == 4) p tag (fun s =>
    let say := fun (st : Nat) (s : State) => reply p opDiscard tag st noDetail [] s
    let force := field pl 0 1 == 1
    if 1 < field pl 0 1 ∨ zeros (pl.drop 1) = false then say stOutOfRange s
    else if s.foreign p && !force then say stStageConflict s
    else
      let s := if force then noteForced p s else s
      if s.applyFrozen then say stOk s else
      let s := match s.param.pendingApply with
        | some a => complete (.packet a.port a.tag) opFord stStageConflict noDetail [] s
        | none => s
      say stOk (modParam (fun q => { q with shadow := [], owner := none, pendingApply := none }) s)) s

/-! ## UNLOCK_SAFETY_SET (R181) -/

/-- `UNLOCK_SAFETY_SET`. -/
def serveUnlock (p : Port) (tag : Half) (pl : List Byte) (s : State) : State :=
  serve opUnlock [.service] (14 ≤ pl.length && pl.length ≤ 24 && pl.length == 8 + field pl 0 1) p tag (fun s =>
    let say := fun (st : Nat) (s : State) => reply p opUnlock tag st noDetail [] s
    let pw := pl.drop 8
    if field pl 1 3 ≠ 0 ∨ pw.any (fun b => b.toNat < 0x21 || 0x7E < b.toNat) = true then say stOutOfRange s
    else if s.time.opSec < s.param.blockEnd then say stLocked (raise0 0xBD s)
    else if s.param.get passwordId = .str pw then
      say stOk (raise0 0xBB (modParam (fun q => { q with wrongCount := 0, unlocked := some (field pl 4 4) }) s))
    else
      let n := s.param.wrongCount + 1
      let s := modParam (fun q => { q with wrongCount := n, blockEnd := if 5 ≤ n then s.time.opSec + 600 else q.blockEnd }) s
      say stLocked (raise0 0xBD s)) s

/-! ## CHANGE_LOG_READ (R498) -/

/-- `CHANGE_LOG_READ`. -/
def serveChangeLog (p : Port) (tag : Half) (pl : List Byte) (s : State) : State :=
  serve opChangeLog modesAll (pl.length == 8) p tag (fun s =>
    let first := field pl 0 4
    let count := field pl 4 2
    let l := s.guard.changeLog
    if count = 0 ∨ 127 < count ∨ field pl 6 2 ≠ 0 then reply p opChangeLog tag stOutOfRange noDetail [] s else
    let got := (if first = 0xFFFFFFFF then l else l.filter (fun e => first ≤ e.seq)).take count
    let oldest := match l.head? with | some e => e.seq | none => 0xFFFFFFFF
    let newest := match l.getLast? with | some e => e.seq | none => 0
    reply p opChangeLog tag stOk noDetail
      (leBytes 4 oldest ++ leBytes 4 newest ++ leBytes 2 got.length ++ [0, 0] ++ got.flatMap (·.bytes)) s) s

/-! ## Immediate parameters take effect (R13) -/

/-- One immediate parameter takes effect at a saddle point. -/
def applyImmediate (id : Nat) (v : PVal) (s : State) : State :=
  match v with
  | .str _ => s
  | .num x =>
    if id = 0x0D03 then applySoCmd x.toNat s
    else if id = 0x0D04 then applyLatchClear x.toNat s
    else if 0x0D28 ≤ id ∧ id < 0x0D30 then applyGoCmd (id - 0x0D28) x.toNat s
    else if 0x0D34 ≤ id ∧ id < 0x0D36 then applyAoCmd (id - 0x0D34) x.toNat s
    else if id = 0x0F0B then applyRecover x.toNat s
    else if id = 0x1109 then modDisp (fun d => { d with setpoint5 := x }) s
    else s

/-- Every accepted immediate parameter takes effect, in the order of acceptance. -/
def applyImmediates (s : State) : State :=
  s.param.immediate.foldl (fun s e => applyImmediate e.1 e.2 s) (modParam (fun q => { q with immediate := [] }) s)

/-! ## The commit of a Ford apply (R14, R178, R179) -/

/-- Queue depths above the hardware depth are stored clamped (R648). -/
def clampDepth (e : Nat × PVal) : Nat × PVal :=
  match e.2 with
  | .num v => if 0x0440 ≤ e.1 ∧ e.1 < 0x0480 ∧ (hwDepth (e.1 - 0x0440) : Int) < v then (e.1, .num (hwDepth (e.1 - 0x0440) : Int)) else e
  | .str _ => e

/-- The guard configuration is loaded, with a pass signature the spec gives no value for (R481, R494). -/
def loadGuard (s : State) : State :=
  let f := s.takeFree
  writeGuardConfig { f.2 with guard := { f.2.guard with signature := Config.freeNat f.1 % 65536 } }

/-- An apply of block 0x0C: the mark of R495 ends, the change log gets its entry, the guard die its configuration. -/
def commitGuarded (old : ParamState) (changed : List Nat) (p : Port) (s : State) : State :=
  let g := changed.filter (fun id => id / 256 == 0x0C)
  let s := modParam (fun q => { q with defaultsMark := false }) s
  if g.isEmpty then s else
  let e : ChangeEntry :=
    { seq := 0, opSec := s.time.opSec, powerCycles := s.time.powerCycles,
      kind := bit (g.any (· != passwordId)) + 2 * bit (g.contains passwordId), userTag := s.param.unlocked.getD 0,
      oldCrc := guardedCrc old, newCrc := guardedCrc s.param, changed := g.length, transport := match p with | .spi => 0 | .can => 1 }
  let was := s
  let s := loadGuard (logChange e s)
  (List.range 8).foldl (fun s i =>
    if s.pairOn i && !was.pairOn i && (s.pairOf i).demanded then raise 0xB0 0 9 i [] s else s) s

/-- Twice the corner frequency of a filter code, Hz; the bypass has no corner below any rate. -/
def cornerTwice : Nat → Nat
  | 1 => 24 | 2 => 90 | 3 => 360 | 4 => 1440 | 5 => 5800 | _ => 1000000000

/-- Cells whose record an apply resets: a changed generation field, or a position no longer masked (R419); a position newly masked
has no estimate any more. -/
def commitCells (old : State) (changed : List Nat) (s : State) : State :=
  changed.foldl (fun s id =>
    if 0x0A80 ≤ id ∧ id < 0x0B00 then
      let x := id - 0x0A80
      (List.range 16).foldl (fun s j =>
        if old.pn id / 4 ^ j % 4 = s.pn id / 4 ^ j % 4 then s else resetCell (x / 32) (16 * (x % 32) + j) s) s
    else if 0x0680 ≤ id ∧ id < 0x0700 then
      let x := id - 0x0680
      (List.range 16).foldl (fun s j =>
        let k := x / 32
        let c := 16 * (x % 32) + j
        if (old.pn id).testBit j == (s.pn id).testBit j then s
        else if (s.pn id).testBit j then modCellEst k c (fun e => { e with present := false }) (disqualify k c 8 s)
        else resetCell k c s) s
    else s) s

/-- A ring is no longer enabled: it sends SLEEP and stops (R731). -/
def stopRing (r : Nat) (s : State) : State :=
  let s := askSleep r (s.pn 0x1501) ((failCommands r s).modRing r (fun g => { g.abandon with phase := .idle, reAddr := none }))
  updateIncomplete r (s.modRing r (fun g => { g with
    op := .disabled, enumerated := false, leftSplit := false, broken := false, near := none, far := none, bufs := [], queue := [],
    kept := [], sats := g.sats.map (fun x => { x with admitted := false }) }))

/-- Rings after an apply of `RING.STRAND_ENABLE` or `RING.SATELLITE_COUNT` (R731), and configuration whose source changed
(R724). -/
def commitRings (old : State) (changed : List Nat) (s : State) : State :=
  let config := changed.any (fun id => [0x0C03, 0x0C04, 0x0C06, 0x0C07, 0x080B, 0x1502].contains id || (0x0680 ≤ id && id < 0x0700))
  (List.range 4).foldl (fun s r =>
    if s.enabled r then
      if !old.enabled r || old.satCount r != s.satCount r then startEnum r s
      else if config then queueConfig r s else s
    else if old.enabled r then stopRing r s else s) s

/-- Field channels whose configuration changed. -/
def commitField (changed : List Nat) (s : State) : State :=
  changed.foldl (fun s id =>
    if 0x0D10 ≤ id ∧ id < 0x0D1C then if (s.pn id).testBit 31 then s else commandOff (id - 0x0D10) s
    else if 0x0D20 ≤ id ∧ id < 0x0D28 then
      if (s.pn id).testBit 31 then s else { s with field := { s.field with goDuty := setAt s.field.goDuty (id - 0x0D20) 0 } }
    else if id = 0x0D30 ∨ id = 0x0D31 then modAi (id - 0x0D30) (fun a => { burdenOpen := a.burdenOpen && !s.ac0On }) s
    else if id = 0x0D32 ∨ id = 0x0D33 then reconfigureAo (id - 0x0D32) s
    else if id = 0x0D36 ∨ id = 0x0D37 then if (s.pn id).testBit 31 then s else modPi (id - 0x0D36) (fun _ => {}) s
    else s) s

/-- Channels, federation and two-wire slots whose configuration changed. -/
def commitNet (old : State) (changed : List Nat) (s : State) : State :=
  let s := (List.range 3).foldl (fun s c =>
    let on := s.canMode c != 0
    if (old.canMode c != 0) == on then s else switchChannel c on s) s
  let s := if changed.contains 0x0F10 then setReasm {} s else s
  let s := if changed.contains 0x1102 || changed.contains 0x1103 then modDisp (fun d => { d with duplicate := false }) s else s
  let s := if [0x1101, 0x1102, 0x1103, 0x1002, 0x1003].any changed.contains then
      modDisp (fun d => { d with segSet := [], trunkSet := [], segLead := none, trunkLead := none, pendingAlloc := none,
                                 segAlloc := none, members := [], segments := [], ledger := [] }) s
    else s
  (List.range 8).foldl (fun s j =>
    if [0, 1, 2].any (fun w => changed.contains (0x1220 + 3 * j + w)) then
      { s with twc := { s.twc with slots := modAt s.twc.slots j (fun x => { x with value := none, failed := false }) } }
    else s) s

/-- Transfers after an apply that includes `BAL.ENABLE` (R322, R323, R338). -/
def commitBal (old : State) (staged : List Nat) (s : State) : State :=
  if !staged.contains 0x0801 then s else
  (List.range 4).foldl (fun s k =>
    let s := s.modBal k (fun b => { b with latchedOff := false, railFaults := [] })
    if (old.pn 0x0801).testBit k && !(s.pn 0x0801).testBit k then stopTransfers k s else s) s

/-- The insulation monitor after an apply of `STRING.ISO_ENABLE`: one that is not active asserts no line (R289, R294). -/
def commitIso (changed : List Nat) (s : State) : State :=
  if changed.contains 0x070D = false then s
  else if s.pn 0x070D = 1 then followLine s
  else
    let s := if s.hv.isoLine then raise 0x67 0 0 0 [] s else s
    followLine { s with hv := { s.hv with isoLine := false, isoHighRun := 0, iso := List.replicate 5 none } }

/-- Learning switched off ends every open cycle (cause 9 of R397). -/
def commitLearn (changed : List Nat) (s : State) : State :=
  if changed.contains 0x0A01 && s.pn 0x0A01 == 0 then (List.range 4).foldl (fun s k => disqualifyStrand k 9 s) s else s

/-- The active converter charges HOLD to a changed `FEED.HOLD_VOLTAGE` (R74). -/
def commitFeed (changed : List Nat) (s : State) : State :=
  if changed.contains 0x0203 && s.feed.active.isSome then { s with feed := { s.feed with holdMv := s.pn 0x0203 } } else s

/-- The staged set takes effect: every consequence of the parameters that changed, then the completion (R176). -/
def commitSet (a : PendingApply) (s : State) : State :=
  let old := s
  let sh := s.param.shadow.map clampDepth
  let staged := sh.map (·.1)
  let clamped := (s.param.shadow.filter (fun e => clampDepth e != e)).map (·.1)
  let q := s.param
  let s := { s with param := { q with applied := applyAll sh q.applied, shadow := [], owner := none, pendingApply := none,
                                      prior := some q.applied } }
  let changed := staged.filter (fun id => old.param.get id != s.param.get id)
  let s := clamped.foldl (fun s id => raise 0x0A 0 0 0 (leBytes 1 (id - 0x0440)) s) s
  let s := if staged.any (fun id => id / 256 == 0x0C) then commitGuarded old.param changed a.port s else s
  let s := commitBal old staged s
  let s := commitIso changed (commitCells old changed (commitLearn changed (commitFeed changed s)))
  let s := if changed.any (fun id => 0x0920 ≤ id && id < 0x0980) then reinitCells true s
           else if changed.contains 0x091B then reinitCells false s else s
  let s := if s.pn 0x0501 < cornerTwice (s.pn 0x0601) then raise0 0x51 s else s
  let s := commitNet old changed (commitField changed (applyLoops old.loopWords (commitRings old changed s)))
  complete (.packet a.port a.tag) opFord stOk noDetail
    (leBytes 8 s.net ++ leBytes 8 s.time.now ++ leBytes 2 staged.length ++ [BitVec.ofNat 8 (bit s.synced)]) s

/-- A pending apply at a saddle point: taken where its instant has come and R15 still holds (R32, R178). The second part tells
whether a commit took effect. -/
def commitFord (s : State) : State × Bool :=
  match s.param.pendingApply with
  | none => (s, false)
  | some a =>
    if a.instant ≠ 0 ∧ s.net < a.instant then (s, false) else
    match s.r15 a.service a.guarded with
    | some st =>
      (complete (.packet a.port a.tag) opFord st noDetail [] (modParam (fun q => { q with pendingApply := none }) s), false)
    | none => (commitSet a s, true)

/-! ## Meanings -/

/-- `READ_PARAM`. -/
def execReadParam (port : Port) (tag : Half) (payload : List Byte) (s : State) : Host.Outcome State Fault Refusal :=
  .next (hostRow 0x0301 serveReadParam port tag payload s)

/-- `STAGE_PARAM`. -/
def execStageParam (port : Port) (tag : Half) (payload : List Byte) (s : State) : Host.Outcome State Fault Refusal :=
  .next (hostRow 0x0310 serveStageParam port tag payload s)

/-- `CHECK_STAGE`. -/
def execCheckStage (port : Port) (tag : Half) (payload : List Byte) (s : State) : Host.Outcome State Fault Refusal :=
  .next (hostRow 0x0311 serveCheckStage port tag payload s)

/-- `FORD_APPLY`. -/
def execFordApply (port : Port) (tag : Half) (payload : List Byte) (s : State) : Host.Outcome State Fault Refusal :=
  .next (hostRow 0x0312 serveFordApply port tag payload s)

/-- `DISCARD_STAGE`. -/
def execDiscardStage (port : Port) (tag : Half) (payload : List Byte) (s : State) : Host.Outcome State Fault Refusal :=
  .next (hostRow 0x0313 serveDiscard port tag payload s)

/-- `UNLOCK_SAFETY_SET`. -/
def execUnlockSafetySet (port : Port) (tag : Half) (payload : List Byte) (s : State) : Host.Outcome State Fault Refusal :=
  .next (hostRow 0x0320 serveUnlock port tag payload s)

/-- `CHANGE_LOG_READ`. -/
def execChangeLogRead (port : Port) (tag : Half) (payload : List Byte) (s : State) : Host.Outcome State Fault Refusal :=
  .next (hostRow 0x0510 serveChangeLog port tag payload s)

end Sys2Proof.Machine
end

