-- ==== Sys2Proof/Machine/Thermal.lean ====
section
/-! DEFINITION. The housekeeping round, throttling, thermal shutdown and the compensation of TB0 (chapter 15). -/
namespace Sys2Proof.Machine
open Sys2Proof

/-- Core junction channels (R532, R533). -/
def coreJunctions : List Nat := [0, 1, 2, 3, 4, 5, 6, 7, 22]

/-- Component channels (R534). -/
def componentChannels : List Nat := [14, 15, 16, 17, 18, 19, 20, 21]

/-- One round of a graded state: three rounds at or above the set level set it, three below the clear level clear it, and a
round that does not meet the condition restarts its count (R535). -/
def ThermState.step (reading : Option Int) (setAt' clearAt : Int) (t : ThermState) : ThermState :=
  match reading with
  | none => { t with above := 0, below := 0 }
  | some v =>
    let above := if setAt' ≤ v then t.above + 1 else 0
    let below := if v < clearAt then t.below + 1 else 0
    { set := (t.set || decide (3 ≤ above)) && !decide (3 ≤ below), above := min 3 above, below := min 3 below }

/-- A reading within −55 °C to 200 °C (R533). -/
def validTemp (v : Option Int) : Option Int := v.bind (fun x => if -5500 ≤ x ∧ x ≤ 20000 then some x else none)

/-- Pacer step the throttle states ask for (R533, R536). -/
def ThermalState.wanted (t : ThermalState) : Nat :=
  let on := fun (i : Nat) => (t.steps.getD i {}).set
  let w := if on 2 then 3 else if on 1 then 2 else if on 0 then 1 else 0
  if t.blind then max 2 w else w

/-- Compensation the factory table gives for a temperature in 0.01 °C, 0.001 ppm (R547). -/
def compensationAt (v : Int) : Int :=
  let x := (clampInt (-4000) 16000 v + 4000).toNat
  let i := min 15 (x / 1250)
  let f : Rat := ((x - 1250 * i : Nat) : Rat) / 1250
  roundRat ((Config.tcxoTable i : Rat) + f * ((Config.tcxoTable (i + 1) - Config.tcxoTable i : Int) : Rat))

/-- An event about a thermal channel and its reading (R551). -/
def raiseThermal (src : Nat) (at' : Option (Nat × Int)) (s : State) : State :=
  match at' with
  | some (c, v) => raise src 0 5 c (s16Bytes v) s
  | none => raise src 0 0 0 [] s

/-- Readings of a round, with event 0xD3 for every channel that turns invalid or valid (R533). -/
def takeReadings (d : Housekeeping) (s : State) : State :=
  let old := s.thermal.temps
  let new := (List.range 24).map (fun c => validTemp (d.temps.getD c none))
  let runs := (List.range 24).map (fun c =>
    if (new.getD c none).isSome then min 3 (s.thermal.validRuns.getD c 0 + 1) else 0)
  let changed := (List.range 24).filter (fun c =>
    (new.getD c none).isSome != ((old.getD c none).isSome || !s.thermal.ran))
  let s := { s with thermal := { s.thermal with
    temps := new, supplies := (List.range 8).map (fun i => d.supplies.getD i 0), validRuns := runs, ran := true,
    asserted := d.comparator } }
  changed.foldl (fun s c => raise 0xD3 0 5 c (match new.getD c none with | some v => s16Bytes v | none => []) s) s

/-- The graded states after a round (R534 to R536), with their events (R538). -/
def judgeThermal (s : State) : State :=
  let t := s.thermal
  let warn : Int := 100 * s.pi 0x0E01
  let thr : Int := 100 * s.pi 0x0E02
  let hot := fun (l : List Nat) => t.hottest l
  let val := fun (x : Option (Nat × Int)) => x.map (·.2)
  let j := hot junctions
  let c := hot coreJunctions
  let m := hot componentChannels
  let w := t.warn.step (val j) warn (warn - 500)
  let st := (List.range 3).map (fun i =>
    (t.steps.getD i {}).step (val c) (thr + 500 * (i : Int)) (thr + 500 * (i : Int) - 500))
  let p := t.component.step (val m) 12500 12000
  let dark := coreJunctions.all (fun c => (t.temps.getD c none).isNone)
  let back := coreJunctions.any (fun c => 3 ≤ t.validRuns.getD c 0)
  let s := { s with thermal := { t with warn := w, steps := st, component := p, blind := dark || (t.blind && !back) } }
  let s := { s with thermal := { s.thermal with nextStep := s.thermal.wanted } }
  let s := if w.set != t.warn.set then raiseThermal 0xD0 j s else s
  if p.set != t.component.set then raiseThermal 0xD2 m s else s

/-- Channels 3 and 8 against the comparator (R546). -/
def judgeComparator (s : State) : State :=
  let t := s.thermal
  let run := fun (i c : Nat) => match t.temps.getD c none with
    | some v => if 17000 ≤ v then min 3 (t.hotRuns.getD i 0 + 1) else 0
    | none => 0
  let runs := [run 0 3, run 1 8]
  let now := runs.any (· == 3) && !s.sys.lock.thermal
  let was := t.hotRuns.any (· == 3)
  let s := { s with thermal := { t with hotRuns := runs, disagree := t.disagree || now } }
  if now && !was then raiseThermal 0xD4 (t.hottest [3, 8]) s else s

/-- TB0 and reference compensation of a round (R547, R548). -/
def compensate (s : State) : State :=
  let t := s.thermal
  let keep := fun (c : Nat) (old : Option Int) => match t.temps.getD c none with | some v => some v | none => old
  let refs := [keep 22 (t.refs.getD 0 none), keep 23 (t.refs.getD 1 none), keep 10 (t.refs.getD 2 none)]
  match t.temps.getD 21 none with
  | none => { s with thermal := { t with refs := refs } }
  | some v =>
    let e := decide (v ≤ -4000) || decide (16000 ≤ v)
    let s := { s with thermal := { t with
      refs := refs, comp := t.comp + clampInt (-200) 200 (compensationAt v - t.comp), compEnd := e } }
    if e != t.compEnd then raise 0xD7 0 5 21 (s16Bytes v) s else s

/-- `HOUSEKEEPING_ROUND`: one round of the 32 channels, from step 11 of R114 on; none begins in the quiesce window (R29, R532 to R538,
R546 to R548). -/
def execHousekeepingRound (data : Housekeeping) (s : State) : Host.Outcome State Fault Refusal :=
  .next (if s.alive && s.sys.mode != .loader && s.sys.ready && !s.time.quiesced then compensate (judgeComparator (judgeThermal (takeReadings data s))) else s)

/-- A change of pacer step at a frame boundary (R537). -/
def followPacer (s : State) : State :=
  if s.thermal.nextStep = s.thermal.step then s
  else raiseThermal 0xD1 (s.thermal.hottest coreJunctions)
    (raise0 0x05 { s with thermal := { s.thermal with step := s.thermal.nextStep } })

/-- The domains THERMAL_LOCK switches off hold no work any more: rings, snapshots, estimates under way, weld checks. A command
that waited for them completes with `ST_WRONG_MODE` (R36, R542). -/
def powerOffHot (s : State) : State :=
  let asked := s.rings.flatMap (fun g => (g.inFlight.toList ++ g.queue ++ g.kept).filterMap (fun d =>
    match d.purpose with | .satCommand r => some r | _ => none))
  let s := asked.foldl (fun s r => complete r opSatCommand stWrongMode noDetail [] s) s
  let s := s.port.owtJobs.foldl (fun s j => complete j.by' opOpenWire stWrongMode noDetail [] s) s
  let s := s.hv.disconnects.foldl (fun s j => complete j.by' opDisconnect stWrongMode noDetail [] s) s
  { s with
    port := { s.port with owtJobs := [] },
    hv := { s.hv with disconnects := [], welds := [], connect := none },
    rings := s.rings.map (fun g =>
      { g with op := .disabled, phase := .idle, leftSplit := false, awaiting := none, collectSent := false, bufs := [],
               inFlight := none, queue := [], kept := [], direct := [], reAddr := none, window := 0, stopAll := false }),
    meas := s.meas.map (fun m => { m with owt := none }),
    est := { s.est with strands := s.est.strands.map (fun e =>
      { e with updating := none, updateIk := none, toInfer := [], toReport := false, toPlan := false }) } }

/-- Thermal shutdown acts: the latch of PD1, the silt record and the journal, every output off (R106, R474, R541, R542). -/
def thermalLock (s : State) : State :=
  let s := { s with sys := { s.sys with lock := { s.sys.lock with thermal := true } } }
  let cool := fun (c : Nat) => match s.thermal.temps.getD c none with | some v => decide (v < 15000) | none => false
  let s := if cool 3 && cool 8 then
      raiseThermal 0xD4 (s.thermal.hottest [3, 8]) { s with thermal := { s.thermal with disagree := true } }
    else s
  let s := raise 0xD6 0 0 0 [] s
  let s := journalBeforeReset s
  powerOffHot (fieldOff (enterMode .thermalLock 0xD6 (allOff s)))

/-- `THERMAL_SHUTDOWN`: the guard die's comparator has stayed asserted for 200 µs (R541, R544). -/
def execThermalShutdown (s : State) : Host.Outcome State Fault Refusal :=
  .next (
    if !s.sys.powered then s else
    let s := { s with thermal := { s.thermal with asserted := true } }
    if !s.alive || !s.evaluates || s.sys.lock.thermal || s.sys.mode == .start then s else thermalLock s)

end Sys2Proof.Machine
end

