-- ==== Sys2Proof/Machine/TwoWire.lean ====
section
/-! DEFINITION. The two-wire bus: reduced commands, the target and the controller services (R156 to R158, R605 to R624). -/
namespace Sys2Proof.Machine
open Sys2Proof

/-! ## The target -/

/-- Change the target. -/
def modTw (f : TwTarget → TwTarget) (s : State) : State := { s with tw := f s.tw }

/-- The bus works: VIO is present, PD13 is on and its pins are released, and the bus is not stuck (R57, R614, R622). -/
def State.twBus (s : State) : Bool := s.pins.vio && s.alive && s.sys.ready && !s.twc.stuck

/-- The command address is enabled (R608). -/
def State.twCmdUp (s : State) : Bool := s.twBus && s.pn 0x1203 != 0

/-- Either address is enabled. -/
def State.twUp (s : State) : Bool := s.twBus && (s.pn 0x1203 != 0 || s.pn 0x1204 != 0)

/-- What event 0xF0 distinguishes (R624). -/
inductive TwError where
  | protocol | discarded | stretch | sclTimeout
  deriving DecidableEq, Repr

/-- Number of an error among the silt codes. -/
def TwError.index : TwError → Nat
  | .protocol => 0 | .discarded => 1 | .stretch => 2 | .sclTimeout => 3

/-- Event 0xF0; its code is open, its detail names the address. -/
def raiseTw (e : TwError) (addr : Nat) (s : State) : State := raise 0xF0 (Config.twCode e.index) 0 0 (leBytes 1 addr) s

/-- A status nibble, the lower bits echoing the argument. -/
def twEcho (st arg : Nat) (s : State) : State := modTw (fun t => { t with reply := nibble st * 4096 + arg % 4096 }) s

/-- A status nibble whose lower bits the spec leaves open. -/
def twNibble (st : Nat) (s : State) : State := twEcho st (Config.freeNat s.free) { s with free := s.free + 1 }

/-- Number of the DISCONNECT code. -/
def twDisconnect : Nat := 5

/-- The watch that WATCH_LO and WATCH_HI name; START and LOADER read it as R17 prescribes (R614). -/
def State.twStarting (s : State) : Bool := s.sys.mode == .start || s.sys.mode == .loader

/-- Value of watch `n` (R158). -/
def State.watchValue (s : State) (n : Nat) : Nat := if s.twStarting then 0x80000000 else pointWord (s.readPoint (s.pn (0x1210 + n)))

/-- The effect of one command word on the module and its reply word (R156). -/
def runWord (code arg : Nat) (s : State) : State :=
  let s := modTw (fun t => { t with busy := false }) s
  if code = 0 then (if arg = 0 then s else twNibble stOutOfRange s)
  else if code = 1 then (if arg = 0 then modTw (fun t => { t with reply := s.twStatus }) s else twNibble stOutOfRange s)
  else if code = 2 then
    if 15 < arg then twNibble stOutOfRange s else
    let v := s.watchValue arg
    modTw (fun t => { t with reply := v % 65536, watches := setAt t.watches arg v }) s
  else if code = 3 then
    if 15 < arg then twNibble stOutOfRange s else
    let v := if s.twStarting then 0x80000000 else s.tw.watches.getD arg 0x80000000
    modTw (fun t => { t with reply := v / 65536 }) s
  else if code = 4 then
    if s.twStarting then twEcho stWrongMode arg s else
    match modeOfCode arg with
    | some t =>
      if t = .service then twEcho stOutOfRange arg s
      else if t = .run ∧ s.sys.autoRunBarred = true then twEcho stNotPermitted arg s else
      let st := s.modeStatus t
      let s := twEcho st arg s
      if st = stAccepted then acceptMode t .twoWire (modTw (fun t => { t with modeArgs := t.modeArgs ++ [arg] }) s) else s
    | none => twEcho stOutOfRange arg s
  else if code = twDisconnect then
    if s.opAllowed opDisconnect modesFive = false then twEcho stWrongMode arg s
    else if arg = 0 ∨ 15 < arg ∨ (List.range 4).any (fun k => arg.testBit k && !s.enabled k) = true then twEcho stOutOfRange arg s
    else
      let r := disconnect arg .twoWire s
      twEcho r.2 arg r.1
  else twNibble stBadOpcode s

/-- A command word of two bytes is written to the command address: discarded while another one executes, else posted to Q3
(R43, R158, R609). -/
def twPost (code arg : Nat) (s : State) : State :=
  if !s.twCmdUp then s
  else if s.tw.busy then raiseTw .discarded (s.pn 0x1203) s
  else if s.qDepth 3 ≤ s.port.q3.length then twNibble stQueueFull (raise 0x09 0 0 0 (leBytes 1 3) s)
  else
    let c : TwCmd := { arrival := s.port.arrived, word := code % 16 * 4096 + arg % 4096, stamp := s.time.now }
    modTw (fun t => { t with busy := true })
      { s with port := { s.port with q3 := s.port.q3 ++ [c], arrived := s.port.arrived + 1 } }

/-- The reply word as a read finds it: `ST_BUSY` while a word is executing (R158). -/
def State.twShown (s : State) : Nat :=
  if s.tw.busy then nibble stBusy * 4096 + Config.freeNat s.free % 4096 else s.tw.reply

/-- `TW_STATUS_READ`: the status address returns the STATUS word, or the one of the last saddle point where the target never
stretches (R608, R611). -/
def execTwStatusRead (s : State) : Host.Outcome State Fault Refusal :=
  .next (if s.twBus && s.pn 0x1204 != 0 then
    modTw (fun t => { t with returned := if s.pn 0x1205 = 0 then t.saddleStatus else s.twStatus }) s
  else s)

/-- `TW_REPLY_READ`: the command address returns the reply word, which the read leaves unchanged (R610, R611). -/
def execTwReplyRead (s : State) : Host.Outcome State Fault Refusal :=
  .next (if s.twCmdUp then
    let w := if s.pn 0x1205 = 0 then s.tw.saddleReply else s.twShown
    modTw (fun t => { t with returned := w }) { s with free := s.free + 1 }
  else s)

/-- `TW_STRETCH_EXPIRED`: the word was not ready in time (R611). -/
def execTwStretchExpired (s : State) : Host.Outcome State Fault Refusal :=
  .next (if s.twUp && s.pn 0x1205 != 0 then
    raiseTw .stretch (s.pn 0x1203) (modTw (fun t => { t with returned := 0xFFFF }) s)
  else s)

/-- `TW_PROTOCOL`: a repeated START where an acknowledge was due (R612). -/
def execTwProtocol (s : State) : Host.Outcome State Fault Refusal :=
  .next (if s.twUp then raiseTw .protocol (s.pn 0x1203) s else s)

/-- `TW_SCL_TIMEOUT`: the transaction is discarded (R613). -/
def execTwSclTimeout (s : State) : Host.Outcome State Fault Refusal :=
  .next (if s.twUp then raiseTw .sclTimeout (s.pn 0x1203) s else s)

/-- `TW_WRITE_DISCARDED`: a write of other than two bytes to the command address, or any write to the status address, has no
effect (R608, R609). -/
def execTwWriteDiscarded (_bytes : List Byte) (s : State) : Host.Outcome State Fault Refusal := .next s

/-! ## VIO (R57) -/

/-- `VIO_LOST`: the host port and the two-wire bus are disabled; a running mailbox read ends. -/
def execVioLost (s : State) : Host.Outcome State Fault Refusal :=
  .next { s with pins := { s.pins with vio := false }, port := { s.port with mbxAt := none, collided := false } }

/-- `VIO_RESTORED`. -/
def execVioRestored (s : State) : Host.Outcome State Fault Refusal := .next { s with pins := { s.pins with vio := true } }

/-! ## The controller (R615 to R622) -/

/-- Change the controller. -/
def modTwc (f : TwController → TwController) (s : State) : State := { s with twc := f s.twc }

/-- Configuration word of slot `j`. -/
def State.twCfg (s : State) (j : Nat) : Nat := s.pn (0x1220 + 3 * j)

/-- Data bytes of a slot: 1, 2 or 4. -/
def twDataLen (cfg : Nat) : Nat := 2 ^ bits cfg 27 26

/-- Slots run: the modes of R616, and a bus that works (R57, R622). -/
def State.twServes (s : State) : Bool :=
  s.twBus && (match s.sys.mode with
    | .standby | .run | .service | .hollow | .lockout | .thermalLock => true
    | _ => false)

/-- Bytes of a value as a slot carries them (R615). -/
def twDataBytes (cfg : Nat) (v : Int) : List Byte :=
  let l := (s32Bytes v).take (twDataLen cfg)
  if cfg.testBit 24 then l else l.reverse

/-- Value a slot reads from its data bytes: sign- or zero-extended to 32 bits (R615). -/
def twReadValue (cfg : Nat) (bytes : List Byte) : Int :=
  let n := twDataLen cfg
  let u := leNat (if cfg.testBit 24 then bytes else bytes.reverse)
  if cfg.testBit 25 && u.testBit (8 * n - 1) then (u : Int) - 2 ^ (8 * n) else s32Of u

/-- The slot falls due in this frame: its boundary is a multiple of the slot's period, 10 ms · 2^PERIOD, and neither this slot nor a
later one has fallen due there (R616). -/
def State.twTurn (s : State) (slot : Nat) : Bool :=
  let ms := s.time.now / 1000
  ms % (10 * 2 ^ bits (s.twCfg slot) 16 13) == 0 &&
  (match s.twc.due with
   | none => true
   | some (t, j) => decide (t < ms ∨ (t = ms ∧ j < slot)))

/-- `TW_SLOT_DUE`: a free slot posts its transaction to Q56; one that is still pending skips this period, and a write slot whose
source point is invalid is cancelled (R615, R616). -/
def execTwSlotDue (slot : Nat) (s : State) : Host.Outcome State Fault Refusal :=
  .next (
    let cfg := s.twCfg slot
    let data := if cfg.testBit 30 then (s.readPoint (s.pn (0x1222 + 3 * slot))).map (twDataBytes cfg) else some []
    if 8 ≤ slot || !s.twServes || !cfg.testBit 31 || !s.twTurn slot then s
    else
    let s := modTwc (fun c => { c with due := some (s.time.now / 1000, slot) }) s
    if (s.twc.slots.getD slot {}).pending then s
    else match data with
      | none => s
      | some b =>
        if s.qDepth 56 ≤ s.twc.queue.length then raise 0x09 0 0 0 (leBytes 1 56) s
        else modTwc (fun c => { c with queue := c.queue ++ [(slot, s.time.now)],
                                       slots := modAt c.slots slot (fun x => { x with pending := true, data := b }) }) s)

/-- The transaction on the bus ends: a read takes its value, and event 0xF2 follows the first failure and the first success
after failures (R615, R617). -/
def endTransaction (j : Nat) (value : Option Int) (ok : Bool) (s : State) : State :=
  let x := s.twc.slots.getD j {}
  let s := modTwc (fun c => { c with
    queue := c.queue.drop 1, retries := 0,
    slots := modAt c.slots j (fun x => { x with pending := false, failed := !ok, value := value }) }) s
  if x.failed == ok then raise 0xF2 0 0 0 (leBytes 1 j) s else s

/-- The transaction on the bus fails. -/
def failTransaction (s : State) : State :=
  match s.twc.queue with
  | (j, _) :: _ => endTransaction j none false s
  | [] => s

/-- `TW_TRANSACTION_DONE`: success with the bytes read, or a missing acknowledge (R615, R617). -/
def execTwTransactionDone (ok : Bool) (data : List Byte) (s : State) : Host.Outcome State Fault Refusal :=
  .next (if !s.twServes then s else
    match s.twc.queue with
    | [] => s
    | (j, _) :: _ =>
      let cfg := s.twCfg j
      if !ok then failTransaction s
      else if cfg.testBit 30 then endTransaction j (s.twc.slots.getD j {}).value true s
      else if data.length = twDataLen cfg then endTransaction j (some (twReadValue cfg data)) true s
      else s)

/-- `ARB_LOST`: event 0xF1; the transaction is retried on the free bus, or fails once `TW.RETRIES` retries are used up (R618 to
R621). -/
def execArbLost (byteIndex bitIndex : Nat) (s : State) : Host.Outcome State Fault Refusal :=
  .next (if !s.twServes then s else
    match s.twc.queue with
    | [] => s
    | (j, _) :: _ =>
      let s := raise 0xF1 0 0 0 (leBytes 1 j ++ leBytes 1 byteIndex ++ leBytes 1 bitIndex) s
      if s.twc.retries < s.pn 0x1206 then modTwc (fun c => { c with retries := c.retries + 1 }) s else failTransaction s)

/-- `TW_CTRL_TIMEOUT`: a target stretches for too long (R617). -/
def execTwCtrlTimeout (s : State) : Host.Outcome State Fault Refusal := .next (if s.twServes then failTransaction s else s)

/-- `TW_BUS_STUCK`: recovery performed, or the bus is stuck and every slot is suspended (R622). -/
def execTwBusStuck (recovered : Bool) (s : State) : Host.Outcome State Fault Refusal :=
  .next (if s.twBus then raise 0xF3 0 0 0 (leBytes 1 (bit !recovered)) (modTwc (fun c => { c with stuck := !recovered }) s) else s)

/-- `TW_BUS_FREE`: both lines have been high for 1 ms; the slots resume (R622). -/
def execTwBusFree (s : State) : Host.Outcome State Fault Refusal :=
  .next (if s.alive && s.pins.vio && s.twc.stuck then raise0 0xF3 (modTwc (fun c => { c with stuck := false }) s) else s)

end Sys2Proof.Machine
end

