-- ==== Sys2Proof/Machine/Startup.lean ====
section
/-! DEFINITION. Power-on, starts, wakes, resets and HOLLOW faults (R75, R89 to R91, R107, R108, R112 to R126). -/
namespace Sys2Proof.Machine
open Sys2Proof

/-! ## Steps of R114 -/

/-- Change what chapter 04 keeps. -/
def modSys (f : ModeState → ModeState) (s : State) : State := { s with sys := f s.sys }

/-- Wake source as its bit of `SYS.WAKE_MASK` and the channel or ring it names. -/
def wakeBit : WakeSource → Nat × Nat
  | .strandCurrent => (0, 0)
  | .can c => (1, c)
  | .twoWire => (2, 0)
  | .wakeIn => (3, 0)
  | .hostSelect => (4, 0)
  | .wakeTone r => (5, r)
  | .alarm => (6, 0)

/-- Step 7: reset cause, power-cycle count, lock-out latch, transport parameters and the main image's state; the second part
tells that the start ends in LOADER (R98, R114, R116, R123, R125, R694). -/
def startStep7 (code : Nat) (wake : Option WakeSource) (t : StartTests) (s : State) : State × Bool :=
  let s := modSys (fun y => { y with mode := .start, held := none, step := 7, resetCause := code,
                                     lock := { y.lock with latch := y.lock.latch || y.lock.record } }) s
  let s := { s with time := { s.time with tb1Disciplined := t.tb1 } }
  let s := if code = 0x01 then
      writeCounters { s with time := { s.time with powerCycles := (s.time.powerCycles + 1) % 2 ^ 24 } }
    else s
  let named := match wake with
    | some w => [BitVec.ofNat 8 (wakeBit w).1, BitVec.ofNat 8 (wakeBit w).2]
    | none => []
  let s := raise 0x04 code 0 0 named s
  let s := if s.sys.lock.record then stepFailed 7 0 0 s else s
  let s := if t.params then s else
    let kept := s.param.applied.filter (fun e => e.1 / 256 == 0x0C)
    stepFailed 7 0 0 (modParam (fun q => { q with applied := kept ++ [(0x0F02, .num 0x40000000), (0x0F10, .num 0)] }) s)
  let u := updStartMain code s
  (if u.2 then stepFailed 8 0 0 u.1 else u.1, u.2)

/-- Rows of one bank found failing, and rows marked, get the field-repair rows that are free; a failing row left over makes the
bank unusable (R642, R643). -/
def startBank (failing : List (Nat × Nat)) (b : Nat) (s : State) : State :=
  let k := s.bank b
  let bad := badRows failing b
  let fix := k.repairable (bad ++ k.marked)
  let beyond := bad.any (fun r => !fix.contains r)
  let s := modBank b (fun k => { k with repaired := k.repaired ++ fix, unusable := beyond,
                                        marked := k.marked.filter (fun r => !fix.contains r) }) s
  let s := fix.foldl (fun s r => raise 0xDC 0 7 (b + 256 * r) [] s) s
  if beyond then stepFailed 9 7 b (raise 0xDD 0 7 b [] s) else s

/-- Steps 9 to 11 for the banks: the image goes into code bank A, or B; the second part tells that none can run it, or that a
bank among 18 to 23 is lost (R21, R119, R625). -/
def startBanks (t : StartTests) (skip : Bool) (s : State) : State × Bool :=
  let s := if t.repairCopy then s else raise0 0xDF s
  let s := (List.range 24).foldl (fun s b => startBank (if skip then [] else t.rows) b s) s
  let lost := fun (a b : Nat) => (List.range 24).any (fun i => a ≤ i && i < b && (s.bank i).unusable)
  let s := { s with banks := { s.banks with mem := [] } }
  let first := if lost 0 6 then 6 else 0
  let s := { s with banks := { s.banks with banks := s.banks.banks.zipIdx.map (fun e =>
      if first ≤ e.2 ∧ e.2 < first + 6 then { e.1 with running := true, readOnly := true } else e.1) } }
  let s := if lost 12 18 then hollowFault 0xDD s else s
  (s, (lost 0 6 && lost 6 12) || lost 18 24)

/-- Entry to LOADER: the group L pins are released and the CAN command channel runs (R116, R120). -/
def startLoader (s : State) : State :=
  let s := modSys (fun y => { y with ready := true, step := 11 }) s
  let s := if s.cmdCh < 3 && s.canMode s.cmdCh != 0 then switchChannel s.cmdCh true s else s
  enterMode .loader 0x04 s

/-- Step 11: the main image runs, the group L pins are released, the CAN channels that are on start (R114, R553). -/
def startStep11 (s : State) : State :=
  (List.range 3).foldl (fun s c => if s.canMode c != 0 then switchChannel c true s else s)
    (modSys (fun y => { y with ready := true, step := 11 }) s)

/-- Both copies of the guarded set are invalid: factory defaults, event, change-log entry and mark (R495, R497). -/
def guardedDefaults (s : State) : State :=
  let gone := (s.param.applied.filter (fun e => e.1 / 256 == 0x0C)).length
  let s := modParam (fun q => { q with applied := q.applied.filter (fun e => e.1 / 256 != 0x0C), defaultsMark := true }) s
  logChange { seq := 0, opSec := s.time.opSec, powerCycles := s.time.powerCycles, kind := 4, userTag := 0, oldCrc := 0,
              newCrc := guardedCrc s.param, changed := gone, transport := 0xFF } (raise 0xBA 1 0 0 [] s)

/-- Step 12, and the outcomes of the tests of step 14 kept for it (R101, R108, R119, R387, R413, R492, R495). DESIGN CHOICE:
where the guard self-test and an output test both fail, the lockout carries the first, 0xBE; the spec orders neither. -/
def startStep12 (te : JournalSlot → Option Nat) (t : StartTests) (s : State) : State :=
  let s := restoreMemory (if t.guardedSet then s else guardedDefaults s)
  let s := if s.feed.bestSlot.isNone then stepFailed 12 0 0 (feedEvent 0x1D [] s) else s
  let s := updStartPeers (restoreEstimator te s)
  let s := if t.array && t.ac1 then s else
    let f := s.takeFree
    hollowFault (Config.freeNat f.1 % 256) (stepFailed 14 0 0 f.2)
  let s := if t.guard then s else
    stepFailed 14 0 0 (modSys (fun y => { y with startLockout := some 0xBE })
      { s with guard := { s.guard with selfTestBad := true } })
  match t.output with
  | some o =>
    stepFailed 14 9 o (modSys (fun y => { y with startLockout := some (y.startLockout.getD 0xB9) })
      { s with field := { s.field with so := modAt s.field.so o (fun x => { x with verdict := 7 }) } })
  | none => s

/-- Step 13: the rings are enumerated; in THERMAL_LOCK their domains stay off (R36, R114, R206, R543). -/
def startStep13 (wake : Bool) (s : State) : State :=
  let s := modSys (fun y => { y with step := 13 }) s
  if s.sys.lock.thermal then s else
  let on := (List.range 4).filter s.enabled
  let s := on.foldl (fun s r => startEnum r s) (fieldOn s)
  takeRoles (modSys (fun y => { y with wakeRings := if wake then maskOf 4 s.enabled else 0 }) s)

/-- A start judges the feeds afresh (R76, R729). -/
def freshFeeds (s : State) : State :=
  let f := s.feed
  let code := match f.code, f.active with | .single, some x => activeCode x false | c, _ => c
  { s with feed := { f with judged := false, identical := false, absent := false, code := code } }

/-- HOLD below 20 V at the release of a reset is charged to 20 V before step 5 (R115). -/
def rechargeHold (s : State) : State :=
  if s.feed.active.isSome then { s with feed := { s.feed with holdMv := max s.feed.holdMv 20000 } } else s

/-- Steps 5 to 13 of R114, with the reset cause and the outcomes of the tests; a wake skips steps 8 to 10 where the image flag
stands (R115, R121). -/
def startCore (code : Nat) (wake : Option WakeSource) (te : JournalSlot → Option Nat) (t : StartTests) (s : State) : State :=
  let skip := wake.isSome && s.sys.imageFlag
  let a := startStep7 code wake t s
  if a.2 then startLoader a.1
  else if !skip && !t.signature then startLoader (stepFailed 8 0 0 (modSys (fun y => { y with imageFlag := false }) a.1))
  else
    let b := startBanks t skip (modSys (fun y => { y with imageFlag := true }) a.1)
    if b.2 then startLoader b.1
    else startStep13 wake.isSome (startStep12 te t (startStep11 b.1))

/-- The end of step 15: the module enters the mode of R119 (R109, R113, R126, R309). -/
def startEnds (s : State) : State :=
  if s.sys.lock.thermal then powerOffHot (fieldOff (enterMode .thermalLock 0x04 s))
  else if s.thermal.asserted then thermalLock s
  else if s.sys.lock.latch then enterMode .lockout 0x04 s
  else if s.sys.hollowFault then enterMode .hollow 0x04 s
  else
    let barred := s.sys.resetCause == 0x02 && s.sys.hibernateByTwoWire
    let s := enterMode .standby 0x04 s
    let s := modSys (fun y => { y with autoRunDue := s.pn 0x0101 == 1 && !barred, autoRunBarred := barred,
                                       hibernateByTwoWire := false }) s
    let s := if (s.comp 0).state = 4 then markBase 0 s else s
    ((List.range 4).filter s.enabled).foldl (fun s k => enqueueWeld k s) s

/-- Steps 14 and 15, once every enabled ring has ended its enumeration: the guard configuration is loaded, the loops start, and
the start ends (R114, R119). -/
def finishStart (s : State) : State :=
  let idle := (List.range 4).all (fun r => !s.enabled r || (s.ring r).phase == .idle)
  if s.sys.mode != .start || s.sys.step != 13 || !(idle || s.sys.lock.thermal) then s else
  let s := (List.range 4).foldl (fun s k => if s.sys.incomplete.testBit k then stepFailed 13 1 k s else s) s
  let s := guardFirstLook (loadGuard (modSys (fun y => { y with step := 14 }) s))
  let s := match s.sys.startLockout with
    | some src => lockout src (raise0 src s)
    | none => s
  startEnds (modSys (fun y => { y with step := 15 }) (driveAo 1 0 (driveAo 0 0 (startLoops s))))

/-- `SYS.AUTO_RUN` acts once the weld checks of the start have ended: RUN, and every enabled strand is connected; a fault ends
it (R309, R495). -/
def autoRun (s : State) : State :=
  if !s.sys.autoRunDue || !s.hv.welds.isEmpty then s else
  let s := modSys (fun y => { y with autoRunDue := false }) s
  if s.sys.mode != .standby || s.faultActive then s else
  let m := maskOf 4 s.enabled
  let s := enterMode .run 0x04 s
  if s.param.defaultsMark || !m.testBit (s.pn 0x0701) then s else startConnect m none s

/-! ## From unpowered (R75, R89 to R91, R727) -/

/-- `POWER_ON`: a feed reaches 9 V from unpowered; FEED_A first (steps 1 and 2 of R114). -/
def execPowerOn (tests : PowerTests) (s : State) : Host.Outcome State Fault Refusal :=
  .next (
    let a := !tests.reversedA && 9000 ≤ tests.mvA
    let b := !tests.reversedB && 9000 ≤ tests.mvB
    if s.sys.powered || !(a || b) then s else
    let x : FeedId := if a then .a else .b
    let n := s.feed.nvm
    let journal := match s.feed.bestSlot with | some j => j.opSec | none => 0
    let f : FeedState :=
      { code := activeCode x false, active := some x, mvA := if tests.reversedA then 0 else tests.mvA,
        mvB := if tests.reversedB then 0 else tests.mvB, reversedA := tests.reversedA, reversedB := tests.reversedB,
        standbyOk := a && b && s.pn 0x0201 ≤ tests.mvB, eventCounts := n.feedEvents, nvm := n, slotA := s.feed.slotA, slotB := s.feed.slotB }
    let s := modSys (fun y => { y with powered := true, mode := .start, step := 2, held := none, ready := false })
      { s with time := { opSec := max n.opSec journal, powerCycles := n.powerCycles, noSaddle := n.noSaddle }, feed := f }
    let s := if tests.reversedA then feedEvent 0x14 [] s else s
    if tests.reversedB then feedEvent 0x14 [] s else s)

/-- HOLD is being charged: step 2 of a start from unpowered. -/
def State.charging (s : State) : Bool := s.sys.powered && s.sys.held.isNone && s.sys.mode == .start && s.sys.step == 2

/-- `HOLD_CHARGE_COMPLETE`: the capacitance is measured and judged, and the start goes on from step 5 (R89, R91, R727). -/
def execHoldChargeComplete (ufs : Nat) (tests : StartTests) (s : State) : Host.Outcome State Fault Refusal :=
  .next (if !s.charging then s else
    let v := s.pn 0x0203
    let bad := decide (ufs * (v * v - 121000000) < 2 * 97500 * 1000000)
    let s := { s with feed := { s.feed with capUf := ufs, holdMv := v, switchClosed := true, holdMissing := false,
                                            holdInadequate := bad } }
    startCore 0x01 none (fun _ => none) tests (if bad then feedEvent 0x1E [] s else s))

/-- `HOLD_CHARGE_TIMEOUT`: the hold-up is missing and the module starts without it (R90, R727). -/
def execHoldChargeTimeout (tests : StartTests) (s : State) : Host.Outcome State Fault Refusal :=
  .next (if !s.charging then s else
    let s := { s with feed := { s.feed with capUf := 0, holdMv := s.pn 0x0203, switchClosed := false, holdMissing := true } }
    startCore 0x01 none (fun _ => none) tests (feedEvent 0x16 [] s))

/-! ## Resets (R115, R122, R123) -/

/-- `RESET_START`: the held reset is released `elapsed` TB2 periods after TB0 last ran, and the start begins at step 5 (R115,
R721). -/
def execResetStart (elapsed : Nat) (tests : StartTests) (s : State) : Host.Outcome State Fault Refusal :=
  .next (match s.sys.powered, s.sys.held with
  | true, some code => startCore code none (fun _ => none) tests (freshFeeds (rechargeHold (advance (tb2Micros elapsed) s)))
  | _, _ => s)

/-- The core die runs, or the module hibernates: a reset source can act (R107). -/
def State.resettable (s : State) : Bool :=
  s.sys.powered && (s.sys.mode == .hibernate || (s.sys.held.isNone && 7 ≤ s.sys.step))

/-- `MRST_N`: low for at least 10 µs. -/
def execMrstN (s : State) : Host.Outcome State Fault Refusal :=
  .next (if s.resettable || (s.sys.powered && s.sys.held.isSome) then resetModule 0x03 s else s)

/-- `CORE_SUPPLY_FAULT`: the core die's supply is out of range for 5 µs. -/
def execCoreSupplyFault (s : State) : Host.Outcome State Fault Refusal :=
  .next (if s.resettable then resetModule 0x06 s else s)

/-- `FATAL_FAULT`: an uncorrectable error in the running code bank, or a supervisor trap. -/
def execFatalFault (s : State) : Host.Outcome State Fault Refusal :=
  .next (if s.alive && 7 ≤ s.sys.step then resetModule 0x07 s else s)

/-! ## Wakes (R112, R113, R121, R571) -/

/-- A wake source is enabled and can fire (R57, R58, R571). -/
def State.wakeEnabled (s : State) (w : WakeSource) : Bool :=
  (s.pn 0x0103).testBit (wakeBit w).1 &&
  (match w with
   | .strandCurrent | .wakeIn => true
   | .can c => c < 3 && s.canMode c != 0 && bits (s.pn (0x0F02 + c)) 28 27 != 0
   | .twoWire => s.pins.vio && (s.pn 0x1203 != 0 || s.pn 0x1204 != 0)
   | .hostSelect => s.pins.vio
   | .wakeTone r => r < 4
   | .alarm => s.pn 0x0104 != 0)

/-- A HIBERNATE request is accepted and not yet carried out (R112). -/
def State.hibernatePending (s : State) : Bool :=
  s.sys.hibernating.isSome || s.upd.hibernateAfter.isSome || s.sys.pendingMode.any (fun m => m.target == .hibernate)

/-- The entry to HIBERNATE is abandoned: the requests complete, naming the wake source, and rings that were sent to sleep are
enumerated again (R112, R206). -/
def abandonHibernate (w : WakeSource) (s : State) : State :=
  let by' := s.sys.hibernating.toList ++ s.upd.hibernateAfter.toList ++
    (s.sys.pendingMode.filter (fun m => m.target == .hibernate)).map (·.by')
  let asleep := s.sys.hibernating.isSome
  let s := modSys (fun y => { y with hibernating := none, hibernateByTwoWire := false,
                                     pendingMode := y.pendingMode.filter (fun m => m.target != .hibernate) }) s
  let s := { s with upd := { s.upd with hibernateAfter := none } }
  let s := if asleep then
      ((List.range 4).filter s.enabled).foldl (fun s r =>
        if (s.ring r).sleepReq then s.modRing r (fun g => { g with sleepReq := false }) else startEnum r s) s
    else s
  by'.foldl (fun s r => complete r opRequestMode stNotPermitted noDetail [BitVec.ofNat 8 (wakeBit w).1] s) s

/-- A wake source fires `elapsed` TB2 periods after TB0 last ran: out of HIBERNATE through START, or it abandons an entry under way; it is ignored
in every other mode (R107, R112, R121). -/
def wakeBy (w : WakeSource) (elapsed : Nat) (t : StartTests) (s : State) : State :=
  if !s.sys.powered || s.sys.held.isSome || !s.wakeEnabled w then s
  else if s.sys.mode = .hibernate then
    startCore 0x02 (some w) (fun _ => some (tb2Micros elapsed / 1000000)) t (freshFeeds (advance (tb2Micros elapsed) s))
  else if s.hibernatePending then abandonHibernate w s
  else s

/-- `WAKE_SOURCE`. -/
def execWakeSource (source : WakeSource) (elapsed : Nat) (tests : StartTests) (s : State) : Host.Outcome State Fault Refusal :=
  .next (wakeBy source elapsed tests s)

/-- `RT_ALARM`: `SYS.RT_ALARM` after entry to HIBERNATE. -/
def execRtAlarm (elapsed : Nat) (tests : StartTests) (s : State) : Host.Outcome State Fault Refusal :=
  .next (if s.sys.mode = .hibernate ∧ elapsed < 32768 * s.pn 0x0104 then s else wakeBy .alarm elapsed tests s)

/-! ## HOLLOW faults and TB1 (R40, R108) -/

/-- A HOLLOW fault that has no event of its own; what the cause field of the mode change names is open. -/
def engineFault (s : State) : State :=
  if !s.alive || s.sys.mode == .loader then s else
  let f := s.takeFree
  hollowFault (Config.freeNat f.1 % 256) (startRecord f.2)

/-- `WORK_UNIT_TIMEOUT`: an array work unit has not completed within 5 ms (R108). -/
def execWorkUnitTimeout (engine : Engine) (s : State) : Host.Outcome State Fault Refusal :=
  .next (if engine = .array then engineFault s else s)

/-- `AC1_HEARTBEAT_TIMEOUT`: no AC1 service heartbeat for 50 ms (R108). -/
def execAc1HeartbeatTimeout (s : State) : Host.Outcome State Fault Refusal := .next (engineFault s)

/-- `TB1_DISCIPLINE_LOST`: TB0 goes on undisciplined (R40). -/
def execTb1DisciplineLost (s : State) : Host.Outcome State Fault Refusal :=
  .next (if s.alive && s.time.tb1Disciplined then
    raise0 0x08 { s with time := { s.time with tb1Disciplined := false } }
  else s)

end Sys2Proof.Machine
end

