-- ==== Sys2Proof/Machine/Sched.lean ====
section
/-! DEFINITION. The service-schedule frame: quiesce mark, saddle points, mode changes by command, and the start of waiting
commands (R28 to R32, R105 to R107, R140, R148, R179, R725, R726). -/
namespace Sys2Proof.Machine
open Sys2Proof

/-! ## Starting one command (R140, R148) -/

/-- The opcodes (R159). -/
def opTable : List (Nat × (Port → Half → List Byte → State → State)) :=
  [(0x0001, serveIdentity), (0x0002, serveStatus), (0x0003, serveEcho), (0x0101, serveRequestMode), (0x0110, serveConnect),
   (0x0111, serveDisconnect), (0x0120, serveLockArm), (0x0130, serveResetModule), (0x0201, serveReadPoints),
   (0x0202, serveSubscribe), (0x0203, serveReadSnapshot), (0x0301, serveReadParam), (0x0310, serveStageParam)] ++
  [(0x0311, serveCheckStage), (0x0312, serveFordApply), (0x0313, serveDiscard), (0x0320, serveUnlock), (0x0401, serveLoopSetMode),
   (0x0402, serveLoopSetManual), (0x0410, serveTraceArm), (0x0411, serveTraceRead), (0x0501, serveSiltInfo),
   (0x0502, serveSiltRead), (0x0510, serveChangeLog), (0x0601, serveUpdBegin), (0x0602, serveUpdPiece)] ++
  [(0x0603, serveUpdProgress), (0x0604, serveUpdVerify), (0x0605, serveUpdHandover), (0x0606, serveUpdConfirm),
   (0x0607, serveUpdAbort), (0x0701, serveMarch), (0x0702, serveProofTest), (0x0703, serveOpenWire), (0x0801, serveBankStatus),
   (0x0802, serveBankRead), (0x0901, serveSatCommand), (0x0902, serveSatIdentity)]

/-- A waiting packet is started: checks 5 to 8 of R140, then the opcode's own. -/
def startCmd (c : Cmd) (s : State) : State :=
  let tag := BitVec.ofNat 16 c.tag
  let no := fun (st : Nat) => reply c.port c.opcode tag st noDetail [] s
  if c.version ≠ 1 ∨ c.reserved ≠ 0 ∨ 1 < c.flags then no stOutOfRange
  else if !c.whole then reply c.port c.opcode tag stBadLength noDetail [] (irq c.port 3 s)
  else if !c.crcOk then
    reply c.port c.opcode tag stBadCrc noDetail [] (match c.port with | .spi => crcError s | .can => s)
  else match opTable.find? (fun e => e.1 == c.opcode) with
    | some e => e.2 c.port tag c.payload s
    | none => no stBadOpcode

/-- Take entry `i` of queue `q` and start it; a packet of the host port frees its command slot. -/
def startAt (q i : Nat) (s : State) : State :=
  if q = 3 then
    match s.port.q3[i]? with
    | some e => runWord (e.word / 4096) (e.word % 4096) (modPort (fun p => { p with q3 := p.q3.eraseIdx i }) s)
    | none => s
  else
    match (s.port.queueOf q)[i]? with
    | some c =>
      let s := modPort (fun p => p.putQueue q ((p.queueOf q).eraseIdx i)) s
      startCmd c (match c.port with | .spi => freeSlot s | .can => s)
    | none => s

/-- Commands started as though they waited in Q0, as turn, queue and place: all of Q0, a DISCONNECT_STRANDS in Q1 or Q2, a
DISCONNECT word in Q3 (R148). -/
def PortState.urgent (p : PortState) : List (Nat × Nat × Nat) :=
  let packets := fun (q : Nat) => (p.queueOf q).zipIdx.filterMap (fun e =>
    if q = 0 || e.1.opcode == opDisconnect then some (e.1.arrival, q, e.2) else none)
  packets 0 ++ packets 1 ++ packets 2 ++
    p.q3.zipIdx.filterMap (fun e => if e.1.word / 4096 = twDisconnect then some (e.1.arrival, 3, e.2) else none)

/-- The entry of a list with the lowest turn. -/
def earliest : List (Nat × Nat × Nat) → Option (Nat × Nat × Nat)
  | [] => none
  | e :: l => match earliest l with
    | some m => if m.1 < e.1 then some m else some e
    | none => some e

/-- Something waits in queue `q`, 1 to 3. -/
def PortState.waits (p : PortState) (q : Nat) : Bool := if q = 3 then !p.q3.isEmpty else !(p.queueOf q).isEmpty

/-- Start the next waiting command in the order of R148. DESIGN CHOICE: the turn among Q1, Q2 and Q3 goes on from where the
frame before left it; the spec does not say that it begins again at Q1. -/
def startNext (s : State) : State :=
  match earliest s.port.urgent with
  | some e => startAt e.2.1 e.2.2 s
  | none =>
    let order := (List.range 3).map (fun i => (s.port.turn + i - 1) % 3 + 1)
    match order.find? s.port.waits with
    | some q => startAt q 0 (modPort (fun p => { p with turn := q % 3 + 1 }) s)
    | none => s

/-- Something waits in Q0 to Q3. -/
def PortState.anyWaits (p : PortState) : Bool := !p.q0.isEmpty || p.waits 1 || p.waits 2 || p.waits 3

/-- Start up to `n` waiting commands, each of which counts against the frame's starts. -/
def startCommands : Nat → State → State
  | 0, s => s
  | n + 1, s =>
    if s.port.anyWaits then
      startCommands n (startNext { s with time := { s.time with starts := s.time.starts - 1 } })
    else s

/-- Between the frame's beginning and the quiesce mark the supervisor starts waiting commands, as many as it still may (R29,
R725). -/
def drain (s : State) : State := if s.time.quiesced then s else startCommands s.time.starts s

/-- `PACKET_STORED`: the packet is posted to Q0 or Q1, or refused by a full queue, and started in its turn (R43, R147, R148,
R725). -/
def execPacketStored (s : State) : Host.Outcome State Fault Refusal :=
  .next (match s.port.storing with
  | none => s
  | some c => drain (postCmd c (modPort (fun p => { p with storing := none }) s)))

/-- `CAN_CMD_SEGMENT`: a segment of a command packet (R152 to R154). -/
def execCanCmdSegment (bytes : List Byte) (s : State) : Host.Outcome State Fault Refusal :=
  .next (match bytes with
  | [] => s
  | h :: data =>
    if !s.transport .can || !s.canUp s.cmdCh then s else
    let s := ackRx s.cmdCh 0 bytes s
    let first := h.getLsbD 7
    let last := h.getLsbD 6
    let short := !last && bytes.length < (if s.canMode s.cmdCh = 2 then 64 else 8)
    let s := if first then setReasm { active := true } (abandonPacket s) else s
    let astray := h.toNat % 64 != s.port.reasm.next
    if !s.port.reasm.active then s
    else if astray && !first then abandonPacket s
    else drain (takeSegment last (short || astray) data s))

/-- A command word on the two-wire bus: posted, and started in its turn (R148, R158, R725). -/
def twWrite (code arg : Nat) (s : State) : State := drain (twPost code arg s)

/-- `NOP`. -/
def execNop (arg : Nat) (s : State) : Host.Outcome State Fault Refusal := .next (twWrite 0 arg s)

/-- `STATUS`. -/
def execStatus (arg : Nat) (s : State) : Host.Outcome State Fault Refusal := .next (twWrite 1 arg s)

/-- `WATCH_LO`. -/
def execWatchLo (arg : Nat) (s : State) : Host.Outcome State Fault Refusal := .next (twWrite 2 arg s)

/-- `WATCH_HI`. -/
def execWatchHi (arg : Nat) (s : State) : Host.Outcome State Fault Refusal := .next (twWrite 3 arg s)

/-- `MODE`. -/
def execMode (arg : Nat) (s : State) : Host.Outcome State Fault Refusal := .next (twWrite 4 arg s)

/-- `DISCONNECT`. -/
def execDisconnect (arg : Nat) (s : State) : Host.Outcome State Fault Refusal := .next (twWrite twDisconnect arg s)

/-- `TW_RESERVED_CODE`: codes 6 to 15 (R156). -/
def execTwReservedCode (code arg : Nat) (s : State) : Host.Outcome State Fault Refusal :=
  .next (if 6 ≤ code ∧ code ≤ 15 then twWrite code arg s else s)

/-! ## Mode changes by command (R105 to R107, R112) -/

/-- Entry to HIBERNATE begins: journal, counters and battery memory are written, transfers stop, the rings are sent to sleep; the
domains go off at the next saddle point, until which a wake source abandons it (R97, R100, R112, R113, R226, R323, R414). -/
def beginHibernate (by' : Requester) (s : State) : State :=
  let s := if s.est.summary.isEmpty then s else journalWrite 2 s
  let s := writeAllMemory (writeCounters s)
  let s := modSys (fun y => { y with hibernating := some by', hibernateByTwoWire := by' == .twoWire }) s
  ((List.range 4).filter s.enabled).foldl (fun s r => askSleep r (s.pn 0x1501) s) (stopAllTransfers s)

/-- A mode request must wait: contactors not yet checked, or another entry to HIBERNATE under way. -/
def State.modeWaits (s : State) (m : ModeRequest) : Bool :=
  ((m.target == .hibernate || m.disconnecting) && !s.hv.welds.isEmpty) ||
    (m.target == .hibernate && (s.sys.hibernating.isSome || s.upd.hibernateAfter.isSome))

/-- One mode request at a saddle point: judged again, then carried out and reported (R105, R107, R109). -/
def settleMode (m : ModeRequest) (s : State) : State :=
  let st := s.modeStatus m.target
  if st ≠ stAccepted then complete m.by' opRequestMode st noDetail [] s
  else if m.target = .hibernate then
    let g := hibernateGate m.by' s
    if g.2 then beginHibernate m.by' g.1 else g.1
  else complete m.by' opRequestMode stOk noDetail [] (enterMode m.target 0x00 s)

/-- The mode requests at a saddle point, in their order, up to the first that must wait. -/
def settleModes : List ModeRequest → State → State
  | [], s => modSys (fun y => { y with pendingMode := [] }) s
  | m :: l, s =>
    if s.modeStatus m.target = stAccepted ∧ s.modeWaits m = true then modSys (fun y => { y with pendingMode := m :: l }) s
    else settleModes l (settleMode m s)

/-- The domains go off, one frame after the entry began; a mode that no longer allows HIBERNATE ends the entry instead. -/
def endHibernate (s : State) : State :=
  match s.sys.hibernating with
  | none => s
  | some by' =>
    if s.modeStatus .hibernate = stAccepted then enterHibernate s
    else complete by' opRequestMode (s.modeStatus .hibernate) noDetail []
      (modSys (fun y => { y with hibernating := none, hibernateByTwoWire := false }) s)

/-! ## The boundary (R29 to R32, R179) -/

/-- What the two-wire target shows until the next saddle point (R611). -/
def showTw (s : State) : State :=
  modTw (fun t => { t with saddleReply := s.twShown, saddleStatus := s.twStatus }) { s with free := s.free + 1 }

/-- Every enabled ring has sent the SLEEP it was asked for (R226). -/
def State.asleep (s : State) : Bool := (List.range 4).all (fun r => !s.enabled r || !(s.ring r).sleepReq)

/-- An entry to HIBERNATE takes effect at the first saddle point after SLEEP has left on every enabled ring (R106, R112, R226). -/
def settleHibernate (s : State) : State := if s.asleep then endHibernate s else s

/-- A saddle point: parameters, code bank handovers, mode changes, then notifications (R13, R14, R30, R106, R179, R683, R693). -/
def saddlePoint (s : State) : State :=
  let mode := s.sys.mode
  let ready := (match s.upd.handover with | some h => h.ready | none => false) || s.upd.fallback.isSome
  let f := commitFord s
  let s := settleHibernate (commitFallback (commitHandover (applyImmediates f.1)))
  if !s.alive then s else
  let s := settleModes s.sys.pendingMode s
  let s := showTw (postDue .can (postDue .spi (raise0 0x02 s)))
  if f.2 || ready || mode != s.sys.mode then raise0 0x03 s else s

/-- A boundary without a saddle point (R31). -/
def noSaddlePoint (s : State) : State :=
  raise0 0x01 { s with time := { s.time with noSaddle := s.time.noSaddle + 1 } }

/-- A journal entry asked for after the quiesce mark (R726). -/
def journalDue (s : State) : State :=
  if !s.feed.journalDue then s else
  let s := { s with feed := { s.feed with journalDue := false } }
  if s.sys.mode == .hollow || s.feed.commit.isSome || s.est.summary.isEmpty then s else journalBegin s

/-- Requests of R214 that found a frame on the line leave at the latest here. -/
def restingRings (s : State) : State :=
  (List.range 4).foldl (fun s r => askGap r s) s

/-- Reference periods that begin at this boundary let role changes take effect (R574). -/
def boundaryRoles (before : Nat) (s : State) : State :=
  if s.sys.mode != .start && s.sys.mode != .loader && s.refStarts before s.net then takeRoles s else s

/-- A frame begins: pacer, saddle point or none, the end of a start, and the commands that start in it. -/
def beginFrame (before starts : Nat) (s : State) : State :=
  let s := followPacer { s with param := { s.param with prior := none } }
  let s := if s.time.inFlight.isEmpty then saddlePoint s else noSaddlePoint s
  if !s.alive then s else
  let s := markSubs .can (fun _ => true) (markSubs .spi (fun _ => true) s)
  let s := { s with time := { s.time with quiesced := false, inFlight := [], starts := max 8 starts },
                    silt := { s.silt with readers := 0, drained := 0 } }
  let s := restingRings (autoRun (finishStart (boundaryRoles before s)))
  pumpCan (drain (journalDue s))

/-- `FRAME_BOUNDARY`: the module timebase reaches the next whole multiple of 1,000 µs; `starts` is how many commands the
supervisor may start in the frame, at least 8 (R29, R725). -/
def execFrameBoundary (starts : Nat) (s : State) : Host.Outcome State Fault Refusal :=
  .next (if !s.alive || s.sys.step < 11 then s else
    let before := s.net
    beginFrame before starts (journalEnd (advance (1000 - s.time.now % 1000) s)))

/-- The preparation of an apply of the guarded set writes its change-log entry in the window: a unit of the supervisor, which
ends with its WORK_UNIT_COMPLETE (R497, R726). -/
def State.preparing (s : State) : List Engine :=
  if s.applyDue && (match s.param.pendingApply with | some a => a.guarded | none => false) then [.supervisor] else []

/-- `QUIESCE_MARK`: 900 µs into the frame; `running` are the engines whose unit in flight waits outside them (R28, R29). -/
def execQuiesceMark (running : List Engine) (s : State) : Host.Outcome State Fault Refusal :=
  .next (if !s.alive || s.sys.step < 11 || s.time.quiesced then s else
    let s := advance (900 - s.time.now % 1000) s
    { s with time := { s.time with quiesced := true, inFlight := running ++ s.preparing } })

/-- `WORK_UNIT_COMPLETE`: the unit in flight ends, and its engine reports quiescent (R28, R29). -/
def execWorkUnitComplete (engine : Engine) (s : State) : Host.Outcome State Fault Refusal :=
  .next (if s.time.quiesced then
    { s with time := { s.time with inFlight := s.time.inFlight.filter (· != engine) } }
  else s)

end Sys2Proof.Machine
end

