-- ==== Sys2Proof/Machine/Dispatch.lean ====
section
/-! DEFINITION. One arm per command: the direct call of its meaning. -/
namespace Sys2Proof.Machine
open Sys2Proof

-- The effect of one command on everything but the queue.
def exec (i : Instr) (s : State) : Host.Outcome State Fault Refusal :=
  match i with
  | .getIdentity port tag payload => Sys2Proof.Machine.execGetIdentity port tag payload s
  | .getStatus port tag payload => Sys2Proof.Machine.execGetStatus port tag payload s
  | .echo port tag payload => Sys2Proof.Machine.execEcho port tag payload s
  | .requestMode port tag payload => Sys2Proof.Machine.execRequestMode port tag payload s
  | .connectStrands port tag payload => Sys2Proof.Machine.execConnectStrands port tag payload s
  | .disconnectStrands port tag payload => Sys2Proof.Machine.execDisconnectStrands port tag payload s
  | .lockoutResetArm port tag payload => Sys2Proof.Machine.execLockoutResetArm port tag payload s
  | .resetModule port tag payload => Sys2Proof.Machine.execResetModule port tag payload s
  | .moduleResetAfterReply => Sys2Proof.Machine.execModuleResetAfterReply s
  | .readPoints port tag payload => Sys2Proof.Machine.execReadPoints port tag payload s
  | .subscribePoints port tag payload => Sys2Proof.Machine.execSubscribePoints port tag payload s
  | .readSnapshot port tag payload => Sys2Proof.Machine.execReadSnapshot port tag payload s
  | .readParam port tag payload => Sys2Proof.Machine.execReadParam port tag payload s
  | .stageParam port tag payload => Sys2Proof.Machine.execStageParam port tag payload s
  | .checkStage port tag payload => Sys2Proof.Machine.execCheckStage port tag payload s
  | .fordApply port tag payload => Sys2Proof.Machine.execFordApply port tag payload s
  | .discardStage port tag payload => Sys2Proof.Machine.execDiscardStage port tag payload s
  | .unlockSafetySet port tag payload => Sys2Proof.Machine.execUnlockSafetySet port tag payload s
  | .loopSetMode port tag payload => Sys2Proof.Machine.execLoopSetMode port tag payload s
  | .loopSetManual port tag payload => Sys2Proof.Machine.execLoopSetManual port tag payload s
  | .traceArm port tag payload => Sys2Proof.Machine.execTraceArm port tag payload s
  | .traceRead port tag payload => Sys2Proof.Machine.execTraceRead port tag payload s
  | .siltInfo port tag payload => Sys2Proof.Machine.execSiltInfo port tag payload s
  | .siltRead port tag payload => Sys2Proof.Machine.execSiltRead port tag payload s
  | .changeLogRead port tag payload => Sys2Proof.Machine.execChangeLogRead port tag payload s
  | .updBegin port tag payload => Sys2Proof.Machine.execUpdBegin port tag payload s
  | .updPiece port tag payload => Sys2Proof.Machine.execUpdPiece port tag payload s
  | .updProgress port tag payload => Sys2Proof.Machine.execUpdProgress port tag payload s
  | .updVerify port tag payload => Sys2Proof.Machine.execUpdVerify port tag payload s
  | .verificationComplete good => Sys2Proof.Machine.execVerificationComplete good s
  | .updHandover port tag payload => Sys2Proof.Machine.execUpdHandover port tag payload s
  | .updConfirm port tag payload => Sys2Proof.Machine.execUpdConfirm port tag payload s
  | .updAbort port tag payload => Sys2Proof.Machine.execUpdAbort port tag payload s
  | .marchTest port tag payload => Sys2Proof.Machine.execMarchTest port tag payload s
  | .marchTestComplete failing => Sys2Proof.Machine.execMarchTestComplete failing s
  | .proofTestFeed port tag payload => Sys2Proof.Machine.execProofTestFeed port tag payload s
  | .openWireTest port tag payload => Sys2Proof.Machine.execOpenWireTest port tag payload s
  | .bankStatus port tag payload => Sys2Proof.Machine.execBankStatus port tag payload s
  | .bankRead port tag payload => Sys2Proof.Machine.execBankRead port tag payload s
  | .satCommand port tag payload => Sys2Proof.Machine.execSatCommand port tag payload s
  | .satIdentity port tag payload => Sys2Proof.Machine.execSatIdentity port tag payload s
  | .nop arg => Sys2Proof.Machine.execNop arg s
  | .status arg => Sys2Proof.Machine.execStatus arg s
  | .watchLo arg => Sys2Proof.Machine.execWatchLo arg s
  | .watchHi arg => Sys2Proof.Machine.execWatchHi arg s
  | .mode arg => Sys2Proof.Machine.execMode arg s
  | .disconnect arg => Sys2Proof.Machine.execDisconnect arg s
  | .twReservedCode code arg => Sys2Proof.Machine.execTwReservedCode code arg s
  | .twStatusRead => Sys2Proof.Machine.execTwStatusRead s
  | .twReplyRead => Sys2Proof.Machine.execTwReplyRead s
  | .twStretchExpired => Sys2Proof.Machine.execTwStretchExpired s
  | .twProtocol => Sys2Proof.Machine.execTwProtocol s
  | .twSclTimeout => Sys2Proof.Machine.execTwSclTimeout s
  | .packetWrite bytes => Sys2Proof.Machine.execPacketWrite bytes s
  | .packetStored => Sys2Proof.Machine.execPacketStored s
  | .packetRead clocked => Sys2Proof.Machine.execPacketRead clocked s
  | .mbxRead offset length => Sys2Proof.Machine.execMbxRead offset length s
  | .spiUnknownInstruction code => Sys2Proof.Machine.execSpiUnknownInstruction code s
  | .regWrite addr data => Sys2Proof.Machine.execRegWrite addr data s
  | .hpIrqPendWrite data => Sys2Proof.Machine.execHpIrqPendWrite data s
  | .hpEventRead => Sys2Proof.Machine.execHpEventRead s
  | .hpTimeLoRead => Sys2Proof.Machine.execHpTimeLoRead s
  | .canCmdSegment bytes => Sys2Proof.Machine.execCanCmdSegment bytes s
  | .canReassemblyTimeout => Sys2Proof.Machine.execCanReassemblyTimeout s
  | .pointData port num => Sys2Proof.Machine.execPointData port num s
  | .frameBoundary starts => Sys2Proof.Machine.execFrameBoundary starts s
  | .quiesceMark running => Sys2Proof.Machine.execQuiesceMark running s
  | .workUnitComplete engine => Sys2Proof.Machine.execWorkUnitComplete engine s
  | .eventTaken dest => Sys2Proof.Machine.execEventTaken dest s
  | .tb1DisciplineLost => Sys2Proof.Machine.execTb1DisciplineLost s
  | .powerOn tests => Sys2Proof.Machine.execPowerOn tests s
  | .holdChargeComplete ufs tests => Sys2Proof.Machine.execHoldChargeComplete ufs tests s
  | .holdChargeTimeout tests => Sys2Proof.Machine.execHoldChargeTimeout tests s
  | .resetStart elapsed tests => Sys2Proof.Machine.execResetStart elapsed tests s
  | .wakeSource source elapsed tests => Sys2Proof.Machine.execWakeSource source elapsed tests s
  | .rtAlarm elapsed tests => Sys2Proof.Machine.execRtAlarm elapsed tests s
  | .mrstN => Sys2Proof.Machine.execMrstN s
  | .coreSupplyFault => Sys2Proof.Machine.execCoreSupplyFault s
  | .fatalFault => Sys2Proof.Machine.execFatalFault s
  | .workUnitTimeout engine => Sys2Proof.Machine.execWorkUnitTimeout engine s
  | .ac1HeartbeatTimeout => Sys2Proof.Machine.execAc1HeartbeatTimeout s
  | .lockRstRelease held => Sys2Proof.Machine.execLockRstRelease held s
  | .lockoutArmExpiry => Sys2Proof.Machine.execLockoutArmExpiry s
  | .ac0SupervisionTask => Sys2Proof.Machine.execAc0SupervisionTask s
  | .ac0WordTimeout => Sys2Proof.Machine.execAc0WordTimeout s
  | .feedBelowThreshold mvA mvB => Sys2Proof.Machine.execFeedBelowThreshold mvA mvB s
  | .handoverComplete => Sys2Proof.Machine.execHandoverComplete s
  | .handoverFailed => Sys2Proof.Machine.execHandoverFailed s
  | .standbyRestored feed mv => Sys2Proof.Machine.execStandbyRestored feed mv s
  | .holdOnlyRecovery mvA mvB => Sys2Proof.Machine.execHoldOnlyRecovery mvA mvB s
  | .feedsIdentical same absent => Sys2Proof.Machine.execFeedsIdentical same absent s
  | .feedAbove36v feed => Sys2Proof.Machine.execFeedAbove36v feed s
  | .feedReversed feed => Sys2Proof.Machine.execFeedReversed feed s
  | .proofTestDue => Sys2Proof.Machine.execProofTestDue s
  | .powerFailCommit mv steps => Sys2Proof.Machine.execPowerFailCommit mv steps s
  | .supplyRecovered => Sys2Proof.Machine.execSupplyRecovered s
  | .orderedShutdown => Sys2Proof.Machine.execOrderedShutdown s
  | .hibernateHoldLow => Sys2Proof.Machine.execHibernateHoldLow s
  | .journalPeriodic => Sys2Proof.Machine.execJournalPeriodic s
  | .ringTrigger ring offset => Sys2Proof.Machine.execRingTrigger ring offset s
  | .blank ring => Sys2Proof.Machine.execBlank ring s
  | .collect ring => Sys2Proof.Machine.execCollect ring s
  | .collectReturn ring data => Sys2Proof.Machine.execCollectReturn ring data s
  | .collectTimeout ring => Sys2Proof.Machine.execCollectTimeout ring s
  | .lossOfCarrier ring outPair => Sys2Proof.Machine.execLossOfCarrier ring outPair s
  | .commandWindow ring => Sys2Proof.Machine.execCommandWindow ring s
  | .commandResponse ring entries => Sys2Proof.Machine.execCommandResponse ring entries s
  | .flagLane ring lane => Sys2Proof.Machine.execFlagLane ring lane s
  | .laneTimeout ring addr => Sys2Proof.Machine.execLaneTimeout ring addr s
  | .ocComparator strand asserted => Sys2Proof.Machine.execOcComparator strand asserted s
  | .watchdogChallenge value => Sys2Proof.Machine.execWatchdogChallenge value s
  | .watchdogResponse value intime => Sys2Proof.Machine.execWatchdogResponse value intime s
  | .watchdogWindowClose => Sys2Proof.Machine.execWatchdogWindowClose s
  | .safetyInputChange input closed => Sys2Proof.Machine.execSafetyInputChange input closed s
  | .tsDarkWindow group own foreign => Sys2Proof.Machine.execTsDarkWindow group own foreign s
  | .discrepancyTimeout pair => Sys2Proof.Machine.execDiscrepancyTimeout pair s
  | .enableTestGap output passed => Sys2Proof.Machine.execEnableTestGap output passed s
  | .ac0CommandTest output passed => Sys2Proof.Machine.execAc0CommandTest output passed s
  | .oscillatorCheck good => Sys2Proof.Machine.execOscillatorCheck good s
  | .guardConfigCrcCheck good => Sys2Proof.Machine.execGuardConfigCrcCheck good s
  | .guardConfigReadback good => Sys2Proof.Machine.execGuardConfigReadback good s
  | .strandTripClear strand => Sys2Proof.Machine.execStrandTripClear strand s
  | .thermalShutdown => Sys2Proof.Machine.execThermalShutdown s
  | .snapshotIntake ring data => Sys2Proof.Machine.execSnapshotIntake ring data s
  | .cellStale cell => Sys2Proof.Machine.execCellStale cell s
  | .wireVerdictTimeout strand sat wire => Sys2Proof.Machine.execWireVerdictTimeout strand sat wire s
  | .owPeriod strand => Sys2Proof.Machine.execOwPeriod strand s
  | .hvRound data => Sys2Proof.Machine.execHvRound data s
  | .shuntOffset strand microvolts => Sys2Proof.Machine.execShuntOffset strand microvolts s
  | .insulationResult which ohms => Sys2Proof.Machine.execInsulationResult which ohms s
  | .earthCheck good => Sys2Proof.Machine.execEarthCheck good s
  | .contactorVoltageHigh strand => Sys2Proof.Machine.execContactorVoltageHigh strand s
  | .currentInference ring => Sys2Proof.Machine.execCurrentInference ring s
  | .modelUpdate ring => Sys2Proof.Machine.execModelUpdate ring s
  | .reportedValues ring => Sys2Proof.Machine.execReportedValues ring s
  | .currentDisagree strand disagree => Sys2Proof.Machine.execCurrentDisagree strand disagree s
  | .reversedShunt strand => Sys2Proof.Machine.execReversedShunt strand s
  | .anchorStale strand => Sys2Proof.Machine.execAnchorStale strand s
  | .learningCycleTimeout cell => Sys2Proof.Machine.execLearningCycleTimeout cell s
  | .memoryWriteback done => Sys2Proof.Machine.execMemoryWriteback done s
  | .balancingPlan ring => Sys2Proof.Machine.execBalancingPlan ring s
  | .railStartFailed ring => Sys2Proof.Machine.execRailStartFailed ring s
  | .railFaultHoldEnd ring => Sys2Proof.Machine.execRailFaultHoldEnd ring s
  | .satelliteExclusionEnd ring sat => Sys2Proof.Machine.execSatelliteExclusionEnd ring sat s
  | .loopSample loop data => Sys2Proof.Machine.execLoopSample loop data s
  | .loopTargetFault loop => Sys2Proof.Machine.execLoopTargetFault loop s
  | .fieldReadback output data => Sys2Proof.Machine.execFieldReadback output data s
  | .overloadCutoff output => Sys2Proof.Machine.execOverloadCutoff output s
  | .overloadRetry output => Sys2Proof.Machine.execOverloadRetry output s
  | .overloadSequenceEnd output => Sys2Proof.Machine.execOverloadSequenceEnd output s
  | .shortSearch output partner => Sys2Proof.Machine.execShortSearch output partner s
  | .lplusWarning supply mv low => Sys2Proof.Machine.execLplusWarning supply mv low s
  | .lplusLow supply mv => Sys2Proof.Machine.execLplusLow supply mv s
  | .lplusRelease supply mv => Sys2Proof.Machine.execLplusRelease supply mv s
  | .diFilter input level => Sys2Proof.Machine.execDiFilter input level s
  | .aiSample input micro => Sys2Proof.Machine.execAiSample input micro s
  | .aiWireBreak input broken => Sys2Proof.Machine.execAiWireBreak input broken s
  | .aiBurdenReopen input => Sys2Proof.Machine.execAiBurdenReopen input s
  | .aoFault output code readback => Sys2Proof.Machine.execAoFault output code readback s
  | .piEdge input stamp short => Sys2Proof.Machine.execPiEdge input stamp short s
  | .piGate input => Sys2Proof.Machine.execPiGate input s
  | .piNoInput input => Sys2Proof.Machine.execPiNoInput input s
  | .housekeepingRound data => Sys2Proof.Machine.execHousekeepingRound data s
  | .canFrameReceived channel frame => Sys2Proof.Machine.execCanFrameReceived channel frame s
  | .canTxComplete channel status sof delay => Sys2Proof.Machine.execCanTxComplete channel status sof delay s
  | .canTxDeadline channel prio index => Sys2Proof.Machine.execCanTxDeadline channel prio index s
  | .canBusError channel transmit weight => Sys2Proof.Machine.execCanBusError channel transmit weight s
  | .canBusoffHoldoff channel => Sys2Proof.Machine.execCanBusoffHoldoff channel s
  | .canRecoveryComplete channel => Sys2Proof.Machine.execCanRecoveryComplete channel s
  | .canLinesSwapped channel => Sys2Proof.Machine.execCanLinesSwapped channel s
  | .txdTimeout channel => Sys2Proof.Machine.execTxdTimeout channel s
  | .sync channel => Sys2Proof.Machine.execSync channel s
  | .syncReceived channel bytes capture => Sys2Proof.Machine.execSyncReceived channel bytes capture s
  | .followUpReceived channel bytes late => Sys2Proof.Machine.execFollowUpReceived channel bytes late s
  | .ntPairTimeout => Sys2Proof.Machine.execNtPairTimeout s
  | .ntHoldoverExpiry => Sys2Proof.Machine.execNtHoldoverExpiry s
  | .dispatchCycleStart => Sys2Proof.Machine.execDispatchCycleStart s
  | .segmentElection => Sys2Proof.Machine.execSegmentElection s
  | .trunkElection => Sys2Proof.Machine.execTrunkElection s
  | .segmentAllocation => Sys2Proof.Machine.execSegmentAllocation s
  | .statusReceived src bytes late => Sys2Proof.Machine.execStatusReceived src bytes late s
  | .segStatusReceived src bytes late => Sys2Proof.Machine.execSegStatusReceived src bytes late s
  | .segAllocReceived src bytes late => Sys2Proof.Machine.execSegAllocReceived src bytes late s
  | .allocReceived src bytes late => Sys2Proof.Machine.execAllocReceived src bytes late s
  | .segDetailReceived src bytes late => Sys2Proof.Machine.execSegDetailReceived src bytes late s
  | .allocStale => Sys2Proof.Machine.execAllocStale s
  | .noSetpoint => Sys2Proof.Machine.execNoSetpoint s
  | .twSlotDue slot => Sys2Proof.Machine.execTwSlotDue slot s
  | .twTransactionDone ok data => Sys2Proof.Machine.execTwTransactionDone ok data s
  | .arbLost byteIndex bitIndex => Sys2Proof.Machine.execArbLost byteIndex bitIndex s
  | .twCtrlTimeout => Sys2Proof.Machine.execTwCtrlTimeout s
  | .twBusStuck recovered => Sys2Proof.Machine.execTwBusStuck recovered s
  | .twBusFree => Sys2Proof.Machine.execTwBusFree s
  | .bankOwnerWrite by' bank word => Sys2Proof.Machine.execBankOwnerWrite by' bank word s
  | .ownerHandoverEffect bank => Sys2Proof.Machine.execOwnerHandoverEffect bank s
  | .bankWrite by' bank offset bytes => Sys2Proof.Machine.execBankWrite by' bank offset bytes s
  | .mailboxCollision offset hostLater hostReads coreReads => Sys2Proof.Machine.execMailboxCollision offset hostLater hostReads coreReads s
  | .eccCorrected bank row => Sys2Proof.Machine.execEccCorrected bank row s
  | .eccUncorrectable bank row => Sys2Proof.Machine.execEccUncorrectable bank row s
  | .scrub bank row found => Sys2Proof.Machine.execScrub bank row found s
  | .siltWrite => Sys2Proof.Machine.execSiltWrite s
  | .coalesceWindowExpiry seq => Sys2Proof.Machine.execCoalesceWindowExpiry seq s
  | .openRecordRewrite seq => Sys2Proof.Machine.execOpenRecordRewrite seq s
  | .rateLimitSecond => Sys2Proof.Machine.execRateLimitSecond s
  | .ntCorrelation => Sys2Proof.Machine.execNtCorrelation s
  | .satelliteSwitch ring sat image => Sys2Proof.Machine.execSatelliteSwitch ring sat image s
  | .healthWindowEnd => Sys2Proof.Machine.execHealthWindowEnd s
  | .restoreComplete good => Sys2Proof.Machine.execRestoreComplete good s
  | .commitComplete => Sys2Proof.Machine.execCommitComplete s
  | .proofTestWindowEnd result lowHold lowFeed => Sys2Proof.Machine.execProofTestWindowEnd result lowHold lowFeed s
  | .lockRstPress => Sys2Proof.Machine.execLockRstPress s
  | .vioLost => Sys2Proof.Machine.execVioLost s
  | .vioRestored => Sys2Proof.Machine.execVioRestored s
  | .feedStopThreshold feed => Sys2Proof.Machine.execFeedStopThreshold feed s
  | .enumerateReturn ring entries => Sys2Proof.Machine.execEnumerateReturn ring entries s
  | .probeReturn ring roundTrip => Sys2Proof.Machine.execProbeReturn ring roundTrip s
  | .imageCopyComplete good => Sys2Proof.Machine.execImageCopyComplete good s
  | .twWriteDiscarded bytes => Sys2Proof.Machine.execTwWriteDiscarded bytes s

end Sys2Proof.Machine
end

