-- ==== Sys2Proof/Safety.lean ====
section
/-! DEFINITION. What counts as a safe run, and the terms the statements use. -/
namespace Sys2Proof.Machine
open Sys2Proof

/-- A step that neither faults nor is refused. -/
def Completes (o : Host.Outcome State Fault Refusal) : Prop := ∃ t, o = .next t

/-- A state without the event router, the silt log and the trace: what an event alone does not change (R45). -/
def State.calm (s : State) : State := { s with router := [], silt := {}, loop := { s.loop with trace := {} } }

/-- Commands of an opcode are served: step 11 of the start is past, and the mode takes them (R117, R120, R159). -/
def State.serves (s : State) (op : Nat) (modes : List Mode) : Bool := s.sys.ready && s.opAllowed op modes && !s.time.quiesced

/-- One row of R159: the opcode, the command, its modes, and the payloads whose length it allows. -/
structure HostRow where
  op : Nat
  make : Port → Half → List Byte → Instr
  modes : List Mode
  lengthOk : List Byte → Bool

/-- Lengths from `a` to `b`. -/
def within (a b : Nat) (pl : List Byte) : Bool := a ≤ pl.length && pl.length ≤ b

/-- The opcode table of R159, with the lengths of the chapters it names; "all" is every mode in which the 0x00xx to 0x09xx
blocks are not narrowed by R117 and R120. -/
def hostRows : List HostRow :=
  [⟨0x0001, .getIdentity, modesAll, within 0 0⟩, ⟨0x0002, .getStatus, modesAll, within 0 0⟩,
   ⟨0x0003, .echo, modesAll, within 0 4092⟩,
   ⟨0x0101, .requestMode, modesFive, within 4 4⟩, ⟨0x0110, .connectStrands, [.run], within 4 4⟩,
   ⟨0x0111, .disconnectStrands, modesFive, within 4 4⟩, ⟨0x0120, .lockoutResetArm, [.lockout], within 0 0⟩,
   ⟨0x0130, .resetModule, modesAll, within 0 0⟩,
   ⟨0x0201, .readPoints, modesAll, fun pl => within 8 4084 pl && pl.length == 4 + 4 * field pl 0 2⟩,
   ⟨0x0202, .subscribePoints, modesAll, fun pl => within 8 1032 pl && pl.length == 8 + 4 * field pl 4 2⟩,
   ⟨0x0203, .readSnapshot, modesAll, within 8 8⟩,
   ⟨0x0301, .readParam, modesAll, fun pl => within 6 2050 pl && pl.length == 4 + 2 * field pl 2 2⟩] ++
  [⟨0x0310, .stageParam, modesAll, within 4 4096⟩, ⟨0x0311, .checkStage, modesAll, within 0 0⟩,
   ⟨0x0312, .fordApply, modesAll, within 12 12⟩, ⟨0x0313, .discardStage, modesAll, within 4 4⟩,
   ⟨0x0320, .unlockSafetySet, [.service], fun pl => within 14 24 pl && pl.length == 8 + field pl 0 1⟩,
   ⟨0x0401, .loopSetMode, modesWork, within 4 4⟩, ⟨0x0402, .loopSetManual, modesWork, within 8 8⟩,
   ⟨0x0410, .traceArm, modesWork, within 44 44⟩, ⟨0x0411, .traceRead, modesWork, within 8 8⟩,
   ⟨0x0501, .siltInfo, modesAll, within 0 0⟩, ⟨0x0502, .siltRead, modesAll, within 8 8⟩,
   ⟨0x0510, .changeLogRead, modesAll, within 8 8⟩] ++
  [⟨0x0601, .updBegin, modesAll, within 260 260⟩, ⟨0x0603, .updProgress, modesAll, within 0 0⟩,
   ⟨0x0604, .updVerify, modesAll, within 0 0⟩, ⟨0x0605, .updHandover, [.standby, .run, .service], within 4 4⟩,
   ⟨0x0606, .updConfirm, modesAll, within 4 4⟩, ⟨0x0607, .updAbort, modesAll, within 4 4⟩,
   ⟨0x0701, .marchTest, [.service], within 8 8⟩, ⟨0x0702, .proofTestFeed, modesFive, within 0 0⟩,
   ⟨0x0703, .openWireTest, [.standby, .run, .service], within 4 4⟩, ⟨0x0801, .bankStatus, modesAll, within 0 0⟩,
   ⟨0x0802, .bankRead, modesAll, within 8 8⟩, ⟨0x0901, .satCommand, [.service], within 20 20⟩,
   ⟨0x0902, .satIdentity, modesWork, within 4 4⟩]

end Sys2Proof.Machine
end

