-- ==== Sys2Proof/WellFormed.lean ====
section
/-! DEFINITION. Which operands a command can have. -/
namespace Sys2Proof

/-- The lengths a CAN frame's data can have (R556). -/
def dlcLengths : List Nat := [0, 1, 2, 3, 4, 5, 6, 7, 8, 12, 16, 20, 24, 32, 48, 64]

/-- A frame whose identifier and data length CAN has: 11 or 29 bits, 8 bytes in Classical CAN and the DLC lengths in FD. -/
def CanFrame.wellFormed (f : CanFrame) : Bool :=
  (if f.extended then f.id < 2 ^ 29 else f.id < 2 ^ 11) &&
  (if f.fd then dlcLengths.contains f.data.length else f.data.length ≤ 8)

/-- Outputs the field die has: 12 safety, 8 general, 4 test-pulse (chapter 14). -/
def OutputId.inRange : OutputId → Bool
  | .so n => n < 12
  | .go n => n < 8
  | .ts n => n < 4

/-- Rows, banks and outputs that exist. -/
def StartTests.wellFormed (t : StartTests) : Bool :=
  t.rows.all (fun e => e.1 < 24 && e.2 < 512) && (match t.output with | some o => o < 12 | none => true)

/-- A channel or ring that exists. -/
def WakeSource.wellFormed : WakeSource → Bool
  | .can c => c < 3
  | .wakeTone r => r < 4
  | .strandCurrent | .twoWire | .wakeIn | .hostSelect | .alarm => true

/-- Operands within the ranges the spec gives the unit they name; a command packet's payload has at most 4,096 bytes (R132). -/
def Instr.wellFormed : Instr → Bool
  | .marchTestComplete failing => failing.all (fun e => e.1 < 24 && e.2 < 512)
  | .nop arg => arg < 4096
  | .status arg => arg < 4096
  | .watchLo arg => arg < 4096
  | .watchHi arg => arg < 4096
  | .mode arg => arg < 4096
  | .disconnect arg => arg < 4096
  | .twReservedCode code arg => 6 ≤ code && code < 16 && arg < 4096
  | .packetWrite bytes => bytes.length ≤ 65536
  | .mbxRead offset _ => offset < 2 ^ 24
  | .regWrite addr _ => addr < 256
  | .pointData _ num => num < 16
  | .holdChargeComplete _ tests => tests.wellFormed
  | .holdChargeTimeout tests => tests.wellFormed
  | .resetStart _ tests => tests.wellFormed
  | .wakeSource source _ tests => source.wellFormed && tests.wellFormed
  | .rtAlarm _ tests => tests.wellFormed
  | .powerFailCommit mv steps => mv < 11000 && 2 ≤ steps && steps ≤ 5
  | .ringTrigger ring offset => ring < 4 && offset < 1000
  | .blank ring => ring < 4
  | .collect ring => ring < 4
  | .collectReturn ring data => ring < 4 && data.frames.all (fun f => f.header.length == 6 && f.slots.length ≤ 32)
  | .collectTimeout ring => ring < 4
  | .lossOfCarrier ring _ => ring < 4
  | .commandWindow ring => ring < 4
  | .commandResponse ring entries => ring < 4 && entries.all (fun e => e.addr < 32 && e.status < 5)
  | .flagLane ring _ => ring < 4
  | .laneTimeout ring addr => ring < 4 && addr < 32
  | .ocComparator strand _ => strand < 4
  | .watchdogChallenge value => value < 65536
  | .watchdogResponse value _ => value < 65536
  | .safetyInputChange input _ => input < 16
  | .tsDarkWindow group _ _ => group < 4
  | .discrepancyTimeout pair => pair < 8
  | .enableTestGap output _ => output < 12
  | .ac0CommandTest output _ => output < 12
  | .strandTripClear strand => strand < 4
  | .snapshotIntake ring data => ring < 4 && data.after ≤ 500 && data.shuntAfter ≤ 125
  | .cellStale cell => cell < 2048
  | .wireVerdictTimeout strand sat wire => strand < 4 && sat < 32 && wire < 17
  | .owPeriod strand => strand < 4
  | .hvRound data => data.strands.length == 4 && data.openPins < 1024
  | .shuntOffset strand _ => strand < 4
  | .insulationResult which _ => which < 5
  | .contactorVoltageHigh strand => strand < 4
  | .currentInference ring => ring < 4
  | .modelUpdate ring => ring < 4
  | .reportedValues ring => ring < 4
  | .currentDisagree strand _ => strand < 4
  | .reversedShunt strand => strand < 4
  | .anchorStale strand => strand < 4
  | .learningCycleTimeout cell => cell < 2048
  | .balancingPlan ring => ring < 4
  | .railStartFailed ring => ring < 4
  | .railFaultHoldEnd ring => ring < 4
  | .satelliteExclusionEnd ring sat => ring < 4 && sat < 32
  | .loopSample loop data => loop < 32 && data.offset < 1000
  | .loopTargetFault loop => loop < 32
  | .fieldReadback output _ => output.inRange
  | .overloadCutoff output => output.inRange
  | .overloadRetry output => output.inRange
  | .overloadSequenceEnd output => output.inRange
  | .shortSearch output _ => output.inRange
  | .lplusWarning supply _ _ => supply < 2
  | .lplusLow supply _ => supply < 2
  | .lplusRelease supply _ => supply < 2
  | .diFilter input _ => input < 24
  | .aiSample input _ => input < 2
  | .aiWireBreak input _ => input < 2
  | .aiBurdenReopen input => input < 2
  | .aoFault output _ _ => output < 2
  | .piEdge input _ _ => input < 2
  | .piGate input => input < 2
  | .piNoInput input => input < 2
  | .housekeepingRound data => data.temps.length == 24 && data.supplies.length == 8
  | .canFrameReceived channel frame => channel < 3 && frame.wellFormed
  | .canTxComplete channel _ _ _ => channel < 3
  | .canTxDeadline channel prio _ => channel < 3 && prio < 4
  | .canBusError channel _ weight => channel < 3 && weight ≤ 8
  | .canBusoffHoldoff channel => channel < 3
  | .canRecoveryComplete channel => channel < 3
  | .canLinesSwapped channel => channel < 3
  | .txdTimeout channel => channel < 3
  | .sync channel => channel < 3
  | .syncReceived channel _ _ => channel < 3
  | .followUpReceived channel _ _ => channel < 3
  | .statusReceived src _ _ => src < 65536
  | .segStatusReceived src _ _ => src < 65536
  | .segAllocReceived src _ _ => src < 65536
  | .allocReceived src _ _ => src < 65536
  | .segDetailReceived src _ _ => src < 65536
  | .twSlotDue slot => slot < 8
  | .arbLost _ bitIndex => bitIndex < 8
  | .bankOwnerWrite _ bank _ => bank < 24
  | .ownerHandoverEffect bank => bank < 24
  | .bankWrite _ bank offset bytes => bank < 24 && offset + bytes.length ≤ 262144
  | .eccCorrected bank row => bank < 24 && row < 512
  | .eccUncorrectable bank row => bank ≤ 24 && row < 512
  | .scrub bank row _ => bank < 24 && row < 512
  | .satelliteSwitch ring sat _ => ring < 4 && sat < 32
  | .proofTestWindowEnd result _ _ => result < 3
  | .enumerateReturn ring _ => ring < 4
  | .probeReturn ring _ => ring < 4
  | .getIdentity _ _ payload => payload.length ≤ 4096
  | .getStatus _ _ payload => payload.length ≤ 4096
  | .echo _ _ payload => payload.length ≤ 4096
  | .requestMode _ _ payload => payload.length ≤ 4096
  | .connectStrands _ _ payload => payload.length ≤ 4096
  | .disconnectStrands _ _ payload => payload.length ≤ 4096
  | .lockoutResetArm _ _ payload => payload.length ≤ 4096
  | .resetModule _ _ payload => payload.length ≤ 4096
  | .readPoints _ _ payload => payload.length ≤ 4096
  | .subscribePoints _ _ payload => payload.length ≤ 4096
  | .readSnapshot _ _ payload => payload.length ≤ 4096
  | .readParam _ _ payload => payload.length ≤ 4096
  | .stageParam _ _ payload => payload.length ≤ 4096
  | .checkStage _ _ payload => payload.length ≤ 4096
  | .fordApply _ _ payload => payload.length ≤ 4096
  | .discardStage _ _ payload => payload.length ≤ 4096
  | .unlockSafetySet _ _ payload => payload.length ≤ 4096
  | .loopSetMode _ _ payload => payload.length ≤ 4096
  | .loopSetManual _ _ payload => payload.length ≤ 4096
  | .traceArm _ _ payload => payload.length ≤ 4096
  | .traceRead _ _ payload => payload.length ≤ 4096
  | .siltInfo _ _ payload => payload.length ≤ 4096
  | .siltRead _ _ payload => payload.length ≤ 4096
  | .changeLogRead _ _ payload => payload.length ≤ 4096
  | .updBegin _ _ payload => payload.length ≤ 4096
  | .updPiece _ _ payload => payload.length ≤ 4096
  | .updProgress _ _ payload => payload.length ≤ 4096
  | .updVerify _ _ payload => payload.length ≤ 4096
  | .updHandover _ _ payload => payload.length ≤ 4096
  | .updConfirm _ _ payload => payload.length ≤ 4096
  | .updAbort _ _ payload => payload.length ≤ 4096
  | .marchTest _ _ payload => payload.length ≤ 4096
  | .proofTestFeed _ _ payload => payload.length ≤ 4096
  | .openWireTest _ _ payload => payload.length ≤ 4096
  | .bankStatus _ _ payload => payload.length ≤ 4096
  | .bankRead _ _ payload => payload.length ≤ 4096
  | .satCommand _ _ payload => payload.length ≤ 4096
  | .satIdentity _ _ payload => payload.length ≤ 4096
  | .moduleResetAfterReply | .verificationComplete .. | .twStatusRead | .twReplyRead | .twStretchExpired
  | .twProtocol | .twSclTimeout | .packetStored | .packetRead .. | .spiUnknownInstruction ..
  | .hpIrqPendWrite .. | .hpEventRead | .hpTimeLoRead | .canCmdSegment .. | .canReassemblyTimeout
  | .frameBoundary .. | .quiesceMark .. | .workUnitComplete .. | .eventTaken .. | .tb1DisciplineLost
  | .powerOn .. | .mrstN | .coreSupplyFault | .fatalFault | .workUnitTimeout ..
  | .ac1HeartbeatTimeout | .lockRstRelease .. | .lockoutArmExpiry | .ac0SupervisionTask | .ac0WordTimeout
  | .feedBelowThreshold .. | .handoverComplete | .handoverFailed | .standbyRestored .. | .holdOnlyRecovery ..
  | .feedsIdentical .. | .feedAbove36v .. | .feedReversed .. | .proofTestDue | .supplyRecovered
  | .orderedShutdown | .hibernateHoldLow | .journalPeriodic | .watchdogWindowClose | .oscillatorCheck ..
  | .guardConfigCrcCheck .. | .guardConfigReadback .. | .thermalShutdown | .earthCheck .. | .memoryWriteback ..
  | .ntPairTimeout | .ntHoldoverExpiry | .dispatchCycleStart | .segmentElection | .trunkElection
  | .segmentAllocation | .allocStale | .noSetpoint | .twTransactionDone .. | .twCtrlTimeout
  | .twBusStuck .. | .twBusFree | .mailboxCollision .. | .siltWrite | .coalesceWindowExpiry ..
  | .openRecordRewrite .. | .rateLimitSecond | .ntCorrelation | .healthWindowEnd | .restoreComplete ..
  | .commitComplete | .lockRstPress | .vioLost | .vioRestored | .feedStopThreshold ..
  | .imageCopyComplete .. | .twWriteDiscarded .. => true

end Sys2Proof
end

