-- ==== Sys2Proof/Certificates/Slice0/Obligations.lean ====
section
/-! DEFINITION. The statements about the model, for the provers. -/
open Sys2Proof Sys2Proof.Machine

/-- A step runs the command at the front of the queue on the state with the queue's rest; an empty queue idles (R148, R725).
For every command and state, step on a queue whose front is the command is exec of that command on the state whose queue is
the rest; on an empty queue step answers the same state (the model's choice, log entry 2: the commands are what happens to
the module, in the order of the queue). -/
def Obligations.StepRunsFront : Prop :=
  (∀ (c : Instr) (l : List Instr) (s : State), step { s with pending := c :: l } = exec c { s with pending := l }) ∧
  (∀ s : State, s.pending = [] → step s = .next s)

/-- The state before the first power-on: unpowered, counters 0, factory parameters, nothing pending, empty memory (R45, R48,
R98, R123, R168, R625, R639, R719). State.reset is the module as it left manufacture (the model's choice of starting point,
log entry 1): not powered, in START at step 0, no latch or record set, every counter 0, no parameter differing from its
factory value, all 256 event sources without a pending bit or an overrun, the banks with their owners of R625 and no byte
listed, no command waiting. Commands other than POWER_ON leave such a module unpowered: a host command does nothing, no
reply is posted. -/
def Obligations.ResetState : Prop :=
  let r := State.reset
  r.sys.powered = false ∧ r.sys.mode = .start ∧ r.sys.step = 0 ∧ r.sys.ready = false ∧ r.sys.lock.latch = false ∧
  r.sys.lock.record = false ∧ r.sys.lock.thermal = false ∧ r.time.now = 0 ∧ r.time.powerCycles = 0 ∧ r.time.opSec = 0 ∧
  r.param.applied = [] ∧ r.param.shadow = [] ∧ r.router.length = 256 ∧
  r.router.all (fun x => x.pending == 0 && x.overrun == 0) = true ∧ r.banks.mem = [] ∧ r.banks.banks.length = 24 ∧
  r.rings.length = 4 ∧ r.pending = [] ∧ r.alive = false ∧
  (∀ p tag pl, exec (.getIdentity p tag pl) r = .next r ∧ exec (.requestMode p tag pl) r = .next r ∧
    exec (.stageParam p tag pl) r = .next r)

/-- Every step keeps the canonical form of the banks' bytes, and takes from the queue its front only (R626, R639, R641). No
command changes the queue of commands that wait behind it. If the bytes of the 24 banks are listed with strictly rising
addresses and none that equals what an unlisted byte holds, then after any step that answers a next state they are so again.
The state before the first power-on has the form. -/
def Obligations.StepKeepsMemoryForm : Prop :=
  Memory.wf State.reset.banks.mem = true ∧
  (∀ s t : State, Memory.wf s.banks.mem = true → step s = .next t → Memory.wf t.banks.mem = true) ∧
  (∀ s t : State, step s = .next t → t.pending = s.pending.tail)

/-- THERMAL_LOCK, once set, ends only with the loss of all power, and only the thermal shutdown sets it (R107, R126, R541,
R542). While the THERMAL_LOCK latch of PD1 is set, no command but ORDERED_SHUTDOWN (both feeds and the hold-up gone) clears
it. A command that sets it is THERMAL_SHUTDOWN, or the FRAME_BOUNDARY at which a start ends with the comparator still
asserted. -/
def Obligations.ThermalLockHeld : Prop :=
  ∀ (c : Instr) (s t : State), exec c s = .next t →
    (s.sys.lock.thermal = true → c ≠ .orderedShutdown → t.sys.lock.thermal = true) ∧
    (s.sys.lock.thermal = false → t.sys.lock.thermal = true → c = .thermalShutdown ∨ ∃ n, c = .frameBoundary n)

/-- Applied parameters change only at a frame boundary or in a start (R13, R14, R30, R116, R124, R495). A command after
which the applied parameter values differ is a FRAME_BOUNDARY, or one that runs a start (HOLD_CHARGE_COMPLETE,
HOLD_CHARGE_TIMEOUT, RESET_START, WAKE_SOURCE, RT_ALARM), where damaged copies are replaced. Staging, checking, applying,
every reset and every loss of power leave them alone. -/
def Obligations.AppliedChangesAtSaddle : Prop :=
  ∀ (c : Instr) (s t : State), exec c s = .next t → t.param.applied ≠ s.param.applied →
    (∃ n, c = .frameBoundary n) ∨ (∃ u x, c = .holdChargeComplete u x) ∨ (∃ x, c = .holdChargeTimeout x) ∨
    (∃ e x, c = .resetStart e x) ∨ (∃ w e x, c = .wakeSource w e x) ∨ (∃ e x, c = .rtAlarm e x)

/-- The power-cycle count changes only in a start from unpowered (R98, R124). A command after which the power-cycle count
differs is POWER_ON (which takes the count from data NVM), one that carries a start from unpowered past step 7
(HOLD_CHARGE_COMPLETE or HOLD_CHARGE_TIMEOUT), or a RESET_START of a reset with the power-on cause 0x01, which no reset
source of the model has. Resets, wakes, mode changes and losses of power keep the count. -/
def Obligations.PowerCyclesCounted : Prop :=
  ∀ (c : Instr) (s t : State), exec c s = .next t → t.time.powerCycles ≠ s.time.powerCycles →
    (∃ x, c = .powerOn x) ∨ (∃ u x, c = .holdChargeComplete u x) ∨ (∃ x, c = .holdChargeTimeout x) ∨
    (s.sys.held = some 1 ∧ ∃ e x, c = .resetStart e x)

/-- A firing source sets the clear pending bits of its destinations, counts an overrun where one was still set, and touches
no unit (R26, R45, R659). For a source that exists. Its pending bits become the old ones with its routing mask (the loop,
trace and silt deliveries acknowledge at once), its stamp is the timebase, its overrun counter advances by one, saturating,
exactly where a destination's bit was still set (outside a power-fail commit, where a full RAM tail counts too). Every other
source, and everything but the router, the silt log and the trace recorder, is unchanged; a source not routed to the silt
log leaves the log unchanged. -/
def Obligations.EventRaised : Prop :=
  ∀ (src code kind index : Nat) (detail : List Byte) (s : State) (r : RouterSource), s.router[src]? = some r →
    let t := raise src code kind index detail s
    t.calm = s.calm ∧ (∀ j, j ≠ src → t.router[j]? = s.router[j]?) ∧
    (r.mask.getLsbD 7 = false → t.silt = s.silt) ∧
    (s.silt.tailOn = false → t.router[src]? = some
      { mask := r.mask, pending := (r.pending ||| r.mask) &&& 0x67, stamp := s.time.now,
        overrun := if r.mask &&& r.pending = 0 then r.overrun else min 65535 (r.overrun + 1) })

/-- A core takes pending events safety and guard group first, then by rising source number (R46). For a core whose power
domain is on (the supervisor's in every mode but START before step 6 and HIBERNATE; AC0's and AC1's while PD3 is on as well,
R36). With no source pending for the core, EVENT_TAKEN changes nothing. If source i is pending and every other pending
source comes later (a source of the safety and guard group, 0xA0 to 0xBF, before one outside it, and within the same part
the lower number first), EVENT_TAKEN clears that core's pending bit of source i and changes nothing else. -/
def Obligations.EventsTakenInOrder : Prop :=
  ∀ (s : State) (d : CoreDest), (match d with | .supervisor => s.alive | .ac0 | .ac1 => s.ac0On) = true → s.router.length = 256 →
    let has := fun (i : Nat) => ∃ r, s.router[i]? = some r ∧ r.pending.getLsbD (destBit d) = true
    let guardGroup := fun (i : Nat) => 0xA0 ≤ i ∧ i ≤ 0xBF
    ((∀ i, ¬ has i) → exec (.eventTaken d) s = .next s) ∧
    (∀ i, has i → (∀ j, has j → j ≠ i → (guardGroup i ∧ ¬ guardGroup j) ∨ ((guardGroup i ↔ guardGroup j) ∧ i < j)) →
      ∃ t, exec (.eventTaken d) s = .next t ∧ t = { s with router := t.router } ∧ t.router.length = 256 ∧
        (∀ j, j ≠ i → t.router[j]? = s.router[j]?) ∧
        ∀ r, s.router[i]? = some r → t.router[i]? =
          some { r with pending := r.pending &&& ~~~(BitVec.ofNat 8 (2 ^ destBit d)) })

/-- Every host command refuses a wrong length, then a wrong mode, as the opcode table of R159 says (R117, R120, R132, R133,
R135, R136, R138, R140, R149, R159). For every row of R159 except UPD_PIECE, whose lengths depend on the session: before
step 11 of a start nothing happens and no reply is posted; afterwards a payload of a length the row does not allow is
answered ST_BAD_LENGTH, and one of an allowed length in a mode the row does not name (narrowed by R117 and R120)
ST_WRONG_MODE; the reply is the whole change of state. After the quiesce mark a packet is stored and posted to its queue
instead, or refused there (the command starts in a later frame). A reply's packet carries opcode, tag, and the payload
status, reserved 0, detail (16 bits), result. On the SPI port with fewer than 32 slots taken and none waiting it takes the
next slot, else it joins the waiting packets; cause bit 0 of HP_IRQ_PEND is set. Only this port's outgoing side and that
register change. -/
def Obligations.HostRefusalsInOrder : Prop :=
  (∀ r ∈ hostRows, ∀ (p : Port) (tag : Half) (pl : List Byte) (s : State),
    (s.sys.ready = false → exec (r.make p tag pl) s = .next s) ∧
    (s.sys.ready = true → s.time.quiesced = false → r.lengthOk pl = false →
      exec (r.make p tag pl) s = .next (reply p r.op tag stBadLength noDetail [] s)) ∧
    (s.sys.ready = true → s.time.quiesced = false → r.lengthOk pl = true → s.opAllowed r.op r.modes = false →
      exec (r.make p tag pl) s = .next (reply p r.op tag stWrongMode noDetail [] s)) ∧
    (s.sys.ready = true → s.time.quiesced = true →
      exec (r.make p tag pl) s = .next (arrive { port := p, opcode := r.op, tag := tag.toNat, payload := pl } s))) ∧
  (∀ (op : Nat) (tag : Half) (st detail : Nat) (result : List Byte) (s : State),
    let pkt : OutPacket := { opcode := op, tag := tag.toNat, isReply := true,
                             payload := [BitVec.ofNat 8 st, 0] ++ leBytes 2 detail ++ result, stamp := s.time.now, sec := s.time.opSec }
    let o := s.port.out
    ∃ t, reply .spi op tag st detail result s = t ∧
      t = { s with port := { s.port with out := t.port.out, irqPend := s.port.irqPend ||| 1 } } ∧
      (o.slots.length < 32 → o.waiting = [] → t.port.out = { o with slots := o.slots ++ [pkt] }) ∧
      (32 ≤ o.slots.length ∨ o.waiting ≠ [] → t.port.out = { o with waiting := o.waiting ++ [pkt] }))

/-- The reports without parameters answer ST_OK with their blocks, and nothing but the reply changes (R131, R159, R160,
R646, R663, R677). Where they are served, GET_IDENTITY answers the 88-byte identity block, GET_STATUS the 32-byte status
block, ECHO its payload of up to 4,092 bytes, SILT_INFO the log's figures, BANK_STATUS the 24 bank records and the seven
masters' counters, UPD_PROGRESS its 320 bytes, and SAT_IDENTITY the report of an enabled ring; CHECK_STAGE of the owner
answers ST_OK without violations and ST_CHECK_FAILED with their number. The reply is the whole change of state. -/
def Obligations.ReportCommands : Prop :=
  ∀ (s : State) (p : Port) (tag : Half),
    (s.serves 0x0001 modesAll = true →
      exec (.getIdentity p tag []) s = .next (reply p 0x0001 tag stOk noDetail s.identity s) ∧ s.identity.length = 88) ∧
    (s.serves 0x0002 modesAll = true →
      exec (.getStatus p tag []) s = .next (reply p 0x0002 tag stOk noDetail s.statusBlock s) ∧ s.statusBlock.length = 32) ∧
    (∀ pl : List Byte, s.serves 0x0003 modesAll = true → pl.length ≤ 4092 →
      exec (.echo p tag pl) s = .next (reply p 0x0003 tag stOk noDetail pl s)) ∧
    (s.serves 0x0501 modesAll = true →
      exec (.siltInfo p tag []) s = .next (reply p 0x0501 tag stOk noDetail (siltInfo s.silt) s)) ∧
    (s.serves 0x0801 modesAll = true →
      exec (.bankStatus p tag []) s =
        .next (reply p 0x0801 tag stOk noDetail ((List.range 24).flatMap s.bankRecord ++ (List.range 7).flatMap (fun m =>
          leBytes 4 (s.banks.conflicts.getD m 0) ++ leBytes 4 (s.banks.collisions.getD m 0))) s)) ∧
    (s.serves 0x0603 modesAll = true →
      ∃ body : List Byte, exec (.updProgress p tag []) s = .next (reply p 0x0603 tag stOk noDetail body s) ∧ body.length = 320 ∧
        body.take 2 = [BitVec.ofNat 8 s.upd.session, BitVec.ofNat 8 (mComp s.upd.manifest)]) ∧
    (∀ k : Fin 4, s.serves 0x0902 modesWork = true → s.enabled k = true →
      exec (.satIdentity p tag [BitVec.ofNat 8 k, 0, 0, 0]) s =
        .next (reply p 0x0902 tag stOk noDetail (ringReport k (s.ring k)) s)) ∧
    (s.serves 0x0311 modesAll = true → s.foreign p = false →
      exec (.checkStage p tag []) s =
        .next (reply p 0x0311 tag (if s.stageViolations = [] then stOk else stCheckFailed) (min s.stageViolations.length 0xFFFE)
          (s.checkResult s.stageViolations) s))

/-- The read commands answer ST_OK with what they were asked for (R163, R166, R169, R464, R498, R647, R665). READ_POINTS of
known points answers the timebase and the value of each; READ_SNAPSHOT of an enabled strand the header and values of its
newest snapshot, or model update, the header's fields being open before the first; READ_PARAM of known parameters their
records as far as they fit, in order; SILT_READ the selected records, taking one of four reader queues until the frame ends,
and ST_BUSY where four are taken; CHANGE_LOG_READ the entries from a sequence number on; BANK_READ the timebase and the
bytes, and ST_BUSY where a destructive March test of the bank runs; TRACE_READ of a finished single trace its samples, of a
running stream its held samples or, with index 0xFFFF, the oldest block, which it takes. Beyond the reply only the reader
count, a stream's taken block and drop counter, and the counter of open values change. -/
def Obligations.ReadCommands : Prop :=
  ∀ (s : State) (p : Port) (tag : Half) (pl : List Byte),
    (s.serves 0x0201 modesAll = true → 8 ≤ pl.length → pl.length ≤ 4084 → pl.length = 4 + 4 * field pl 0 2 → field pl 2 2 = 0 →
        (∀ id ∈ idList pl 4 (field pl 0 2), pointFault id = none) →
      exec (.readPoints p tag pl) s =
        .next (reply p 0x0201 tag stOk noDetail (leBytes 8 s.time.now ++
          (idList pl 4 (field pl 0 2)).flatMap (fun id => leBytes 4 (pointWord (s.readPoint id)))) s)) ∧
    (s.serves 0x0203 modesAll = true → pl.length = 8 → field pl 0 1 < 4 → s.enabled (field pl 0 1) = true →
        1 ≤ field pl 4 2 → field pl 4 2 ≤ 512 → field pl 2 2 + field pl 4 2 ≤ snapRange (field pl 1 1) → field pl 6 2 = 0 →
      ∃ (q net at' : Nat) (u : State),
        exec (.readSnapshot p tag pl) s =
          .next (reply p 0x0203 tag stOk noDetail (leBytes 4 q ++ leBytes 8 net ++ leBytes 8 at' ++ leBytes 2 (field pl 4 2) ++ [0, 0] ++
            s.pointBytes ((List.range (field pl 4 2)).map (fun i =>
              65536 * field pl 1 1 + snapRange (field pl 1 1) * field pl 0 1 + field pl 2 2 + i))) u) ∧
        u = { s with free := u.free } ∧
        ∀ h, s.snapHead (field pl 0 1) (field pl 1 1) = some h → h = (q, net, at') ∧ u = s) ∧
    (s.serves 0x0301 modesAll = true → pl.length = 4 + 2 * field pl 2 2 → 1 ≤ field pl 2 2 → field pl 2 2 ≤ 1023 →
        field pl 0 1 ≤ 2 → field pl 1 1 = 0 → (∀ i, i < field pl 2 2 → (paramSpec (field pl (4 + 2 * i) 2)).isSome = true) →
      ∃ fit : List (List Byte),
        exec (.readParam p tag pl) s =
          .next (reply p 0x0301 tag stOk (if fit.length = field pl 2 2 then noDetail else fit.length) fit.flatten s) ∧
        fit <+: (List.range (field pl 2 2)).map (fun i =>
          recordBytes (field pl (4 + 2 * i) 2) (s.paramFrom (field pl 0 1) (field pl (4 + 2 * i) 2))
            (field pl (4 + 2 * i) 2 == passwordId)) ∧
        fit.flatten.length ≤ 4092) ∧
    (s.serves 0x0502 modesAll = true → pl.length = 8 → 1 ≤ field pl 4 2 → field pl 4 2 ≤ 127 → 1 ≤ field pl 6 1 →
        field pl 6 1 ≤ 3 → field pl 7 1 = 0 →
      exec (.siltRead p tag pl) s =
        .next (if s.silt.readers < 4 then
            reply p 0x0502 tag stOk noDetail (siltReadResult s.silt (field pl 0 4) (field pl 4 2) (field pl 6 1))
              { s with silt := { s.silt with readers := s.silt.readers + 1 } }
          else reply p 0x0502 tag stBusy noDetail [] s)) ∧
    (s.serves 0x0510 modesAll = true → pl.length = 8 → 1 ≤ field pl 4 2 → field pl 4 2 ≤ 127 → field pl 6 2 = 0 →
      ∃ got : List ChangeEntry, ∃ head : List Byte,
        exec (.changeLogRead p tag pl) s =
          .next (reply p 0x0510 tag stOk noDetail (head ++ leBytes 2 got.length ++ [0, 0] ++ got.flatMap (·.bytes)) s) ∧
        head.length = 8 ∧ got.length ≤ field pl 4 2 ∧ (∀ e ∈ got, e ∈ s.guard.changeLog) ∧
        (field pl 0 4 ≠ 0xFFFFFFFF → ∀ e ∈ got, field pl 0 4 ≤ e.seq)) ∧
    (s.serves 0x0802 modesAll = true → pl.length = 8 → field pl 0 1 < 24 → field pl 1 1 = 0 → 1 ≤ field pl 2 2 →
        field pl 2 2 ≤ 4084 → field pl 4 4 + field pl 2 2 ≤ bankBytes →
      (s.testing (field pl 0 1) = false ∨ (∃ j, s.banks.march = some j ∧ j.preserving = true) →
        exec (.bankRead p tag pl) s =
          .next (reply p 0x0802 tag stOk noDetail (leBytes 8 s.time.now ++
            (List.range (field pl 2 2)).map (s.bankByte (field pl 0 1) (field pl 4 4))) { s with free := s.free + field pl 2 2 })) ∧
      (s.testing (field pl 0 1) = true → (∃ j, s.banks.march = some j ∧ j.preserving = false) →
        exec (.bankRead p tag pl) s = .next (reply p 0x0802 tag stBusy noDetail [] s))) ∧
    (s.serves 0x0411 modesWork = true → pl.length = 8 → field pl 0 1 < 8 → field pl 1 1 = 0 → 1 ≤ field pl 4 2 →
        field pl 4 2 ≤ 1021 → field pl 6 2 = 0 → s.loop.trace.channels.getD (field pl 0 1) 0 ≠ 0 →
      let c := field pl 0 1
      let tr := s.loop.trace
      let body := fun (vals : List Int) (last : Nat) => leBytes 1 tr.state ++ leBytes 1 c ++ leBytes 2 (field pl 2 2) ++
        leBytes 2 vals.length ++ leBytes 2 last ++ vals.flatMap s32Bytes
      (tr.state = 3 → field pl 2 2 ≠ 0xFFFF →
        exec (.traceRead p tag pl) s = .next (reply p 0x0411 tag stOk noDetail
          (body (((tr.samples.map (fun l => l.getD c 0)).drop (field pl 2 2)).take (field pl 4 2)) tr.preHeld) s)) ∧
      (tr.state = 4 → field pl 2 2 ≠ 0xFFFF →
        exec (.traceRead p tag pl) s = .next (reply p 0x0411 tag stOk noDetail
          (body ((((tr.blocks.getD c []).flatten).drop (field pl 2 2)).take (field pl 4 2)) (tr.drops.getD c 0))
          (modTrace (fun t => { t with drops := setAt t.drops c 0 }) s))) ∧
      (tr.state = 4 → field pl 2 2 = 0xFFFF →
        exec (.traceRead p tag pl) s = .next (reply p 0x0411 tag stOk noDetail
          (body (((tr.blocks.getD c []).headD []).take (field pl 4 2)) (tr.drops.getD c 0))
          (modTrace (fun t => { t with blocks := modAt t.blocks c (·.drop 1), drops := setAt t.drops c 0 }) s))) ∧
      (tr.state = 1 ∨ tr.state = 2 → exec (.traceRead p tag pl) s = .next (reply p 0x0411 tag stBusy noDetail [] s)))

/-- A mode request that R107 admits waits for its saddle point, and a module reset follows its reply (R105, R107, R123,
R129, R162). REQUEST_MODE for a requestable mode answers the status of the transition table; an accepted request joins the
pending requests, RUN to STANDBY opening every closed strand first, and any other status changes nothing else.
LOCKOUT_RESET_ARM without a fault present answers ST_OK and arms where SAFE.LOCK_RESET_ARMED is 1, a press that has begun
staying outside; with a fault it answers ST_NOT_PERMITTED naming the source. RESET_MODULE answers ST_OK, and
MODULE_RESET_AFTER_REPLY holds the module in reset with the cause that was asked for once the reply has been read or 20 ms
have passed, and changes nothing before. -/
def Obligations.ModeRequests : Prop :=
  ∀ (s : State) (p : Port) (tag : Half),
    (∀ c m, s.serves 0x0101 modesFive = true → modeOfCode c = some m →
      (s.modeStatus m ≠ stAccepted →
        exec (.requestMode p tag [BitVec.ofNat 8 c, 0, 0, 0]) s = .next (reply p 0x0101 tag (s.modeStatus m) noDetail [] s)) ∧
      (s.modeStatus m = stAccepted → ¬ (s.sys.mode = .run ∧ m = .standby) →
        let t := reply p 0x0101 tag stAccepted noDetail [] s
        exec (.requestMode p tag [BitVec.ofNat 8 c, 0, 0, 0]) s =
          .next { t with sys := { s.sys with pendingMode := s.sys.pendingMode ++ [⟨m, .packet p tag, false⟩],
                                             autoRunBarred := s.sys.autoRunBarred && m != .run } }) ∧
      (s.sys.mode = .run → m = .standby →
        ∃ u, exec (.requestMode p tag [BitVec.ofNat 8 c, 0, 0, 0]) s = .next (openStrands s.connMask (cancelConnect u)) ∧
          u.hv = s.hv ∧
          u.sys.pendingMode = s.sys.pendingMode ++ [⟨m, .packet p tag, true⟩])) ∧
    (s.serves 0x0120 [.lockout] = true →
      (s.faultsPresent = [] →
        exec (.lockoutResetArm p tag []) s =
          .next (let t := reply p 0x0120 tag stOk noDetail [] s
                 if s.gn 0x0C02 = 1 then
                   { t with sys := { s.sys with lock := { s.sys.lock with armed := true } },
                            pins := { s.pins with lockRst := s.pins.lockRst.map (fun _ => false) } }
                 else t)) ∧
      (∀ src rest, s.faultsPresent = src :: rest →
        exec (.lockoutResetArm p tag []) s = .next (reply p 0x0120 tag stNotPermitted noDetail (leBytes 1 src) s))) ∧
    (s.serves 0x0130 modesAll = true →
      exec (.resetModule p tag []) s =
        .next (let t := reply p 0x0130 tag stOk noDetail [] s
               let w : PendingReset := { code := 0x04, port := p, opcode := 0x0130, tag := tag, isReply := true, stamp := s.time.now }
               { t with sys := { s.sys with pendingReset := some w } })) ∧
    (∀ r : PendingReset, s.sys.pendingReset = some r → s.alive = true →
      (r.read = true ∨ r.stamp + 20000 ≤ s.time.now →
        ∃ t, exec .moduleResetAfterReply s = .next t ∧ t.sys.held = some r.code ∧ t.sys.powered = true ∧
          t.param.applied = s.param.applied ∧ t.param.shadow = [] ∧ t.pending = s.pending) ∧
      (r.read = false → s.time.now < r.stamp + 20000 → exec .moduleResetAfterReply s = .next s))

/-- CONNECT_STRANDS starts the sequence of its strands, DISCONNECT_STRANDS opens those it finds connected (R161, R297, R303,
R304). For a mask of enabled strands. CONNECT_STRANDS in RUN answers ST_NOT_PERMITTED where the state refuses it, ST_BUSY
while a sequence or a check runs, and otherwise ST_ACCEPTED with the sequence started. DISCONNECT_STRANDS answers ST_OK
where no masked strand is closed, being connected or carries a verdict; otherwise ST_ACCEPTED, and every such strand is
opened and queued for its weld check, its requester waiting. -/
def Obligations.StrandRequests : Prop :=
  ∀ (s : State) (p : Port) (tag : Half) (pl : List Byte) (m : Nat), pl.length = 4 → s.strandMask pl = some m →
    (s.serves 0x0110 [.run] = true →
      exec (.connectStrands p tag pl) s =
        .next (if s.connectRefused m = true then reply p 0x0110 tag stNotPermitted noDetail [] s
               else if s.hv.connect.isSome = true ∨ s.hv.welds ≠ [] then reply p 0x0110 tag stBusy noDetail [] s
               else startConnect m (some (.packet p tag)) (reply p 0x0110 tag stAccepted noDetail [] s))) ∧
    (s.serves 0x0111 modesFive = true →
      (s.toDisconnect m = [] → exec (.disconnectStrands p tag pl) s = .next (reply p 0x0111 tag stOk noDetail [] s)) ∧
      (s.toDisconnect m ≠ [] →
        ∃ u, exec (.disconnectStrands p tag pl) s =
            .next ((s.toDisconnect m).foldl (fun s k => enqueueWeld k (openStrand k s)) u) ∧
          u.sys = s.sys ∧ u.guard = s.guard ∧ u.hv.strands = s.hv.strands ∧ u.hv.connect = s.hv.connect ∧
          u.hv.disconnects = s.hv.disconnects ++
            [⟨.packet p tag, s.toDisconnect m, (List.range 4).map (fun k => if m.testBit k then 0 else 1)⟩]))

/-- Parameters are staged, applied, discarded and unlocked, and points subscribed, by the transport that owns them (R167,
R170, R172, R173, R176, R177, R180, R181). STAGE_PARAM of records without fault puts them into the shadow set in their
order, immediate ones into the list for the saddle point, and the sender becomes owner where it staged one. FORD_APPLY with
a non-empty set, no instant, no digest, no violation and the conditions of R15 met becomes pending with ST_ACCEPTED.
DISCARD_STAGE of the owner without a pending apply empties the set. UNLOCK_SAFETY_SET with the right password outside a
block unlocks with event 0xBB. SUBSCRIBE_POINTS replaces the subscription of its number. No applied parameter changes. -/
def Obligations.StagingRequests : Prop :=
  ∀ (s : State) (p : Port) (tag : Half) (pl : List Byte),
    (s.serves 0x0310 modesAll = true → 4 ≤ pl.length → pl.length ≤ 4096 → s.param.pendingApply = none → s.foreign p = false →
        (∀ r ∈ parseRecords 1024 pl, r.id / 256 ≠ 0x0C ∧ s.stageFault r = none) →
        (∀ i, i < (parseRecords 1024 pl).length → (enterShadow ((parseRecords 1024 pl).take (i + 1)) s.param.shadow).length ≤ 1024) →
      let rs := parseRecords 1024 pl
      exec (.stageParam p tag pl) s =
        .next (reply p 0x0310 tag stOk noDetail [] { s with param := { s.param with
          shadow := enterShadow rs s.param.shadow,
          owner := if s.param.owner = none ∧ rs.any (·.staged) = true then some p else s.param.owner,
          immediate := s.param.immediate ++ (rs.filter (·.immediate)).map (fun r => (r.id, r.val)) } })) ∧
    (s.serves 0x0312 modesAll = true → s.foreign p = false → s.param.shadow ≠ [] → s.param.pendingApply = none →
        s.stageViolations = [] → s.r15 (s.param.stages isService) (s.param.stages (fun id => id / 256 == 0x0C)) = none →
      exec (.fordApply p tag (List.replicate 12 0)) s =
        .next (let t := reply p 0x0312 tag stAccepted noDetail [] s
               let a : PendingApply := { instant := 0, port := p, tag := tag, service := s.param.stages isService,
                                         guarded := s.param.stages (fun id => id / 256 == 0x0C) }
               { t with param := { s.param with pendingApply := some a } })) ∧
    (s.serves 0x0313 modesAll = true → s.foreign p = false → s.param.pendingApply = none →
      exec (.discardStage p tag [0, 0, 0, 0]) s =
        .next (reply p 0x0313 tag stOk noDetail [] { s with param := { s.param with shadow := [], owner := none } })) ∧
    (s.serves 0x0320 [.service] = true → 14 ≤ pl.length → pl.length ≤ 24 → pl.length = 8 + field pl 0 1 → field pl 1 3 = 0 →
        (∀ b ∈ pl.drop 8, 0x21 ≤ b.toNat ∧ b.toNat ≤ 0x7E) → s.param.blockEnd ≤ s.time.opSec →
      (s.param.get passwordId = .str (pl.drop 8) →
        exec (.unlockSafetySet p tag pl) s =
          .next (reply p 0x0320 tag stOk noDetail []
            (raise0 0xBB { s with param := { s.param with wrongCount := 0, unlocked := some (field pl 4 4) } }))) ∧
      (s.param.get passwordId ≠ .str (pl.drop 8) →
        exec (.unlockSafetySet p tag pl) s =
          .next (reply p 0x0320 tag stLocked noDetail []
            (let n := s.param.wrongCount + 1
             let e := if 5 ≤ n then s.time.opSec + 600 else s.param.blockEnd
             raise0 0xBD { s with param := { s.param with wrongCount := n, blockEnd := e } })))) ∧
    (s.serves 0x0202 modesAll = true → pl.length = 8 + 4 * field pl 4 2 → 1 ≤ field pl 4 2 → field pl 4 2 ≤ 256 →
        field pl 0 1 ≤ 15 → field pl 1 1 = 0 → field pl 6 2 = 0 → 10 ≤ field pl 2 2 → field pl 2 2 ≤ 60000 →
        (∀ id ∈ idList pl 8 (field pl 4 2), pointFault id = none) →
      exec (.subscribePoints p tag pl) s =
        .next (reply p 0x0202 tag stOk noDetail [] (s.setOut p { s.outOf p with
          subs := (s.outOf p).subs.filter (fun b => b.num != field pl 0 1) ++
            [{ num := field pl 0 1, period := field pl 2 2, points := idList pl 8 (field pl 4 2) }] })))

/-- LOOP_SET_MODE, LOOP_SET_MANUAL and TRACE_ARM act on a loop that takes commands (R456, R457, R458). A loop that is
enabled, runs and is not held for HOLLOW takes MANUAL as its commanded mode, keeping its output as the manual value where it
tracks, and AUTO where its process value and set-point are valid. In MANUAL it takes a manual value of 0 to 10,000. A single
trace of known channels on an enabled loop is armed with ST_ACCEPTED while no recorder runs; its acquisition then decides.
Only the loop, or the recorder, changes beside the reply. -/
def Obligations.LoopRequests : Prop :=
  ∀ (s : State) (p : Port) (tag : Half) (n : Nat), n < 32 →
    (s.serves 0x0401 modesWork = true → s.loopTakes n = true →
      exec (.loopSetMode p tag [BitVec.ofNat 8 n, 1, 0, 0]) s =
        .next (reply p 0x0401 tag stOk noDetail [] (modLoop n (fun l =>
          { l with commanded := some .manual, manual := if l.mode = .track then l.uPrev else l.manual }) s)) ∧
      ((s.pvSource (s.loopWords n)).isSome = true → (s.spSource (s.loopWords n)).isSome = true →
        exec (.loopSetMode p tag [BitVec.ofNat 8 n, 2, 0, 0]) s =
          .next (reply p 0x0401 tag stOk noDetail [] (modLoop n (fun l => { l with commanded := some .auto }) s)))) ∧
    (∀ v : Nat, s.serves 0x0402 modesWork = true → s.loopTakes n = true → (s.loopOf n).mode = .manual → v ≤ 10000 →
      exec (.loopSetManual p tag ([BitVec.ofNat 8 n, 0, 0, 0] ++ leBytes 4 v)) s =
        .next (reply p 0x0402 tag stOk noDetail [] (modLoop n (fun l => { l with manual := (v : Rat) }) s))) ∧
    (∀ pl, s.serves 0x0410 modesWork = true → pl.length = 44 → field pl 0 1 = 1 → traceArmOk pl = true → field pl 2 1 ≠ 1 →
        (word (s.loopWords (field pl 1 1)) 0).testBit 31 = true → s.loop.trace.state = 0 →
      exec (.traceArm p tag pl) s =
        .next (reply p 0x0410 tag stAccepted noDetail [] (modTrace (fun _ =>
          { state := 1, clock := field pl 1 1, kind := field pl 2 1, arg := field pl 3 1, pre := field pl 4 2,
            decimation := field pl 6 2, level := s32Of (field pl 8 4), channels := traceChannels pl,
            by' := some (.packet p tag) }) s)))

/-- March tests, open-wire tests and satellite commands are accepted and start (R231, R262, R263, R644). MARCH_TEST in
SERVICE of a data-preserving mask starts with ST_ACCEPTED while none runs. OPEN_WIRE_TEST of all satellites of one enabled
strand that runs no test is accepted, its transfers stop, event 0x48 is raised and the requester waits; OW_PERIOD starts the
same test without a requester. SAT_COMMAND in SERVICE to an admitted satellite with a code it may carry queues one entry on
its ring. -/
def Obligations.TestRequests : Prop :=
  ∀ (s : State) (p : Port) (tag : Half),
    (∀ mask, s.serves 0x0701 [.service] = true → 0 < mask → mask < 2 ^ 24 → s.banks.march = none →
      exec (.marchTest p tag (leBytes 4 mask ++ [1, 0, 0, 0])) s =
        .next (let t := reply p 0x0701 tag stAccepted noDetail [] s
               { t with banks := { s.banks with march := some { mask := mask, preserving := true, by' := .packet p tag } } })) ∧
    (∀ k, k < 4 → s.enabled k = true → (s.measOf k).owt = none →
      (s.serves 0x0703 [.standby, .run, .service] = true →
        ∃ u, exec (.openWireTest p tag [BitVec.ofNat 8 (2 ^ k), 0, 0xFF, 0]) s =
            .next (startOwt k 0 (s.owtSats k 0xFF) (some (.packet p tag)) u) ∧
          u.meas = s.meas ∧ u.rings = s.rings ∧ u.bal = s.bal ∧
          u.port.owtJobs = s.port.owtJobs ++ [{ by' := .packet p tag, strands := [k], reports := [] }]) ∧
      (s.sys.mode = .standby ∨ s.sys.mode = .run ∨ s.sys.mode = .service → s.pn 0x060D ≠ 0 →
        exec (.owPeriod k) s = .next (startOwt k 0 (s.owtSats k 0xFF) none s))) ∧
    (∀ (k : Nat) (addr code : Byte) (args : List Byte), k < 4 → s.serves 0x0901 [.service] = true → s.enabled k = true →
        (s.ring k).admittedSet.contains addr.toNat = true → args.length = 8 → satReserved code.toNat (field args 0 2) = false →
        (s.ring k).queue.length < s.qDepth (8 + k) →
      let d : RingDesc := { purpose := .satCommand (.packet p tag), entries := [{ addr := addr.toNat, code := code.toNat, args := args }],
                            posted := s.time.now }
      exec (.satCommand p tag ([BitVec.ofNat 8 k, 0, 0, 0, addr, code, 0, 0] ++ args ++ [0, 0, 0, 0])) s =
        .next (reply p 0x0901 tag stAccepted noDetail [] (s.modRing k (fun g => { g with queue := g.queue ++ [d] }))))

/-- An update session is opened, its pieces stored once each, and the whole image verified (R674, R675, R676, R678, R679,
R680). UPD_BEGIN with a well-formed manifest for a component other than the loader body, with no session open and no health
window, opens the session with no piece held, raises 0xF4 and answers what is held where the manifest is trusted (key slot,
signature, level), and is refused ST_NOT_PERMITTED where it is not. UPD_PIECE of a missing index with the right check stores
the piece with ST_OK; one whose check fails answers ST_BAD_CRC with event 0xF5 and is not stored. UPD_VERIFY of a complete
image is accepted, and VERIFICATION_COMPLETE raises 0xF6 with the verdict and completes it: verdict 0 marks the image
verified, any other loses the pieces. -/
def Obligations.UpdateTransfer : Prop :=
  ∀ (s : State) (p : Port) (tag : Half),
    (∀ pl, s.serves 0x0601 modesAll = true → pl.length = 260 → field pl 0 1 = 0 → field pl 1 3 = 0 → manifestOk (pl.drop 4) = true →
        mComp (pl.drop 4) ≠ 4 → s.upd.session ≠ 1 → s.inWindow = false →
      (s.manifestTrusted (pl.drop 4) = true →
        ∃ u, exec (.updBegin p tag pl) s =
            .next (updEvent 0xF4 0 (mComp (pl.drop 4)) (reply p 0x0601 tag stOk noDetail (u.upd.heldBytes ++ leBytes 4 0) u)) ∧
          u.upd.session = 1 ∧ u.upd.manifest = pl.drop 4 ∧ u.upd.pieces = [] ∧ u.param = s.param ∧ u.port = s.port ∧
          u.banks = s.banks) ∧
      (s.manifestTrusted (pl.drop 4) = false →
        exec (.updBegin p tag pl) s = .next (reply p 0x0601 tag stNotPermitted noDetail [] s))) ∧
    (∀ (i : Nat) (check data : List Byte), s.serves 0x0602 modesAll = true → s.upd.session = 1 → i < mCount s.upd.manifest →
        i < 65536 → check.length = 8 → data.length = pieceLength s.upd.manifest i → assocGet i s.upd.pieces = none →
      let pl := leBytes 2 i ++ [0, 0] ++ check ++ data
      ((sha256 data).take 8 = check →
        exec (.updPiece p tag pl) s =
          .next (reply p 0x0602 tag stOk noDetail [] (storePiece i { check := check, data := data } s)) ∧
        assocGet i (storePiece i { check := check, data := data } s).upd.pieces = some { check := check, data := data }) ∧
      ((sha256 data).take 8 ≠ check →
        exec (.updPiece p tag pl) s =
          .next (updEvent 0xF5 0 (mComp s.upd.manifest) (reply p 0x0602 tag stBadCrc i [] s)))) ∧
    (s.serves 0x0604 modesAll = true → s.upd.session = 1 → s.upd.verify = none → s.upd.firstMissing = 0xFFFF →
      exec (.updVerify p tag []) s =
        .next (reply p 0x0604 tag stAccepted noDetail [] { s with upd := { s.upd with verify := some (.packet p tag) } })) ∧
    (∀ good, s.upd.verify = some (.packet p tag) → s.sys.mode ≠ .loader → s.upd.comps.length = 5 → mComp s.upd.manifest < 5 →
      let v := s.verdict good
      ∃ u, exec (.verificationComplete good) s =
          .next (complete (.packet p tag) 0x0604 stOk noDetail [BitVec.ofNat 8 v] (updEvent 0xF6 v (mComp s.upd.manifest) u)) ∧
        (v = 0 → u.upd.session = 2 ∧ u.upd.verify = none ∧ u.verified (mComp s.upd.manifest) = true ∧
          (u.comp (mComp s.upd.manifest)).image = s.upd.manifest) ∧
        (v ≠ 0 → u = { s with upd := { s.upd with verify := none, pieces := [] } }))

/-- A verified image is handed over, copied, switched in, confirmed or aborted (R682, R683, R686, R688, R691, R696).
UPD_HANDOVER of a verified, compatible component other than the main image is accepted and waits; IMAGE_COPY_COMPLETE makes
a die's image ready for the saddle point, lists the satellites to switch, or after a failed copy completes the request with
ST_INTERNAL_FAULT; SATELLITE_SWITCH takes the next satellite off the list. UPD_CONFIRM of a healthy component in its window,
and the end of the window under UPD.AUTO_CONFIRM, confirm it with event 0xF8; otherwise the window's end fails it. UPD_ABORT
of a peripheral image in transfer closes the session. RESTORE_COMPLETE ends the restore with event 0xFB. -/
def Obligations.UpdateHandover : Prop :=
  ∀ (s : State) (p : Port) (tag : Half) (c : Nat), c < 5 → s.upd.comps.length = 5 →
    (s.serves 0x0605 [.standby, .run, .service] = true → 2 ≤ c → s.verified c = true → s.incompatible c = false →
        s.upd.handover = none →
      exec (.updHandover p tag [BitVec.ofNat 8 c, 0, 0, 0]) s =
        .next (reply p 0x0605 tag stAccepted noDetail []
          { s with upd := { s.upd with handover := some { comp := c, flags := 0, strands := 0, by' := .packet p tag } } })) ∧
    (∀ h, s.upd.handover = some h → h.ready = false → h.comp = c →
      ((c = 0 ∨ c = 2 ∨ c = 3) →
        exec (.imageCopyComplete true) s = .next { s with upd := { s.upd with handover := some { h with ready := true } } }) ∧
      (c = 1 → s.switchList h ≠ [] →
        exec (.imageCopyComplete true) s =
          .next { s with upd := { s.upd with handover := some h, toSwitch := s.switchList h, switched := [] } }) ∧
      (c ≠ 4 → exec (.imageCopyComplete false) s =
        .next (complete h.by' 0x0605 stInternalFault noDetail [] { s with upd := { s.upd with handover := none } }))) ∧
    (∀ h r n e rest, s.upd.handover = some h → s.upd.toSwitch = (r, n) :: e :: rest → (r, n) ∉ e :: rest →
      exec (.satelliteSwitch r n true) s =
        .next (let u := s.modSat r n (flipImage (s.comp 1).stored)
               { u with upd := { s.upd with toSwitch := e :: rest, switched := s.upd.switched ++ [(r, n)] } })) ∧
    ((s.comp c).window ≠ none → s.upd.fallback = none → s.healthy c = true →
      (s.serves 0x0606 modesAll = true →
        exec (.updConfirm p tag [BitVec.ofNat 8 c, 0, 0, 0]) s = .next (reply p 0x0606 tag stOk noDetail [] (confirm c s))) ∧
      (s.upd.comps.findIdx? (fun x => x.window.isSome) = some c → s.pn 0x1402 = 1 →
        exec .healthWindowEnd s = .next (confirm c s)) ∧
      ((confirm c s).comp c).state = 0 ∧ ((confirm c s).comp c).window = none) ∧
    (s.upd.comps.findIdx? (fun x => x.window.isSome) = some c → s.pn 0x1402 ≠ 1 →
      exec .healthWindowEnd s = .next { s with upd := { s.upd with fallback := some c } }) ∧
    (s.serves 0x0607 modesAll = true → 1 ≤ c → (s.comp c).window = none → (s.comp c).state = 1 → s.upd.handover = none →
        s.upd.session = 1 → mComp s.upd.manifest = c →
      ∃ u, exec (.updAbort p tag [BitVec.ofNat 8 c, 0, 0, 0]) s = .next (reply p 0x0607 tag stOk noDetail [] u) ∧
        u.upd.session = 3 ∧ u.upd.pieces = [] ∧ (u.comp c).state = 0) ∧
    (s.upd.restoring = true → s.upd.abortBy = [] → s.upd.hibernateAfter = none →
      exec (.restoreComplete false) s = .next (updEvent 0xFB 2 0 { s with upd := { s.upd with restoring := false } }) ∧
      ∃ u, exec (.restoreComplete true) s = .next (updEvent 0xFB 1 0 u) ∧ u.upd.restoring = false ∧ (u.comp 0).state = 0)

/-- What each two-wire command word does and replies in the window of its frame (R107, R113, R148, R156, R157, R158, R608,
R614, R624). For a module whose command address answers, before the quiesce mark of a frame that may still start a command,
with nothing waiting in Q0 to Q3 and no word executing. The word counts as one of the frame's starts and as one arrival; NOP
with argument 0 keeps the reply word; STATUS with argument 0 sets it to mode, connected strands and reset cause; WATCH_LO
latches the watched point and shows its low half, WATCH_HI the latched high half (invalid in START and LOADER); a MODE word
that the transition table accepts replies nibble 1 with the argument and is queued for its saddle point; DISCONNECT starts
the disconnect and replies its status; a reserved code replies ST_BAD_OPCODE's nibble above low bits that are open. -/
def Obligations.TwoWireWords : Prop :=
  ∀ (s : State), s.twCmdUp = true → s.tw.busy = false → s.time.quiesced = false → 0 < s.time.starts → 0 < s.qDepth 3 →
      s.port.q0 = [] → s.port.q1 = [] → s.port.q2 = [] → s.port.q3 = [] →
    let started := fun (turn : Nat) => ({ s with
      time := { s.time with starts := s.time.starts - 1 },
      port := { s.port with arrived := s.port.arrived + 1, turn := turn } } : State)
    let u := started 1
    let starting := s.sys.mode = .start ∨ s.sys.mode = .loader
    exec (.nop 0) s = .next u ∧
    exec (.status 0) s = .next { u with tw := { s.tw with
      reply := modeCode s.sys.mode % 16 * 256 + s.connMask % 16 * 16 + s.sys.resetCause % 16 } } ∧
    (∀ n, n < 16 → ∃ v, (starting → v = 0x80000000) ∧ (¬ starting → v = pointWord (u.readPoint (s.pn (0x1210 + n)))) ∧
      exec (.watchLo n) s = .next { u with tw := { s.tw with reply := v % 65536, watches := setAt s.tw.watches n v } }) ∧
    (∀ n, n < 16 → (starting → exec (.watchHi n) s = .next { u with tw := { s.tw with reply := 0x8000 } }) ∧
      (¬ starting → exec (.watchHi n) s =
        .next { u with tw := { s.tw with reply := s.tw.watches.getD n 0x80000000 / 65536 } })) ∧
    (∀ arg m, arg < 4096 → modeOfCode arg = some m → m ≠ .service → ¬ starting → s.modeStatus m = stAccepted →
        ¬ (m = .run ∧ s.sys.autoRunBarred = true) →
      exec (.mode arg) s = .next (acceptMode m .twoWire { u with tw := { s.tw with
        reply := 0x1000 + arg, modeArgs := s.tw.modeArgs ++ [arg] } })) ∧
    (∀ arg, 0 < arg → arg < 16 → s.opAllowed opDisconnect modesFive = true → (∀ k, k < 4 → arg.testBit k = true → s.enabled k = true) →
      let r := disconnect arg .twoWire (started s.port.turn)
      exec (.disconnect arg) s = .next { r.1 with tw := { r.1.tw with reply := nibble r.2 * 4096 + arg } }) ∧
    (∀ code arg, 6 ≤ code → code ≤ 15 → ∃ w, w < 4096 ∧
      exec (.twReservedCode code arg) s = .next { u with tw := { s.tw with reply := 0x2000 + w }, free := s.free + 1 })

/-- What a controller reads at the two target addresses, the target's errors, and the loss of VIO (R57, R158, R608, R609,
R610, R611, R612, R613, R624). The status address returns the STATUS word and the command address the reply word, or both as
they stood at the last saddle point where TW.STRETCH_MAX (0x1205) is 0; the reply word itself is left. An expired stretch
returns 0xFFFF. Expired stretch, protocol error and SCL timeout raise 0xF0 with a code of their own and nothing else
changes. A write of another length than two bytes has no effect. A word written while one is executing is discarded with
event 0xF0; one written after the quiesce mark is kept in Q3 and shows ST_BUSY. VIO_LOST and VIO_RESTORED follow the supply
and end a running mailbox read. -/
def Obligations.TwoWireReads : Prop :=
  ∀ (s : State),
    (s.twBus = true → s.pn 0x1204 ≠ 0 →
      exec .twStatusRead s = .next { s with tw := { s.tw with
        returned := if s.pn 0x1205 = 0 then s.tw.saddleStatus else s.twStatus } }) ∧
    (s.twCmdUp = true → s.tw.busy = false →
      exec .twReplyRead s = .next { s with free := s.free + 1, tw := { s.tw with
        returned := if s.pn 0x1205 = 0 then s.tw.saddleReply else s.tw.reply } }) ∧
    (s.twCmdUp = true → s.tw.busy = true → s.pn 0x1205 ≠ 0 → ∃ w, w < 4096 ∧
      exec .twReplyRead s = .next { s with free := s.free + 1, tw := { s.tw with returned := 0x6000 + w } }) ∧
    (s.twUp = true →
      (s.pn 0x1205 ≠ 0 → exec .twStretchExpired s =
        .next (raise 0xF0 (Config.twCode 2) 0 0 (leBytes 1 (s.pn 0x1203)) { s with tw := { s.tw with returned := 0xFFFF } })) ∧
      exec .twProtocol s = .next (raise 0xF0 (Config.twCode 0) 0 0 (leBytes 1 (s.pn 0x1203)) s) ∧
      exec .twSclTimeout s = .next (raise 0xF0 (Config.twCode 3) 0 0 (leBytes 1 (s.pn 0x1203)) s)) ∧
    (∀ b, exec (.twWriteDiscarded b) s = .next s) ∧
    (s.twCmdUp = true → s.port.q3.length < s.qDepth 3 →
      (s.tw.busy = true → ∀ a, exec (.status a) s = .next (raise 0xF0 (Config.twCode 1) 0 0 (leBytes 1 (s.pn 0x1203)) s)) ∧
      (s.tw.busy = false → s.time.quiesced = true → ∀ a, a < 4096 → exec (.watchLo a) s =
        .next (let c : TwCmd := { arrival := s.port.arrived, word := 0x2000 + a, stamp := s.time.now }
               let q : PortState := { s.port with q3 := s.port.q3 ++ [c], arrived := s.port.arrived + 1 }
               { s with tw := { s.tw with busy := true }, port := q }))) ∧
    exec .vioLost s =
      .next { s with pins := { s.pins with vio := false }, port := { s.port with mbxAt := none, collided := false } } ∧
    exec .vioRestored s = .next { s with pins := { s.pins with vio := true } }

/-- Lost arbitration is retried up to TW.RETRIES times, then the transaction fails (R619). For a controller that runs with
slot j at the head of Q56. ARB_LOST with fewer retries made than TW.RETRIES (0x1206) leaves the transaction at the head of
Q56 with one retry more; the next outcome on the free bus is again the same slot's. With TW.RETRIES retries made, the
transaction fails: it leaves Q56, the slot is free again, marked failed and without a value, and the first failure raises
0xF2. Either way 0xF1 is raised with the slot, byte and bit, and nothing else changes. -/
def Obligations.ArbitrationRetried : Prop :=
  ∀ (s : State) (j at' byteIndex bitIndex : Nat) (l : List (Nat × Nat)), s.twServes = true → s.twc.queue = (j, at') :: l →
    let u := raise 0xF1 0 0 0 (leBytes 1 j ++ leBytes 1 byteIndex ++ leBytes 1 bitIndex) s
    (s.twc.retries < s.pn 0x1206 →
      exec (.arbLost byteIndex bitIndex) s = .next { u with twc := { s.twc with retries := s.twc.retries + 1 } }) ∧
    (s.pn 0x1206 ≤ s.twc.retries →
      let slots := modAt s.twc.slots j (fun x => { x with pending := false, failed := true, value := none })
      let failed : State := { u with twc := { s.twc with queue := l, retries := 0, slots := slots } }
      exec (.arbLost byteIndex bitIndex) s =
        .next (if (s.twc.slots.getD j {}).failed = true then failed else raise 0xF2 0 0 0 (leBytes 1 j) failed))

/-- A polling slot posts its transaction when due; its end, its timeout and the stuck bus (R615, R616, R617, R622). For a
slot j below 8 whose configuration word is enabled. In a frame whose boundary is a multiple of its period, after slots of
lower number, it falls due once: while pending it skips that period, and otherwise a read slot joins Q56, raising 0x09
instead where Q56 is full. Its transaction at the head of Q56 that succeeds with the slot's number of bytes gives the slot
the value read and clears a failure; one without acknowledge, or timed out, leaves it without a value; 0xF2 is raised at the
first failure and at the first success after failures. A stuck bus suspends the slots with event 0xF3 until TW_BUS_FREE. -/
def Obligations.ControllerSlots : Prop :=
  ∀ (s : State) (j : Nat) (cfg : Nat) (x : TwSlot), j < 8 → cfg = s.pn (0x1220 + 3 * j) → s.twc.slots[j]? = some x → s.twServes = true →
    (s.twTurn j = false → exec (.twSlotDue j) s = .next s) ∧
    (cfg.testBit 31 = true → s.twTurn j = true →
      let c := { s.twc with due := some (s.time.now / 1000, j) }
      (x.pending = true → exec (.twSlotDue j) s = .next { s with twc := c }) ∧
      (cfg.testBit 30 = false → x.pending = false →
        (s.twc.queue.length < s.qDepth 56 → exec (.twSlotDue j) s =
          .next { s with twc := { c with queue := s.twc.queue ++ [(j, s.time.now)],
                                         slots := setAt s.twc.slots j { x with pending := true, data := [] } } }) ∧
        (s.qDepth 56 ≤ s.twc.queue.length → exec (.twSlotDue j) s = .next (raise 0x09 0 0 0 [56] { s with twc := c })))) ∧
    (∀ l at', s.twc.queue = (j, at') :: l →
      let slots := fun (ok : Bool) (v : Option Int) => setAt s.twc.slots j { x with pending := false, failed := !ok, value := v }
      let done := fun (ok : Bool) (v : Option Int) =>
        ({ s with twc := { s.twc with queue := l, retries := 0, slots := slots ok v } } : State)
      (∀ data : List Byte, cfg.testBit 30 = false → data.length = 2 ^ bits cfg 27 26 →
        exec (.twTransactionDone true data) s =
          .next (let t := done true (some (twReadValue cfg data))
                 if x.failed = true then raise 0xF2 0 0 0 (leBytes 1 j) t else t)) ∧
      exec .twCtrlTimeout s =
        .next (if x.failed = true then done false none else raise 0xF2 0 0 0 (leBytes 1 j) (done false none)) ∧
      (∀ data, exec (.twTransactionDone false data) s = exec .twCtrlTimeout s)) ∧
    (exec (.twBusStuck false) s = .next (raise 0xF3 0 0 0 [1] { s with twc := { s.twc with stuck := true } })) ∧
    exec (.twBusStuck true) s = .next (raise 0xF3 0 0 0 [0] s) ∧
    exec .twBusFree { s with twc := { s.twc with stuck := true } } = .next (raise0 0xF3 s)

/-- A written packet is checked in the order of R140, takes a command slot, and is posted to its queue (R43, R132, R136,
R140, R143, R145, R147, R148, R149, R725). For a host port that answers. Fewer than 12 bytes set PROTOCOL; a wrong header
CRC is counted and answered ST_BAD_CRC with opcode and tag 0; a length above 4,096 is answered ST_LENGTH_EXCEEDS; a packet
whose bytes match its length takes a slot and is stored (its payload CRC is judged when its command starts). A stored packet
is posted to Q0 or Q1 by its priority flag with the next turn and its stamp, or answered ST_QUEUE_FULL where the queue is
full, its slot free again and 0x09 raised; before the quiesce mark the supervisor then starts waiting commands while the
frame has starts left, after it none. A packet alone in Q0 to Q3 is started at once, its slot free again. A packet written
while HBUSY_N is low is refused with ST_QUEUE_FULL and PROTOCOL. -/
def Obligations.PacketsWritten : Prop :=
  ∀ (s : State) (b : List Byte), s.portUp = true →
    let u : State := { s with port := { s.port with mbxAt := none, collided := false } }
    let protocol := fun (t : State) => ({ t with port := { t.port with irqPend := t.port.irqPend ||| 8 } } : State)
    (b.length < 12 → exec (.packetWrite b) s = .next (protocol u)) ∧
    (12 ≤ b.length → field b 10 2 ≠ crc16 (b.take 10) → exec (.packetWrite b) s =
      .next (reply .spi 0 0 stBadCrc noDetail []
        (protocol { u with port := { u.port with crcErrors := min 65535 (u.port.crcErrors + 1) } }))) ∧
    (12 ≤ b.length → field b 10 2 = crc16 (b.take 10) → 4096 < field b 6 2 → exec (.packetWrite b) s =
      .next (reply .spi (field b 0 2) (BitVec.ofNat 16 (field b 2 2)) stLengthExceeds noDetail [] (protocol u))) ∧
    (field b 10 2 = crc16 (b.take 10) → field b 6 2 ≤ 4096 → b.length = 16 + field b 6 2 →
      s.port.storing = none → s.port.slotsUsed < 32 →
      exec (.packetWrite b) s =
        .next { u with port := { u.port with slotsUsed := s.port.slotsUsed + 1, storing := some (parseCmd .spi b) } }) ∧
    (12 ≤ b.length → field b 10 2 = crc16 (b.take 10) → field b 6 2 ≤ 4096 → s.port.storing ≠ none ∨ 32 ≤ s.port.slotsUsed →
      s.port.refusals < 8 → exec (.packetWrite b) s =
      .next (postKept .spi { opcode := field b 0 2, tag := field b 2 2, isReply := true, refusal := true, stamp := s.time.now,
                             payload := answer stQueueFull noDetail [], sec := s.time.opSec } (protocol u))) ∧
    (∀ c : Cmd, s.port.storing = some c → c.port = .spi →
      let x : Cmd := { c with arrival := s.port.arrived, stamp := s.time.now }
      let posted : PortState := { s.port with storing := none, arrived := s.port.arrived + 1 }
      let full := fun (q : Nat) => reply .spi c.opcode (BitVec.ofNat 16 c.tag) stQueueFull noDetail []
        (raise 0x09 0 0 0 (leBytes 1 q) { s with port := { s.port with storing := none, slotsUsed := s.port.slotsUsed - 1 } })
      (c.flags % 2 = 1 →
        (s.port.q0.length < s.qDepth 0 →
          exec .packetStored s = .next (drain { s with port := { posted with q0 := s.port.q0 ++ [x] } })) ∧
        (s.qDepth 0 ≤ s.port.q0.length → s.port.slotsUsed < 32 → exec .packetStored s = .next (drain (full 0)))) ∧
      (c.flags % 2 = 0 →
        (s.port.q1.length < s.qDepth 1 →
          exec .packetStored s = .next (drain { s with port := { posted with q1 := s.port.q1 ++ [x] } })) ∧
        (s.qDepth 1 ≤ s.port.q1.length → s.port.slotsUsed < 32 → exec .packetStored s = .next (drain (full 1))))) ∧
    (∀ t : State, t.time.quiesced = true → drain t = t) ∧
    (∀ (t : State) (x : Cmd), t.time.quiesced = false → t.time.starts = 1 → t.port.q0 = [x] → t.port.q1 = [] → t.port.q2 = [] →
      t.port.q3 = [] → x.port = .spi →
      drain t = startCmd x (freeSlot { t with time := { t.time with starts := 0 }, port := { t.port with q0 := [] } }))

/-- PACKET_READ shifts out the oldest packet and consumes it with its last byte; MBX_READ reads banks 20 and 21 (R138, R139,
R142, R146, R162, R635). For a host port that answers. Without a packet zeros are shifted out. A read that clocks fewer
bytes than the oldest packet has shifts out that many of its first bytes and leaves it unread; one that clocks all its bytes
consumes it: it leaves its slot, which goes to the oldest that waits, and a reset that waits for this packet need wait no
longer (what is clocked beyond is open). Bytes of a mailbox read that lie in banks 20 and 21 and are listed are those of the
bank; nothing but the port and the count of open values changes. An unknown instruction is counted and sets PROTOCOL. -/
def Obligations.PacketsRead : Prop :=
  ∀ (s : State), s.portUp = true →
    let u : PortState := { s.port with mbxAt := none, collided := false }
    (s.port.out.slots = [] → ∀ n, exec (.packetRead n) s = .next { s with port := { u with shifted := List.replicate n 0 } }) ∧
    (∀ k l, s.port.out.slots = k :: l →
      (∀ n, n < k.bytes.length → exec (.packetRead n) s = .next { s with port := { u with shifted := k.bytes.take n } }) ∧
      (∀ n, k.bytes.length ≤ n → ∃ t, exec (.packetRead n) s = .next t ∧
        t.port.shifted.take k.bytes.length = k.bytes ∧ t.port.shifted.length = n ∧
        (let w := s.port.out.waiting
         let o : OutState := { s.port.out with slots := l ++ w.take (32 - l.length), waiting := w.drop (32 - l.length),
                                               noteUnread := s.port.out.noteUnread && k.opcode != opNotifyDropped }
         let read := s.sys.pendingReset.map (fun r =>
           if r.port = .spi ∧ r.opcode = k.opcode ∧ r.tag.toNat = k.tag ∧ r.isReply = k.isReply then { r with read := true } else r)
         t = { s with free := s.free + (n - k.bytes.length), sys := { s.sys with pendingReset := read },
                      port := { u with shifted := t.port.shifted, out := o } }))) ∧
    (∀ off n, off < 2 ^ 24 → ∃ t, exec (.mbxRead off n) s = .next t ∧
      t = { s with free := s.free + n, port := { u with shifted := t.port.shifted, mbxAt := some off } } ∧
      t.port.shifted.length = n ∧
      ∀ i, i < n → off + i < 2 * 262144 → Memory.read s.banks.mem (bankAddr 20 (off + i)) ≠ Memory.blank →
        t.port.shifted[i]? = some (Memory.read s.banks.mem (bankAddr 20 (off + i)))) ∧
    (∀ code : Byte, code.toNat % 128 ∉ [0x01, 0x05, 0x0A, 0x0B, 0x0C] → exec (.spiUnknownInstruction code) s =
      .next { s with port := { u with framingErrors := min 65535 (s.port.framingErrors + 1), irqPend := s.port.irqPend ||| 8 } })

/-- The host-port registers: writes, the reads with effects, and the subscription timer (R45, R149, R150, R167). For a host
port that answers. HP_IRQ_PEND bits are cleared by ones, by either command; HP_IRQ_EN and HP_IRQ_ROUTE take their six bits,
HP_SCRATCH all 32; a write of any other address changes no register. HP_EVENT reads the lowest source pending for a host
line with bit 31, and clears that source's two line bits, or reads 0. HP_TIME_LO reads the low half of the timebase and
latches the high half. POINT_DATA marks a subscription due for the next saddle point where the running frame began at a
whole multiple of its period. -/
def Obligations.HostRegisters : Prop :=
  ∀ (s : State), s.portUp = true →
    let u : PortState := { s.port with mbxAt := none, collided := false }
    (∀ w : Word,
      exec (.hpIrqPendWrite w) s = .next { s with port := { u with irqPend := s.port.irqPend &&& ~~~w } } ∧
      exec (.regWrite 0x08 w) s = exec (.hpIrqPendWrite w) s ∧
      exec (.regWrite 0x0C w) s = .next { s with port := { u with irqEn := w &&& 0x3F } } ∧
      exec (.regWrite 0x10 w) s = .next { s with port := { u with irqRoute := w &&& 0x3F } } ∧
      exec (.regWrite 0x28 w) s = .next { s with port := { u with scratch := w } } ∧
      (∀ a, a ≠ 0x08 → a ≠ 0x0C → a ≠ 0x10 → a ≠ 0x28 → exec (.regWrite a w) s = .next { s with port := u })) ∧
    ((∀ r ∈ s.router, r.pending &&& 0x60 = 0) → exec .hpEventRead s = .next { s with port := { u with shifted := [0, 0, 0, 0] } }) ∧
    (∀ i r, s.router[i]? = some r → r.pending &&& 0x60 ≠ 0 →
      (∀ j q, j < i → s.router[j]? = some q → q.pending &&& 0x60 = 0) →
      exec .hpEventRead s =
        .next (let q : PortState := { u with shifted := leBytes 4 (2 ^ 31 + i) }
               { s with port := q, router := setAt s.router i { r with pending := r.pending &&& 0x9F } })) ∧
    (let q : PortState := { u with shifted := leBytes 4 (s.time.now % 2 ^ 32), timeHi := BitVec.ofNat 32 (s.time.now / 2 ^ 32) }
     exec .hpTimeLoRead s = .next { s with port := q }) ∧
    (∀ p n, ∃ t, exec (.pointData p n) s = .next t ∧ t = s.setOut p { s.outOf p with subs := (t.outOf p).subs } ∧
      (t.outOf p).subs = (s.outOf p).subs.map (fun b =>
        if b.num = n ∧ (s.time.now - s.time.now % 1000) % (1000 * b.period) = 0 then { b with due := true } else b))

/-- Segments in turn build a command, the last one posts it to Q2, a wrong turn or a silent sender abandons it (R140, R151,
R152, R153, R154). For a command channel that runs. A packet in one segment whose header CRC and length hold enters Q2 with
the next turn and its stamp. While a packet with its header complete is in reassembly, a full segment in its turn is added
and the next number is awaited, the last one posts the packet, one out of turn or shorter than R152 requires abandons it
with ST_BAD_LENGTH, and so does the reassembly timeout. A segment taken in its turn lets the supervisor start waiting
commands before the quiesce mark; beyond that only the port and the received frame's descriptor change. -/
def Obligations.CanCommandSegments : Prop :=
  ∀ (s : State) (h : Byte) (data : List Byte), s.transport .can = true → s.canUp s.cmdCh = true → s.port.q2.length < s.qDepth 2 →
    let u := ackRx s.cmdCh 0 (h :: data) s
    let r := s.port.reasm
    let posted := fun (b : List Byte) =>
      let x : Cmd := { parseCmd .can b with arrival := s.port.arrived, stamp := s.time.now }
      let q : PortState := { s.port with reasm := {}, arrived := s.port.arrived + 1, q2 := s.port.q2 ++ [x] }
      drain { u with port := q }
    (h = 0xC0 → r.active = false → 12 ≤ data.length → field data 10 2 = crc16 (data.take 10) → field data 6 2 ≤ 4096 →
      exec (.canCmdSegment (h :: data)) s = .next (posted data)) ∧
    (r.active = true → 12 ≤ r.bytes.length → h.getLsbD 7 = false →
      (h.toNat % 64 = r.next →
        (h.getLsbD 6 = false → (if s.canMode s.cmdCh = 2 then 64 else 8) ≤ data.length + 1 →
          exec (.canCmdSegment (h :: data)) s =
            .next (drain { u with port := { s.port with
              reasm := { bytes := r.bytes ++ data, next := (r.next + 1) % 64, active := true } } })) ∧
        (h.getLsbD 6 = false → data.length + 1 < (if s.canMode s.cmdCh = 2 then 64 else 8) →
          exec (.canCmdSegment (h :: data)) s =
            .next (drain (reply .can (field r.bytes 0 2) (BitVec.ofNat 16 (field r.bytes 2 2)) stBadLength noDetail []
              { u with port := { s.port with reasm := {} } }))) ∧
        (h.getLsbD 6 = true → exec (.canCmdSegment (h :: data)) s = .next (posted (r.bytes ++ data)))) ∧
      (h.toNat % 64 ≠ r.next → exec (.canCmdSegment (h :: data)) s =
        .next (reply .can (field r.bytes 0 2) (BitVec.ofNat 16 (field r.bytes 2 2)) stBadLength noDetail []
          { u with port := { s.port with reasm := {} } })) ∧
      exec .canReassemblyTimeout s =
        .next (reply .can (field r.bytes 0 2) (BitVec.ofNat 16 (field r.bytes 2 2)) stBadLength noDetail []
          { s with port := { s.port with reasm := {} } }))

/-- A received frame is posted to its class's queue, counted where the queue is full or nothing matches, and rests on a
legal length (R552, R556, R561, R562, R563, R564, R566). A frame of a length no DLC spells stops the model with the fault
badFrameLength, on every state. For an error-active channel that runs and a data frame its mode can receive: the receive
error counter falls by one, the channel counts as heard; the frame is appended with its stamp to the queue of its class, or,
where that queue is full, the class's drop counter advances and the first drop after a post raises 0xE3; a frame of no class
counts as unmatched, a remote frame as remote. Nothing else changes. -/
def Obligations.CanReception : Prop :=
  ∀ (s : State) (c : Nat) (f : CanFrame) (k : CanState),
    (lengthOk f.fd f.data.length = false → exec (.canFrameReceived c f) s = .fault .badFrameLength) ∧
    (lengthOk f.fd f.data.length = true → s.canUp c = true → (f.fd = true → s.canMode c = 2) → s.can[c]? = some k →
      k.state = 0 → k.tec ≤ 127 → k.rec' ≤ 127 →
      let heard : CanState := { k with rec' := k.rec' - 1, heard := true, swapped := false }
      let after := fun (x : CanState) => ({ s with can := setAt s.can c x } : State)
      (f.remote = true → exec (.canFrameReceived c f) s = .next (after { heard with remote := k.remote + 1 })) ∧
      (f.remote = false →
        (s.rxClass c f = none → s.sys.mode ≠ .loader →
          exec (.canFrameReceived c f) s = .next (after { heard with unmatched := k.unmatched + 1 })) ∧
        (∀ q, s.rxClass c f = some q → q < 4 →
          ((k.rx.getD q []).length < s.qDepth (20 + 8 * c + q) → exec (.canFrameReceived c f) s =
            .next (after { heard with rx := modAt k.rx q (fun l => l ++ [⟨f, s.time.now⟩]),
                                      dropLatched := setAt k.dropLatched q false })) ∧
          (s.qDepth (20 + 8 * c + q) ≤ (k.rx.getD q []).length →
            let t := after { heard with drops := modAt k.drops q (satAdd 32 · 1), dropLatched := setAt k.dropLatched q true }
            exec (.canFrameReceived c f) s = .next (if k.dropLatched.getD q false = true then t else raise 0xE3 0 5 c [] t)))))

/-- A transmitted descriptor leaves its queue, a cancelled one too, and an expired one is returned with 0xE5 (R43, R555,
R558, R559, R560, R565, R566). For a channel that runs and the queue p whose head the controller offered at the start of
frame. After a transmission the head leaves queue p and the transmit error counter falls by one; a SYNC's FOLLOW_UP is
posted to queue 0; then the CAN stack moves waiting segments into the free places. A cancelled descriptor whose cancellation
was requested leaves too, and one whose deadline passed leaves with 0xE5; a descriptor aborted by a mode is gone already.
While a power-fail commit has stopped transmission nothing comes back. CAN_TX_DEADLINE takes a descriptor whose deadline has
passed out of its queue and raises 0xE5, and leaves any other. -/
def Obligations.CanTransmission : Prop :=
  ∀ (s : State) (c p sof delay : Nat) (k : CanState) (d : TxDesc) (l : List TxDesc), s.canUp c = true → s.can[c]? = some k →
    (s.feed.commit ≠ none → ∀ st, exec (.canTxComplete c st sof delay) s = .next s) ∧
    (s.feed.commit = none → k.offered sof = some p → k.tx[p]? = some (d :: l) →
      (k.state = 0 → k.tec ≤ 128 → k.rec' ≤ 127 → delay ≤ 400 →
        let u : State := { s with can := setAt s.can c { k with tx := setAt k.tx p l, tec := k.tec - 1, delayHigh := false } }
        exec (.canTxComplete c .transmitted sof delay) s =
          .next (pumpCan (match d.kind with | .sync n => (postTx c 0 (followUpFrame n sof u) u).1 | _ => u))) ∧
      exec (.canTxComplete c .cancelled sof delay) s =
        .next (if d.cancel = true then pumpCan { s with can := setAt s.can c { k with tx := setAt k.tx p l } } else s) ∧
      exec (.canTxComplete c .abortedDeadline sof delay) s = .next (if (∃ t, d.deadline = some t ∧ t < s.time.now)
        then pumpCan (raise 0xE5 0 5 c [] { s with can := setAt s.can c { k with tx := setAt k.tx p l } }) else s) ∧
      exec (.canTxComplete c .abortedMode sof delay) s = .next s) ∧
    (∀ (q : List TxDesc) (i at' : Nat) (e : TxDesc), k.tx[p]? = some q → q[i]? = some e → e.deadline = some at' →
      exec (.canTxDeadline c p i) s =
        .next (if at' < s.time.now then
          raise 0xE5 0 5 c [] { s with can := setAt s.can c { k with tx := setAt k.tx p (q.eraseIdx i) } } else s))

/-- The error counters move a channel between error-active, error-passive and bus-off, and recovery brings it back (R557,
R566, R567, R568, R569). For a channel that runs. A receive error adds its weight (at most 8) to the receive counter, a
transmit error to the transmit counter, and a frame on offer whose cancellation was requested is not offered again; above
127 the channel becomes error-passive with 0xE0, a transmit counter above 255 takes it to bus-off with 0xE1 and one bus-off
more. TXD_TIMEOUT does so with 0xE6 first. In bus-off, recovery starts once the holdoff (unless 65,535) has run since its
entry; its completion, with no deadline passed, clears the counters, makes the channel error-active and raises 0xE2. Swapped
lines of a channel that heard nothing raise 0xE4 once. -/
def Obligations.CanErrorStates : Prop :=
  ∀ (s : State) (c : Nat) (k : CanState), s.canRuns c = true → s.can[c]? = some k →
    let after := fun (x : CanState) => ({ s with can := setAt s.can c x } : State)
    let off := fun (x : CanState) (u : State) =>
      raise 0xE1 0 5 c [] { u with can := setAt s.can c { x with state := 2, recovering := false, offAt := s.time.now, heard := false,
                                                                 busoffs := min 255 (k.busoffs + 1) } }
    (k.state = 0 → ∀ w, w ≤ 8 →
      (k.tec ≤ 127 → k.rec' + w ≤ 127 → exec (.canBusError c false w) s = .next (after { k with rec' := k.rec' + w })) ∧
      (k.tec ≤ 127 → 127 < k.rec' + w → k.rec' + w ≤ 255 → exec (.canBusError c false w) s =
        .next (raise 0xE0 0 5 c [] (after { k with rec' := k.rec' + w, state := 1 }))) ∧
      (k.offered (1000 * s.time.now) = none → k.tec + w ≤ 127 → k.rec' ≤ 127 →
        exec (.canBusError c true w) s = .next (after { k with tec := k.tec + w })) ∧
      (∀ p d l, k.offered (1000 * s.time.now) = some p → k.tx[p]? = some (d :: l) → k.tec + w ≤ 127 → k.rec' ≤ 127 →
        exec (.canBusError c true w) s =
          .next (after { k with tec := k.tec + w, tx := if d.cancel = true then setAt k.tx p l else k.tx })) ∧
      (k.offered (1000 * s.time.now) = none → 255 < k.tec + w →
        exec (.canBusError c true w) s = .next (off { k with tec := k.tec + w } s))) ∧
    (k.state ≤ 1 → exec (.txdTimeout c) s =
      .next (off { k with txdTimeout := true } (raise 0xE6 0 5 c [] (after { k with txdTimeout := true })))) ∧
    (k.state = 2 → s.pn 0x0F01 ≠ 65535 → exec (.canBusoffHoldoff c) s =
      .next (if k.offAt + 1000 * s.pn 0x0F01 ≤ s.time.now then after { k with recovering := true } else s)) ∧
    (k.state = 2 → k.recovering = true → (∀ q ∈ k.tx, ∀ d ∈ q, ∀ at', d.deadline = some at' → s.time.now ≤ at') →
      exec (.canRecoveryComplete c) s = .next (raise 0xE2 0 5 c []
        (after { k with state := 0, tec := 0, rec' := 0, recovering := false, txdTimeout := false }))) ∧
    (k.heard = false → k.swapped = false →
      exec (.canLinesSwapped c) s = .next (raise 0xE4 0 5 c [] (after { k with swapped := true })))

/-- A master posts SYNC; a follower waits for the FOLLOW_UP, counts a bad pair, and takes a good one into offset and rate
(R573, R575, R576, R577, R578, R579, R580). For a running channel. A master's SYNC joins transmit queue 0 with the channel's
sequence number, which advances; a full queue refuses it, and during a power-fail commit none is posted. A SYNC received on
the follower channel is stored with its capture, and on another only its descriptor is acknowledged. A FOLLOW_UP that is
late (told so, or by the timebase more than half a reference period after its SYNC), belongs to a SYNC of another channel,
has another sequence, or follows a master the follower may not use, is counted as failed and forgets the SYNC. A usable pair
of an UNSYNCED follower steps the offset by the residual and makes it ACQUIRING; the pair counts as used. Nothing but clock,
channel and event records changes. -/
def Obligations.NetworkTimePairs : Prop :=
  ∀ (s : State) (c : Nat), s.sys.mode ≠ .loader →
    (s.canRuns c = true → s.masterOn c = true → s.feed.commit ≠ none → exec (.sync c) s = .next s) ∧
    (s.canRuns c = true → s.masterOn c = true → s.feed.commit = none → c < s.can.length →
      ∃ t d, exec (.sync c) s = .next t ∧ d.kind = .sync (s.clock.seq.getD c 0) ∧ d.frame.data.length = 8 ∧
        d.frame.data.take 2 = [BitVec.ofNat 8 (s.clock.seq.getD c 0), d.frame.data.getD 1 0] ∧ d.posted = s.time.now ∧
        (((s.canOf c).tx.getD 0 []).length < s.qDepth (16 + 8 * c) →
          (s.canOf c).tx.length = 4 → (t.canOf c).tx.getD 0 [] = (s.canOf c).tx.getD 0 [] ++ [d] ∧
          t = { s with can := t.can, clock := { s.clock with seq := modAt s.clock.seq c (fun n => (n + 1) % 256) } }) ∧
        (s.qDepth (16 + 8 * c) ≤ ((s.canOf c).tx.getD 0 []).length → t = raise 0x09 0 0 0 [BitVec.ofNat 8 (16 + 8 * c)] s)) ∧
    (s.canUp c = true → ∀ (b : List Byte) (capture : Nat), b.length = 8 →
      exec (.syncReceived c b capture) s =
        .next (let u := ackRx c 0 b s
               if s.followCh ≠ some c then u else
               { u with clock := { s.clock with awaited := some ⟨c, field b 0 1, field b 2 1, field b 3 1, field b 4 2, field b 6 2,
                                                                 capture⟩ } })) ∧
    (s.canUp c = true → s.followCh = some c → ∀ (b : List Byte) (y : SyncHeard), b.length = 8 → s.clock.awaited = some y →
      let u := ackRx c 0 b s
      let r := s.pairResidual y (masterTime y.high (field b 1 7))
      let failed : ClockState := { s.clock with failed := s.clock.failed + 1, awaited := none }
      let inTime := 1000 * s.time.now ≤ y.capture + 500000 * s.pn 0x1004
      (y.channel ≠ c ∨ field b 0 1 ≠ y.seq ∨ s.masterFits y = false ∨ ¬ inTime →
        exec (.followUpReceived c b false) s = .next { u with clock := failed }) ∧
      exec (.followUpReceived c b true) s = .next { u with clock := failed } ∧
      (y.channel = c → field b 0 1 = y.seq → s.masterFits y = true → inTime →
        ∃ t, exec (.followUpReceived c b false) s = .next t ∧ t.clock.used = s.clock.used + 1 ∧ t.clock.awaited = none ∧
          t.clock.residual = r ∧ t.clock.failed = s.clock.failed ∧ t.sys = s.sys ∧ t.param = s.param ∧ t.time = s.time ∧
          (s.clock.state = 0 → t.clock.offset = s.clock.offset + r ∧ t.clock.state = 1 ∧ t.clock.rate = 0 ∧ t.clock.goodRun = 0) ∧
          (s.clock.state ≠ 0 → r.natAbs ≤ 100000 → s.clock.masterEpoch = some y.epoch → t.clock.offset = s.clock.offset)))

/-- Without pairs network time falls from SYNCED to HOLDOVER and on to UNSYNCED; a day in SYNCED writes a correlation record
(R580, R586, R662). For a powered module that follows. Three reference periods without a pair take ACQUIRING to UNSYNCED
with 0xEA and SYNCED to HOLDOVER with 0xE9, where the correction becomes the rate; TIME.HOLDOVER (0x1009) seconds of
HOLDOVER end in UNSYNCED with 0xEA. NT_CORRELATION after 86,400 operating seconds in SYNCED notes the operating second and
writes to the silt log only. Offsets stay. -/
def Obligations.NetworkTimeStates : Prop :=
  ∀ (s : State), s.alive = true →
    (s.ntOwn = false → s.clock.lastPair + 3000 * s.pn 0x1004 ≤ s.time.now →
      (s.clock.state = 1 → exec .ntPairTimeout s =
        .next (raise 0xEA 0 5 s.clock.channel [] { s with clock := { s.clock with state := 0, prev := none, goodRun := 0 } })) ∧
      (s.clock.state = 2 → exec .ntPairTimeout s =
        .next (raise 0xE9 0 5 s.clock.channel []
          { s with clock := { s.clock with state := 3, corr := s.clock.rate, lastPair := s.time.now } })) ∧
      (s.clock.state = 0 ∨ s.clock.state = 3 → exec .ntPairTimeout s = .next s)) ∧
    (s.clock.state = 3 → s.clock.lastPair + 1000000 * s.pn 0x1009 ≤ s.time.now → exec .ntHoldoverExpiry s =
      .next (raise 0xEA 0 5 s.clock.channel [] { s with clock := { s.clock with state := 0, prev := none, goodRun := 0 } })) ∧
    (s.clock.state = 2 → s.silt.corrAt + 86400 ≤ s.time.opSec →
      ∃ t, exec .ntCorrelation s = .next t ∧ t = { s with silt := t.silt } ∧ t.silt.corrAt = s.time.opSec)

/-- A dispatch cycle begins with the allocation due in it; without one for DISP.LEASE cycles every current is 0 (R589, R590,
R596, R599, R600, R604). For a module whose dispatch runs. Outside a power-fail commit, during which AC1's services stop and
it changes nothing, DISPATCH_CYCLE_START takes the cycle's number and forgets what was heard; an allocation for this cycle
takes effect (its powers in force, no current on an unconnected strand, an allocation by voltage clamped to the limits on a
connected one, the run of missed cycles 0), any other state of the allocation adds a missed cycle. After DISP.LEASE (0x1110)
missed cycles ALLOC_STALE sets every current to 0 with 0xEE, and a top lead without a holder for as long sets its target to
0 with NO_SETPOINT. The module's modes, parameters, rings and strands are untouched. -/
def Obligations.DispatchCycle : Prop :=
  ∀ (s : State), s.dispatches = true →
    (s.feed.commit ≠ none → exec .dispatchCycleStart s = .next s) ∧
    (s.feed.commit = none → ∃ t, exec .dispatchCycleStart s = .next t ∧ t.disp.cycle = s.cycleNumber ∧ t.disp.members = [] ∧ t.disp.segments = [] ∧
      t.calm = { s with disp := t.disp, can := t.can, free := t.free }.calm ∧ t.disp.pendingAlloc = none ∧
      (∀ l, s.disp.pendingAlloc = some (s.cycleNumber, l) →
        t.disp.allocW = (List.range 4).map (fun k => l.getD k 0) ∧ t.disp.staleRun = 0 ∧ t.disp.allocStale = false ∧
        ∀ k, k < 4 →
          (s.connected k = false → t.disp.allocI[k]? = some 0) ∧
          (∀ v, s.connected k = true → s.strandPoint 0x20 k = some v → v ≠ 0 → t.disp.allocI[k]? =
            some (clampInt (-((s.limits k).2 : Int)) ((s.limits k).1 : Int) (Int.tdiv (1000000 * l.getD k 0) v)))) ∧
      ((∀ l, s.disp.pendingAlloc ≠ some (s.cycleNumber, l)) →
        t.disp.allocW = s.disp.allocW ∧ t.disp.allocI = s.disp.allocI ∧ t.disp.staleRun = s.disp.staleRun + 1)) ∧
    (s.pn 0x1110 ≤ s.disp.staleRun → s.disp.allocStale = false → exec .allocStale s =
      .next (raise 0xEE 0 8 s.moduleId (leBytes 1 s.segCh)
        { s with disp := { s.disp with allocI := [0, 0, 0, 0], allocStale := true } })) ∧
    (s.topLead = true → s.pn 0x1110 ≤ s.disp.holderRun → s.disp.noSetpoint = false → exec .noSetpoint s =
      .next (raise 0xEE 0 8 s.moduleId (leBytes 1 s.segCh) { s with disp := { s.disp with target := 0, noSetpoint := true } }))

/-- Dispatch frames in their cycle are taken, an allocation from the lead waits for its cycle, and any other is ignored and
counted (R589, R590, R592, R593, R598, R599, R601). For a module whose dispatch runs and a 64-byte frame on its channel. A
STATUS of another module with the installation tag, in this cycle and in time, replaces the member's entry; a SEG_STATUS the
segment's; a wrong tag is flagged; late or of another cycle they are counted as ignored. ALLOC of the segment lead for the
next cycle that names this module (not a duplicate) waits with its powers; SEG_ALLOC of the trunk lead that names the
segment likewise; from anyone else, late, or for another cycle they are ignored and counted. SEG_DETAIL is taken into the
ledger by the trunk lead. The frame's descriptor is acknowledged; nothing but dispatch and that channel changes. -/
def Obligations.DispatchFrames : Prop :=
  ∀ (s : State) (src : Nat) (b : List Byte), s.dispatches = true → b.length = 64 →
    let tagged := field b 4 4 = s.pn 0x1104 ∧ field b 0 2 = s.disp.cycle
    let next := (s.disp.cycle + 1) % 65536
    let u := fun (ch : Nat) (d : DispState) => ({ ackRx ch 1 b s with disp := d } : State)
    let ignored : DispState := { s.disp with ignored := s.disp.ignored + 1 }
    (2 ≤ s.tier → s.canUp s.segCh = true →
      (tagged → src ≠ s.moduleId → ∃ t m, exec (.statusReceived src b false) s = .next t ∧ t = u s.segCh t.disp ∧ m.id = src ∧
        m.flags = field b 3 1 ∧ m.setpoint = s32Of (field b 8 4) ∧
        t.disp.members = s.disp.members.filter (·.id != src) ++ [m] ∧ t.disp.allocI = s.disp.allocI) ∧
      (field b 4 4 ≠ s.pn 0x1104 → exec (.statusReceived src b false) s = .next (u s.segCh { s.disp with tagMismatch := true })) ∧
      (field b 4 4 = s.pn 0x1104 → exec (.statusReceived src b true) s = .next (u s.segCh ignored)) ∧
      (s.disp.segLead = some src → field b 0 2 = next → s.disp.duplicate = false → ∀ i, i < min 6 (field b 2 1) →
        field b (4 + 10 * i) 2 = s.moduleId → (∀ j, j < i → field b (4 + 10 * j) 2 ≠ s.moduleId) →
        exec (.allocReceived src b false) s = .next (u s.segCh { s.disp with
          pendingAlloc := some (next, (List.range 4).map (fun k => 100 * s16Of (field b (6 + 10 * i + 2 * k) 2))) })) ∧
      (s.disp.segLead ≠ some src ∨ field b 0 2 ≠ next → exec (.allocReceived src b false) s = .next (u s.segCh ignored)) ∧
      exec (.allocReceived src b true) s = .next (u s.segCh ignored)) ∧
    (s.tier = 3 → s.canUp s.trunkCh = true →
      (tagged → src ≠ s.moduleId → ∃ t g, exec (.segStatusReceived src b false) s = .next t ∧ t = u s.trunkCh t.disp ∧
        g.seg = field b 2 1 ∧ g.dis = field b 8 4 ∧ g.chg = field b 12 4 ∧ g.holder = field b 20 2 ∧
        t.disp.segments = s.disp.segments.filter (·.seg != g.seg) ++ [g]) ∧
      (s.disp.trunkLead = some src → field b 0 2 = next → ∀ i, i < min 7 (field b 2 1) →
        field b (4 + 8 * i) 1 = s.pn 0x1102 → (∀ j, j < i → field b (4 + 8 * j) 1 ≠ s.pn 0x1102) →
        exec (.segAllocReceived src b false) s = .next (u s.trunkCh { s.disp with
          segAlloc := some (next, s32Of (field b (8 + 8 * i) 4)) })) ∧
      exec (.segAllocReceived src b true) s = .next (u s.trunkCh ignored) ∧
      (field b 0 2 = s.disp.cycle → ∃ t, exec (.segDetailReceived src b false) s = .next t ∧ t = u s.trunkCh t.disp ∧
        t.disp = { s.disp with ledger := t.disp.ledger } ∧
        (s.leadsTrunk = false ∨ src = s.moduleId → t.disp.ledger = s.disp.ledger)) ∧
      (exec (.segDetailReceived src b true) s = .next (u s.trunkCh ignored)))

/-- Elections take the lowest candidate, and the lead's set-point moves toward its target by at most the ramp (R591, R592,
R596, R597, R598, R604). For a module whose dispatch runs, outside a power-fail commit (during one, AC1's services having
stopped, the three commands change nothing). SEGMENT_ELECTION (tier 2 and 3) and TRUNK_ELECTION (tier 3) step every
candidate of the set and elect the lowest module ID of the set and, where it is a candidate, of the module itself.
SEGMENT_ALLOCATION of a standalone module takes its own set-point as target, moves the set-point in force by at most
DISP.RAMP times DISP.CYCLE, and stores the shares of the four strands for the next cycle, each within the strand's published
limits. Elections and allocations touch dispatch, transmit queues and event records only. -/
def Obligations.ElectionAndAllocation : Prop :=
  ∀ (s : State), s.dispatches = true →
    (s.feed.commit ≠ none →
      exec .segmentElection s = .next s ∧ exec .trunkElection s = .next s ∧ exec .segmentAllocation s = .next s) ∧
    (s.feed.commit = none → 2 ≤ s.tier → ∃ t, exec .segmentElection s = .next t ∧ t.calm = { s with disp := t.disp, can := t.can }.calm ∧
      t.disp.segSet = s.disp.segSet.filterMap (·.step) ∧ t.disp.trunkSet = s.disp.trunkSet ∧
      (∀ n, t.disp.segLead = some n ↔
        ((n = s.moduleId ∧ s.candidateOn s.segCh = true) ∨ ∃ c ∈ t.disp.segSet, c.inSet = true ∧ c.id = n) ∧
        (s.candidateOn s.segCh = true → n ≤ s.moduleId) ∧ ∀ c ∈ t.disp.segSet, c.inSet = true → n ≤ c.id)) ∧
    (s.feed.commit = none → s.tier = 3 → s.leadsTrunk = false → s.leadsSegment = false → ∃ t, exec .trunkElection s = .next t ∧
      t.disp.trunkSet = s.disp.trunkSet.filterMap (·.step) ∧ t.disp.segLead = s.disp.segLead ∧
      (∀ n, t.disp.trunkLead = some n → ∃ c ∈ t.disp.trunkSet, c.inSet = true ∧ c.id = n)) ∧
    (s.feed.commit = none → s.tier = 1 → s.disp.duplicate = false → ∃ t l, exec .segmentAllocation s = .next t ∧
      t.calm = { s with disp := t.disp }.calm ∧ t.disp.pendingAlloc = some (s.nextCycle, l) ∧ l.length = 4 ∧
      (∀ k, k < 4 → -(100 * ((s.offered k).2 : Int)) ≤ l.getD k 0 ∧ l.getD k 0 ≤ 100 * ((s.offered k).1 : Int)) ∧
      (∀ v, s.ownSetpoint = some v → t.disp.target = 1000 * v) ∧
      (t.disp.inForce - s.disp.inForce).natAbs ≤ s.pn 0x110F * s.pn 0x1106)

/-- A handover between the feeds starts, completes, fails, and a feed becomes standby or is started from cold (R72, R78,
R79, R80, R81, R728, R729). Powered and with no commit under way. FEED_BELOW_THRESHOLD notes both voltages, and a standby
below FEED.SWITCH_THRESHOLD (0x0201) becomes unavailable. With the carrying feed x below it and a usable standby at or above
it, it raises 0x10 and the feed code names the handover to the other feed; without such a standby, in single feed too where
the other feed is also below, it raises 0x13 and the code stays. HANDOVER_COMPLETE raises 0x11 and the other feed carries
the load with no standby yet; HANDOVER_FAILED raises 0x12, leaves hold only and bars the converter that failed.
STANDBY_RESTORED at 1 V above the threshold ends a bar and makes the other feed the standby again; HOLD_ONLY_RECOVERY starts
from cold the feed that qualifies and is not barred, FEED_A where both do. Nothing else of the state changes. -/
def Obligations.FeedHandover : Prop :=
  ∀ (s : State) (x : FeedId) (mv mvA mvB : Nat), s.sys.powered = true → s.feed.commit = none →
    (let noted := setFeedMv .b mvB (setFeedMv .a mvA s)
     let low := decide (noted.feed.mv (otherFeed x) < s.pn 0x0201)
     let u : State := { noted with feed := { noted.feed with standbyOk := s.feed.standbyOk && !low } }
     s.feed.active = some x →
      (s.pn 0x0201 ≤ u.feed.mv x → exec (.feedBelowThreshold mvA mvB) s = .next u) ∧
      ((s.feed.code = .aActive ∨ s.feed.code = .bActive) → u.feed.mv x < s.pn 0x0201 →
        (s.feed.standbyOk = true → low = false →
          exec (.feedBelowThreshold mvA mvB) s =
            .next (let t := feedEvent 0x10 [] u
                   { t with feed := { t.feed with code := if x = .a then .toB else .toA } })) ∧
        (s.feed.standbyOk = false ∨ low = true →
          exec (.feedBelowThreshold mvA mvB) s = .next (feedEvent 0x13 [] u))) ∧
      (s.feed.code = .single → u.feed.mv x < s.pn 0x0201 → low = true →
        exec (.feedBelowThreshold mvA mvB) s = .next (feedEvent 0x13 [] u))) ∧
    (s.feed.code = (if x = .a then .toA else .toB) →
      exec .handoverComplete s =
        .next (let t := feedEvent 0x11 [] s
               let single := s.feed.identical || s.feed.reversed (otherFeed x) && s.feed.judged
               { t with feed := { t.feed with active := some x, starting := none, standbyOk := false, absent := false,
                                              barredA := s.feed.barredA && x != .a, barredB := s.feed.barredB && x != .b,
                                              code := activeCode x single } }) ∧
      exec .handoverFailed s =
        .next (let u : FeedState := { s.feed with active := none, starting := none, standbyOk := false,
                                                  barredA := s.feed.barredA || x == .a, barredB := s.feed.barredB || x == .b }
               let t := feedEvent 0x12 [] { s with feed := u }
               { t with feed := { t.feed with code := .holdOnly } })) ∧
    (s.feed.active = some x → s.feed.identical = false → s.pn 0x0201 + 1000 ≤ mv →
      ∃ t, exec (.standbyRestored (otherFeed x) mv) s = .next t ∧ t = { s with feed := t.feed } ∧
        t.feed.standbyOk = true ∧ t.feed.active = some x ∧ t.feed.mv (otherFeed x) = mv ∧ t.feed.mv x = s.feed.mv x ∧
        t.feed.barred (otherFeed x) = false ∧ t.feed.barred x = s.feed.barred x ∧ t.feed.reversed (otherFeed x) = false ∧
        t.feed.code = (if s.feed.code = .single then activeCode x false else s.feed.code)) ∧
    (s.feed.code = .holdOnly → s.feed.starting = none →
      let cold := fun (y : FeedId) (v : Nat) => s.feed.barred y = false ∧ s.pn 0x0201 + 1000 ≤ v
      exec (.holdOnlyRecovery mvA mvB) s =
        .next { s with feed := { s.feed with mvA := mvA, mvB := mvB,
                                             starting := if cold .a mvA then some .a else if cold .b mvB then some .b else none } })

/-- Identical, over-voltage, reversed and stopped feeds are judged and reported (R72, R75, R76, R82, R103, R729).
FEEDS_IDENTICAL judges once after a start: identical feeds raise 0x15 and the module runs single, an absent or reversed
standby makes it single without an event, and a second judgement changes nothing. A feed above 36 V raises 0x1C with its
voltage as the detail (the model's choice, log entry 19: chapter 03 names no detail) and changes nothing else; a reversed
feed raises 0x14, reads 0 V, and no longer serves as the standby, the module then running single once it is judged;
FEED_STOP_THRESHOLD of the carrying feed leaves hold only unless a handover is under way. The event counters of the feeds
advance with their events. -/
def Obligations.FeedJudgement : Prop :=
  ∀ (s : State) (x : FeedId), s.sys.powered = true → s.feed.commit = none →
    (s.feed.active = some x → s.feed.judged = false →
      (∀ absent, exec (.feedsIdentical true absent) s =
        .next (let t := feedEvent 0x15 [] { s with feed := { s.feed with judged := true, identical := true, absent := absent } }
               { t with feed := { t.feed with code := .single } })) ∧
      (∀ absent, exec (.feedsIdentical false absent) s =
        .next { s with feed := { s.feed with judged := true, identical := false, absent := absent,
                                             code := if absent || s.feed.reversed (otherFeed x) then .single else s.feed.code } })) ∧
    (s.feed.judged = true → ∀ i a, exec (.feedsIdentical i a) s = .next s) ∧
    exec (.feedAbove36v x) s = .next (feedEvent 0x1C (leBytes 2 (s.feed.mv x)) s) ∧
    (∃ t, exec (.feedReversed x) s = .next t ∧ t.calm = ({ s with feed := t.feed } : State).calm ∧ t.feed.mv x = 0 ∧
      t.feed.reversed x = true ∧ t.feed.mv (otherFeed x) = s.feed.mv (otherFeed x) ∧ t.feed.active = s.feed.active ∧
      t.feed.standbyOk = (s.feed.standbyOk && s.feed.active == some x) ∧
      t.feed.eventCounts = modAt s.feed.eventCounts 4 (· + 1) ∧
      (s.feed.active = none → t.feed.code = s.feed.code) ∧
      (s.feed.active = some (otherFeed x) → s.feed.judged = true → s.feed.code = activeCode (otherFeed x) false →
        t.feed.code = .single)) ∧
    (s.feed.active = some x → s.feed.code ≠ .toA → s.feed.code ≠ .toB →
      exec (.feedStopThreshold x) s = .next { s with feed := { s.feed with active := none, code := .holdOnly } }) ∧
    (∀ src detail, (feedEvent src detail s).feed =
      { s.feed with eventCounts := modAt s.feed.eventCounts (src - 0x10) (· + 1) })

/-- A proof test starts on request or schedule and ends with its verdict (R84, R85, R86, R87, R730). A PROOF_TEST_FEED with
an empty payload that R84 admits is answered ST_ACCEPTED and the test starts, keeping the code it came from; a scheduled
test is due FEED.PROOF_PERIOD (0x0204) hours after the last one or 60 s after a refused attempt: one that is admitted starts
without a requester, one that is not asks for its retry, and one not due changes nothing. The end of the window, in step 3
or with regulation lost, restores the code, stores the verdict (a pass needs HOLD within 0.3 V of its set-point), raises
0x1A or 0x1B with result and lowest voltages, and completes the request with them. -/
def Obligations.FeedProofTest : Prop :=
  ∀ (s : State) (p : Port) (tag : Half), s.sys.ready = true → s.opAllowed opProofTest modesFive = true →
    let started := fun (t : State) (by' : Option Requester) => ({ t with feed := { t.feed with
      codeBefore := s.feed.code, code := .proof, proof := some { by' := by', since := s.time.now }, proofRetry := false,
      proofAt := s.time.now } } : State)
    let due := s.pn 0x0204 ≠ 0 ∧
      (if s.feed.proofRetry = true then s.feed.proofTried + 60 * 1000000 ≤ s.time.now
       else s.feed.proofAt + s.pn 0x0204 * 3600 * 1000000 ≤ s.time.now)
    (s.proofStatus = stAccepted →
      (s.time.quiesced = false → exec (.proofTestFeed p tag []) s =
        .next (started (reply p opProofTest tag stAccepted noDetail [] s) (some (.packet p tag)))) ∧
      (due → exec .proofTestDue s = .next (started s none))) ∧
    (s.proofStatus ≠ stAccepted →
      (s.time.quiesced = false →
        exec (.proofTestFeed p tag []) s = .next (reply p opProofTest tag s.proofStatus noDetail [] s)) ∧
      (due → exec .proofTestDue s = .next { s with feed := { s.feed with proofRetry := true, proofTried := s.time.now } })) ∧
    (¬ due → exec .proofTestDue s = .next s) ∧
    (∀ (r lowHold lowFeed : Nat) (job : ProofTest), s.feed.proof = some job → r ≤ 2 → s.feed.commit = none →
      let v := if r = 0 ∧ lowHold + 300 < s.pn 0x0203 then 1 else r
      let body := leBytes 1 v ++ leBytes 2 lowHold ++ leBytes 2 lowFeed
      let u := feedEvent (if v = 0 then 0x1A else 0x1B) body
        { s with feed := { s.feed with proof := none, code := s.feed.codeBefore, proofFailed := v != 0 } }
      (v = 1 ∨ job.since + 3000 ≤ s.time.now →
        exec (.proofTestWindowEnd r lowHold lowFeed) s =
          .next (match job.by' with | some q => complete q opProofTest stOk noDetail body u | none => u)) ∧
      (v ≠ 1 → s.time.now < job.since + 3000 → exec (.proofTestWindowEnd r lowHold lowFeed) s = .next s))

/-- The power-fail commit begins below 11 V on HOLD, ends at step 6, resumes after recovery, and below 9 V the module is
unpowered (R92, R95, R96, R97, R100, R102, R726, R733). POWER_FAIL_COMMIT raises 0x17 and the commit is under way up to a
step between 2 and 5, its code shown; COMMIT_COMPLETE takes it to step 6, and SUPPLY_RECOVERED then ends it, restores the
code and raises 0x19, while before step 6 it is only noted. ORDERED_SHUTDOWN leaves the module unpowered with data NVM kept.
HIBERNATE_HOLD_LOW writes the counters, with the seconds PD0 counted since the entry (a free value, log entry 4), and
nothing else. A periodic journal entry begins, its slot invalid until it ends, or waits for the next frame after the quiesce
mark; a write that begins meanwhile abandons it and takes the same slot. -/
def Obligations.PowerFailCommit : Prop :=
  ∀ (s : State),
    (∀ mv steps, s.alive = true → s.feed.commit = none → mv < 11000 →
      ∃ t, exec (.powerFailCommit mv steps) s = .next t ∧ t.feed.commit = some (min 5 (max 2 steps)) ∧ t.feed.code = .commit ∧
        t.feed.holdMv = mv ∧ t.feed.proof = s.feed.proof ∧ t.silt.tailOn = true ∧ t.sys = s.sys ∧ t.param = s.param) ∧
    (∀ n, s.feed.commit = some n → n < 6 → s.feed.recovered = false →
      (∃ t, exec .commitComplete s = .next t ∧ t.feed.commit = some 6) ∧
      exec .supplyRecovered s = .next { s with feed := { s.feed with holdMv := s.pn 0x0203, recovered := true } }) ∧
    (s.feed.commit = some 6 → ∃ t, exec .supplyRecovered s = .next t ∧ t.feed.commit = none ∧
      t.feed.code = (if s.feed.proof.isSome = true then .proof else s.feed.codeBefore) ∧
      t.silt.tailOn = false ∧ t.silt.tail = [] ∧ t.param = s.param ∧ t.sys = s.sys) ∧
    (s.sys.powered = true → ∃ t, exec .orderedShutdown s = .next t ∧ t.sys.powered = false ∧ t.sys.held = none ∧
      t.sys.lock.thermal = false ∧ t.param.applied = s.param.applied ∧ t.feed.nvm = s.feed.nvm ∧ t.banks.mem = [] ∧
      t.pending = s.pending) ∧
    (s.sys.powered = true → s.sys.mode = .hibernate →
      let n := tb2Micros (Config.freeNat s.free)
      ∃ t, exec .hibernateHoldLow s = .next t ∧ t = { s with feed := { s.feed with nvm := t.feed.nvm }, free := s.free + 1 } ∧
        t.feed.nvm = { opSec := s.time.opSec + (s.time.opSub + n) / 1000000, powerCycles := s.time.powerCycles,
                       noSaddle := s.time.noSaddle, feedEvents := s.feed.eventCounts }) ∧
    (s.opAllowed opProofTest modesFive = true → s.sys.mode ≠ .hollow → s.feed.commit = none → s.est.summary ≠ [] →
      (s.time.quiesced = true → exec .journalPeriodic s = .next { s with feed := { s.feed with journalDue := true } }) ∧
      (s.time.quiesced = false → s.feed.journalBusy = none →
        let a := s.feed.journalToA
        let e := s.journalEntry 1
        ∃ t, exec .journalPeriodic s = .next t ∧ t = { s with feed := { s.feed.putSlot a none with journalBusy := some (a, e) } } ∧
          journalEnd t = { s with feed := { s.feed.putSlot a (some e) with journalBusy := none } } ∧
          ∀ c, journalWrite c t = { s with feed := { s.feed.putSlot a (some (s.journalEntry c)) with journalBusy := none } }))

/-- A valid flag lane counts for its satellite and is judged, an invalid one does neither, and a silent satellite is marked
lost (R197, R199, R475, R476). A lane's 16 bits are the four flags in bits 15 to 12, their complement in 11 to 8, the
address and the counter. For an admitted satellite of a ring, with the safety functions evaluated. A lane is valid when its
check is right, the satellite is admitted and sent no lane in this frame, and its counter is one or two ahead modulo 8. A
valid lane restarts or advances the four runs of flags, stores the counter, ends a loss, and the lane conditions are judged;
an invalid lane only marks the frame as seen. LANE_TIMEOUT marks the satellite lost and the conditions are judged. Only the
guard die's lane record is written before the judgement. -/
def Obligations.FlagLanes : Prop :=
  ∀ (s : State) (ring : Nat) (ls : List GuardLane) (raw : Half) (g : GuardLane),
    let lane := decodeLane raw
    lane.ov = raw.getLsbD 15 ∧ lane.uv = raw.getLsbD 14 ∧ lane.ot = raw.getLsbD 13 ∧ lane.sf = raw.getLsbD 12 ∧
    (lane.checkOk = true ↔ raw.toNat / 256 % 16 + raw.toNat / 4096 = 15) ∧ lane.addr = raw.toNat / 8 % 32 ∧
    lane.counter = raw.toNat % 8 ∧
    (s.alive = true → s.evaluates = true → ring < 4 → s.guard.lanes[ring]? = some ls → ls[lane.addr]? = some g →
    g.admitted = true →
    (g.accepts lane = true ↔ lane.checkOk = true ∧ g.seen = false ∧
      ∀ c, g.counter = some c → lane.counter % 8 = (c + 1) % 8 ∨ lane.counter % 8 = (c + 2) % 8) ∧
    (g.accepts lane = true →
      ∃ u, exec (.flagLane ring raw) s = .next (judgeLanes ring lane.addr u) ∧
        u = { s with guard := { s.guard with lanes := u.guard.lanes } } ∧
        u.guard.lanes = setAt s.guard.lanes ring (setAt ls lane.addr
          { admitted := true, counter := some (lane.counter % 8), lost := false, seen := true,
            ov := if lane.ov then g.ov + 1 else 0, uv := if lane.uv then g.uv + 1 else 0,
            ot := if lane.ot then g.ot + 1 else 0, sf := if lane.sf then g.sf + 1 else 0 })) ∧
    (g.accepts lane = false →
      exec (.flagLane ring raw) s =
        .next { s with guard := { s.guard with lanes := setAt s.guard.lanes ring (setAt ls lane.addr { g with seen := true }) } }) ∧
    (g.lost = false →
      exec (.laneTimeout ring lane.addr) s =
        .next (judgeLanes ring lane.addr
          { s with guard := { s.guard with lanes := setAt s.guard.lanes ring (setAt ls lane.addr { g with lost := true }) } })))

/-- The watchdog asks, takes one response per challenge, and the third missed window in a row resets the module (R123, R481,
R482). An armed watchdog stores its 16-bit challenge and waits. A response counts; it is good only if it is the first, in
time, and the CRC-16 over challenge and signature. A window that closes on one good response clears the misses; any other
adds a miss, and the third in a row is a watchdog loss: the module is held in reset with cause 0x05 and its applied
parameters stay. -/
def Obligations.WatchdogDialogue : Prop :=
  ∀ (s : State), s.alive = true →
    (∀ v, s.guard.watchdog.armed = true →
      exec (.watchdogChallenge v) s =
        .next { s with guard := { s.guard with watchdog := { s.guard.watchdog with
          challenge := some (v % 65536), responses := 0, good := false, toAnswer := true } } }) ∧
    (∀ c, s.guard.watchdog.challenge = some c →
      (∀ v intime, exec (.watchdogResponse v intime) s =
        .next { s with guard := { s.guard with watchdog := { s.guard.watchdog with
          responses := s.guard.watchdog.responses + 1,
          good := s.guard.watchdog.responses == 0 && intime &&
            v == crc16 (leBytes 2 c ++ leBytes 2 s.guard.signature) } } }) ∧
      (s.guard.watchdog.good = true → s.guard.watchdog.responses = 1 →
        exec .watchdogWindowClose s =
          .next { s with guard := { s.guard with watchdog := { s.guard.watchdog with
            challenge := none, toAnswer := false, misses := 0 } } }) ∧
      (s.guard.watchdog.good = false → s.guard.watchdog.misses < 2 →
        ∃ t, exec .watchdogWindowClose s = .next t ∧ t.guard.watchdog.challenge = none ∧
          t.guard.watchdog.misses = s.guard.watchdog.misses + 1 ∧ t.sys = s.sys ∧ t.param = s.param ∧ t.feed = s.feed) ∧
      (s.guard.watchdog.good = false → 2 ≤ s.guard.watchdog.misses →
        ∃ t, exec .watchdogWindowClose s = .next t ∧ t.sys.held = some 0x05 ∧ t.sys.powered = true ∧
          t.param.applied = s.param.applied ∧ t.banks.mem = []))

/-- The lock-out reset: the press, its release within 0.25 s to 3 s, the arming and AC0's fault word (R107, R123, R127,
R128, R130). LOCK_RST_PRESS remembers whether the reset is armed and whether a fault is present. A release in LOCKOUT after
250 ms to 3 s with no fault since the press, armed where SAFE.LOCK_RESET_ARMED asks for it, clears latch, record and causes
and holds the module in reset with cause 0x08; a release outside those conditions clears the arming and raises 0xA3. The
expiry of the arming ends it, and no press that began before counts as armed. AC0's task hands the guard die its fault word
and answers the challenge; its silence counts as a fault. -/
def Obligations.LockoutReset : Prop :=
  ∀ (s : State),
    exec .lockRstPress s = .next { s with pins := { s.pins with lockRst := some s.sys.lock.armed, lockFault := s.guardFaults } } ∧
    (∀ held risen, s.pins.lockRst = some risen → s.alive = true → s.sys.mode = .lockout → s.sys.lock.latch = true →
      (250000 ≤ held → held ≤ 3000000 → s.pins.lockFault = false → s.guardFaults = false →
          (s.gn 0x0C02 = 0 ∨ (risen = true ∧ s.sys.lock.armed = true)) →
        ∃ t, exec (.lockRstRelease held) s = .next t ∧ t.sys.lock.latch = false ∧ t.sys.lock.record = false ∧
          t.sys.lock.causes = [] ∧ t.sys.held = some 0x08 ∧ t.param.applied = s.param.applied) ∧
      (3000000 < held ∨ held < 250000 ∨ s.pins.lockFault = true ∨ s.guardFaults = true →
        exec (.lockRstRelease held) s =
          .next (raise 0xA3 0 0 0 [] { s with pins := { s.pins with lockRst := none, lockFault := false },
                                              sys := { s.sys with lock := { s.sys.lock with armed := false } } }))) ∧
    exec .lockoutArmExpiry s = .next { s with sys := { s.sys with lock := { s.sys.lock with armed := false } },
                                              pins := { s.pins with lockRst := s.pins.lockRst.map (fun _ => false) } } ∧
    (s.ac0On = true → s.sys.ready = true →
      exec .ac0SupervisionTask s =
        .next { s with
          guard := { s.guard with watchdog := { s.guard.watchdog with toAnswer := false } },
          sys := { s.sys with lock := { s.sys.lock with ac0Fault := s.ac0Faults, ac0Silent := false } },
          pins := { s.pins with lockFault := s.pins.lockFault || s.ac0Faults } }) ∧
    exec .ac0WordTimeout s =
      .next { s with sys := { s.sys with lock := { s.sys.lock with ac0Silent := true } },
                     pins := { s.pins with lockFault := true } }

/-- The two channels of a safety input set the demand of their pair, and a discrepancy or two missing test pulses lock out
(R473, R484, R485, R486). For an enabled pair whose state is q. A change of channel A stores the level, starts or ends the
discrepancy time and the pair is judged: it is demanded unless both channels are closed. A discrepancy time that runs out
while the channels differ marks the fault, raises 0xB2 and locks out. The dark window of a supply judges every input in turn
and touches nothing but the counts of missing pulses where no count reaches 2. -/
def Obligations.DualChannelInputs : Prop :=
  ∀ (s : State) (p : Nat) (closed : Bool), s.sys.powered = true → s.evaluates = true → p < 8 → s.guard.pairs.length = 8 →
    (∃ u, exec (.safetyInputChange (2 * p) closed) s = .next (judgeDemand p u) ∧ u.sys = s.sys ∧ u.param = s.param ∧
      u.field.di = maskSet s.field.di (2 * p) closed ∧ (u.pairOf p).aClosed = closed ∧
      (u.pairOf p).bClosed = (s.pairOf p).bClosed ∧ (u.pairOf p).timing = (closed != (s.pairOf p).bClosed) ∧
      ((judgeDemand p u).pairOf p).demanded = !(closed && (s.pairOf p).bClosed)) ∧
    (s.pairOn p = true → (s.pairOf p).timing = true → (s.pairOf p).aClosed ≠ (s.pairOf p).bClosed →
      ∃ u, exec (.discrepancyTimeout p) s = .next (lockout 0xB2 (raise 0xB2 0 9 p [] u)) ∧
        u = { s with guard := { s.guard with pairs := u.guard.pairs } } ∧ (u.pairOf p).fault = true ∧
        (u.pairOf p).timing = false) ∧
    (∀ group, group < 4 → (∀ i, i < 16 → s.pulseChecked i = true → s.supplyOf i = group) →
      ∃ t, exec (.tsDarkWindow group 0 0) s = .next t ∧
        t = { s with guard := { s.guard with ownFails := t.guard.ownFails, foreignFails := t.guard.foreignFails } } ∧
        ∀ i, i < 16 → s.supplyOf i = group → i < s.guard.ownFails.length → t.guard.ownFails[i]? = some 0)

/-- The second failure in a row of a path test or of the oscillator check locks out, and a guard configuration that differs
does so at once (R491, R493, R494). With the safety functions evaluated. An output that is on keeps the run of its failures
in the guard die's and in AC0's record; a pass clears the run, the second failure in a row raises 0xBE or 0xB9 and locks
out, AC0's with verdict 7 for the output. The oscillator check does the same over a second with event 0xBF. A verified
configuration that no longer matches raises 0xBA and locks out. -/
def Obligations.GuardPathTests : Prop :=
  ∀ (s : State) (x : Nat), s.evaluates = true →
    (s.outputOn x = true →
      exec (.enableTestGap x true) s =
        .next { s with guard := { s.guard with enableFails := setAt s.guard.enableFails x 0 } } ∧
      (s.guard.enableFails.getD x 0 = 1 →
        exec (.enableTestGap x false) s =
          .next (lockout 0xBE (raise 0xBE 0 9 x [] { s with guard := { s.guard with enableFails := setAt s.guard.enableFails x 2 } }))) ∧
      exec (.ac0CommandTest x true) s =
        .next { s with guard := { s.guard with commandFails := setAt s.guard.commandFails x 0 } } ∧
      (s.guard.commandFails.getD x 0 = 1 →
        exec (.ac0CommandTest x false) s =
          .next (lockout 0xB9 (raise 0xB9 0 9 x [] (raise 0xCB 0 9 x []
            (commandOff x { s with guard := { s.guard with commandFails := setAt s.guard.commandFails x 2 },
                                   field := { s.field with so := modAt s.field.so x (fun o => { o with verdict := 7 }) } })))))) ∧
    (exec (.oscillatorCheck true) s = .next { s with guard := { s.guard with oscFails := 0 } }) ∧
    (s.guard.oscFails = 1 →
      exec (.oscillatorCheck false) s = .next (lockout 0xBF (raise0 0xBF { s with guard := { s.guard with oscFails := 2 } }))) ∧
    (s.guard.valid = true →
      exec (.guardConfigCrcCheck false) s =
        .next (lockout 0xBA (raise0 0xBA { s with guard := { s.guard with valid := false } })) ∧
      exec (.guardConfigReadback false) s =
        .next (lockout 0xBA (raise0 0xBA { s with guard := { s.guard with valid := false } })))

/-- Overcurrent trips a strand or locks out, and a trip whose causes have ended is cleared (R471, R472, R479). The
comparator of a strand that becomes asserted while the safety functions are evaluated trips the strand, or locks out where
SAFE.OC_LOCKOUT is not 0; its release ends the cause. A latched trip whose causes ended SAFE.TRIP_HOLD (0x0C0E) ago is
cleared by STRAND_TRIP_CLEAR with event 0xAF; while the guard die still sees a cause only AC0's latch is cleared, and before
the hold time nothing changes. -/
def Obligations.StrandTrips : Prop :=
  ∀ (s : State) (k : Nat), s.sys.powered = true → k < 4 →
    (s.evaluates = true → (s.tripOf k).ocNow = false →
      let u := s.modTrip k (fun t => { t with ocNow := true })
      (s.gn 0x0C08 ≠ 0 → exec (.ocComparator k true) s = .next (lockout 0xA4 (raiseStrand 0xA4 k (causeOn k 0 u)))) ∧
      (s.gn 0x0C08 = 0 → exec (.ocComparator k true) s = .next (judgeTrip k 0 true true (raiseStrand 0xA4 k) u))) ∧
    ((s.tripOf k).active = 0 → exec (.ocComparator k false) s = .next (s.modTrip k (fun t => { t with ocNow := false }))) ∧
    (s.alive = true → ((s.tripOf k).guardLatch = true ∨ (s.tripOf k).ac0Latch = true) →
      (s.time.now < (s.tripOf k).endedAt + 1000 * s.pn 0x0C0E → exec (.strandTripClear k) s = .next s) ∧
      ((s.tripOf k).active = 0 → (s.tripOf k).endedAt + 1000 * s.pn 0x0C0E ≤ s.time.now →
        exec (.strandTripClear k) s =
          .next (raiseStrand 0xAF k (s.modTrip k (fun t => { t with ac0Latch := false, guardLatch := false, word := 0 })))) ∧
      (0 < (s.tripOf k).active → (s.tripOf k).active < 256 → (s.tripOf k).endedAt + 1000 * s.pn 0x0C0E ≤ s.time.now →
        exec (.strandTripClear k) s = .next (s.modTrip k (fun t => { t with ac0Latch := false }))))

/-- The service frame: quiesce mark, boundary with and without a saddle point, and the commit of a staged set (R13, R14,
R28, R29, R30, R31, R40, R176, R725). For a module past step 11, outside START and a pending AUTO_RUN. FRAME_BOUNDARY takes
the timebase to the next multiple of 1,000 µs, clears the quiesce mark and the units in flight, and then starts the waiting
commands (at least 8). With a unit in flight there is no saddle point: 0x01 is counted and parameters, mode and a pending
apply stay. Without one, and with a pending FORD_APPLY bound to no instant that R15 allows and nothing else to commit, the
staged set becomes applied and is emptied; without anything to commit the parameters stay. QUIESCE_MARK takes the timebase
to 900 µs into the frame with the engines still busy, the supervisor among them while it prepares an apply of the guarded
set that is due; WORK_UNIT_COMPLETE removes one. TB1_DISCIPLINE_LOST ends the discipline with 0x08. -/
def Obligations.FrameBoundary : Prop :=
  ∀ (s : State) (n : Nat), s.alive = true → 11 ≤ s.sys.step →
    (s.sys.hibernating = none → s.sys.mode ≠ .start → s.sys.autoRunDue = false →
      ∃ u, exec (.frameBoundary n) s = .next (pumpCan (drain (journalDue u))) ∧ u.time.starts = max 8 n ∧
        u.time.now = (s.time.now / 1000 + 1) * 1000 ∧ u.time.quiesced = false ∧ u.time.inFlight = [] ∧
        u.time.powerCycles = s.time.powerCycles ∧
        (s.time.inFlight ≠ [] → u.time.noSaddle = s.time.noSaddle + 1 ∧ u.sys = s.sys ∧ u.upd = s.upd ∧
          u.param = { s.param with prior := none }) ∧
        (s.time.inFlight = [] → s.upd.handover = none → s.upd.fallback = none → s.param.immediate = [] → s.sys.pendingMode = [] →
          u.time.noSaddle = s.time.noSaddle ∧
          (s.param.pendingApply = none → u.param = { s.param with prior := none } ∧ u.sys = s.sys) ∧
          (∀ a, s.param.pendingApply = some a → a.instant = 0 → s.r15 a.service a.guarded = none →
            u.param.applied = applyAll (s.param.shadow.map clampDepth) s.param.applied ∧ u.param.shadow = [] ∧
            u.param.owner = none ∧ u.param.pendingApply = none ∧ u.sys.mode = s.sys.mode))) ∧
    (s.time.quiesced = false → s.time.now % 1000 ≤ 900 → ∀ l, ∃ t, exec (.quiesceMark l) s = .next t ∧
      t = { s with time := t.time, clock := t.clock } ∧ t.time.now = s.time.now / 1000 * 1000 + 900 ∧ t.time.quiesced = true ∧
      t.time.inFlight = l ++ s.preparing ∧ t.time.noSaddle = s.time.noSaddle) ∧
    (s.time.quiesced = true → ∀ e, exec (.workUnitComplete e) s =
      .next { s with time := { s.time with inFlight := s.time.inFlight.filter (· != e) } }) ∧
    (s.time.tb1Disciplined = true → exec .tb1DisciplineLost s =
      .next (raise0 0x08 { s with time := { s.time with tb1Disciplined := false } }))

/-- Power-on, the hold-up's charging, and a released reset bring the module to START past step 13 or to LOADER (R89, R90,
R91, R98, R114, R115, R119, R120, R123, R125, R727). An unpowered module on whose feed 9 V arrive is powered, in START at
step 2, on FEED_A where that is usable and else on FEED_B, with the counters of data NVM, the operating seconds being no
lower than those of the newest valid journal slot. The end of charging stores capacitance and level of HOLD and goes on with
reset cause 0x01 and one power cycle more; the timeout does so without hold-up. A held reset is released with its own cause
after the elapsed TB2 periods and the same count. Either start ends ready, held no longer, in START at step 13 or in LOADER
at step 11, with the lock-out latch set where it or its record was, and past step 10 with no byte of the banks kept. -/
def Obligations.Starts : Prop :=
  (∀ (s : State) (x : PowerTests), s.sys.powered = false →
    let a := x.reversedA = false ∧ 9000 ≤ x.mvA
    let b := x.reversedB = false ∧ 9000 ≤ x.mvB
    (¬ a → ¬ b → exec (.powerOn x) s = .next s) ∧
    (a ∨ b → ∃ t, exec (.powerOn x) s = .next t ∧ t.sys.powered = true ∧ t.sys.mode = .start ∧ t.sys.step = 2 ∧
      t.sys.ready = false ∧ t.sys.held = none ∧ (a → t.feed.active = some .a) ∧ (¬ a → t.feed.active = some .b) ∧
      t.time.now = 0 ∧ t.time.opSec = max s.feed.nvm.opSec (match s.feed.bestSlot with | some j => j.opSec | none => 0) ∧ t.time.powerCycles = s.feed.nvm.powerCycles ∧
      t.time.noSaddle = s.feed.nvm.noSaddle ∧ t.param = s.param ∧ t.banks = s.banks ∧ t.sys.lock = s.sys.lock)) ∧
  (∀ (s : State) (ufs e code : Nat) (x : StartTests),
    let ends := fun (cause : Nat) (o : Host.Outcome State Fault Refusal) (more : State → Prop) =>
      ∃ t, o = .next t ∧ t.sys.powered = true ∧ t.sys.ready = true ∧ t.sys.held = none ∧ t.sys.resetCause = cause ∧
        ((t.sys.mode = .start ∧ t.sys.step = 13) ∨ (t.sys.mode = .loader ∧ t.sys.step = 11)) ∧
        t.sys.lock.latch = (s.sys.lock.latch || s.sys.lock.record) ∧ (t.sys.mode = .start → t.banks.mem = []) ∧ more t
    let counted := fun (t : State) => t.time.powerCycles = (s.time.powerCycles + 1) % 2 ^ 24 ∧ t.feed.nvm.powerCycles = t.time.powerCycles
    (s.charging = true →
      ends 1 (exec (.holdChargeComplete ufs x) s) (fun t => counted t ∧ t.feed.capUf = ufs ∧ t.feed.holdMissing = false ∧
        t.feed.holdMv = s.pn 0x0203) ∧
      ends 1 (exec (.holdChargeTimeout x) s) (fun t => counted t ∧ t.feed.capUf = 0 ∧ t.feed.holdMissing = true ∧
        t.feed.holdMv = s.pn 0x0203)) ∧
    (s.sys.powered = true → s.sys.held = some code → code ≠ 1 →
      ends code (exec (.resetStart e x) s) (fun t => t.time.powerCycles = s.time.powerCycles ∧
        t.time.now = s.time.now + tb2Micros e)))

/-- Reset sources hold the module in reset with their cause; wake sources start it from HIBERNATE or abandon the entry;
HOLLOW faults (R107, R108, R112, R121, R122, R123, R124, R126). MRST_N, a core supply fault and a fatal fault of a module
that can be reset hold it in reset with causes 3, 6 and 7: data NVM, counters, applied parameters and the latches of PD1
stay (a write-back of battery memory in progress is torn), port, bank contents and the rings but for the satellites' own
registers are lost; MRST_N does so too while a reset is held. An enabled wake source in HIBERNATE starts the module with
cause 2; with an entry to HIBERNATE pending it abandons that entry and the mode stays; otherwise it does nothing, and the
alarm not before its time. An array unit or AC1 heartbeat out of time in STANDBY, RUN or SERVICE enters HOLLOW and records
the fault. -/
def Obligations.ResetsAndWakes : Prop :=
  ∀ (s : State),
    (let reset := fun (code : Nat) (o : Host.Outcome State Fault Refusal) =>
      ∃ t, o = .next t ∧ t.sys.held = some code ∧ t.sys.powered = true ∧ t.sys.ready = false ∧ t.time.now = s.time.now ∧
        t.time.powerCycles = s.time.powerCycles ∧ t.time.opSec = s.time.opSec ∧ t.param.applied = s.param.applied ∧
        t.param.shadow = [] ∧ t.sys.lock.latch = s.sys.lock.latch ∧ t.sys.lock.thermal = s.sys.lock.thermal ∧ t.port = {} ∧
        t.banks.mem = [] ∧ t.rings = s.rings.map (fun g => { sats := g.sats.map (fun x => { regs := x.regs }) }) ∧
        t.mem = tearMemory s.mem ∧
        t.feed.slotA = s.feed.slotA ∧ t.feed.slotB = s.feed.slotB ∧ t.guard.changeLog = s.guard.changeLog
     (s.resettable = true → reset 3 (exec .mrstN s) ∧ reset 6 (exec .coreSupplyFault s)) ∧
     (s.sys.powered = true → s.sys.held ≠ none → reset 3 (exec .mrstN s)) ∧
     (s.alive = true → 7 ≤ s.sys.step → reset 7 (exec .fatalFault s))) ∧
    (∀ (w : WakeSource) (e : Nat) (x : StartTests), s.sys.powered = true → s.sys.held = none → s.wakeEnabled w = true →
      (s.sys.mode = .hibernate → ∃ t, exec (.wakeSource w e x) s = .next t ∧ t.sys.resetCause = 2 ∧
        ((t.sys.mode = .start ∧ t.sys.step = 13) ∨ (t.sys.mode = .loader ∧ t.sys.step = 11)) ∧
        t.time.powerCycles = s.time.powerCycles ∧ t.time.now = s.time.now + tb2Micros e) ∧
      (s.sys.mode ≠ .hibernate → s.hibernatePending = true → ∃ t, exec (.wakeSource w e x) s = .next t ∧
        t.hibernatePending = false ∧ t.sys.mode = s.sys.mode ∧ t.time = s.time ∧ t.param = s.param) ∧
      (s.sys.mode ≠ .hibernate → s.hibernatePending = false → exec (.wakeSource w e x) s = .next s)) ∧
    (∀ (e : Nat) (x : StartTests),
      (s.sys.mode = .hibernate → e < 32768 * s.pn 0x0104 → exec (.rtAlarm e x) s = .next s) ∧
      (s.sys.mode ≠ .hibernate ∨ 32768 * s.pn 0x0104 ≤ e → exec (.rtAlarm e x) s = exec (.wakeSource .alarm e x) s)) ∧
    (s.alive = true → (s.sys.mode = .standby ∨ s.sys.mode = .run ∨ s.sys.mode = .service) →
      (∃ t, exec (.workUnitTimeout .array) s = .next t ∧ t.sys.mode = .hollow ∧ t.sys.hollowFault = true ∧ t.param.applied = s.param.applied) ∧
      (∃ t, exec .ac1HeartbeatTimeout s = .next t ∧ t.sys.mode = .hollow ∧ t.sys.hollowFault = true ∧ t.param.applied = s.param.applied)) ∧
    (∀ g, g ≠ .array → exec (.workUnitTimeout g) s = .next s)

/-- The housekeeping round judges temperatures with three-round hysteresis, and the thermal shutdown enters THERMAL_LOCK
(R29, R36, R474, R533, R534, R535, R536, R537, R541, R542, R547). HOUSEKEEPING_ROUND of a running module, outside the
quiesce window, stores the 24 readings (one outside -55 °C to 200 °C is invalid) and supplies; a graded state sets after
three rounds in a row at or above its level, clears after three below its clear level, and keeps its count from an invalid
reading; the warning state follows the hottest junction; TB0's compensation moves by at most 200 a round; the pacer step
waits for the frame boundary; only chapter 15's state and events change. THERMAL_SHUTDOWN in an evaluated mode outside START
sets the latch, enters THERMAL_LOCK with every output command withdrawn, the rings off and their work completed; elsewhere
it only notes the comparator. -/
def Obligations.ThermalStates : Prop :=
  (∀ (s : State) (d : Housekeeping), s.alive = true → s.sys.mode ≠ .loader → s.sys.ready = true → s.time.quiesced = false →
    ∃ t, exec (.housekeepingRound d) s = .next t ∧ t.calm = { s with thermal := t.thermal }.calm ∧
      t.thermal.temps = (List.range 24).map (fun c => (d.temps.getD c none).bind (fun v => if -5500 ≤ v ∧ v ≤ 20000 then some v else none)) ∧
      t.thermal.supplies = (List.range 8).map (fun i => d.supplies.getD i 0) ∧ t.thermal.asserted = d.comparator ∧
      t.thermal.step = s.thermal.step ∧ t.thermal.nextStep = t.thermal.wanted ∧
      t.thermal.warn = s.thermal.warn.step ((t.thermal.hottest junctions).map (·.2)) (100 * s.pi 0x0E01) (100 * s.pi 0x0E01 - 500) ∧
      (t.thermal.comp - s.thermal.comp).natAbs ≤ 200) ∧
  (∀ (s : State) (d : Housekeeping), s.time.quiesced = true → exec (.housekeepingRound d) s = .next s) ∧
  (∀ (g : ThermState) (v hi lo : Int), lo ≤ hi →
    (hi ≤ v → (g.step (some v) hi lo).set = (g.set || decide (2 ≤ g.above)) ∧ (g.step (some v) hi lo).above = min 3 (g.above + 1)) ∧
    (v < lo → (g.step (some v) hi lo).set = (g.set && decide (g.below < 2)) ∧ (g.step (some v) hi lo).below = min 3 (g.below + 1)) ∧
    (lo ≤ v → v < hi → (g.step (some v) hi lo).set = g.set) ∧ (g.step none hi lo).set = g.set) ∧
  (∀ s : State,
    (s.alive = true → s.evaluates = true → s.sys.mode ≠ .start → s.sys.lock.thermal = false →
      ∃ t, exec .thermalShutdown s = .next t ∧ t.sys.lock.thermal = true ∧ t.sys.mode = .thermalLock ∧ t.thermal.asserted = true ∧
        t.guard.commands = 0 ∧ t.param.applied = s.param.applied ∧ t.port.owtJobs = [] ∧ t.hv.disconnects = [] ∧ t.hv.welds = [] ∧
        ∀ g ∈ t.rings, g.op = .disabled ∧ g.queue = [] ∧ g.inFlight = none ∧ g.bufs = []) ∧
    (s.sys.powered = true → s.alive = false ∨ s.evaluates = false ∨ s.sys.mode = .start ∨ s.sys.lock.thermal = true →
      exec .thermalShutdown s = .next { s with thermal := { s.thermal with asserted := true } }))

/-- Blanking, trigger, COLLECT and its return make a ring's snapshot; a lost COLLECT is counted, the second in a row starts
the break search (R43, R50, R193, R195, R210, R211, R212, R214, R217, R220, R221, R735). For a ring that takes snapshots.
Requests of R214 leave in the gap, XFER_STOP_ALL first. BLANK broadcasts its 200 µs window; RING_TRIGGER at a due instant,
with no COLLECT out, leaves on every pair with the trigger's sequence and instant, the same for every ring at that instant,
and at another instant changes nothing; COLLECT sends a header on every pair driven. A COLLECT back on every pair with good
headers, matching Counts and the expected slots frees the ring and joins a free buffer, or is counted as dropped where both
are full. A COLLECT that times out, returns with a bad header, or is still out at the next trigger counts as lost with its
event; the second in a row, and a loss of carrier, start the break search on the out pair, or take down a ring without
satellites. -/
def Obligations.SnapshotCycle : Prop :=
  ∀ (s : State) (r : Nat) (g : RingState), s.ringRuns r = true → s.rings[r]? = some g →
    let u := ringGap r s
    let seeks := fun (o : Host.Outcome State Fault Refusal) (n : Nat) => ∃ t x, o = .next t ∧ t.rings[r]? = some x ∧
      x.awaiting = none ∧ x.inFlight = none ∧ x.lost = n ∧ x.roster = g.roster ∧
      (g.roster ≠ [] → x.phase = .searching true 0 0 g.roster.length ∧ x.op = g.op) ∧
      (g.roster = [] → x.phase = .idle ∧ x.op = .down)
    let afterLoss := fun (o : Host.Outcome State Fault Refusal) =>
      (g.lostRun = 0 → o = .next (raise (0x20 + 8 * r + 2) 0 1 r [] (u.modRing r (fun x =>
        { x with awaiting := none, collectSent := false, lost := satAdd 32 g.lost 1, lostRun := 1 })))) ∧
      (1 ≤ g.lostRun → seeks o (satAdd 32 g.lost 1))
    (g.stopAll = false → g.sleepReq = false → u = s) ∧
    (u.ring r).stopAll = false ∧ (u.ring r).sleepReq = false ∧ (u.ring r).queue = g.queue ∧
    (g.sleepReq = false → g.stopAll = true →
      (u.ring r).sent = g.pairs.map (fun p => ⟨p.1, frameHeader 0x04 g.frameCounter p.2 1 ++
        RingEntry.bytes { addr := 0xFF, code := 0x12, args := List.replicate 8 0, tag := g.entryTag }⟩)) ∧
    (s.blanking r (s.pn 0x0602) = true →
      exec (.blank r) s = .next (u.modRing r (fun x => { x.broadcast 0x13 (leBytes 2 200) with blanked := true }))) ∧
    (g.awaiting = none → ∀ offset, s.triggerDue r offset = true → ∃ t h x, exec (.ringTrigger r offset) s = .next t ∧
      t = { s with time := t.time, est := t.est, guard := t.guard, rings := t.rings, meas := t.meas, bal := t.bal } ∧
      h.at' = s.time.now - s.time.now % 1000 + offset ∧ h.seq = s.triggerSeq r h.at' ∧ t.time.snapSeq = h.seq ∧ t.time.snapAt = h.at' ∧
      t.rings[r]? = some x ∧ x.awaiting = some h ∧ x.collectSent = false ∧ x.window = 0 ∧ x.queue = g.queue ∧ x.bufs = g.bufs ∧
      x.sent = g.pairs.map (fun p => ⟨p.1, frameHeader 0x01 (h.seq % 256) p.2 0 ++ h.trigger⟩) ∧
      (offset ≠ 0 → h.corner = s.pn 0x0601 ∧ h.ratio = s.pn 0x0604)) ∧
    (∀ offset, s.triggerDue r offset = false → exec (.ringTrigger r offset) s = .next s) ∧
    (∀ h, g.awaiting = some h →
      exec (.collect r) s = .next (s.modRing r (fun x => { x.transmit (g.pairs.map (fun p =>
        ⟨p.1, frameHeader 0x02 (h.seq % 256) p.2 (g.slotsOn p.1)⟩)) with collectSent := true, blanked := false })) ∧
      (∀ offset, s.triggerDue r offset = true → 1 ≤ g.lostRun → afterLoss (exec (.ringTrigger r offset) s)) ∧
      (g.collectSent = true →
        afterLoss (exec (.collectTimeout r) s) ∧
        (∀ d : CollectData, d.frames.length ≠ g.pairs.length ∨ (∃ f ∈ d.frames, headerGood f = false) →
          afterLoss (exec (.collectReturn r d) s)) ∧
        (∀ d : CollectData, d.frames.length = g.pairs.length → (∀ f ∈ d.frames, headerGood f = true ∧ miscounted f = false) →
          strayBlocks g.admittedSet (slotsOf h.ratio d).flatten = false → g.op = .loop →
          ∃ t x, exec (.collectReturn r d) s = .next t ∧ t.calm = { s with rings := t.rings, bal := t.bal }.calm ∧
            t.rings[r]? = some x ∧ x.awaiting = none ∧ x.lostRun = 0 ∧ x.lost = g.lost ∧ x.queue = g.queue ∧
            x.returnCorrected = d.reversed ∧ x.mismatches = g.mismatches ∧
            (g.bufs.length < 2 → x.bufs = g.bufs ++ [⟨h, (slotsOf h.ratio d).flatten, s.time.now⟩] ∧ x.dropped = g.dropped) ∧
            (2 ≤ g.bufs.length → x.bufs = g.bufs ∧ x.dropped = satAdd 16 g.dropped 1)))) ∧
    (∀ out, out = false ∨ g.op = .split → seeks (exec (.lossOfCarrier r out) s) g.lost)

/-- Enumeration and probing step through the satellites, and command entries go out in windows, are answered, repeated or
failed (R200, R201, R202, R204, R205, R206, R213, R217, R221, R231, R735). For a ring of the module with its supervisor on.
An ENUMERATE that returns records each entry at its address, admits the satellites of device 0xE6 below the count and goes
on with the PROBE of the lowest of them; one of the loop that does not return starts the break search over the expected
satellites, one of a half takes the ring down. A PROBE that returns stores half the round trip beyond 64 half-bits as the
latency and goes on with the next satellite; a break search halves its range and probes its middle. A window opens with its
length and sends the head descriptor's entries where they fit, under fresh tags. A response that answers a SAT_COMMAND
completes it with the entry; without an answer the entry is queued again up to three times, and then fails with
ST_INTERNAL_FAULT. -/
def Obligations.RingCommands : Prop :=
  ∀ (s : State) (r : Nat) (g : RingState), s.ac0On = true → r < 4 → s.rings[r]? = some g →
    let probes := fun (o : Host.Outcome State Fault Refusal) (p : RingPhase) (out : Bool) (n : Nat) => ∃ t x fc, o = .next t ∧
      t.rings[r]? = some x ∧ x.phase = p ∧ x.sent = [⟨out, frameHeader 0x06 fc n 0⟩]
    (g.phase = .enumerating →
      (∀ (es : List SatIdentity) (n : Nat), n < 32 →
        let admitted := fun (i : Nat) => i < s.satCount r ∧ ∃ e, es.find? (fun e => e.address == i) = some e ∧ e.device = 0xE6
        (∀ i, (g.sat i).admitted = false) → admitted n → (∀ i, i < n → ¬ admitted i) →
        probes (exec (.enumerateReturn r (some es)) s) (.probing n false) (g.onOut n) n ∧
        ∃ t x, exec (.enumerateReturn r (some es)) s = .next t ∧ t.rings[r]? = some x ∧
          ∀ i e, i < 32 → es.find? (fun e => e.address == i) = some e → (x.sat i).ident = some e ∧
            (x.sat i).admitted = (e.device == 0xE6 && decide (i < s.satCount r))) ∧
      (g.broken = true → ∃ t x, exec (.enumerateReturn r none) s = .next t ∧ t.rings[r]? = some x ∧ x.phase = .idle ∧ x.op = .down) ∧
      (g.broken = false → g.op = .enumerating → 0 < s.satCount r →
        probes (exec (.enumerateReturn r none) s) (.searching true 0 0 (s.satCount r)) true (s.satCount r / 2))) ∧
    (∀ n search rt, g.phase = .probing n search → n < 32 → g.sats.length = 32 →
      exec (.probeReturn r none) s = .next (s.modRing r (fun x => x.sendProbe (x.onOut n) n)) ∧
      (∀ i, i < 32 → n < i → (g.sat i).usable = true → (∀ j, n < j → j < i → (g.sat j).usable = false) →
        probes (exec (.probeReturn r (some rt)) s) (.probing i search) (g.onOut i) i ∧
        ∃ t x, exec (.probeReturn r (some rt)) s = .next t ∧ t.rings[r]? = some x ∧ (x.sat n).latency = (rt - 64) / 2 ∧
          x.loopLatency = max g.loopLatency ((rt - 64) / 2 + 24))) ∧
    (∀ out near lo hi, g.phase = .searching out near lo hi →
      let mid := (lo + hi) / 2
      let at' := fun (i : Nat) => (s.searchOrder r out).getD i 0
      (∀ rt, mid + 1 < hi → probes (exec (.probeReturn r (some rt)) s) (.searching out near (mid + 1) hi) out (at' ((mid + 1 + hi) / 2))) ∧
      (lo < mid → probes (exec (.probeReturn r none) s) (.searching out near lo mid) out (at' ((lo + mid) / 2)))) ∧
    (s.ringRuns r = true → g.awaiting = none → g.stopAll = false → g.sleepReq = false →
      (g.inFlight ≠ none ∨ g.queue = [] ∧ g.kept = [] ∧ g.reAddr = none → exec (.commandWindow r) s =
        .next (s.modRing r (fun x => { x with window := s.windowLength r }))) ∧
      (∀ d rest, g.inFlight = none → g.reAddr = none → g.queue = d :: rest → 0 < d.entries.length → g.oneHalf d.entries = d.entries →
        d.entries.length ≤ entriesThatFit (s.windowLength r) g.loopLatency →
        ∃ t x, exec (.commandWindow r) s = .next t ∧ t = { s with rings := t.rings } ∧ t.rings[r]? = some x ∧
          x.inFlight = some { d with entries := g.tagged d.entries } ∧ x.frameCounter = (g.frameCounter + 1) % 256 ∧
          x.entryTag = (g.entryTag + d.entries.length) % 65536 ∧ x.queue.take rest.length = rest ∧
          x.window = s.windowLength r - (commandCost g.loopLatency d.entries.length + 64) ∧
          x.sent.map (·.bytes) = [frameHeader 0x03 g.frameCounter (g.turnFor ((d.entries.map (·.addr)).headD 0)) d.entries.length ++
            (g.tagged d.entries).flatMap RingEntry.bytes])) ∧
    (∀ (e : RingEntry) (by' : Requester) (at' : Nat) (l : List RingReply), g.inFlight = some ⟨.satCommand by', [e], at'⟩ →
      g.phase = .idle →
      let u := s.modRing r (fun x => { x with inFlight := none })
      (∀ p, findReply e l = some p → exec (.commandResponse r l) s =
        .next (sendNext r (complete by' 0x0901 stOk noDetail (replyBytes p) u))) ∧
      (findReply e l = none → e.tries < 3 → exec (.commandResponse r l) s =
        .next (s.modRing r (fun x => { x with inFlight := none,
                                              queue := ⟨.satCommand by', [{ e with tries := e.tries + 1 }], at'⟩ :: x.queue }))) ∧
      (findReply e l = none → 3 ≤ e.tries → exec (.commandResponse r l) s =
        .next (sendNext r (complete by' 0x0901 stInternalFault noDetail [] (note (0x20 + 8 * r + 6) 1 3 (32 * r + e.addr) [] u)))))

/-- Intake takes the oldest buffer and forms each position's value; a stale position and an untestable broken wire are
judged (R29, R35, R50, R241, R242, R244, R245, R247, R257, R258, R273, R278). For a ring with a completed buffer and AC0
running. SNAPSHOT_INTAKE releases the buffer, and before sum, protection, transfers and estimator judge it: the newest
snapshot is the buffer's; a position whose satellite's block counts keeps 25 µV per code minus 1 V as its last raw value
where it lies in range and no code is reserved; without a block it has no value; a masked position holds nothing; the strand
current is the shunt at the sampling instant (interpolated where the corner needs no filter) minus its offset over the
shunt's resistance; parameters are those of the trigger. A work unit starts only before the quiesce mark. CELL_STALE marks
the position, drops its kept value, raises 0x41 and judges trip cause 13. WIRE_VERDICT_TIMEOUT, the signs of R257 held for
60 s and no test possible, marks the wire broken and the cells beside it invalid. -/
def Obligations.SnapshotValues : Prop :=
  (∀ (s : State) (r : Nat) (d : IntakeData) (buf : SnapBuffer) (rest : List SnapBuffer),
    s.ac0On = true → s.time.quiesced = false → r < 4 → s.rings.length = 4 → s.meas.length = 4 → s.hv.strands.length = 4 →
    (s.ring r).bufs = buf :: rest → let p := buf.head.set
    ∃ u, exec (.snapshotIntake r d) s = .next (feedEstimator r buf.head (owtStep r buf.head (judgeConverters r buf
        (judgeLimits r (buf.head.at' + 40) (protectCells r buf.head (judgeSum r p u)))))) ∧
      (u.ring r).bufs = rest ∧ (u.measOf r).newest = some buf.head ∧ u.sys = s.sys ∧ u.param = s.param ∧ u.est = s.est ∧
      (u.strandHv r).current = some ((hvAt buf.head.corner d (·.shunt) d.shuntAfter 125 - (s.strandHv r).offset) * 1000000 /
        (p.nat (0x0710 + r) : Int)) ∧
      ∀ c, c < 512 →
        (p.masked r c = true → u.cell r c = {}) ∧
        (p.masked r c = false → blockFor (s.ring r) buf (c / 16) = none →
          (u.cell r c).value = none ∧ (u.cell r c).noData = true ∧ (u.cell r c).outOfRange = false) ∧
        (∀ b v, p.masked r c = false → blockFor (s.ring r) buf (c / 16) = some b → b.primary.getD (c % 16) 0x3FFFF < 0x3FFFF →
          v = 25 * (b.primary.getD (c % 16) 0x3FFFF : Int) - 1000000 →
          (v < -200000 ∨ 5300000 < v → (u.cell r c).value = none ∧ (u.cell r c).outOfRange = true) ∧
          (-200000 ≤ v → v ≤ 5300000 → (u.cell r c).lastRaw = some v ∧ (u.cell r c).noData = false ∧
            (u.cell r c).outOfRange = false))) ∧
  (∀ (s : State) (r : Nat) (d : IntakeData), s.time.quiesced = true → exec (.snapshotIntake r d) s = .next s) ∧
  (∀ (s : State) (k c : Nat), k < 4 → c < 512 → s.evaluates = true → s.sys.mode ≠ .thermalLock → s.enabled k = true →
    s.masked k c = false → (s.cell k c).stale = false → (s.cell k c).lastAt + 1000 * s.pn 0x0607 ≤ s.time.now →
    exec (.cellStale (512 * k + c)) s = .next (judgeTrip k 13 false true (fun s => s)
      (raise 0x41 0 2 (512 * k + c) [] (s.modCell k c (fun x => { x with stale := true, kept := none }))))) ∧
  (∀ (s : State) (k n w : Nat), k < 4 → n < 32 → 1 ≤ w → w ≤ 15 → s.evaluates = true → s.sys.mode ≠ .hollow →
    s.meas.length = 4 → (∃ at', (s.cell k (16 * n + w)).signsSince = some at' ∧ at' + 60000000 ≤ s.time.now) →
    (s.cell k (16 * n + w)).wireSuspect = true → (s.strandHv k).sumFlag = false →
    s.pn 0x060B = 0 ∨ (s.cell k (16 * n + w)).refused = true ∨ (s.measOf k).owt.isSome = true →
    (s.measOf k).broken.contains (n, w) = false →
    ∃ t, exec (.wireVerdictTimeout k n w) s = .next t ∧ t.calm = { s with meas := t.meas }.calm ∧
      (t.measOf k).broken = (s.measOf k).broken ++ [(n, w)] ∧
      (s.masked k (16 * n + w) = false → (t.cell k (16 * n + w)).invalidWire = true) ∧
      (s.masked k (16 * n + w - 1) = false → (t.cell k (16 * n + w - 1)).invalidWire = true))

/-- HV rounds, shunt offsets, insulation results, earth checks and contactor voltages are taken as chapter 08 says (R271,
R274, R275, R276, R279, R286, R288, R289, R290, R293, R310). With AC0 running. HV_ROUND without a connection or weld check
counts the round and stores every raw reading. A shunt offset up to 50 µV of an idle, weld-checked strand is kept, a larger
one marks it bad with 0x6F once. Insulation results count for the system whose turn it is: the first after a change of
reference or under a weld check's bias is discarded; a later one becomes the point (0 below 10 kΩ, the largest value above
10 MΩ), and below the level sets the line or refuses the strand. The second bad earth check in a row sets the earth fault
with 0x68 and drops every insulation value, the second good one clears it. A contactor voltage high for 2,000 rounds raises
0x6E once. -/
def Obligations.HvMeasurements : Prop :=
  (∀ (s : State) (d : HvRound), s.ac0On = true → s.hv.connect = none → s.hv.welds = [] → s.hv.strands.length = 4 →
    ∃ t, exec (.hvRound d) s = .next t ∧ t.hv.rounds = s.hv.rounds + 1 ∧ t.hv.rawBus = d.bus ∧ t.sys = s.sys ∧ t.param = s.param ∧
      t.rings = s.rings ∧ t.meas = s.meas ∧ t.est = s.est ∧ t.port = s.port ∧ t.feed = s.feed ∧ t.field = s.field ∧
      t.hv.connect = none ∧ t.hv.welds = [] ∧ t.hv.iso = s.hv.iso ∧
      ∀ k, k < 4 → (t.strandHv k).rawV = (d.strands.getD k {}).volt ∧ (t.strandHv k).rawPos = (d.strands.getD k {}).pos ∧
        (t.strandHv k).rawNeg = (d.strands.getD k {}).neg ∧ (t.strandHv k).rawShunt = (d.strands.getD k {}).shunt ∧
        (t.strandHv k).connected = (s.strandHv k).connected ∧ (t.strandHv k).offset = (s.strandHv k).offset) ∧
  (∀ (s : State) (k : Nat) (h : StrandHv) (uv : Int), s.ac0On = true → k < 4 → s.hv.strands[k]? = some h →
    (s.enabled k = true → h.weldPassed = true → h.connected = false → s.commanded (s.soPos k) = false →
      s.commanded (s.soNeg k) = false →
      let put := fun (x : StrandHv) => ({ s with hv := { s.hv with strands := setAt s.hv.strands k x } } : State)
      (uv.natAbs ≤ 50 → exec (.shuntOffset k uv) s = .next (put { h with offset := uv, offsetBad := false })) ∧
      (50 < uv.natAbs → exec (.shuntOffset k uv) s = .next (if h.offsetBad = true then s else raise 0x6F 0 1 k [] (put { h with offsetBad := true })))) ∧
    (h.connected = true → 2000 ≤ h.highRun → h.contactorHigh = false → h.quarterRun < 200 →
      exec (.contactorVoltageHigh k) s = .next (raise 0x6E 0 1 k []
        { s with hv := { s.hv with strands := setAt s.hv.strands k { h with contactorHigh := true } } }))) ∧
  (∀ (s : State) (which ohms : Nat), s.ac0On = true → s.pn 0x070D = 1 → s.hv.earthFault = false →
    let point := fun (x : Nat) => if x < 10000 then 0 else if 10000000 < x then 0x7FFFFFFF else x
    (s.isoTurn ≠ some which → exec (.insulationResult which ohms) s = .next s) ∧
    (s.connMask ≠ 0 → s.isoTurn = some 0) ∧
    (s.isoTurn = some which → s.hv.isoRef ≠ which ∨ s.hv.isoSkip = true →
      ∃ t, exec (.insulationResult which ohms) s = .next t ∧ t = { s with hv := t.hv } ∧
        t.hv.isoRef = which ∧ t.hv.isoSkip = s.biased ∧ t.hv.iso = s.isoKept) ∧
    (s.connMask ≠ 0 → s.hv.isoRef = 0 → s.hv.isoSkip = false → ∃ t, exec (.insulationResult 0 ohms) s = .next t ∧ t.param = s.param ∧
      t.hv.iso = [some (point ohms), none, none, none, none] ∧ (ohms < s.pn 0x0C09 → t.hv.isoLine = true)) ∧
    (∀ k h, which = 1 + k → s.isoTurn = some which → s.hv.isoRef = which → s.hv.isoSkip = false → s.hv.strands[k]? = some h →
      ∃ t, exec (.insulationResult which ohms) s = .next t ∧ t.param = s.param ∧ t.hv.iso.getD which none = some (point ohms) ∧
        (t.strandHv k).isoLast = some (point ohms) ∧
        (t.strandHv k).isoRefused = (if ohms < s.pn 0x0C09 then true else if 5 * s.pn 0x0C09 < 4 * ohms then false else h.isoRefused))) ∧
  (∀ (s : State), s.ac0On = true → s.pn 0x070D ≠ 0 →
    (∃ t, exec (.earthCheck true) s = .next t ∧ t.hv.earthGood = s.hv.earthGood + 1 ∧ t.hv.earthBad = 0 ∧
      t.hv.earthFault = (s.hv.earthFault && decide (s.hv.earthGood < 1)) ∧ t.hv.iso = s.hv.iso) ∧
    (∃ t, exec (.earthCheck false) s = .next t ∧ t.hv.earthBad = s.hv.earthBad + 1 ∧ t.hv.earthGood = 0 ∧
      t.hv.earthFault = (s.hv.earthFault || decide (1 ≤ s.hv.earthBad)) ∧
      (s.hv.earthFault = false → 1 ≤ s.hv.earthBad → t.hv.iso = List.replicate 5 none)))

/-- Current inference, the model update and the reported values of a strand: what each completes and what it leaves alone
(R29, R92, R164, R347, R350, R360, R364, R365, R368, R375, R380, R381). For a strand with a waiting snapshot where the array
starts work (domain on, before the quiesce mark, no power-fail commit), CURRENT_INFERENCE takes the oldest: the latest
instant is its trigger, the inferred current is that of R360 and R361 over its cells (none below 8, then INVALID), without
current assist I_k is that current; estimator and battery memory aside only events arise, and no other strand changes.
MODEL_UPDATE completes an update whose snapshot has been inferred: it waits for reporting and planning, its current is the
mean that inference closed, its header is the newest; unless an earlier update is still to be reported, a masked cell or one
without an estimate keeps its record. REPORTED_VALUES, where AC1 starts work, moves each reported SOC by R381 (never up
while discharging, never down while charging, at rest by the slew only), publishes the values with the update's header, and
changes nothing but the estimator. Without work, or where none starts, each changes nothing. -/
def Obligations.Estimation : Prop :=
  ∀ (s : State) (k : Nat), k < 4 → s.est.strands.length = 4 →
    ((s.estOf k).toInfer = [] ∨ s.arrayStarts = false → exec (.currentInference k) s = .next s) ∧
    ((s.estOf k).updating = none ∨ (s.estOf k).updateIk = none ∨ s.arrayStarts = false → exec (.modelUpdate k) s = .next s) ∧
    ((s.estOf k).toReport = false ∨ s.ac1Starts = false → exec (.reportedValues k) s = .next s) ∧
    (∀ o rest, (s.estOf k).toInfer = o :: rest → s.arrayStarts = true →
      let h := o.head
      let us : Nat := match (s.estOf k).lastSnap with | some a => h.at' - a | none => h.period
      let dt : Rat := (us : Rat) / 1000000
      let p := h.set
      let u := advancePredictors p k h dt (startCells p k o.meas h (s.modEst k (fun e => { e with toInfer := rest })))
      ∃ t, exec (.currentInference k) s = .next t ∧ t.calm = { s with est := t.est, mem := t.mem }.calm ∧
        (∀ j, j ≠ k → t.est.strands[j]? = s.est.strands[j]?) ∧ (t.estOf k).toInfer = rest ∧
        (t.estOf k).lastSnap = some h.at' ∧ (t.estOf k).inferInvalid = (t.estOf k).iInf.isNone ∧
        (t.estOf k).iInf = (inferCurrent (shares p o.meas (u.estOf k) dt)).map (·.1) ∧
        (p.nat 0x0902 ≠ 1 → (t.estOf k).iUsed = (t.estOf k).iInf)) ∧
    (∀ u mean, (s.estOf k).updating = some u → (s.estOf k).updateIk = some mean → s.arrayStarts = true →
      ∃ t, exec (.modelUpdate k) s = .next t ∧ t.sys = s.sys ∧ t.param = s.param ∧ t.port = s.port ∧ t.feed = s.feed ∧
        t.hv = s.hv ∧ t.guard = s.guard ∧ t.field = s.field ∧ t.can = s.can ∧ (∀ j, j ≠ k → t.est.strands[j]? = s.est.strands[j]?) ∧
        (t.estOf k).updating = none ∧ (t.estOf k).toReport = true ∧ (t.estOf k).toPlan = true ∧
        (t.estOf k).updated = some (u.head, s.time.now) ∧ (∀ x, mean = some x → (t.estOf k).updateI = roundF32 x) ∧
        ((s.estOf k).toReport = false → ∀ c, c < 512 → s.masked k c = true ∨ ((s.estOf k).cell c).present = false →
          (t.estOf k).cell c = (s.estOf k).cell c)) ∧
    (∀ h at', (s.estOf k).toReport = true → (s.estOf k).updated = some (h, at') → s.ac1Starts = true → s.sys.mode ≠ .hollow →
      let e := s.estOf k
      let p := h.set
      let th := p.rat 0x0903 (1 / 1000)
      ∃ t, exec (.reportedValues k) s = .next t ∧ t = { s with est := t.est, free := t.free } ∧
        (∀ j, j ≠ k → t.est.strands[j]? = s.est.strands[j]?) ∧ (t.estOf k).toReport = false ∧
        (t.estOf k).lastHead = some (h.seq, h.net, h.at') ∧
        ∀ c, c < e.cells.length →
          let o := e.cell c
          let n := (t.estOf k).cell c
          let rho := p.rat 0x090D (1 / 100000) / 60 * o.dt
          let d := o.dq / o.cap + clampRat (-rho) rho (o.soc - (o.reported + o.dq / o.cap))
          (o.present = false → n = o) ∧
          (o.present = true →
            n = { o with reported := n.reported, uncertainty := n.uncertainty, pub := some (n.reported, o.cap, o.rser, n.uncertainty) } ∧
            (th < e.updateI → n.reported = roundF32 (clampRat 0 1 (o.reported + min 0 d))) ∧
            (e.updateI ≤ th → e.updateI < -th → n.reported = roundF32 (clampRat 0 1 (o.reported + max 0 d))) ∧
            (e.updateI ≤ th → -th ≤ e.updateI →
              n.reported = roundF32 (clampRat 0 1 (o.reported + clampRat (-rho) rho (o.soc - o.reported))))))

/-- Cross-check verdicts, stale anchors, a learning cycle that lasts too long, and the write-back of battery memory (R373,
R374, R376, R377, R397, R414, R415, R416, R726). For a strand with the supervisor domain on, not in HOLLOW. CURRENT_DISAGREE
sets the flag with 0x87 once the disagreement of a strand without it and without a reversed shunt has lasted
EST.IPLAUS_TIME, and clears it with 0x88 code 1 once the agreement has; REVERSED_SHUNT sets its flag with 0x89 on a
correlation of −0.9; ANCHOR_STALE raises 0x85 where a cell's anchor age, which advances with the timebase from its last
update on, has reached EST.ANCHOR_STALE_AGE; each changes that one flag (and the opposite timer) and, where it sets one,
ends the strand's open learning cycles under cause 6, or nothing below its limit. LEARNING_CYCLE_TIMEOUT ends a cycle open
LEARN.MAX_DURATION hours: counted under cause 7 with 0x8B, nothing else. MEMORY_WRITEBACK begins where R415 permits, outside
the quiesce window, with a record asked for at once or the next of the periodic round: it counts as written, and while a
write is in progress none begins; its end writes the older or invalid copy. With nothing to begin or to end it changes
nothing. -/
def Obligations.EstimatorVerdicts : Prop :=
  (∀ (s : State) (k : Nat), k < 4 → s.alive = true → s.sys.mode ≠ .hollow →
    let e := s.estOf k
    ((e.disagree = false ∧ e.reversed = false ∧ 1000 * s.pn 0x090C ≤ e.disagreeMs) →
      exec (.currentDisagree k true) s =
        .next (disqualifyStrand k 6 (raiseStrand 0x87 k (s.modEst k (fun e => { e with disagree := true, agreeMs := 0 }))))) ∧
    (e.disagree = true ∨ e.reversed = true ∨ e.disagreeMs < 1000 * s.pn 0x090C → exec (.currentDisagree k true) s = .next s) ∧
    (e.disagree = true → 1000 * s.pn 0x090C ≤ e.agreeMs →
      exec (.currentDisagree k false) s =
        .next (raise 0x88 1 1 k [] (s.modEst k (fun e => { e with disagree := false, disagreeMs := 0 })))) ∧
    (e.disagree = false ∨ e.agreeMs < 1000 * s.pn 0x090C → exec (.currentDisagree k false) s = .next s) ∧
    (e.reversed = false → reversedPairs e.increments = true →
      exec (.reversedShunt k) s = .next (disqualifyStrand k 6 (raiseStrand 0x89 k (s.modEst k (fun e => { e with reversed := true }))))) ∧
    (e.reversed = true ∨ reversedPairs e.increments = false → exec (.reversedShunt k) s = .next s) ∧
    (e.anchorStale = false → (∃ c ∈ e.cells, c.present = true ∧ 3600000 * s.pn 0x0904 ≤ c.ageAt s.time.now) →
      exec (.anchorStale k) s = .next (disqualifyStrand k 6 (raiseStrand 0x85 k (s.modEst k (fun e => { e with anchorStale := true }))))) ∧
    (e.anchorStale = true ∨ (∀ c ∈ e.cells, c.present = true → c.ageAt s.time.now < 3600000 * s.pn 0x0904) →
      exec (.anchorStale k) s = .next s)) ∧
  (∀ (s : State) (k c : Nat) (y : LearnCycle), k < 4 → c < 512 → s.ac0On = true → ((s.estOf k).cell c).cycle = some y →
    (y.openedMs + 3600000 * s.pn 0x0A07 ≤ s.opMs →
      exec (.learningCycleTimeout (512 * k + c)) s = .next (raise 0x8B 7 2 (512 * k + c) []
        (modStrandMem k (fun m => { m with disqualified := modAt m.disqualified 6 (satAdd 16 · 1) })
          (modCellEst k c (fun e => { e with cycle := none }) s)))) ∧
    (s.opMs < y.openedMs + 3600000 * s.pn 0x0A07 → exec (.learningCycleTimeout (512 * k + c)) s = .next s)) ∧
  (∀ s : State,
    (s.mem.writing = none → exec (.memoryWriteback true) s = .next s) ∧
    (s.mem.writing ≠ none ∨ s.mayWrite = false ∨ s.time.quiesced = true → exec (.memoryWriteback false) s = .next s) ∧
    (s.mem.writing = none → s.mayWrite = true → s.time.quiesced = false →
      (startRound s).mem.nextTarget (s.time.now / 1000) = none → exec (.memoryWriteback false) s = .next (startRound s)) ∧
    (∀ k, s.mem.writing = none → s.mayWrite = true → s.time.quiesced = false →
      (startRound s).mem.nextTarget (s.time.now / 1000) = some (.strand k) →
      ∃ t, exec (.memoryWriteback false) s = .next t ∧ t = { s with mem := t.mem } ∧ t.mem.writing = some (.strand k) ∧
        t.mem.sats = s.mem.sats ∧ (∀ j, j ≠ k → t.mem.strands[j]? = s.mem.strands[j]?) ∧
        ∀ r, s.mem.strands[k]? = some r → t.mem.strands[k]? = some { r with dirty := false, urgent := false }) ∧
    (∀ k n, k < 4 → n < 32 → s.mem.writing = none → s.mayWrite = true → s.time.quiesced = false →
      (startRound s).mem.nextTarget (s.time.now / 1000) = some (.satellite k n) →
      ∃ t, exec (.memoryWriteback false) s = .next t ∧ t = { s with mem := t.mem, est := t.est } ∧
        t.mem.writing = some (.satellite k n) ∧ t.mem.strands = s.mem.strands ∧
        (∀ j, j ≠ 32 * k + n → t.mem.sats[j]? = s.mem.sats[j]?) ∧
        ∀ r, t.mem.sats[32 * k + n]? = some r → r.dirty = false ∧ r.urgent = false) ∧
    (∀ k r, s.mem.writing = some (.strand k) → s.mem.strands[k]? = some r →
      ∃ t w, exec (.memoryWriteback true) s = .next t ∧ t = { s with mem := t.mem } ∧ t.mem.writing = none ∧
        t.mem.sats = s.mem.sats ∧ t.mem.strands[k]? = some w ∧ w.ram = { r.ram with seq := w.ram.seq } ∧
        (r.copyA = none → w.copyA = some w.ram ∧ w.copyB = r.copyB) ∧
        (r.copyA ≠ none → r.copyB = none → w.copyB = some w.ram ∧ w.copyA = r.copyA) ∧
        (∀ a b, r.copyA = some a → r.copyB = some b →
          if seqBefore a.seq b.seq then w.copyA = some w.ram ∧ w.copyB = some b else w.copyB = some w.ram ∧ w.copyA = some a)))

/-- A plan gives each cell its exclusion reason, a stop condition ends the strand's transfers, and rail and converter faults
are counted (R29, R92, R214, R322, R323, R325, R326, R333, R338, R340, R346). For a strand with a completed update, AC1
starting work. BALANCING_PLAN, the reported values first, consumes the update and gives every cell its reason of R326, or 8
where the cell takes part but a stop condition of R322 holds. Under a stop condition that arises now every lease ends and
XFER_STOP_ALL is asked for, which leaves at once on an idle line; one that held already changes nothing more. Without one
the strand no longer counts as stopped (0x73 tells it); during the pause after a rail fault nothing is planned; with the
rail not reported at 10 V only 500 mA rail starts hold a lease. Modes, parameters, port, feed, HV and outputs stay.
RAIL_START_FAILED raises 0x75 and counts a rail fault of the last 600 s; at BAL.FAULT_LIMIT the strand is latched off and
its leases end. The end of the hold and of an exclusion clear just that, the latter 60 s after the fault was last read. -/
def Obligations.Balancing : Prop :=
  let asked := fun (k : Nat) (s t : State) =>
    ((s.ring k).lineIdle = false → (t.ring k).stopAll = true) ∧
    ((s.ring k).lineIdle = true → s.ringDriven k = true → (s.ring k).sleepReq = false → (t.ring k).stopAll = false ∧
      (t.ring k).sent = (s.ring k).pairs.map (fun p => ⟨p.1, frameHeader 0x04 (s.ring k).frameCounter p.2 1 ++
        RingEntry.bytes { addr := 0xFF, code := 0x12, args := List.replicate 8 0, tag := (s.ring k).entryTag }⟩))
  (∀ (s : State) (k : Nat), k < 4 → s.meas.length = 4 → s.bal.length = 4 → s.rings.length = 4 → s.est.strands.length = 4 →
    ((s.estOf k).toPlan = false ∨ s.ac1Starts = false → exec (.balancingPlan k) s = .next s) ∧
    ((s.estOf k).toPlan = true → s.ac1Starts = true →
      let u := if (s.estOf k).toReport = true ∧ s.sys.mode ≠ .hollow then reportStrand k s else s
      ∃ t, exec (.balancingPlan k) s = .next t ∧ t.sys = s.sys ∧ t.param = s.param ∧ t.port = s.port ∧ t.feed = s.feed ∧
        t.hv = s.hv ∧ t.guard = s.guard ∧ t.field = s.field ∧ t.mem = s.mem ∧ (t.estOf k).toPlan = false ∧
        (∀ c, c < 512 → (t.cell k c).reason = if u.exclusion k c = 0 ∧ s.planBarred k = true then 8 else u.exclusion k c) ∧
        (s.planBarred k = true → (s.balOf k).stopped = true → t.bal = s.bal ∧ t.rings = s.rings) ∧
        (s.planBarred k = true → (s.balOf k).stopped = false → (t.balOf k).stopped = true ∧ asked k s t ∧
          ∀ l ∈ (t.balOf k).leases, l.held = false) ∧
        (s.planBarred k = false → (t.balOf k).stopped = false ∧
          ((s.balOf k).hold = true → t.bal = setAt s.bal k { s.balOf k with stopped := false } ∧ t.rings = s.rings) ∧
          ((s.balOf k).hold = false → (∀ v, (s.balOf k).rail = some v → v < 10000) →
            ∀ l ∈ (t.balOf k).leases, l.held = true → l.direction = 3 ∧ l.current = 500)))) ∧
  (∀ (s : State) (k : Nat) (b : BalState), s.ac0On = true → k < 4 → s.rings.length = 4 → s.bal[k]? = some b →
    (b.railStart = false → exec (.railStartFailed k) s = .next s) ∧
    (b.railStart = true →
      let recent := b.railFaults.filter (fun x => s.opMs < x + 600000) ++ [s.opMs]
      (recent.length < s.pn 0x080C → ∃ t, exec (.railStartFailed k) s = .next t ∧ t.calm = { s with bal := t.bal }.calm ∧
        t.bal = setAt s.bal k { b with railStart := false, rail := none, railFaults := recent }) ∧
      (s.pn 0x080C ≤ recent.length → b.latchedOff = false → ∃ t, exec (.railStartFailed k) s = .next t ∧
        t.calm = { s with bal := t.bal, rings := t.rings, meas := t.meas }.calm ∧ (t.balOf k).latchedOff = true ∧
        (t.balOf k).stopped = true ∧ asked k s t ∧ (t.balOf k).railFaults = recent ∧
        ∀ l ∈ (t.balOf k).leases, l.held = false)) ∧
    exec (.railFaultHoldEnd k) s = .next { s with bal := setAt s.bal k { b with hold := false } } ∧
    (∀ n l, b.leases[n]? = some l →
      (l.faultBit = true ∨ s.time.now < l.barredFrom + 60000000 → exec (.satelliteExclusionEnd k n) s = .next s) ∧
      (l.faultBit = false → l.barredFrom + 60000000 ≤ s.time.now → exec (.satelliteExclusionEnd k n) s =
        .next { s with bal := setAt s.bal k { b with leases := setAt b.leases n { l with excluded := false } } })))

/-- A loop sample completes, is skipped for an invalid input or is lost to an overrun, and a target fault is judged (R423,
R424, R433, R441, R442, R452, R453, R455). For an enabled running loop at an instant that is a whole multiple of its period,
at which no loop of this number or a later one has sampled (otherwise nothing happens). An overrun advances both overrun
counts, saturating, raises 0x91, and at the loop's limit (0 means LOOP.OVERRUN_LIMIT) puts the loop in HOLD at its output;
nothing but the loop changes. With no command, child, new record or change of the target in play: an AUTO sample with an
invalid process or set-point value is skipped: output and integral stay, the count of invalid samples advances, and at
LOOP.INVALID_LIMIT the loop holds; any other sample in AUTO, MANUAL or HOLD completes: samples counted modulo 2^31, overruns
cleared, the mode stays, and in MANUAL and HOLD integral and manual value stay and the output is the manual value (but for a
current reference, which is clamped). No other loop changes. An instant that is no multiple changes nothing.
LOOP_TARGET_FAULT sets or clears the flag with 0x96 where the target's ability changed. -/
def Obligations.LoopSamples : Prop :=
  (∀ (s : State) (n : Nat) (d : LoopData) (l : LoopState), s.loopsRun = true → n < 32 → s.loop.loops[n]? = some l →
    let w := s.loopWords n
    let at' := s.time.now - s.time.now % 1000 + d.offset
    let limit := if bits (word w 0) 3 0 = 0 then s.pn 0x0B01 else bits (word w 0) 3 0
    (at' % wPeriod w ≠ 0 ∨ s.loopTurn n at' = false → exec (.loopSample n d) s = .next s) ∧
    ((word w 0).testBit 31 = true → l.mode ≠ .off → at' % wPeriod w = 0 → s.loopTurn n at' = true →
      (d.overrun = true →
        ∃ t, exec (.loopSample n d) s = .next t ∧ t.calm = { s with loop := t.loop }.calm ∧
          (∀ j, j ≠ n → t.loopOf j = s.loopOf j) ∧ (t.loopOf n).totalOverruns = min 32767 (l.totalOverruns + 1) ∧
          (t.loopOf n).overruns = min 255 (l.overruns + 1) ∧ (t.loopOf n).uPrev = l.uPrev ∧ (t.loopOf n).integ = l.integ ∧
          (limit ≤ min 255 (l.overruns + 1) → l.mode ≠ .hold → (t.loopOf n).mode = .hold ∧ (t.loopOf n).manual = l.uPrev) ∧
          (min 255 (l.overruns + 1) < limit → (t.loopOf n).mode = l.mode ∧ (t.loopOf n).manual = l.manual)) ∧
      (d.overrun = false → l.words = w → l.commanded = none → l.adopt = none → l.noTrack = false → s.trackChild n = none →
        s.targetFails (word w 0) = l.targetFault → l.mode ≠ .track →
        let pv := s.pvSource w
        let follows := wSpKind w == 5 && (l.mode == .manual || l.mode == .hold) && (s.loopOf (wSpIndex w)).tracks
        let sp : Option Rat := if follows then pv.map (fun x => (x : Rat)) else (s.spSource w).map (fun x => wSp w + wSpScale w * (x : Rat))
        (l.mode = .auto → pv = none ∨ sp = none →
          ∃ t, exec (.loopSample n d) s = .next t ∧ t.calm = { s with loop := t.loop }.calm ∧
            (∀ j, j ≠ n → t.loopOf j = s.loopOf j) ∧ (t.loopOf n).invalids = min 255 (l.invalids + 1) ∧
            (t.loopOf n).uPrev = l.uPrev ∧ (t.loopOf n).integ = l.integ ∧ (t.loopOf n).samples = l.samples ∧
            (s.pn 0x0B02 ≤ min 255 (l.invalids + 1) → (t.loopOf n).mode = .hold ∧ (t.loopOf n).manual = l.uPrev) ∧
            (min 255 (l.invalids + 1) < s.pn 0x0B02 → (t.loopOf n).mode = .auto)) ∧
        (l.mode ≠ .auto ∨ (pv ≠ none ∧ sp ≠ none) →
          ∃ t, exec (.loopSample n d) s = .next t ∧ t.sys = s.sys ∧ t.param = s.param ∧ t.feed = s.feed ∧ t.hv = s.hv ∧
            t.guard = s.guard ∧ t.est = s.est ∧ t.meas = s.meas ∧ (∀ j, j ≠ n → t.loopOf j = s.loopOf j) ∧
            (t.loopOf n).samples = (l.samples + 1) % 2 ^ 31 ∧ (t.loopOf n).overruns = 0 ∧ (t.loopOf n).mode = l.mode ∧
            (l.mode ≠ .auto → (t.loopOf n).integ = l.integ ∧ (t.loopOf n).manual = l.manual ∧
              (bits (word w 0) 10 8 ≠ 4 → (t.loopOf n).uPrev = roundF32 l.manual)))))) ∧
  (∀ (s : State) (n : Nat) (l : LoopState), s.loopsRun = true → s.loop.loops[n]? = some l → l.enabled = true → l.mode ≠ .off →
    (s.targetFails l.config = l.targetFault → exec (.loopTargetFault n) s = .next s) ∧
    (s.targetFails l.config ≠ l.targetFault →
      ∃ t, exec (.loopTargetFault n) s = .next t ∧ t.calm = { s with loop := t.loop }.calm ∧
        (∀ j, j ≠ n → t.loopOf j = s.loopOf j) ∧ t.loopOf n = { l with targetFault := !l.targetFault, nodes := (t.loopOf n).nodes }))

/-- Read-back, overload and short verdicts of an output, its retry, the L+ supervision and an analogue output's fault (R519,
R520, R521, R523, R524, R525, R527). The supervisor domain is on, not in THERMAL_LOCK. FIELD_READBACK of a supplied output
in use stores reading and current; one not commanded that carries more than 10 mA is withdrawn with verdict 7; with
OPEN_CHECK an open load gives verdict 1 and its end verdict 0, each with 0xC5. The first three cut-offs of a sequence give
verdict 2 and a retry, the fourth verdict 3; the retry clears verdict 2 once its second has run, and 60 s without a cut-off
end the sequence. SHORT_SEARCH gives verdict 4 alone, or 5 to both where the partner is commanded on. The L+ warning sets
below 19.2 V and clears above 19.7 V, and between keeps its value; below 14 V the supply is held and its outputs without a
latched verdict take 8 (9 below 5 V, TS included); above 18 V verdicts 8 and 9 end. AO_FAULT takes status and read-back; the
same status again raises nothing. -/
def Obligations.OutputVerdicts : Prop :=
  (∀ (s : State) (o : OutputId) (r : OutputState), s.ac0On = true → s.field.so.length = 12 →
    s.field.go.length = 8 → s.field.ts.length = 4 → r = s.field.out (outNo o) →
    let i := outNo o
    (∀ d : Readback, s.outUsed i = true → (s.field.lplus.getD (outSupply i) {}).missing = false →
      let u := modOut i (fun x => { x with on := d.conducting, current := d.current })
        { s with field := { s.field with reportAt := s.time.now } }
      (s.outCommanded i = false → 10 < d.pole → i < 20 → r.verdict ≤ 3 ∨ r.verdict = 8 →
        ∃ t, exec (.fieldReadback o d) s = .next t ∧ (t.field.out i).verdict = 7 ∧
          (t.field.out i).retry = false ∧ (i < 12 → t.commanded i = false) ∧
          (12 ≤ i → t.field.goDuty = setAt s.field.goDuty (i - 12) 0 ∧ t.sys = s.sys ∧ t.guard = s.guard)) ∧
      (s.outCommanded i = true → s.supplyHeld i = false → s.openCheck i = true →
        (r.verdict = 0 → d.openLoad = true → exec (.fieldReadback o d) s = .next (raise 0xC5 0 9 i [] (setVerdict i 1 u))) ∧
        (r.verdict = 1 → d.openLoad = false → exec (.fieldReadback o d) s = .next (raise 0xC5 0 9 i [] (setVerdict i 0 u)))) ∧
      (s.outCommanded i = true → s.openCheck i = false → exec (.fieldReadback o d) s = .next u)) ∧
    (s.outUsed i = true → s.supplyHeld i = false → s.outCommanded i = true → r.verdict < 2 →
      (r.cutoffs < 3 → ∃ t, exec (.overloadCutoff o) s = .next t ∧ t.calm = { s with field := t.field }.calm ∧
        t.field.out i = { r with cutoffs := r.cutoffs + 1, on := false, current := 0, verdict := 2, retry := true,
                                 cutAt := s.time.now, retryAt := s.time.now + 1000000 }) ∧
      (3 ≤ r.cutoffs → ∃ t, exec (.overloadCutoff o) s = .next t ∧
        (t.field.out i).verdict = 3 ∧ (t.field.out i).cutoffs = r.cutoffs + 1 ∧ (t.field.out i).retry = false ∧
        t.param = s.param ∧ t.sys.lock = s.sys.lock)) ∧
    (r.retry = true → r.verdict = 2 → s.supplyHeld i = false → r.retryAt ≤ s.time.now →
      exec (.overloadRetry o) s =
        .next (modOut i (fun x => { x with verdict := 0, retry := false, onSince := s.time.now }) s)) ∧
    (r.retry = false ∨ r.verdict ≠ 2 ∨ s.supplyHeld i = true ∨ s.time.now < r.retryAt → exec (.overloadRetry o) s = .next s) ∧
    (r.cutAt + 60000000 ≤ s.time.now → exec (.overloadSequenceEnd o) s = .next (modOut i (fun x => { x with cutoffs := 0 }) s)) ∧
    (s.time.now < r.cutAt + 60000000 → exec (.overloadSequenceEnd o) s = .next s) ∧
    (i < 20 → s.outUsed i = true → s.supplyHeld i = false → s.outCommanded i = false → r.verdict < 4 ∨ 7 < r.verdict →
      (∃ t, exec (.shortSearch o none) s = .next t ∧ (t.field.out i).verdict = 4 ∧ (12 ≤ i → t.sys = s.sys)) ∧
      ∀ p, p < 20 → p ≠ i → s.outCommanded p = true → ∃ t, exec (.shortSearch o (some p)) s = .next t ∧ (t.field.out i).verdict = 5 ∧
        (t.field.out i).partner = p ∧ (t.field.out p).verdict = 5 ∧ (t.field.out p).partner = i)) ∧
  (∀ (s : State) (x mv : Nat) (l : LPlus), s.ac0On = true → x < 2 → s.field.lplus[x]? = some l →
    s.field.so.length = 12 → s.field.go.length = 8 → s.field.ts.length = 4 →
    let put := fun (v : LPlus) => ({ s with field := { s.field with lplus := setAt s.field.lplus x v } } : State)
    (l.warning = false → mv < 19200 →
      exec (.lplusWarning x mv true) s = .next (raise (0xC0 + x) 0 5 x [] (put { l with mv := mv, warning := true }))) ∧
    (l.warning = true → 19700 < mv →
      exec (.lplusWarning x mv false) s = .next (raise (0xC0 + x) 0 5 x [] (put { l with mv := mv, warning := false }))) ∧
    (19200 ≤ mv → mv ≤ 19700 → ∀ b, exec (.lplusWarning x mv b) s = .next (put { l with mv := mv })) ∧
    (14000 ≤ mv → exec (.lplusLow x mv) s = .next s) ∧
    (mv < 14000 → ∃ t, exec (.lplusLow x mv) s = .next t ∧ t.param = s.param ∧ t.sys.lock = s.sys.lock ∧
      t.field.lplus = setAt s.field.lplus x { l with mv := mv, held := true, missing := decide (mv < 5000) } ∧
      ∀ i, i < 24 → outSupply i = x → (s.field.out i).verdict < 3 ∨ 7 < (s.field.out i).verdict →
        (mv < 5000 → (t.field.out i).verdict = 9) ∧ (5000 ≤ mv → i < 20 → (t.field.out i).verdict = 8)) ∧
    (l.held = true → 18000 < mv → ∃ t, exec (.lplusRelease x mv) s = .next t ∧ t.calm = { s with field := t.field }.calm ∧
      t.field.lplus = setAt s.field.lplus x { l with mv := mv, held := false, missing := false } ∧
      ∀ i, i < 24 → (outSupply i ≠ x → t.field.out i = s.field.out i) ∧
        (outSupply i = x → t.field.out i = { s.field.out i with
          retryAt := (s.field.out i).retryAt + s.time.now
          verdict := if 8 ≤ (s.field.out i).verdict then (if (s.field.out i).retry = true then 2 else 0) else (s.field.out i).verdict })) ∧
    (l.held = false ∨ mv ≤ 18000 → exec (.lplusRelease x mv) s = .next s)) ∧
  (∀ (s : State) (i code : Nat) (rb : Int) (a : AoState), s.ac0On = true → i < 2 →
    s.field.ao[i]? = some a → s.pn (0x0D32 + i) / 2 ^ 30 ≠ 0 → (code = 0 ∨ code = s.pn (0x0D32 + i) / 2 ^ 30) →
    let back := if code = 0 then aoNominal (s.pn (0x0D32 + i) / 2 ^ 30) a.command else rb
    ∃ t, exec (.aoFault i code rb) s = .next t ∧ t.calm = { s with field := t.field, loop := t.loop }.calm ∧
      t.field = { s.field with ao := setAt s.field.ao i { a with status := code, readback := back } } ∧
      (a.status = code → t.loop = s.loop ∧ t.router = s.router))

/-- Filtered digital inputs, analogue inputs with their burden and wire-break rules, and the pulse inputs' edges, gates and
silence (R511, R526, R528). The supervisor domain is on, not in THERMAL_LOCK. DI_FILTER sets the filtered and unfiltered
state of DI16 to DI23, and only that; other inputs are refused. AI_SAMPLE of a channel in use moves the filter towards the
conversion (0 for a negative voltage) by 1 − e^(−1/τ), at once where τ is 0; a current above 25 mA opens the burden, and in
current mode nothing is taken until it closes after 1 s. A wire break in current mode sets status 1 with 0xCC on a change.
PI_EDGE counts a good edge modulo 2^31 in the gate and takes the period since the last one; a short pulse raises 0xCE and
counts nothing. PI_GATE forms the frequency from the first to the last edge of the gate (two or more), from the last period
(fewer), limited to 125 kHz, with 0xCE where it passes 100 kHz. Without input the frequency is 0. -/
def Obligations.FieldInputs : Prop :=
  ∀ (s : State), s.ac0On = true →
    (∀ (x : Nat) (b : Bool), (16 ≤ x → x < 24 → exec (.diFilter x b) s =
        .next { s with field := { s.field with di := maskSet s.field.di x b, diRaw := maskSet s.field.diRaw x b } }) ∧
      (x < 16 ∨ 24 ≤ x → exec (.diFilter x b) s = .next s)) ∧
    (∀ (i : Nat) (a : AiState), i < 2 → s.field.ai[i]? = some a →
      let mode := s.pn (0x0D30 + i) / 2 ^ 30
      let tau := bits (s.pn (0x0D30 + i)) 15 0
      let put := fun (v : AiState) => ({ s with field := { s.field with ai := setAt s.field.ai i v } } : State)
      (∀ m : Int, (mode = 0 ∨ mode = 1 ∧ a.burdenOpen = true → exec (.aiSample i m) s = .next s) ∧
        (mode = 1 → a.burdenOpen = false → 25000 < m → exec (.aiSample i m) s = .next (put { a with burdenOpen := true, openAt := s.time.now })) ∧
        (mode = 2 ∨ (mode = 1 ∧ m ≤ 25000 ∧ a.burdenOpen = false) →
          let x : Rat := if mode = 2 ∧ m < 0 then 0 else (m : Rat)
          let f : Rat := if tau = 0 then 1 else 1 - expRat (-(1 / (tau : Rat)))
          ∃ t st, exec (.aiSample i m) s = .next t ∧ t.calm = { s with field := t.field }.calm ∧
            t.field = { s.field with ai := setAt s.field.ai i { a with value := roundF32 (a.value + f * (x - a.value)), status := st } })) ∧
      (a.openAt + 1000000 ≤ s.time.now → exec (.aiBurdenReopen i) s = .next (put { a with burdenOpen := false })) ∧
      (s.time.now < a.openAt + 1000000 → exec (.aiBurdenReopen i) s = .next s) ∧
      (∀ b, (mode ≠ 1 ∨ a.wireBreak = b → exec (.aiWireBreak i b) s = .next s) ∧
        (mode = 1 → a.wireBreak ≠ b → (b = true ∨ a.value ≤ 21000) →
          exec (.aiWireBreak i b) s = .next (if a.status = bit b then put { a with wireBreak := b }
            else raise 0xCC 0 5 i [] (put { a with wireBreak := b, status := bit b }))))) ∧
    (∀ (i : Nat) (q : PiState), i < 2 → s.field.pi'[i]? = some q → (s.pn (0x0D36 + i)).testBit 31 = true →
      let put := fun (v : PiState) => ({ s with field := { s.field with pi' := setAt s.field.pi' i v } } : State)
      (∀ stamp, exec (.piEdge i stamp true) s = .next (raise 0xCE 0 5 i [] s) ∧
        (q.edges ≠ 0 → q.last < stamp → exec (.piEdge i stamp false) s =
          .next (put { q with edges := (q.edges + 1) % 2 ^ 31, count := q.count + 1,
                              first := if q.count = 0 then stamp else q.first, last := stamp, period := some (stamp - q.last) })) ∧
        (q.edges = 0 → exec (.piEdge i stamp false) s =
          .next (put { q with edges := 1, count := q.count + 1, first := if q.count = 0 then stamp else q.first,
                              last := stamp }))) ∧
      (∀ f, f = (if 2 ≤ q.count then milliHertz (q.count - 1) (q.last - q.first)
          else match q.period with | some x => milliHertz 1 x | none => 0) →
        (f ≤ 100000000 → exec (.piGate i) s = .next (put { q with mHz := f, count := 0, tooFast := false })) ∧
        (100000000 < f → ∃ t, exec (.piGate i) s = .next t ∧
          t.calm = (put { q with mHz := min 125000000 f, count := 0, tooFast := true }).calm ∧ (q.tooFast = true → t.router = s.router))) ∧
      exec (.piNoInput i) s = .next (put { q with mHz := 0, period := none, count := 0, tooFast := false }))

/-- Bank writes and ownership, handovers, mailbox collisions, ECC errors, the scrubber and the end of a March test (R108,
R626, R627, R628, R629, R630, R634, R635, R636, R638, R642, R643). The supervisor domain and the master's are on; a master
without power does nothing. BANK_WRITE inside an open bank, or its owner's, not READ_ONLY, stores: each byte written reads
back and every other reads as before; one by another master with no handover to it, into a READ_ONLY bank, past the bank or
by the host port stores nothing, counts against the master, shows in its access status and raises 0xD9. The owner word is
taken from owner or supervisor while the bank does not run: READ_ONLY at once, a new owner at OWNER_HANDOVER_EFFECT with
0xD8, when waiting writes are judged. A collision counts for the later port with 0xDA. A corrected error counts for bank and
row with 0x06, the sixteenth of a row marks it with 0xDE; a scrub pass of a row counts each. An uncorrectable error counts
with 0x07 and resets the module for a running code bank or bank 20 and above, makes a code bank that does not run unusable,
holds the loops for 18 and 19, and is a HOLLOW fault for 12 to 17 and the array's operand stores (number 24). A finished
March test repairs up to two rows of a bank and ends. -/
def Obligations.BankAccesses : Prop :=
  (∀ (s : State) (m : Master) (b off : Nat) (l : List Byte) (k : BankState), s.alive = true → s.masterPowered m = true → b < 24 → s.banks.banks[b]? = some k →
    s.banks.banks.length = 24 → Memory.wf s.banks.mem = true →
    (off + l.length ≤ bankBytes → k.readOnly = false → m ≠ .port → k.owner = 0xF ∨ k.owner = masterNo m →
      ∃ t, exec (.bankWrite m b off l) s = .next t ∧ t = accessStatus (masterNo m) false { s with banks := { s.banks with mem := t.banks.mem } } ∧
        ∀ a, Memory.read t.banks.mem a = if bankAddr b off ≤ a ∧ a < bankAddr b off + l.length
          then l.getD (a - bankAddr b off) 0 else Memory.read s.banks.mem a) ∧
    (bankBytes < off + l.length ∨ k.readOnly = true ∨ m = .port ∨ (k.owner ≠ 0xF ∧ k.owner ≠ masterNo m ∧ k.handover = none) →
      exec (.bankWrite m b off l) s = .next (bankConflict (masterNo m) b s)) ∧
    (bankConflict (masterNo m) b s = raise 0xD9 0 7 b [BitVec.ofNat 8 (masterNo m)] { s with banks := { s.banks with
      conflicts := modAt s.banks.conflicts (masterNo m) (fun n => satAdd 32 n 1), refused := setAt s.banks.refused (masterNo m) true } }) ∧
    (∀ w : Word, k.running = false → m = .supervisor ∨ (k.owner ≠ 0xF ∧ k.owner = masterNo m) →
      w.toNat % 16 < 7 ∨ w.toNat % 16 = 15 → w.toNat % 16 ≠ k.owner →
      exec (.bankOwnerWrite m b w) s = .next { s with banks := { s.banks with
        refused := setAt s.banks.refused (masterNo m) false,
        banks := setAt s.banks.banks b { k with readOnly := w.getLsbD 6, handover := some (w.toNat % 16) } } }) ∧
    (∀ w : Word, k.running = true ∨ (m ≠ .supervisor ∧ k.owner ≠ masterNo m) →
      exec (.bankOwnerWrite m b w) s = .next (bankConflict (masterNo m) b s)) ∧
    (∀ n, k.handover = some n → k.waiting = [] →
      ∃ t, exec (.ownerHandoverEffect b) s = .next t ∧ t.calm = { s with banks := t.banks }.calm ∧ t.banks.mem = s.banks.mem ∧
        t.banks.banks = setAt s.banks.banks b { k with owner := n, handover := none, handovers := (k.handovers + 1) % 256 }) ∧
    (k.handover = none → exec (.ownerHandoverEffect b) s = .next s) ∧
    (∀ row, row < 512 →
      let n := (assocGet row k.rows).getD 0 + 1
      let c : BankState := { k with corrected := satAdd 16 k.corrected 1, rows := assocSet row n k.rows }
      (n < 16 → exec (.eccCorrected b row) s =
        .next (raise 0x06 0 7 (b + 256 * row) [] { s with banks := { s.banks with banks := setAt s.banks.banks b c } })) ∧
      (n = 16 → k.marked.contains row = false → ∃ t, exec (.eccCorrected b row) s = .next t ∧
        t.calm = { s with banks := t.banks }.calm ∧
        t.banks = { s.banks with banks := setAt s.banks.banks b { c with marked := k.marked ++ [row] } }) ∧
      (∀ found, s.testing b = true → exec (.scrub b row found) s = .next s) ∧
      (s.testing b = false → exec (.scrub b row 1) s = exec (.eccCorrected b row) s ∧ exec (.scrub b row 0) s = .next s) ∧
      (20 ≤ b ∨ (b < 12 ∧ k.running = true) → ∃ t, exec (.eccUncorrectable b row) s = .next t ∧ t.sys.held = some 0x07 ∧
        t.param.applied = s.param.applied) ∧
      (b < 12 → k.running = false → ∃ t, exec (.eccUncorrectable b row) s = .next t ∧ t.calm = { s with banks := t.banks }.calm ∧
        t.banks = { s.banks with banks := setAt s.banks.banks b { k with uncorrectable := satAdd 16 k.uncorrectable 1, unusable := true } }) ∧
      (18 ≤ b → b < 20 → s.loop.loops.length = 32 → ∃ t, exec (.eccUncorrectable b row) s = .next t ∧ t.sys = s.sys ∧
        ∀ l ∈ t.loop.loops, l.mode = .off ∨ l.mode = .hold))) ∧
  (∀ (s : State) (m : Master) (b off : Nat) (l : List Byte) (w : Word), s.masterPowered m = false →
    exec (.bankWrite m b off l) s = .next s ∧ exec (.bankOwnerWrite m b w) s = .next s) ∧
  (∀ (s : State) (b row : Nat), s.arrayOn = true → s.sys.mode = .standby ∨ s.sys.mode = .run ∨ s.sys.mode = .service → row < 512 →
    12 ≤ b ∧ b < 18 ∨ b = 24 →
    ∃ t, exec (.eccUncorrectable b row) s = .next t ∧ t.sys.mode = .hollow ∧ t.sys.hollowFault = true ∧ t.param.applied = s.param.applied) ∧
  (∀ (s : State) (off : Nat) (later : Bool), s.alive = true → off < 524288 →
    ∀ core, ∃ t, exec (.mailboxCollision off later false core) s = .next t ∧ t.sys = s.sys ∧ t.param = s.param ∧
      t.banks.mem = s.banks.mem ∧
      t.banks.collisions = modAt s.banks.collisions (if later then 6 else 0) (fun n => satAdd 32 n 1) ∧
      t.port = if later then { s.port with collided := true } else s.port) ∧
  (∀ (s : State) (off : Nat) (later : Bool), s.alive = true → off < 524288 →
    ∃ t, exec (.mailboxCollision off later true true) s = .next t ∧ t.port = s.port ∧ t.free = s.free ∧
      t.banks.collisions = modAt s.banks.collisions (if later then 6 else 0) (fun n => satAdd 32 n 1)) ∧
  (∀ (s : State) (bad : List (Nat × Nat)), s.alive = true →
    (s.banks.march = none → exec (.marchTestComplete bad) s = .next s) ∧
    (∀ j, s.banks.march = some j → s.banks.banks.length = 24 → (∀ b, b < 24 → s.beyondRepair bad b = false) →
      ∃ t, exec (.marchTestComplete bad) s = .next t ∧ t.banks.march = none ∧ t.sys = s.sys ∧ t.param = s.param ∧
        (∀ b, b < 24 → (t.bank b).repaired = if maskHas j.mask b then (s.bank b).repaired ++ badRows bad b else (s.bank b).repaired) ∧
        ∀ b off, b < 24 → off < bankBytes → Memory.read t.banks.mem (bankAddr b off) =
          if maskHas j.mask b ∧ j.preserving = false then 0 else Memory.read s.banks.mem (bankAddr b off)))

/-- The silt writer drains the intake in order into its partitions, records close and are rewritten, and each second reports
refusals (R29, R652, R653, R655, R657, R658, R659). With the supervisor domain on. After the quiesce mark of a frame no
record is written: SILT_WRITE, the close of a record and its rewrite change nothing. Before it SILT_WRITE takes intake
records, oldest first, up to 32 in the frame; with one waiting and no overflow to report it gives that record the next
sequence number and its written count and appends it to its partition, the pinned one (1,024) or the ordinary one (16,384),
whose oldest record falls out when full. COALESCE_WINDOW_EXPIRY closes the open record of a sequence number whose window has
passed without an occurrence; OPEN_RECORD_REWRITE writes an open record's count; other records stay. RATE_LIMIT_SECOND acts
once per operating second: without refusals it only opens the new second. Nothing but the log changes. -/
def Obligations.SiltWriter : Prop :=
  ∀ s : State, s.alive = true →
    (s.time.quiesced = true ∨ s.silt.tailOn = true → exec .siltWrite s = .next s) ∧
    (s.time.quiesced = true → ∀ q, exec (.coalesceWindowExpiry q) s = .next s ∧ exec (.openRecordRewrite q) s = .next s) ∧
    (s.time.quiesced = false → s.silt.tailOn = false → s.silt.lost = 0 →
      (s.silt.intake = [] → exec .siltWrite s = .next s) ∧
      (∀ l, s.silt.intake = l → ∃ t, exec .siltWrite s = .next t ∧ t = { s with silt := t.silt } ∧ t.silt.intake = l.drop (32 - s.silt.drained) ∧
        t.silt.nextSeq = Nat.repeat nextSeq (min (32 - s.silt.drained) l.length) s.silt.nextSeq ∧ t.silt.rates = s.silt.rates ∧
        t.silt.drained = s.silt.drained + min (32 - s.silt.drained) l.length) ∧
      (∀ r, s.silt.intake = [r] → s.silt.drained < 32 → ∃ t, exec .siltWrite s = .next t ∧ t = { s with silt := t.silt } ∧ t.silt.intake = [] ∧
        t.silt.nextSeq = (if s.silt.nextSeq + 1 ≥ 0xFFFFFFFF then 0 else s.silt.nextSeq + 1) ∧
        (r.pinned = true → t.silt.ordinary = s.silt.ordinary ∧
          (s.silt.pinned.length < 1024 → t.silt.pinned = s.silt.pinned ++ [{ r with seq := s.silt.nextSeq, writtenRep := r.rep }]) ∧
          (s.silt.pinned.length = 1024 → t.silt.pinned = s.silt.pinned.drop 1 ++ [{ r with seq := s.silt.nextSeq, writtenRep := r.rep }])) ∧
        (r.pinned = false → t.silt.pinned = s.silt.pinned ∧
          (s.silt.ordinary.length < 16384 →
            t.silt.ordinary = s.silt.ordinary ++ [{ r with seq := s.silt.nextSeq, writtenRep := r.rep }]) ∧
          (s.silt.ordinary.length = 16384 →
            t.silt.ordinary = s.silt.ordinary.drop 1 ++ [{ r with seq := s.silt.nextSeq, writtenRep := r.rep }])))) ∧
    (s.time.quiesced = false → ∀ q : Nat,
      let shut := fun (r : SiltRecord) =>
        if r.seq = q ∧ r.isOpen = true ∧ r.lastMs + 1000 * s.pn 0x1302 ≤ s.opMs then { r with isOpen := false, writtenRep := r.rep } else r
      let again := fun (r : SiltRecord) => if r.seq = q ∧ r.isOpen = true then { r with writtenRep := r.rep } else r
      exec (.coalesceWindowExpiry q) s =
        .next { s with silt := { s.silt with ordinary := s.silt.ordinary.map shut, pinned := s.silt.pinned.map shut } } ∧
      exec (.openRecordRewrite q) s =
        .next { s with silt := { s.silt with ordinary := s.silt.ordinary.map again, pinned := s.silt.pinned.map again } }) ∧
    (s.silt.rateSec = s.time.opSec → exec .rateLimitSecond s = .next s) ∧
    (s.silt.rateSec ≠ s.time.opSec → (∀ e ∈ s.silt.rates, e.refused = 0) →
      exec .rateLimitSecond s = .next { s with silt := { s.silt with rates := [], rateSec := s.time.opSec } }) ∧
    (s.silt.rateSec ≠ s.time.opSec → ∃ t, exec .rateLimitSecond s = .next t ∧ t = { s with silt := t.silt } ∧
      t.silt.rateSec = s.time.opSec)
end

