-- ==== Sys2Proof/Laws/Events.lean ====
section
/-! SUPPORT. What raising an event and posting a packet leave alone, field by field. -/
namespace Sys2Proof.Machine
open Sys2Proof

theorem siltEvent_calm (src code kind index : Nat) (detail : List Byte) (s : State) :
    (siltEvent src code kind index detail s).1.calm = s.calm := by
  unfold siltEvent
  extract_lets t window now m coal pin r t' rec'
  clear_value coal rec' r t'
  split
  · rfl
  · split
    · rfl
    · repeat' first | rfl | split

/-- An event changes the router, the silt log and the trace only. -/
@[simp] theorem raise_calm (src code kind index : Nat) (detail : List Byte) (s : State) :
    (raise src code kind index detail s).calm = s.calm := by
  unfold raise
  split
  · rfl
  · extract_lets held full r' x tr lp y q
    have hy : y.calm = s.calm := by
      simp only [y]
      split <;> rfl
    have hq : q.1.calm = s.calm := (siltEvent_calm src code kind index detail y).trans hy
    split
    · split
      · exact hq
      · exact hq
    · exact hy

@[simp] theorem raise0_calm (src : Nat) (s : State) : (raise0 src s).calm = s.calm := raise_calm _ _ _ _ _ _
@[simp] theorem raiseStrand_calm (src k : Nat) (s : State) : (raiseStrand src k s).calm = s.calm := raise_calm _ _ _ _ _ _
@[simp] theorem raiseCell_calm (src c : Nat) (s : State) : (raiseCell src c s).calm = s.calm := raise_calm _ _ _ _ _ _
@[simp] theorem raiseSat_calm (src ring n : Nat) (s : State) : (raiseSat src ring n s).calm = s.calm := raise_calm _ _ _ _ _ _
@[simp] theorem note_calm (src code kind index : Nat) (detail : List Byte) (s : State) :
    (note src code kind index detail s).calm = s.calm := siltEvent_calm _ _ _ _ _ _

@[simp] theorem raise_time (src code kind index : Nat) (detail : List Byte) (s : State) : (raise src code kind index detail s).time = s.time := by
  have h := congrArg State.time (raise_calm src code kind index detail s)
  exact h
@[simp] theorem raise_pins (src code kind index : Nat) (detail : List Byte) (s : State) : (raise src code kind index detail s).pins = s.pins := by
  have h := congrArg State.pins (raise_calm src code kind index detail s)
  exact h
@[simp] theorem raise_sys (src code kind index : Nat) (detail : List Byte) (s : State) : (raise src code kind index detail s).sys = s.sys := by
  have h := congrArg State.sys (raise_calm src code kind index detail s)
  exact h
@[simp] theorem raise_feed (src code kind index : Nat) (detail : List Byte) (s : State) : (raise src code kind index detail s).feed = s.feed := by
  have h := congrArg State.feed (raise_calm src code kind index detail s)
  exact h
@[simp] theorem raise_port (src code kind index : Nat) (detail : List Byte) (s : State) : (raise src code kind index detail s).port = s.port := by
  have h := congrArg State.port (raise_calm src code kind index detail s)
  exact h
@[simp] theorem raise_param (src code kind index : Nat) (detail : List Byte) (s : State) : (raise src code kind index detail s).param = s.param := by
  have h := congrArg State.param (raise_calm src code kind index detail s)
  exact h
@[simp] theorem raise_rings (src code kind index : Nat) (detail : List Byte) (s : State) : (raise src code kind index detail s).rings = s.rings := by
  have h := congrArg State.rings (raise_calm src code kind index detail s)
  exact h
@[simp] theorem raise_meas (src code kind index : Nat) (detail : List Byte) (s : State) : (raise src code kind index detail s).meas = s.meas := by
  have h := congrArg State.meas (raise_calm src code kind index detail s)
  exact h
@[simp] theorem raise_hv (src code kind index : Nat) (detail : List Byte) (s : State) : (raise src code kind index detail s).hv = s.hv := by
  have h := congrArg State.hv (raise_calm src code kind index detail s)
  exact h
@[simp] theorem raise_bal (src code kind index : Nat) (detail : List Byte) (s : State) : (raise src code kind index detail s).bal = s.bal := by
  have h := congrArg State.bal (raise_calm src code kind index detail s)
  exact h
@[simp] theorem raise_guard (src code kind index : Nat) (detail : List Byte) (s : State) : (raise src code kind index detail s).guard = s.guard := by
  have h := congrArg State.guard (raise_calm src code kind index detail s)
  exact h
@[simp] theorem raise_field (src code kind index : Nat) (detail : List Byte) (s : State) : (raise src code kind index detail s).field = s.field := by
  have h := congrArg State.field (raise_calm src code kind index detail s)
  exact h
@[simp] theorem raise_est (src code kind index : Nat) (detail : List Byte) (s : State) : (raise src code kind index detail s).est = s.est := by
  have h := congrArg State.est (raise_calm src code kind index detail s)
  exact h
@[simp] theorem raise_mem (src code kind index : Nat) (detail : List Byte) (s : State) : (raise src code kind index detail s).mem = s.mem := by
  have h := congrArg State.mem (raise_calm src code kind index detail s)
  exact h
@[simp] theorem raise_thermal (src code kind index : Nat) (detail : List Byte) (s : State) : (raise src code kind index detail s).thermal = s.thermal := by
  have h := congrArg State.thermal (raise_calm src code kind index detail s)
  exact h
@[simp] theorem raise_can (src code kind index : Nat) (detail : List Byte) (s : State) : (raise src code kind index detail s).can = s.can := by
  have h := congrArg State.can (raise_calm src code kind index detail s)
  exact h
@[simp] theorem raise_clock (src code kind index : Nat) (detail : List Byte) (s : State) : (raise src code kind index detail s).clock = s.clock := by
  have h := congrArg State.clock (raise_calm src code kind index detail s)
  exact h
@[simp] theorem raise_disp (src code kind index : Nat) (detail : List Byte) (s : State) : (raise src code kind index detail s).disp = s.disp := by
  have h := congrArg State.disp (raise_calm src code kind index detail s)
  exact h
@[simp] theorem raise_tw (src code kind index : Nat) (detail : List Byte) (s : State) : (raise src code kind index detail s).tw = s.tw := by
  have h := congrArg State.tw (raise_calm src code kind index detail s)
  exact h
@[simp] theorem raise_twc (src code kind index : Nat) (detail : List Byte) (s : State) : (raise src code kind index detail s).twc = s.twc := by
  have h := congrArg State.twc (raise_calm src code kind index detail s)
  exact h
@[simp] theorem raise_banks (src code kind index : Nat) (detail : List Byte) (s : State) : (raise src code kind index detail s).banks = s.banks := by
  have h := congrArg State.banks (raise_calm src code kind index detail s)
  exact h
@[simp] theorem raise_upd (src code kind index : Nat) (detail : List Byte) (s : State) : (raise src code kind index detail s).upd = s.upd := by
  have h := congrArg State.upd (raise_calm src code kind index detail s)
  exact h
@[simp] theorem raise_ident (src code kind index : Nat) (detail : List Byte) (s : State) : (raise src code kind index detail s).ident = s.ident := by
  have h := congrArg State.ident (raise_calm src code kind index detail s)
  exact h
@[simp] theorem raise_free (src code kind index : Nat) (detail : List Byte) (s : State) : (raise src code kind index detail s).free = s.free := by
  have h := congrArg State.free (raise_calm src code kind index detail s)
  exact h
@[simp] theorem raise_pending (src code kind index : Nat) (detail : List Byte) (s : State) : (raise src code kind index detail s).pending = s.pending := by
  have h := congrArg State.pending (raise_calm src code kind index detail s)
  exact h
@[simp] theorem raise_loops (src code kind index : Nat) (detail : List Byte) (s : State) : (raise src code kind index detail s).loop.loops = s.loop.loops := by
  have h := congrArg (fun t => t.loop.loops) (raise_calm src code kind index detail s)
  exact h
@[simp] theorem raise0_time (src : Nat) (s : State) : (raise0 src s).time = s.time := by
  have h := congrArg State.time (raise0_calm src s)
  exact h
@[simp] theorem raise0_pins (src : Nat) (s : State) : (raise0 src s).pins = s.pins := by
  have h := congrArg State.pins (raise0_calm src s)
  exact h
@[simp] theorem raise0_sys (src : Nat) (s : State) : (raise0 src s).sys = s.sys := by
  have h := congrArg State.sys (raise0_calm src s)
  exact h
@[simp] theorem raise0_feed (src : Nat) (s : State) : (raise0 src s).feed = s.feed := by
  have h := congrArg State.feed (raise0_calm src s)
  exact h
@[simp] theorem raise0_port (src : Nat) (s : State) : (raise0 src s).port = s.port := by
  have h := congrArg State.port (raise0_calm src s)
  exact h
@[simp] theorem raise0_param (src : Nat) (s : State) : (raise0 src s).param = s.param := by
  have h := congrArg State.param (raise0_calm src s)
  exact h
@[simp] theorem raise0_rings (src : Nat) (s : State) : (raise0 src s).rings = s.rings := by
  have h := congrArg State.rings (raise0_calm src s)
  exact h
@[simp] theorem raise0_meas (src : Nat) (s : State) : (raise0 src s).meas = s.meas := by
  have h := congrArg State.meas (raise0_calm src s)
  exact h
@[simp] theorem raise0_hv (src : Nat) (s : State) : (raise0 src s).hv = s.hv := by
  have h := congrArg State.hv (raise0_calm src s)
  exact h
@[simp] theorem raise0_bal (src : Nat) (s : State) : (raise0 src s).bal = s.bal := by
  have h := congrArg State.bal (raise0_calm src s)
  exact h
@[simp] theorem raise0_guard (src : Nat) (s : State) : (raise0 src s).guard = s.guard := by
  have h := congrArg State.guard (raise0_calm src s)
  exact h
@[simp] theorem raise0_field (src : Nat) (s : State) : (raise0 src s).field = s.field := by
  have h := congrArg State.field (raise0_calm src s)
  exact h
@[simp] theorem raise0_est (src : Nat) (s : State) : (raise0 src s).est = s.est := by
  have h := congrArg State.est (raise0_calm src s)
  exact h
@[simp] theorem raise0_mem (src : Nat) (s : State) : (raise0 src s).mem = s.mem := by
  have h := congrArg State.mem (raise0_calm src s)
  exact h
@[simp] theorem raise0_thermal (src : Nat) (s : State) : (raise0 src s).thermal = s.thermal := by
  have h := congrArg State.thermal (raise0_calm src s)
  exact h
@[simp] theorem raise0_can (src : Nat) (s : State) : (raise0 src s).can = s.can := by
  have h := congrArg State.can (raise0_calm src s)
  exact h
@[simp] theorem raise0_clock (src : Nat) (s : State) : (raise0 src s).clock = s.clock := by
  have h := congrArg State.clock (raise0_calm src s)
  exact h
@[simp] theorem raise0_disp (src : Nat) (s : State) : (raise0 src s).disp = s.disp := by
  have h := congrArg State.disp (raise0_calm src s)
  exact h
@[simp] theorem raise0_tw (src : Nat) (s : State) : (raise0 src s).tw = s.tw := by
  have h := congrArg State.tw (raise0_calm src s)
  exact h
@[simp] theorem raise0_twc (src : Nat) (s : State) : (raise0 src s).twc = s.twc := by
  have h := congrArg State.twc (raise0_calm src s)
  exact h
@[simp] theorem raise0_banks (src : Nat) (s : State) : (raise0 src s).banks = s.banks := by
  have h := congrArg State.banks (raise0_calm src s)
  exact h
@[simp] theorem raise0_upd (src : Nat) (s : State) : (raise0 src s).upd = s.upd := by
  have h := congrArg State.upd (raise0_calm src s)
  exact h
@[simp] theorem raise0_ident (src : Nat) (s : State) : (raise0 src s).ident = s.ident := by
  have h := congrArg State.ident (raise0_calm src s)
  exact h
@[simp] theorem raise0_free (src : Nat) (s : State) : (raise0 src s).free = s.free := by
  have h := congrArg State.free (raise0_calm src s)
  exact h
@[simp] theorem raise0_pending (src : Nat) (s : State) : (raise0 src s).pending = s.pending := by
  have h := congrArg State.pending (raise0_calm src s)
  exact h
@[simp] theorem raise0_loops (src : Nat) (s : State) : (raise0 src s).loop.loops = s.loop.loops := by
  have h := congrArg (fun t => t.loop.loops) (raise0_calm src s)
  exact h
@[simp] theorem raiseStrand_time (src k : Nat) (s : State) : (raiseStrand src k s).time = s.time := by
  have h := congrArg State.time (raiseStrand_calm src k s)
  exact h
@[simp] theorem raiseStrand_pins (src k : Nat) (s : State) : (raiseStrand src k s).pins = s.pins := by
  have h := congrArg State.pins (raiseStrand_calm src k s)
  exact h
@[simp] theorem raiseStrand_sys (src k : Nat) (s : State) : (raiseStrand src k s).sys = s.sys := by
  have h := congrArg State.sys (raiseStrand_calm src k s)
  exact h
@[simp] theorem raiseStrand_feed (src k : Nat) (s : State) : (raiseStrand src k s).feed = s.feed := by
  have h := congrArg State.feed (raiseStrand_calm src k s)
  exact h
@[simp] theorem raiseStrand_port (src k : Nat) (s : State) : (raiseStrand src k s).port = s.port := by
  have h := congrArg State.port (raiseStrand_calm src k s)
  exact h
@[simp] theorem raiseStrand_param (src k : Nat) (s : State) : (raiseStrand src k s).param = s.param := by
  have h := congrArg State.param (raiseStrand_calm src k s)
  exact h
@[simp] theorem raiseStrand_rings (src k : Nat) (s : State) : (raiseStrand src k s).rings = s.rings := by
  have h := congrArg State.rings (raiseStrand_calm src k s)
  exact h
@[simp] theorem raiseStrand_meas (src k : Nat) (s : State) : (raiseStrand src k s).meas = s.meas := by
  have h := congrArg State.meas (raiseStrand_calm src k s)
  exact h
@[simp] theorem raiseStrand_hv (src k : Nat) (s : State) : (raiseStrand src k s).hv = s.hv := by
  have h := congrArg State.hv (raiseStrand_calm src k s)
  exact h
@[simp] theorem raiseStrand_bal (src k : Nat) (s : State) : (raiseStrand src k s).bal = s.bal := by
  have h := congrArg State.bal (raiseStrand_calm src k s)
  exact h
@[simp] theorem raiseStrand_guard (src k : Nat) (s : State) : (raiseStrand src k s).guard = s.guard := by
  have h := congrArg State.guard (raiseStrand_calm src k s)
  exact h
@[simp] theorem raiseStrand_field (src k : Nat) (s : State) : (raiseStrand src k s).field = s.field := by
  have h := congrArg State.field (raiseStrand_calm src k s)
  exact h
@[simp] theorem raiseStrand_est (src k : Nat) (s : State) : (raiseStrand src k s).est = s.est := by
  have h := congrArg State.est (raiseStrand_calm src k s)
  exact h
@[simp] theorem raiseStrand_mem (src k : Nat) (s : State) : (raiseStrand src k s).mem = s.mem := by
  have h := congrArg State.mem (raiseStrand_calm src k s)
  exact h
@[simp] theorem raiseStrand_thermal (src k : Nat) (s : State) : (raiseStrand src k s).thermal = s.thermal := by
  have h := congrArg State.thermal (raiseStrand_calm src k s)
  exact h
@[simp] theorem raiseStrand_can (src k : Nat) (s : State) : (raiseStrand src k s).can = s.can := by
  have h := congrArg State.can (raiseStrand_calm src k s)
  exact h
@[simp] theorem raiseStrand_clock (src k : Nat) (s : State) : (raiseStrand src k s).clock = s.clock := by
  have h := congrArg State.clock (raiseStrand_calm src k s)
  exact h
@[simp] theorem raiseStrand_disp (src k : Nat) (s : State) : (raiseStrand src k s).disp = s.disp := by
  have h := congrArg State.disp (raiseStrand_calm src k s)
  exact h
@[simp] theorem raiseStrand_tw (src k : Nat) (s : State) : (raiseStrand src k s).tw = s.tw := by
  have h := congrArg State.tw (raiseStrand_calm src k s)
  exact h
@[simp] theorem raiseStrand_twc (src k : Nat) (s : State) : (raiseStrand src k s).twc = s.twc := by
  have h := congrArg State.twc (raiseStrand_calm src k s)
  exact h
@[simp] theorem raiseStrand_banks (src k : Nat) (s : State) : (raiseStrand src k s).banks = s.banks := by
  have h := congrArg State.banks (raiseStrand_calm src k s)
  exact h
@[simp] theorem raiseStrand_upd (src k : Nat) (s : State) : (raiseStrand src k s).upd = s.upd := by
  have h := congrArg State.upd (raiseStrand_calm src k s)
  exact h
@[simp] theorem raiseStrand_ident (src k : Nat) (s : State) : (raiseStrand src k s).ident = s.ident := by
  have h := congrArg State.ident (raiseStrand_calm src k s)
  exact h
@[simp] theorem raiseStrand_free (src k : Nat) (s : State) : (raiseStrand src k s).free = s.free := by
  have h := congrArg State.free (raiseStrand_calm src k s)
  exact h
@[simp] theorem raiseStrand_pending (src k : Nat) (s : State) : (raiseStrand src k s).pending = s.pending := by
  have h := congrArg State.pending (raiseStrand_calm src k s)
  exact h
@[simp] theorem raiseStrand_loops (src k : Nat) (s : State) : (raiseStrand src k s).loop.loops = s.loop.loops := by
  have h := congrArg (fun t => t.loop.loops) (raiseStrand_calm src k s)
  exact h
@[simp] theorem raiseCell_time (src c : Nat) (s : State) : (raiseCell src c s).time = s.time := by
  have h := congrArg State.time (raiseCell_calm src c s)
  exact h
@[simp] theorem raiseCell_pins (src c : Nat) (s : State) : (raiseCell src c s).pins = s.pins := by
  have h := congrArg State.pins (raiseCell_calm src c s)
  exact h
@[simp] theorem raiseCell_sys (src c : Nat) (s : State) : (raiseCell src c s).sys = s.sys := by
  have h := congrArg State.sys (raiseCell_calm src c s)
  exact h
@[simp] theorem raiseCell_feed (src c : Nat) (s : State) : (raiseCell src c s).feed = s.feed := by
  have h := congrArg State.feed (raiseCell_calm src c s)
  exact h
@[simp] theorem raiseCell_port (src c : Nat) (s : State) : (raiseCell src c s).port = s.port := by
  have h := congrArg State.port (raiseCell_calm src c s)
  exact h
@[simp] theorem raiseCell_param (src c : Nat) (s : State) : (raiseCell src c s).param = s.param := by
  have h := congrArg State.param (raiseCell_calm src c s)
  exact h
@[simp] theorem raiseCell_rings (src c : Nat) (s : State) : (raiseCell src c s).rings = s.rings := by
  have h := congrArg State.rings (raiseCell_calm src c s)
  exact h
@[simp] theorem raiseCell_meas (src c : Nat) (s : State) : (raiseCell src c s).meas = s.meas := by
  have h := congrArg State.meas (raiseCell_calm src c s)
  exact h
@[simp] theorem raiseCell_hv (src c : Nat) (s : State) : (raiseCell src c s).hv = s.hv := by
  have h := congrArg State.hv (raiseCell_calm src c s)
  exact h
@[simp] theorem raiseCell_bal (src c : Nat) (s : State) : (raiseCell src c s).bal = s.bal := by
  have h := congrArg State.bal (raiseCell_calm src c s)
  exact h
@[simp] theorem raiseCell_guard (src c : Nat) (s : State) : (raiseCell src c s).guard = s.guard := by
  have h := congrArg State.guard (raiseCell_calm src c s)
  exact h
@[simp] theorem raiseCell_field (src c : Nat) (s : State) : (raiseCell src c s).field = s.field := by
  have h := congrArg State.field (raiseCell_calm src c s)
  exact h
@[simp] theorem raiseCell_est (src c : Nat) (s : State) : (raiseCell src c s).est = s.est := by
  have h := congrArg State.est (raiseCell_calm src c s)
  exact h
@[simp] theorem raiseCell_mem (src c : Nat) (s : State) : (raiseCell src c s).mem = s.mem := by
  have h := congrArg State.mem (raiseCell_calm src c s)
  exact h
@[simp] theorem raiseCell_thermal (src c : Nat) (s : State) : (raiseCell src c s).thermal = s.thermal := by
  have h := congrArg State.thermal (raiseCell_calm src c s)
  exact h
@[simp] theorem raiseCell_can (src c : Nat) (s : State) : (raiseCell src c s).can = s.can := by
  have h := congrArg State.can (raiseCell_calm src c s)
  exact h
@[simp] theorem raiseCell_clock (src c : Nat) (s : State) : (raiseCell src c s).clock = s.clock := by
  have h := congrArg State.clock (raiseCell_calm src c s)
  exact h
@[simp] theorem raiseCell_disp (src c : Nat) (s : State) : (raiseCell src c s).disp = s.disp := by
  have h := congrArg State.disp (raiseCell_calm src c s)
  exact h
@[simp] theorem raiseCell_tw (src c : Nat) (s : State) : (raiseCell src c s).tw = s.tw := by
  have h := congrArg State.tw (raiseCell_calm src c s)
  exact h
@[simp] theorem raiseCell_twc (src c : Nat) (s : State) : (raiseCell src c s).twc = s.twc := by
  have h := congrArg State.twc (raiseCell_calm src c s)
  exact h
@[simp] theorem raiseCell_banks (src c : Nat) (s : State) : (raiseCell src c s).banks = s.banks := by
  have h := congrArg State.banks (raiseCell_calm src c s)
  exact h
@[simp] theorem raiseCell_upd (src c : Nat) (s : State) : (raiseCell src c s).upd = s.upd := by
  have h := congrArg State.upd (raiseCell_calm src c s)
  exact h
@[simp] theorem raiseCell_ident (src c : Nat) (s : State) : (raiseCell src c s).ident = s.ident := by
  have h := congrArg State.ident (raiseCell_calm src c s)
  exact h
@[simp] theorem raiseCell_free (src c : Nat) (s : State) : (raiseCell src c s).free = s.free := by
  have h := congrArg State.free (raiseCell_calm src c s)
  exact h
@[simp] theorem raiseCell_pending (src c : Nat) (s : State) : (raiseCell src c s).pending = s.pending := by
  have h := congrArg State.pending (raiseCell_calm src c s)
  exact h
@[simp] theorem raiseCell_loops (src c : Nat) (s : State) : (raiseCell src c s).loop.loops = s.loop.loops := by
  have h := congrArg (fun t => t.loop.loops) (raiseCell_calm src c s)
  exact h
@[simp] theorem raiseSat_time (src ring n : Nat) (s : State) : (raiseSat src ring n s).time = s.time := by
  have h := congrArg State.time (raiseSat_calm src ring n s)
  exact h
@[simp] theorem raiseSat_pins (src ring n : Nat) (s : State) : (raiseSat src ring n s).pins = s.pins := by
  have h := congrArg State.pins (raiseSat_calm src ring n s)
  exact h
@[simp] theorem raiseSat_sys (src ring n : Nat) (s : State) : (raiseSat src ring n s).sys = s.sys := by
  have h := congrArg State.sys (raiseSat_calm src ring n s)
  exact h
@[simp] theorem raiseSat_feed (src ring n : Nat) (s : State) : (raiseSat src ring n s).feed = s.feed := by
  have h := congrArg State.feed (raiseSat_calm src ring n s)
  exact h
@[simp] theorem raiseSat_port (src ring n : Nat) (s : State) : (raiseSat src ring n s).port = s.port := by
  have h := congrArg State.port (raiseSat_calm src ring n s)
  exact h
@[simp] theorem raiseSat_param (src ring n : Nat) (s : State) : (raiseSat src ring n s).param = s.param := by
  have h := congrArg State.param (raiseSat_calm src ring n s)
  exact h
@[simp] theorem raiseSat_rings (src ring n : Nat) (s : State) : (raiseSat src ring n s).rings = s.rings := by
  have h := congrArg State.rings (raiseSat_calm src ring n s)
  exact h
@[simp] theorem raiseSat_meas (src ring n : Nat) (s : State) : (raiseSat src ring n s).meas = s.meas := by
  have h := congrArg State.meas (raiseSat_calm src ring n s)
  exact h
@[simp] theorem raiseSat_hv (src ring n : Nat) (s : State) : (raiseSat src ring n s).hv = s.hv := by
  have h := congrArg State.hv (raiseSat_calm src ring n s)
  exact h
@[simp] theorem raiseSat_bal (src ring n : Nat) (s : State) : (raiseSat src ring n s).bal = s.bal := by
  have h := congrArg State.bal (raiseSat_calm src ring n s)
  exact h
@[simp] theorem raiseSat_guard (src ring n : Nat) (s : State) : (raiseSat src ring n s).guard = s.guard := by
  have h := congrArg State.guard (raiseSat_calm src ring n s)
  exact h
@[simp] theorem raiseSat_field (src ring n : Nat) (s : State) : (raiseSat src ring n s).field = s.field := by
  have h := congrArg State.field (raiseSat_calm src ring n s)
  exact h
@[simp] theorem raiseSat_est (src ring n : Nat) (s : State) : (raiseSat src ring n s).est = s.est := by
  have h := congrArg State.est (raiseSat_calm src ring n s)
  exact h
@[simp] theorem raiseSat_mem (src ring n : Nat) (s : State) : (raiseSat src ring n s).mem = s.mem := by
  have h := congrArg State.mem (raiseSat_calm src ring n s)
  exact h
@[simp] theorem raiseSat_thermal (src ring n : Nat) (s : State) : (raiseSat src ring n s).thermal = s.thermal := by
  have h := congrArg State.thermal (raiseSat_calm src ring n s)
  exact h
@[simp] theorem raiseSat_can (src ring n : Nat) (s : State) : (raiseSat src ring n s).can = s.can := by
  have h := congrArg State.can (raiseSat_calm src ring n s)
  exact h
@[simp] theorem raiseSat_clock (src ring n : Nat) (s : State) : (raiseSat src ring n s).clock = s.clock := by
  have h := congrArg State.clock (raiseSat_calm src ring n s)
  exact h
@[simp] theorem raiseSat_disp (src ring n : Nat) (s : State) : (raiseSat src ring n s).disp = s.disp := by
  have h := congrArg State.disp (raiseSat_calm src ring n s)
  exact h
@[simp] theorem raiseSat_tw (src ring n : Nat) (s : State) : (raiseSat src ring n s).tw = s.tw := by
  have h := congrArg State.tw (raiseSat_calm src ring n s)
  exact h
@[simp] theorem raiseSat_twc (src ring n : Nat) (s : State) : (raiseSat src ring n s).twc = s.twc := by
  have h := congrArg State.twc (raiseSat_calm src ring n s)
  exact h
@[simp] theorem raiseSat_banks (src ring n : Nat) (s : State) : (raiseSat src ring n s).banks = s.banks := by
  have h := congrArg State.banks (raiseSat_calm src ring n s)
  exact h
@[simp] theorem raiseSat_upd (src ring n : Nat) (s : State) : (raiseSat src ring n s).upd = s.upd := by
  have h := congrArg State.upd (raiseSat_calm src ring n s)
  exact h
@[simp] theorem raiseSat_ident (src ring n : Nat) (s : State) : (raiseSat src ring n s).ident = s.ident := by
  have h := congrArg State.ident (raiseSat_calm src ring n s)
  exact h
@[simp] theorem raiseSat_free (src ring n : Nat) (s : State) : (raiseSat src ring n s).free = s.free := by
  have h := congrArg State.free (raiseSat_calm src ring n s)
  exact h
@[simp] theorem raiseSat_pending (src ring n : Nat) (s : State) : (raiseSat src ring n s).pending = s.pending := by
  have h := congrArg State.pending (raiseSat_calm src ring n s)
  exact h
@[simp] theorem raiseSat_loops (src ring n : Nat) (s : State) : (raiseSat src ring n s).loop.loops = s.loop.loops := by
  have h := congrArg (fun t => t.loop.loops) (raiseSat_calm src ring n s)
  exact h
@[simp] theorem note_time (src code kind index : Nat) (detail : List Byte) (s : State) : (note src code kind index detail s).time = s.time := by
  have h := congrArg State.time (note_calm src code kind index detail s)
  exact h
@[simp] theorem note_pins (src code kind index : Nat) (detail : List Byte) (s : State) : (note src code kind index detail s).pins = s.pins := by
  have h := congrArg State.pins (note_calm src code kind index detail s)
  exact h
@[simp] theorem note_sys (src code kind index : Nat) (detail : List Byte) (s : State) : (note src code kind index detail s).sys = s.sys := by
  have h := congrArg State.sys (note_calm src code kind index detail s)
  exact h
@[simp] theorem note_feed (src code kind index : Nat) (detail : List Byte) (s : State) : (note src code kind index detail s).feed = s.feed := by
  have h := congrArg State.feed (note_calm src code kind index detail s)
  exact h
@[simp] theorem note_port (src code kind index : Nat) (detail : List Byte) (s : State) : (note src code kind index detail s).port = s.port := by
  have h := congrArg State.port (note_calm src code kind index detail s)
  exact h
@[simp] theorem note_param (src code kind index : Nat) (detail : List Byte) (s : State) : (note src code kind index detail s).param = s.param := by
  have h := congrArg State.param (note_calm src code kind index detail s)
  exact h
@[simp] theorem note_rings (src code kind index : Nat) (detail : List Byte) (s : State) : (note src code kind index detail s).rings = s.rings := by
  have h := congrArg State.rings (note_calm src code kind index detail s)
  exact h
@[simp] theorem note_meas (src code kind index : Nat) (detail : List Byte) (s : State) : (note src code kind index detail s).meas = s.meas := by
  have h := congrArg State.meas (note_calm src code kind index detail s)
  exact h
@[simp] theorem note_hv (src code kind index : Nat) (detail : List Byte) (s : State) : (note src code kind index detail s).hv = s.hv := by
  have h := congrArg State.hv (note_calm src code kind index detail s)
  exact h
@[simp] theorem note_bal (src code kind index : Nat) (detail : List Byte) (s : State) : (note src code kind index detail s).bal = s.bal := by
  have h := congrArg State.bal (note_calm src code kind index detail s)
  exact h
@[simp] theorem note_guard (src code kind index : Nat) (detail : List Byte) (s : State) : (note src code kind index detail s).guard = s.guard := by
  have h := congrArg State.guard (note_calm src code kind index detail s)
  exact h
@[simp] theorem note_field (src code kind index : Nat) (detail : List Byte) (s : State) : (note src code kind index detail s).field = s.field := by
  have h := congrArg State.field (note_calm src code kind index detail s)
  exact h
@[simp] theorem note_est (src code kind index : Nat) (detail : List Byte) (s : State) : (note src code kind index detail s).est = s.est := by
  have h := congrArg State.est (note_calm src code kind index detail s)
  exact h
@[simp] theorem note_mem (src code kind index : Nat) (detail : List Byte) (s : State) : (note src code kind index detail s).mem = s.mem := by
  have h := congrArg State.mem (note_calm src code kind index detail s)
  exact h
@[simp] theorem note_thermal (src code kind index : Nat) (detail : List Byte) (s : State) : (note src code kind index detail s).thermal = s.thermal := by
  have h := congrArg State.thermal (note_calm src code kind index detail s)
  exact h
@[simp] theorem note_can (src code kind index : Nat) (detail : List Byte) (s : State) : (note src code kind index detail s).can = s.can := by
  have h := congrArg State.can (note_calm src code kind index detail s)
  exact h
@[simp] theorem note_clock (src code kind index : Nat) (detail : List Byte) (s : State) : (note src code kind index detail s).clock = s.clock := by
  have h := congrArg State.clock (note_calm src code kind index detail s)
  exact h
@[simp] theorem note_disp (src code kind index : Nat) (detail : List Byte) (s : State) : (note src code kind index detail s).disp = s.disp := by
  have h := congrArg State.disp (note_calm src code kind index detail s)
  exact h
@[simp] theorem note_tw (src code kind index : Nat) (detail : List Byte) (s : State) : (note src code kind index detail s).tw = s.tw := by
  have h := congrArg State.tw (note_calm src code kind index detail s)
  exact h
@[simp] theorem note_twc (src code kind index : Nat) (detail : List Byte) (s : State) : (note src code kind index detail s).twc = s.twc := by
  have h := congrArg State.twc (note_calm src code kind index detail s)
  exact h
@[simp] theorem note_banks (src code kind index : Nat) (detail : List Byte) (s : State) : (note src code kind index detail s).banks = s.banks := by
  have h := congrArg State.banks (note_calm src code kind index detail s)
  exact h
@[simp] theorem note_upd (src code kind index : Nat) (detail : List Byte) (s : State) : (note src code kind index detail s).upd = s.upd := by
  have h := congrArg State.upd (note_calm src code kind index detail s)
  exact h
@[simp] theorem note_ident (src code kind index : Nat) (detail : List Byte) (s : State) : (note src code kind index detail s).ident = s.ident := by
  have h := congrArg State.ident (note_calm src code kind index detail s)
  exact h
@[simp] theorem note_free (src code kind index : Nat) (detail : List Byte) (s : State) : (note src code kind index detail s).free = s.free := by
  have h := congrArg State.free (note_calm src code kind index detail s)
  exact h
@[simp] theorem note_pending (src code kind index : Nat) (detail : List Byte) (s : State) : (note src code kind index detail s).pending = s.pending := by
  have h := congrArg State.pending (note_calm src code kind index detail s)
  exact h
@[simp] theorem note_loops (src code kind index : Nat) (detail : List Byte) (s : State) : (note src code kind index detail s).loop.loops = s.loop.loops := by
  have h := congrArg (fun t => t.loop.loops) (note_calm src code kind index detail s)
  exact h
@[simp] theorem feedEvent_time (src : Nat) (detail : List Byte) (s : State) : (feedEvent src detail s).time = s.time := by
  simp [feedEvent]
@[simp] theorem feedEvent_pins (src : Nat) (detail : List Byte) (s : State) : (feedEvent src detail s).pins = s.pins := by
  simp [feedEvent]
@[simp] theorem feedEvent_sys (src : Nat) (detail : List Byte) (s : State) : (feedEvent src detail s).sys = s.sys := by
  simp [feedEvent]
@[simp] theorem feedEvent_port (src : Nat) (detail : List Byte) (s : State) : (feedEvent src detail s).port = s.port := by
  simp [feedEvent]
@[simp] theorem feedEvent_param (src : Nat) (detail : List Byte) (s : State) : (feedEvent src detail s).param = s.param := by
  simp [feedEvent]
@[simp] theorem feedEvent_rings (src : Nat) (detail : List Byte) (s : State) : (feedEvent src detail s).rings = s.rings := by
  simp [feedEvent]
@[simp] theorem feedEvent_meas (src : Nat) (detail : List Byte) (s : State) : (feedEvent src detail s).meas = s.meas := by
  simp [feedEvent]
@[simp] theorem feedEvent_hv (src : Nat) (detail : List Byte) (s : State) : (feedEvent src detail s).hv = s.hv := by
  simp [feedEvent]
@[simp] theorem feedEvent_bal (src : Nat) (detail : List Byte) (s : State) : (feedEvent src detail s).bal = s.bal := by
  simp [feedEvent]
@[simp] theorem feedEvent_guard (src : Nat) (detail : List Byte) (s : State) : (feedEvent src detail s).guard = s.guard := by
  simp [feedEvent]
@[simp] theorem feedEvent_field (src : Nat) (detail : List Byte) (s : State) : (feedEvent src detail s).field = s.field := by
  simp [feedEvent]
@[simp] theorem feedEvent_est (src : Nat) (detail : List Byte) (s : State) : (feedEvent src detail s).est = s.est := by
  simp [feedEvent]
@[simp] theorem feedEvent_mem (src : Nat) (detail : List Byte) (s : State) : (feedEvent src detail s).mem = s.mem := by
  simp [feedEvent]
@[simp] theorem feedEvent_thermal (src : Nat) (detail : List Byte) (s : State) : (feedEvent src detail s).thermal = s.thermal := by
  simp [feedEvent]
@[simp] theorem feedEvent_can (src : Nat) (detail : List Byte) (s : State) : (feedEvent src detail s).can = s.can := by
  simp [feedEvent]
@[simp] theorem feedEvent_clock (src : Nat) (detail : List Byte) (s : State) : (feedEvent src detail s).clock = s.clock := by
  simp [feedEvent]
@[simp] theorem feedEvent_disp (src : Nat) (detail : List Byte) (s : State) : (feedEvent src detail s).disp = s.disp := by
  simp [feedEvent]
@[simp] theorem feedEvent_tw (src : Nat) (detail : List Byte) (s : State) : (feedEvent src detail s).tw = s.tw := by
  simp [feedEvent]
@[simp] theorem feedEvent_twc (src : Nat) (detail : List Byte) (s : State) : (feedEvent src detail s).twc = s.twc := by
  simp [feedEvent]
@[simp] theorem feedEvent_banks (src : Nat) (detail : List Byte) (s : State) : (feedEvent src detail s).banks = s.banks := by
  simp [feedEvent]
@[simp] theorem feedEvent_upd (src : Nat) (detail : List Byte) (s : State) : (feedEvent src detail s).upd = s.upd := by
  simp [feedEvent]
@[simp] theorem feedEvent_ident (src : Nat) (detail : List Byte) (s : State) : (feedEvent src detail s).ident = s.ident := by
  simp [feedEvent]
@[simp] theorem feedEvent_free (src : Nat) (detail : List Byte) (s : State) : (feedEvent src detail s).free = s.free := by
  simp [feedEvent]
@[simp] theorem feedEvent_pending (src : Nat) (detail : List Byte) (s : State) : (feedEvent src detail s).pending = s.pending := by
  simp [feedEvent]
@[simp] theorem reply_time (p : Port) (op : Nat) (tag : Half) (st detail : Nat) (result : List Byte) (s : State) :
    (reply p op tag st detail result s).time = s.time := by
  cases p <;> (unfold reply postKept irq State.setOut; dsimp only; split <;> rfl)
@[simp] theorem reply_pins (p : Port) (op : Nat) (tag : Half) (st detail : Nat) (result : List Byte) (s : State) :
    (reply p op tag st detail result s).pins = s.pins := by
  cases p <;> (unfold reply postKept irq State.setOut; dsimp only; split <;> rfl)
@[simp] theorem reply_sys (p : Port) (op : Nat) (tag : Half) (st detail : Nat) (result : List Byte) (s : State) :
    (reply p op tag st detail result s).sys = s.sys := by
  cases p <;> (unfold reply postKept irq State.setOut; dsimp only; split <;> rfl)
@[simp] theorem reply_feed (p : Port) (op : Nat) (tag : Half) (st detail : Nat) (result : List Byte) (s : State) :
    (reply p op tag st detail result s).feed = s.feed := by
  cases p <;> (unfold reply postKept irq State.setOut; dsimp only; split <;> rfl)
@[simp] theorem reply_router (p : Port) (op : Nat) (tag : Half) (st detail : Nat) (result : List Byte) (s : State) :
    (reply p op tag st detail result s).router = s.router := by
  cases p <;> (unfold reply postKept irq State.setOut; dsimp only; split <;> rfl)
@[simp] theorem reply_silt (p : Port) (op : Nat) (tag : Half) (st detail : Nat) (result : List Byte) (s : State) :
    (reply p op tag st detail result s).silt = s.silt := by
  cases p <;> (unfold reply postKept irq State.setOut; dsimp only; split <;> rfl)
@[simp] theorem reply_param (p : Port) (op : Nat) (tag : Half) (st detail : Nat) (result : List Byte) (s : State) :
    (reply p op tag st detail result s).param = s.param := by
  cases p <;> (unfold reply postKept irq State.setOut; dsimp only; split <;> rfl)
@[simp] theorem reply_rings (p : Port) (op : Nat) (tag : Half) (st detail : Nat) (result : List Byte) (s : State) :
    (reply p op tag st detail result s).rings = s.rings := by
  cases p <;> (unfold reply postKept irq State.setOut; dsimp only; split <;> rfl)
@[simp] theorem reply_meas (p : Port) (op : Nat) (tag : Half) (st detail : Nat) (result : List Byte) (s : State) :
    (reply p op tag st detail result s).meas = s.meas := by
  cases p <;> (unfold reply postKept irq State.setOut; dsimp only; split <;> rfl)
@[simp] theorem reply_hv (p : Port) (op : Nat) (tag : Half) (st detail : Nat) (result : List Byte) (s : State) :
    (reply p op tag st detail result s).hv = s.hv := by
  cases p <;> (unfold reply postKept irq State.setOut; dsimp only; split <;> rfl)
@[simp] theorem reply_bal (p : Port) (op : Nat) (tag : Half) (st detail : Nat) (result : List Byte) (s : State) :
    (reply p op tag st detail result s).bal = s.bal := by
  cases p <;> (unfold reply postKept irq State.setOut; dsimp only; split <;> rfl)
@[simp] theorem reply_guard (p : Port) (op : Nat) (tag : Half) (st detail : Nat) (result : List Byte) (s : State) :
    (reply p op tag st detail result s).guard = s.guard := by
  cases p <;> (unfold reply postKept irq State.setOut; dsimp only; split <;> rfl)
@[simp] theorem reply_field (p : Port) (op : Nat) (tag : Half) (st detail : Nat) (result : List Byte) (s : State) :
    (reply p op tag st detail result s).field = s.field := by
  cases p <;> (unfold reply postKept irq State.setOut; dsimp only; split <;> rfl)
@[simp] theorem reply_est (p : Port) (op : Nat) (tag : Half) (st detail : Nat) (result : List Byte) (s : State) :
    (reply p op tag st detail result s).est = s.est := by
  cases p <;> (unfold reply postKept irq State.setOut; dsimp only; split <;> rfl)
@[simp] theorem reply_mem (p : Port) (op : Nat) (tag : Half) (st detail : Nat) (result : List Byte) (s : State) :
    (reply p op tag st detail result s).mem = s.mem := by
  cases p <;> (unfold reply postKept irq State.setOut; dsimp only; split <;> rfl)
@[simp] theorem reply_loop (p : Port) (op : Nat) (tag : Half) (st detail : Nat) (result : List Byte) (s : State) :
    (reply p op tag st detail result s).loop = s.loop := by
  cases p <;> (unfold reply postKept irq State.setOut; dsimp only; split <;> rfl)
@[simp] theorem reply_thermal (p : Port) (op : Nat) (tag : Half) (st detail : Nat) (result : List Byte) (s : State) :
    (reply p op tag st detail result s).thermal = s.thermal := by
  cases p <;> (unfold reply postKept irq State.setOut; dsimp only; split <;> rfl)
@[simp] theorem reply_can (p : Port) (op : Nat) (tag : Half) (st detail : Nat) (result : List Byte) (s : State) :
    (reply p op tag st detail result s).can = s.can := by
  cases p <;> (unfold reply postKept irq State.setOut; dsimp only; split <;> rfl)
@[simp] theorem reply_clock (p : Port) (op : Nat) (tag : Half) (st detail : Nat) (result : List Byte) (s : State) :
    (reply p op tag st detail result s).clock = s.clock := by
  cases p <;> (unfold reply postKept irq State.setOut; dsimp only; split <;> rfl)
@[simp] theorem reply_disp (p : Port) (op : Nat) (tag : Half) (st detail : Nat) (result : List Byte) (s : State) :
    (reply p op tag st detail result s).disp = s.disp := by
  cases p <;> (unfold reply postKept irq State.setOut; dsimp only; split <;> rfl)
@[simp] theorem reply_tw (p : Port) (op : Nat) (tag : Half) (st detail : Nat) (result : List Byte) (s : State) :
    (reply p op tag st detail result s).tw = s.tw := by
  cases p <;> (unfold reply postKept irq State.setOut; dsimp only; split <;> rfl)
@[simp] theorem reply_twc (p : Port) (op : Nat) (tag : Half) (st detail : Nat) (result : List Byte) (s : State) :
    (reply p op tag st detail result s).twc = s.twc := by
  cases p <;> (unfold reply postKept irq State.setOut; dsimp only; split <;> rfl)
@[simp] theorem reply_banks (p : Port) (op : Nat) (tag : Half) (st detail : Nat) (result : List Byte) (s : State) :
    (reply p op tag st detail result s).banks = s.banks := by
  cases p <;> (unfold reply postKept irq State.setOut; dsimp only; split <;> rfl)
@[simp] theorem reply_upd (p : Port) (op : Nat) (tag : Half) (st detail : Nat) (result : List Byte) (s : State) :
    (reply p op tag st detail result s).upd = s.upd := by
  cases p <;> (unfold reply postKept irq State.setOut; dsimp only; split <;> rfl)
@[simp] theorem reply_ident (p : Port) (op : Nat) (tag : Half) (st detail : Nat) (result : List Byte) (s : State) :
    (reply p op tag st detail result s).ident = s.ident := by
  cases p <;> (unfold reply postKept irq State.setOut; dsimp only; split <;> rfl)
@[simp] theorem reply_free (p : Port) (op : Nat) (tag : Half) (st detail : Nat) (result : List Byte) (s : State) :
    (reply p op tag st detail result s).free = s.free := by
  cases p <;> (unfold reply postKept irq State.setOut; dsimp only; split <;> rfl)
@[simp] theorem reply_pending (p : Port) (op : Nat) (tag : Half) (st detail : Nat) (result : List Byte) (s : State) :
    (reply p op tag st detail result s).pending = s.pending := by
  cases p <;> (unfold reply postKept irq State.setOut; dsimp only; split <;> rfl)
@[simp] theorem complete_time (r : Requester) (op st detail : Nat) (result : List Byte) (s : State) :
    (complete r op st detail result s).time = s.time := by
  cases r with
  | packet p tag => cases p <;> (unfold complete postKept irq owe State.setOut; dsimp only; split <;> rfl)
  | twoWire => unfold complete; dsimp only; split <;> rfl
@[simp] theorem complete_pins (r : Requester) (op st detail : Nat) (result : List Byte) (s : State) :
    (complete r op st detail result s).pins = s.pins := by
  cases r with
  | packet p tag => cases p <;> (unfold complete postKept irq owe State.setOut; dsimp only; split <;> rfl)
  | twoWire => unfold complete; dsimp only; split <;> rfl
@[simp] theorem complete_sys (r : Requester) (op st detail : Nat) (result : List Byte) (s : State) :
    (complete r op st detail result s).sys = s.sys := by
  cases r with
  | packet p tag => cases p <;> (unfold complete postKept irq owe State.setOut; dsimp only; split <;> rfl)
  | twoWire => unfold complete; dsimp only; split <;> rfl
@[simp] theorem complete_feed (r : Requester) (op st detail : Nat) (result : List Byte) (s : State) :
    (complete r op st detail result s).feed = s.feed := by
  cases r with
  | packet p tag => cases p <;> (unfold complete postKept irq owe State.setOut; dsimp only; split <;> rfl)
  | twoWire => unfold complete; dsimp only; split <;> rfl
@[simp] theorem complete_router (r : Requester) (op st detail : Nat) (result : List Byte) (s : State) :
    (complete r op st detail result s).router = s.router := by
  cases r with
  | packet p tag => cases p <;> (unfold complete postKept irq owe State.setOut; dsimp only; split <;> rfl)
  | twoWire => unfold complete; dsimp only; split <;> rfl
@[simp] theorem complete_silt (r : Requester) (op st detail : Nat) (result : List Byte) (s : State) :
    (complete r op st detail result s).silt = s.silt := by
  cases r with
  | packet p tag => cases p <;> (unfold complete postKept irq owe State.setOut; dsimp only; split <;> rfl)
  | twoWire => unfold complete; dsimp only; split <;> rfl
@[simp] theorem complete_param (r : Requester) (op st detail : Nat) (result : List Byte) (s : State) :
    (complete r op st detail result s).param = s.param := by
  cases r with
  | packet p tag => cases p <;> (unfold complete postKept irq owe State.setOut; dsimp only; split <;> rfl)
  | twoWire => unfold complete; dsimp only; split <;> rfl
@[simp] theorem complete_rings (r : Requester) (op st detail : Nat) (result : List Byte) (s : State) :
    (complete r op st detail result s).rings = s.rings := by
  cases r with
  | packet p tag => cases p <;> (unfold complete postKept irq owe State.setOut; dsimp only; split <;> rfl)
  | twoWire => unfold complete; dsimp only; split <;> rfl
@[simp] theorem complete_meas (r : Requester) (op st detail : Nat) (result : List Byte) (s : State) :
    (complete r op st detail result s).meas = s.meas := by
  cases r with
  | packet p tag => cases p <;> (unfold complete postKept irq owe State.setOut; dsimp only; split <;> rfl)
  | twoWire => unfold complete; dsimp only; split <;> rfl
@[simp] theorem complete_hv (r : Requester) (op st detail : Nat) (result : List Byte) (s : State) :
    (complete r op st detail result s).hv = s.hv := by
  cases r with
  | packet p tag => cases p <;> (unfold complete postKept irq owe State.setOut; dsimp only; split <;> rfl)
  | twoWire => unfold complete; dsimp only; split <;> rfl
@[simp] theorem complete_bal (r : Requester) (op st detail : Nat) (result : List Byte) (s : State) :
    (complete r op st detail result s).bal = s.bal := by
  cases r with
  | packet p tag => cases p <;> (unfold complete postKept irq owe State.setOut; dsimp only; split <;> rfl)
  | twoWire => unfold complete; dsimp only; split <;> rfl
@[simp] theorem complete_guard (r : Requester) (op st detail : Nat) (result : List Byte) (s : State) :
    (complete r op st detail result s).guard = s.guard := by
  cases r with
  | packet p tag => cases p <;> (unfold complete postKept irq owe State.setOut; dsimp only; split <;> rfl)
  | twoWire => unfold complete; dsimp only; split <;> rfl
@[simp] theorem complete_field (r : Requester) (op st detail : Nat) (result : List Byte) (s : State) :
    (complete r op st detail result s).field = s.field := by
  cases r with
  | packet p tag => cases p <;> (unfold complete postKept irq owe State.setOut; dsimp only; split <;> rfl)
  | twoWire => unfold complete; dsimp only; split <;> rfl
@[simp] theorem complete_est (r : Requester) (op st detail : Nat) (result : List Byte) (s : State) :
    (complete r op st detail result s).est = s.est := by
  cases r with
  | packet p tag => cases p <;> (unfold complete postKept irq owe State.setOut; dsimp only; split <;> rfl)
  | twoWire => unfold complete; dsimp only; split <;> rfl
@[simp] theorem complete_mem (r : Requester) (op st detail : Nat) (result : List Byte) (s : State) :
    (complete r op st detail result s).mem = s.mem := by
  cases r with
  | packet p tag => cases p <;> (unfold complete postKept irq owe State.setOut; dsimp only; split <;> rfl)
  | twoWire => unfold complete; dsimp only; split <;> rfl
@[simp] theorem complete_loop (r : Requester) (op st detail : Nat) (result : List Byte) (s : State) :
    (complete r op st detail result s).loop = s.loop := by
  cases r with
  | packet p tag => cases p <;> (unfold complete postKept irq owe State.setOut; dsimp only; split <;> rfl)
  | twoWire => unfold complete; dsimp only; split <;> rfl
@[simp] theorem complete_thermal (r : Requester) (op st detail : Nat) (result : List Byte) (s : State) :
    (complete r op st detail result s).thermal = s.thermal := by
  cases r with
  | packet p tag => cases p <;> (unfold complete postKept irq owe State.setOut; dsimp only; split <;> rfl)
  | twoWire => unfold complete; dsimp only; split <;> rfl
@[simp] theorem complete_can (r : Requester) (op st detail : Nat) (result : List Byte) (s : State) :
    (complete r op st detail result s).can = s.can := by
  cases r with
  | packet p tag => cases p <;> (unfold complete postKept irq owe State.setOut; dsimp only; split <;> rfl)
  | twoWire => unfold complete; dsimp only; split <;> rfl
@[simp] theorem complete_clock (r : Requester) (op st detail : Nat) (result : List Byte) (s : State) :
    (complete r op st detail result s).clock = s.clock := by
  cases r with
  | packet p tag => cases p <;> (unfold complete postKept irq owe State.setOut; dsimp only; split <;> rfl)
  | twoWire => unfold complete; dsimp only; split <;> rfl
@[simp] theorem complete_disp (r : Requester) (op st detail : Nat) (result : List Byte) (s : State) :
    (complete r op st detail result s).disp = s.disp := by
  cases r with
  | packet p tag => cases p <;> (unfold complete postKept irq owe State.setOut; dsimp only; split <;> rfl)
  | twoWire => unfold complete; dsimp only; split <;> rfl
@[simp] theorem complete_twc (r : Requester) (op st detail : Nat) (result : List Byte) (s : State) :
    (complete r op st detail result s).twc = s.twc := by
  cases r with
  | packet p tag => cases p <;> (unfold complete postKept irq owe State.setOut; dsimp only; split <;> rfl)
  | twoWire => unfold complete; dsimp only; split <;> rfl
@[simp] theorem complete_banks (r : Requester) (op st detail : Nat) (result : List Byte) (s : State) :
    (complete r op st detail result s).banks = s.banks := by
  cases r with
  | packet p tag => cases p <;> (unfold complete postKept irq owe State.setOut; dsimp only; split <;> rfl)
  | twoWire => unfold complete; dsimp only; split <;> rfl
@[simp] theorem complete_upd (r : Requester) (op st detail : Nat) (result : List Byte) (s : State) :
    (complete r op st detail result s).upd = s.upd := by
  cases r with
  | packet p tag => cases p <;> (unfold complete postKept irq owe State.setOut; dsimp only; split <;> rfl)
  | twoWire => unfold complete; dsimp only; split <;> rfl
@[simp] theorem complete_ident (r : Requester) (op st detail : Nat) (result : List Byte) (s : State) :
    (complete r op st detail result s).ident = s.ident := by
  cases r with
  | packet p tag => cases p <;> (unfold complete postKept irq owe State.setOut; dsimp only; split <;> rfl)
  | twoWire => unfold complete; dsimp only; split <;> rfl
@[simp] theorem complete_free (r : Requester) (op st detail : Nat) (result : List Byte) (s : State) :
    (complete r op st detail result s).free = s.free := by
  cases r with
  | packet p tag => cases p <;> (unfold complete postKept irq owe State.setOut; dsimp only; split <;> rfl)
  | twoWire => unfold complete; dsimp only; split <;> rfl
@[simp] theorem complete_pending (r : Requester) (op st detail : Nat) (result : List Byte) (s : State) :
    (complete r op st detail result s).pending = s.pending := by
  cases r with
  | packet p tag => cases p <;> (unfold complete postKept irq owe State.setOut; dsimp only; split <;> rfl)
  | twoWire => unfold complete; dsimp only; split <;> rfl

end Sys2Proof.Machine
end

