-- ==== Sys2Proof/Laws/Quiet.lean ====
section
/-! SUPPORT. What almost every operation leaves alone: the queue, the bytes of the banks, the applied parameters, the power-cycle
count and THERMAL_LOCK. -/
namespace Sys2Proof.Machine
open Sys2Proof

/-- The part of the state that only a few operations change. -/
structure Quiet where
  pending : List Instr
  mem : List Host.Cell
  applied : List (Nat × PVal)
  powerCycles : Nat
  thermal : Bool

/-- That part of a state. -/
def State.quiet (s : State) : Quiet :=
  { pending := s.pending, mem := s.banks.mem, applied := s.param.applied, powerCycles := s.time.powerCycles,
    thermal := s.sys.lock.thermal }

@[simp] theorem quiet_mk (time pins sys feed router silt port param rings meas hv bal guard field est mem loop thermal can clock
    disp tw twc banks upd ident free pending) :
    (State.mk time pins sys feed router silt port param rings meas hv bal guard field est mem loop thermal can clock disp tw twc
      banks upd ident free pending).quiet =
    { pending := pending, mem := banks.mem, applied := param.applied, powerCycles := time.powerCycles,
      thermal := sys.lock.thermal } := rfl

@[simp] theorem quiet_eta (s : State) :
    Quiet.mk s.pending s.banks.mem s.param.applied s.time.powerCycles s.sys.lock.thermal = s.quiet := rfl

/-- A fold of operations that leave the quiet part alone leaves it alone. -/
@[simp] theorem foldl_quiet {α : Type} {f : State → α → State} (h : ∀ s a, (f s a).quiet = s.quiet) (l : List α) (s : State) :
    (l.foldl f s).quiet = s.quiet := by
  induction l generalizing s with
  | nil => rfl
  | cons a l ih => rw [List.foldl_cons, ih, h]

/-- The same for a fold that carries a second value beside the state. -/
theorem foldl_quiet_fst {α β : Type} {f : State × β → α → State × β} (h : ∀ q a, (f q a).1.quiet = q.1.quiet) (l : List α)
    (q : State × β) : (l.foldl f q).1.quiet = q.1.quiet := by
  induction l generalizing q with
  | nil => rfl
  | cons a l ih => rw [List.foldl_cons, ih, h]

/-- The same for a fold that carries the state second. -/
theorem foldl_quiet_snd {α β : Type} {f : β × State → α → β × State} (h : ∀ q a, (f q a).2.quiet = q.2.quiet) (l : List α)
    (q : β × State) : (l.foldl f q).2.quiet = q.2.quiet := by
  induction l generalizing q with
  | nil => rfl
  | cons a l ih => rw [List.foldl_cons, ih, h]

/-- Both branches of a choice. -/
@[simp] theorem ite_quiet (c : Prop) [Decidable c] (s t : State) : (if c then s else t).quiet = if c then s.quiet else t.quiet := by
  split <;> rfl

end Sys2Proof.Machine
end

