-- ==== Sys2Proof/Laws/Fields.lean ====
section
/-! SUPPORT. Folds, one field of the quiet part at a time, and the canonical form of the banks' bytes. -/
namespace Sys2Proof.Machine
open Sys2Proof
theorem pending_quiet (s : State) : s.pending = s.quiet.pending := rfl
theorem mem_quiet (s : State) : s.banks.mem = s.quiet.mem := rfl
theorem applied_quiet (s : State) : s.param.applied = s.quiet.applied := rfl
theorem cycles_quiet (s : State) : s.time.powerCycles = s.quiet.powerCycles := rfl
theorem thermal_quiet (s : State) : s.sys.lock.thermal = s.quiet.thermal := rfl
theorem foldl_field {α β : Type} (p : State → β) {f : State → α → State} (h : ∀ s a, p (f s a) = p s) (l : List α) (s : State) :
    p (l.foldl f s) = p s := by
  induction l generalizing s with
  | nil => rfl
  | cons a l ih => rw [List.foldl_cons, ih, h]
theorem foldl_pending {α : Type} {f : State → α → State} (h : ∀ s a, (f s a).quiet.pending = s.quiet.pending) (l : List α) (s : State) :
    (l.foldl f s).quiet.pending = s.quiet.pending := foldl_field (fun s => s.quiet.pending) h l s
theorem foldl_mem {α : Type} {f : State → α → State} (h : ∀ s a, (f s a).quiet.mem = s.quiet.mem) (l : List α) (s : State) :
    (l.foldl f s).quiet.mem = s.quiet.mem := foldl_field (fun s => s.quiet.mem) h l s
theorem foldl_applied {α : Type} {f : State → α → State} (h : ∀ s a, (f s a).quiet.applied = s.quiet.applied) (l : List α) (s : State) :
    (l.foldl f s).quiet.applied = s.quiet.applied := foldl_field (fun s => s.quiet.applied) h l s
theorem foldl_powerCycles {α : Type} {f : State → α → State} (h : ∀ s a, (f s a).quiet.powerCycles = s.quiet.powerCycles) (l : List α) (s : State) :
    (l.foldl f s).quiet.powerCycles = s.quiet.powerCycles := foldl_field (fun s => s.quiet.powerCycles) h l s
theorem foldl_thermal {α : Type} {f : State → α → State} (h : ∀ s a, (f s a).quiet.thermal = s.quiet.thermal) (l : List α) (s : State) :
    (l.foldl f s).quiet.thermal = s.quiet.thermal := foldl_field (fun s => s.quiet.thermal) h l s
theorem foldl_field_snd {α β γ : Type} (p : State → β) {f : γ × State → α → γ × State} (h : ∀ q a, p (f q a).2 = p q.2)
    (l : List α) (q : γ × State) : p (l.foldl f q).2 = p q.2 := by
  induction l generalizing q with
  | nil => rfl
  | cons a l ih => rw [List.foldl_cons, ih, h]
theorem foldl_pending_snd {α γ : Type} {f : γ × State → α → γ × State} (h : ∀ q a, (f q a).2.quiet.pending = q.2.quiet.pending) (l : List α)
    (q : γ × State) : (l.foldl f q).2.quiet.pending = q.2.quiet.pending := foldl_field_snd (fun s => s.quiet.pending) h l q
theorem foldl_mem_snd {α γ : Type} {f : γ × State → α → γ × State} (h : ∀ q a, (f q a).2.quiet.mem = q.2.quiet.mem) (l : List α)
    (q : γ × State) : (l.foldl f q).2.quiet.mem = q.2.quiet.mem := foldl_field_snd (fun s => s.quiet.mem) h l q
theorem foldl_applied_snd {α γ : Type} {f : γ × State → α → γ × State} (h : ∀ q a, (f q a).2.quiet.applied = q.2.quiet.applied) (l : List α)
    (q : γ × State) : (l.foldl f q).2.quiet.applied = q.2.quiet.applied := foldl_field_snd (fun s => s.quiet.applied) h l q
theorem foldl_powerCycles_snd {α γ : Type} {f : γ × State → α → γ × State} (h : ∀ q a, (f q a).2.quiet.powerCycles = q.2.quiet.powerCycles) (l : List α)
    (q : γ × State) : (l.foldl f q).2.quiet.powerCycles = q.2.quiet.powerCycles := foldl_field_snd (fun s => s.quiet.powerCycles) h l q
theorem foldl_thermal_snd {α γ : Type} {f : γ × State → α → γ × State} (h : ∀ q a, (f q a).2.quiet.thermal = q.2.quiet.thermal) (l : List α)
    (q : γ × State) : (l.foldl f q).2.quiet.thermal = q.2.quiet.thermal := foldl_field_snd (fun s => s.quiet.thermal) h l q
@[simp] theorem reset_quiet : State.reset.quiet = { pending := [], mem := [], applied := [], powerCycles := 0, thermal := false } := rfl
theorem sortedFrom_mono {m : List Host.Cell} {a b : Nat} (h : b ≤ a) (hm : Memory.sortedFrom a m = true) :
    Memory.sortedFrom b m = true := by
  cases m with
  | nil => rfl
  | cons c m => simp only [Memory.sortedFrom, Bool.and_eq_true, decide_eq_true_eq] at hm ⊢; exact ⟨⟨by omega, hm.1.2⟩, hm.2⟩
@[simp] theorem wf_nil : Memory.wf [] = true := rfl
theorem write_sortedFrom {m : List Host.Cell} {lo a : Nat} {b : Byte} (h : lo ≤ a) (hm : Memory.sortedFrom lo m = true) :
    Memory.sortedFrom lo (Memory.write m a b) = true := by
  induction m generalizing lo with
  | nil => unfold Memory.write; split <;> simp_all [Memory.sortedFrom]
  | cons c m ih =>
    simp only [Memory.sortedFrom, Bool.and_eq_true, decide_eq_true_eq] at hm
    obtain ⟨⟨h1, h2⟩, h3⟩ := hm
    unfold Memory.write
    split
    · split
      · simp [Memory.sortedFrom, *]
      · simp_all [Memory.sortedFrom] <;> omega
    · split
      · split
        · exact sortedFrom_mono (by omega) h3
        · simp_all [Memory.sortedFrom]
      · simp only [Memory.sortedFrom, Bool.and_eq_true, decide_eq_true_eq]
        exact ⟨⟨h1, h2⟩, ih (by omega) h3⟩
@[simp] theorem write_wf {m : List Host.Cell} (a : Nat) (b : Byte) (h : Memory.wf m = true) : Memory.wf (Memory.write m a b) = true :=
  write_sortedFrom (Nat.zero_le a) h
@[simp] theorem writeAll_wf {m : List Host.Cell} (a : Nat) (l : List Byte) (h : Memory.wf m = true) :
    Memory.wf (Memory.writeAll m a l) = true := by
  induction l generalizing m a with
  | nil => exact h
  | cons b l ih => exact ih _ (write_wf a b h)
theorem filter_sortedFrom (p : Host.Cell → Bool) {m : List Host.Cell} {lo : Nat} (h : Memory.sortedFrom lo m = true) :
    Memory.sortedFrom lo (m.filter p) = true := by
  induction m generalizing lo with
  | nil => rfl
  | cons c m ih =>
    simp only [Memory.sortedFrom, Bool.and_eq_true, decide_eq_true_eq] at h
    rw [List.filter_cons]
    split
    · simp only [Memory.sortedFrom, Bool.and_eq_true, decide_eq_true_eq]
      exact ⟨h.1, ih h.2⟩
    · exact ih (sortedFrom_mono (by omega) h.2)
@[simp] theorem clearBank_wf {m : List Host.Cell} (b : Nat) (h : Memory.wf m = true) : Memory.wf (Memory.clearBank m b) = true :=
  filter_sortedFrom _ h
theorem foldl_wf {α : Type} {f : State → α → State} (h : ∀ s a, Memory.wf s.quiet.mem = true → Memory.wf (f s a).quiet.mem = true)
    (l : List α) (s : State) (hs : Memory.wf s.quiet.mem = true) : Memory.wf (l.foldl f s).quiet.mem = true := by
  induction l generalizing s with
  | nil => exact hs
  | cons a l ih => exact ih _ (h s a hs)
theorem foldl_wf_snd {α γ : Type} {f : γ × State → α → γ × State}
    (h : ∀ q a, Memory.wf q.2.quiet.mem = true → Memory.wf (f q a).2.quiet.mem = true) (l : List α) (q : γ × State)
    (hs : Memory.wf q.2.quiet.mem = true) : Memory.wf (l.foldl f q).2.quiet.mem = true := by
  induction l generalizing q with
  | nil => exact hs
  | cons a l ih => exact ih _ (h q a hs)
end Sys2Proof.Machine
end

