-- ==== Sys2Proof/Laws/FramesMode.lean ====
section
/-! SUPPORT. What the operations leave alone: the shared operations up to resets and modes. -/
namespace Sys2Proof.Machine
open Sys2Proof
set_option linter.unusedTactic false
set_option linter.unreachableTactic false

set_option maxRecDepth 4000
set_option linter.unusedSimpArgs false

/-! ### Ops -/
@[simp] theorem advance_quiet (d : Nat) (s : State) : (advance d s).quiet = s.quiet := by
  unfold advance
  repeat' first | (simp +zetaDelta; done) | refine (foldl_quiet (fun _ _ => ?_) _ _).trans ?_ | refine (foldl_quiet_fst (fun _ _ => ?_) _ _).trans ?_ | refine (foldl_quiet_snd (fun _ _ => ?_) _ _).trans ?_ | extract_lets | split | simp +zetaDelta
@[simp] theorem State.takeFree_quiet (s : State) : (State.takeFree s).2.quiet = s.quiet := by simp [State.takeFree]
@[simp] theorem siltEvent_quiet (src code kind index : Nat) (detail : List Byte) (s : State) : (siltEvent src code kind index detail s).1.quiet = s.quiet := by
  unfold siltEvent
  simp +zetaDelta only
  repeat' first | (simp +zetaDelta; done) | extract_lets | split
@[simp] theorem note_quiet (src code kind index : Nat) (detail : List Byte) (s : State) : (note src code kind index detail s).quiet = s.quiet := by simp [note]
@[simp] theorem raise_quiet (src code kind index : Nat) (detail : List Byte) (s : State) : (raise src code kind index detail s).quiet = s.quiet := by
  unfold raise
  repeat' first | (simp +zetaDelta; done) | extract_lets | split
@[simp] theorem raise0_quiet (src : Nat) (s : State) : (raise0 src s).quiet = s.quiet := by simp [raise0]
@[simp] theorem raiseStrand_quiet (src k : Nat) (s : State) : (raiseStrand src k s).quiet = s.quiet := by simp [raiseStrand]
@[simp] theorem raiseCell_quiet (src c : Nat) (s : State) : (raiseCell src c s).quiet = s.quiet := by simp [raiseCell]
@[simp] theorem raiseSat_quiet (src ring n : Nat) (s : State) : (raiseSat src ring n s).quiet = s.quiet := by simp [raiseSat]
@[simp] theorem State.setOut_quiet (s : State) (p : Port) (o : OutState) : (State.setOut s p o).quiet = s.quiet := by
  unfold State.setOut
  repeat' first | (simp +zetaDelta; done) | extract_lets | split
@[simp] theorem irq_quiet (p : Port) (b : Nat) (s : State) : (irq p b s).quiet = s.quiet := by
  unfold irq
  repeat' first | (simp +zetaDelta; done) | extract_lets | split
@[simp] theorem postKept_quiet (p : Port) (pkt : OutPacket) (s : State) : (postKept p pkt s).quiet = s.quiet := by simp [postKept]
@[simp] theorem reply_quiet (p : Port) (op : Nat) (tag : Half) (st detail : Nat) (result : List Byte) (s : State) : (reply p op tag st detail result s).quiet = s.quiet := by simp [reply]
@[simp] theorem owe_quiet (p : Port) (s : State) : (owe p s).2.quiet = s.quiet := by simp [owe]
@[simp] theorem dropped_quiet (p : Port) (stamp sec : Nat) (s : State) : (dropped p stamp sec s).quiet = s.quiet := by simp [dropped]
@[simp] theorem postDroppable_quiet (p : Port) (pkt : OutPacket) (s : State) : (postDroppable p pkt s).quiet = s.quiet := by
  unfold postDroppable
  repeat' first | (simp +zetaDelta; done) | extract_lets | split
@[simp] theorem complete_quiet (r : Requester) (op st detail : Nat) (result : List Byte) (s : State) : (complete r op st detail result s).quiet = s.quiet := by
  unfold complete
  repeat' first | (simp +zetaDelta; done) | extract_lets | split
@[simp] theorem State.awaitRead_quiet (s : State) (code : Nat) (p : Port) (op : Nat) (tag : Half) (isReply : Bool) : (State.awaitRead s code p op tag isReply).quiet = s.quiet := by
  unfold State.awaitRead
  repeat' first | (simp +zetaDelta; done) | extract_lets | split
@[simp] theorem packetGone_quiet (p : Port) (k : OutPacket) (s : State) : (packetGone p k s).quiet = s.quiet := by
  unfold packetGone
  repeat' first | (simp +zetaDelta; done) | extract_lets | split
@[simp] theorem refillSlots_quiet (p : Port) (s : State) : (refillSlots p s).quiet = s.quiet := by simp [refillSlots]

/-! ### Access -/
@[simp] theorem State.modRing_quiet (s : State) (r : Nat) (f : RingState → RingState) : (State.modRing s r f).quiet = s.quiet := by simp [State.modRing]
@[simp] theorem State.modSat_quiet (s : State) (r n : Nat) (f : SatState → SatState) : (State.modSat s r n f).quiet = s.quiet := by simp [State.modSat]
@[simp] theorem State.modMeas_quiet (s : State) (k : Nat) (f : MeasState → MeasState) : (State.modMeas s k f).quiet = s.quiet := by simp [State.modMeas]
@[simp] theorem State.modCell_quiet (s : State) (k c : Nat) (f : CellState → CellState) : (State.modCell s k c f).quiet = s.quiet := by simp [State.modCell]
@[simp] theorem State.modHv_quiet (s : State) (k : Nat) (f : StrandHv → StrandHv) : (State.modHv s k f).quiet = s.quiet := by simp [State.modHv]
@[simp] theorem State.modBal_quiet (s : State) (k : Nat) (f : BalState → BalState) : (State.modBal s k f).quiet = s.quiet := by simp [State.modBal]
@[simp] theorem State.modTrip_quiet (s : State) (k : Nat) (f : TripState → TripState) : (State.modTrip s k f).quiet = s.quiet := by simp [State.modTrip]
@[simp] theorem State.modEst_quiet (s : State) (k : Nat) (f : StrandEst → StrandEst) : (State.modEst s k f).quiet = s.quiet := by simp [State.modEst]

/-! ### RingFrame -/
@[simp] theorem ringGap_quiet (r : Nat) (s : State) : (ringGap r s).quiet = s.quiet := by
  unfold ringGap
  repeat' first | (simp +zetaDelta; done) | extract_lets | split
@[simp] theorem askGap_quiet (r : Nat) (s : State) : (askGap r s).quiet = s.quiet := by
  unfold askGap
  repeat' first | (simp +zetaDelta; done) | extract_lets | split
@[simp] theorem askStopAll_quiet (r : Nat) (s : State) : (askStopAll r s).quiet = s.quiet := by simp [askStopAll]
@[simp] theorem askSleep_quiet (r period : Nat) (s : State) : (askSleep r period s).quiet = s.quiet := by simp [askSleep]

/-! ### Contactors -/
@[simp] theorem commandOn_quiet (x : Nat) (s : State) : (commandOn x s).quiet = s.quiet := by simp [commandOn]
@[simp] theorem commandOff_quiet (x : Nat) (s : State) : (commandOff x s).quiet = s.quiet := by simp [commandOff]
@[simp] theorem commandStrandOff_quiet (k : Nat) (s : State) : (commandStrandOff k s).quiet = s.quiet := by simp [commandStrandOff]
@[simp] theorem enqueueWeld_quiet (k : Nat) (s : State) : (enqueueWeld k s).quiet = s.quiet := by simp [enqueueWeld]
@[simp] theorem settleDisconnects_quiet (k res : Nat) (s : State) : (settleDisconnects k res s).quiet = s.quiet := by simp [settleDisconnects]
@[simp] theorem connectNext_quiet (l : List Nat) (res : List Nat) (by' : Option Requester) (s : State) :
    (connectNext l res by' s).quiet = s.quiet := by
  induction l generalizing res s with
  | nil =>
    unfold connectNext
    repeat' first | (simp +zetaDelta; done) | split
  | cons k l ih =>
    unfold connectNext
    repeat' first | (simp +zetaDelta [ih]; done) | split
@[simp] theorem connectFail_quiet (q : ConnectSeq) (s : State) : (connectFail q s).quiet = s.quiet := by simp [connectFail]
@[simp] theorem connectAbort_quiet (q : ConnectSeq) (s : State) : (connectAbort q s).quiet = s.quiet := by simp [connectAbort]
@[simp] theorem openStrand_quiet (k : Nat) (s : State) : (openStrand k s).quiet = s.quiet := by
  unfold openStrand
  repeat' first | (simp +zetaDelta; done) | extract_lets | split
@[simp] theorem openStrands_quiet (m : Nat) (s : State) : (openStrands m s).quiet = s.quiet := by simp [openStrands]
@[simp] theorem cancelConnect_quiet (s : State) : (cancelConnect s).quiet = s.quiet := by
  unfold cancelConnect
  repeat' first | (simp +zetaDelta; done) | extract_lets | split
@[simp] theorem endConnect_quiet (s : State) : (endConnect s).quiet = s.quiet := by
  unfold endConnect
  repeat' first | (simp +zetaDelta; done) | extract_lets | split
@[simp] theorem startConnect_quiet (m : Nat) (by' : Option Requester) (s : State) : (startConnect m by' s).quiet = s.quiet := by simp [startConnect]
@[simp] theorem setPhase_quiet (q : ConnectSeq) (p : ConnectPhase) (s : State) : (setPhase q p s).quiet = s.quiet := by simp [setPhase]
@[simp] theorem prechargeFail_quiet (q : ConnectSeq) (s : State) : (prechargeFail q s).quiet = s.quiet := by simp [prechargeFail]
@[simp] theorem strandClosed_quiet (q : ConnectSeq) (s : State) : (strandClosed q s).quiet = s.quiet := by simp [strandClosed]
@[simp] theorem connectStep_quiet (s : State) : (connectStep s).quiet = s.quiet := by
  unfold connectStep
  repeat' first | (simp +zetaDelta; done) | extract_lets | split
@[simp] theorem popWeld_quiet (s : State) : (popWeld s).quiet = s.quiet := by simp [popWeld]
@[simp] theorem weldEnd_quiet (k v : Nat) (s : State) : (weldEnd k v s).quiet = s.quiet := by simp [weldEnd]
@[simp] theorem weldUndetermined_quiet (j : WeldJob) (s : State) : (weldUndetermined j s).quiet = s.quiet := by simp [weldUndetermined]
@[simp] theorem weldStep_quiet (s : State) : (weldStep s).quiet = s.quiet := by
  unfold weldStep
  repeat' first | (simp +zetaDelta; done) | extract_lets | split

/-! ### Protect -/
@[simp] theorem endTransfers_quiet (k : Nat) (s : State) : (endTransfers k s).quiet = s.quiet := by simp [endTransfers]
@[simp] theorem stopTransfers_quiet (k : Nat) (s : State) : (stopTransfers k s).quiet = s.quiet := by simp [stopTransfers]
@[simp] theorem stopAllTransfers_quiet (s : State) : (stopAllTransfers s).quiet = s.quiet := by simp [stopAllTransfers]
@[simp] theorem withdraw_quiet (m : Nat) (s : State) : (withdraw m s).quiet = s.quiet := by simp [withdraw]
@[simp] theorem causeOn_quiet (k b : Nat) (s : State) : (causeOn k b s).quiet = s.quiet := by simp [causeOn]
@[simp] theorem causeOff_quiet (k b : Nat) (s : State) : (causeOff k b s).quiet = s.quiet := by simp [causeOff]
@[simp] theorem tripStrand_quiet (k b : Nat) (byGuard : Bool) (s : State) : (tripStrand k b byGuard s).quiet = s.quiet := by simp [tripStrand]
@[simp] theorem judgeTrip_quiet (k b : Nat) (byGuard holds : Bool) {event : State → State} (h : ∀ s, (event s).quiet = s.quiet)
    (s : State) : (judgeTrip k b byGuard holds event s).quiet = s.quiet := by
  unfold judgeTrip
  repeat' first | (simp +zetaDelta [h]; done) | extract_lets | split
@[simp] theorem spoilPress_quiet (s : State) : (spoilPress s).quiet = s.quiet := by
  unfold spoilPress
  repeat' first | (simp +zetaDelta; done) | refine (foldl_quiet (fun _ _ => ?_) _ _).trans ?_ | refine (foldl_quiet_fst (fun _ _ => ?_) _ _).trans ?_ | refine (foldl_quiet_snd (fun _ _ => ?_) _ _).trans ?_ | extract_lets | split | simp +zetaDelta

/-! ### Serve -/
@[simp] theorem modPort_quiet (f : PortState → PortState) (s : State) : (modPort f s).quiet = s.quiet := by simp [modPort]
@[simp] theorem freeSlot_quiet (s : State) : (freeSlot s).quiet = s.quiet := by
  unfold freeSlot
  repeat' first | (simp +zetaDelta; done) | extract_lets | split
@[simp] theorem framingError_quiet (s : State) : (framingError s).quiet = s.quiet := by
  unfold framingError
  repeat' first | (simp +zetaDelta; done) | extract_lets | split
@[simp] theorem crcError_quiet (s : State) : (crcError s).quiet = s.quiet := by simp [crcError]
@[simp] theorem refusePacket_quiet (op tag : Nat) (s : State) : (refusePacket op tag s).quiet = s.quiet := by
  unfold refusePacket
  repeat' first | (simp +zetaDelta; done) | extract_lets | split
@[simp] theorem postCmd_quiet (c : Cmd) (s : State) : (postCmd c s).quiet = s.quiet := by
  unfold postCmd
  rcases hp : c.port <;> (repeat' first | (simp +zetaDelta [hp]; done) | extract_lets | split)
@[simp] theorem arrive_quiet (c : Cmd) (s : State) : (arrive c s).quiet = s.quiet := by
  unfold arrive
  repeat' first | (simp +zetaDelta; done) | extract_lets | split
@[simp] theorem hostRow_quiet (op : Nat) {body : Port → Half → List Byte → State → State} (p : Port) (tag : Half) (pl : List Byte)
    (h : ∀ p tag pl s, (body p tag pl s).quiet = s.quiet) (s : State) : (hostRow op body p tag pl s).quiet = s.quiet := by
  unfold hostRow
  split <;> simp [h]
@[simp] theorem serve_quiet (op : Nat) (modes : List Mode) (lenOk : Bool) (p : Port) (tag : Half) {body : State → State}
    (h : ∀ s, (body s).quiet = s.quiet) (s : State) : (serve op modes lenOk p tag body s).quiet = s.quiet := by
  unfold serve
  repeat' first | (simp [h]; done) | split

/-! ### Silt -/
@[simp] theorem reportLost_quiet (s : State) : (reportLost s).quiet = s.quiet := by simp [reportLost]
@[simp] theorem siltFlush_quiet (s : State) : (siltFlush s).quiet = s.quiet := by simp [siltFlush]
@[simp] theorem serveSiltInfo_quiet (p : Port) (tag : Half) (pl : List Byte) (s : State) : (serveSiltInfo p tag pl s).quiet = s.quiet := by simp [serveSiltInfo]
@[simp] theorem serveSiltRead_quiet (p : Port) (tag : Half) (pl : List Byte) (s : State) : (serveSiltRead p tag pl s).quiet = s.quiet := by simp [serveSiltRead]
@[simp] theorem closeRates_quiet (s : State) : (closeRates s).quiet = s.quiet := by simp [closeRates]
@[simp] theorem correlate_quiet (s : State) : (correlate s).quiet = s.quiet := by simp [correlate]
theorem execSiltInfo_quiet (port : Port) (tag : Half) (payload : List Byte) (s : State) {t : State} : execSiltInfo port tag payload s = .next t → t.quiet = s.quiet := by
  intro h
  simp only [execSiltInfo, Host.Outcome.next.injEq] at h
  subst h
  simp; done
theorem execSiltRead_quiet (port : Port) (tag : Half) (payload : List Byte) (s : State) {t : State} : execSiltRead port tag payload s = .next t → t.quiet = s.quiet := by
  intro h
  simp only [execSiltRead, Host.Outcome.next.injEq] at h
  subst h
  simp; done
theorem execSiltWrite_quiet (s : State) {t : State} : execSiltWrite s = .next t → t.quiet = s.quiet := by
  intro h
  simp only [execSiltWrite, Host.Outcome.next.injEq] at h
  subst h
  simp; done
theorem execCoalesceWindowExpiry_quiet (seq : Nat) (s : State) {t : State} : execCoalesceWindowExpiry seq s = .next t → t.quiet = s.quiet := by
  intro h
  simp only [execCoalesceWindowExpiry, Host.Outcome.next.injEq] at h
  subst h
  simp; done
theorem execOpenRecordRewrite_quiet (seq : Nat) (s : State) {t : State} : execOpenRecordRewrite seq s = .next t → t.quiet = s.quiet := by
  intro h
  simp only [execOpenRecordRewrite, Host.Outcome.next.injEq] at h
  subst h
  simp; done
theorem execRateLimitSecond_quiet (s : State) {t : State} : execRateLimitSecond s = .next t → t.quiet = s.quiet := by
  intro h
  simp only [execRateLimitSecond, Host.Outcome.next.injEq] at h
  subst h
  simp; done
theorem execNtCorrelation_quiet (s : State) {t : State} : execNtCorrelation s = .next t → t.quiet = s.quiet := by
  intro h
  simp only [execNtCorrelation, Host.Outcome.next.injEq] at h
  subst h
  simp; done

/-! ### Memory -/
@[simp] theorem modCellMem_quiet (k c : Nat) (f : CellMem → CellMem) (s : State) : (modCellMem k c f s).quiet = s.quiet := by simp [modCellMem]
@[simp] theorem modCellEst_quiet (k c : Nat) (f : CellEst → CellEst) (s : State) : (modCellEst k c f s).quiet = s.quiet := by simp [modCellEst]
@[simp] theorem commitAccum_quiet (k c : Nat) (moved : Bool) (s : State) : (commitAccum k c moved s).quiet = s.quiet := by simp [commitAccum]
@[simp] theorem writeAllMemory_quiet (s : State) : (writeAllMemory s).quiet = s.quiet := by simp [writeAllMemory]

/-! ### Modes -/
@[simp] theorem journalWrite_quiet (cause : Nat) (s : State) : (journalWrite cause s).quiet = s.quiet := by simp [journalWrite]
@[simp] theorem journalBegin_quiet (s : State) : (journalBegin s).quiet = s.quiet := by simp [journalBegin]
@[simp] theorem journalEnd_quiet (s : State) : (journalEnd s).quiet = s.quiet := by
  unfold journalEnd
  repeat' first | (simp +zetaDelta; done) | extract_lets | split
@[simp] theorem journalBeforeReset_quiet (s : State) : (journalBeforeReset s).quiet = s.quiet := by simp [journalBeforeReset]
@[simp] theorem writeCounters_quiet (s : State) : (writeCounters s).quiet = s.quiet := by simp [writeCounters]
@[simp] theorem setLoopMode_quiet (n : Nat) (m : LoopMode) (s : State) : (setLoopMode n m s).quiet = s.quiet := by
  unfold setLoopMode
  repeat' first | (simp +zetaDelta; done) | extract_lets | split
@[simp] theorem hollowHold_quiet (n : Nat) (s : State) : (hollowHold n s).quiet = s.quiet := by simp [hollowHold]
@[simp] theorem loopsFollow_quiet (m : Mode) (s : State) : (loopsFollow m s).quiet = s.quiet := by
  unfold loopsFollow
  repeat' first | (simp +zetaDelta; done) | extract_lets | split
@[simp] theorem leaveService_quiet (s : State) : (leaveService s).quiet = s.quiet := by simp [leaveService]
@[simp] theorem leaveRun_quiet (limp : Bool) (s : State) : (leaveRun limp s).quiet = s.quiet := by
  unfold leaveRun
  repeat' first | (simp +zetaDelta; done) | extract_lets | split
@[simp] theorem freezeLimits_quiet (keep : Bool) (s : State) : (freezeLimits keep s).quiet = s.quiet := by simp [freezeLimits]
@[simp] theorem allOff_quiet (s : State) : (allOff s).quiet = s.quiet := by simp [allOff]
@[simp] theorem modeChanged_quiet (old new : Mode) (cause : Nat) (s : State) : (modeChanged old new cause s).quiet = s.quiet := by simp [modeChanged]
@[simp] theorem enterMode_quiet (new : Mode) (cause : Nat) (s : State) : (enterMode new cause s).quiet = s.quiet := by simp [enterMode]
@[simp] theorem lockout_quiet (src : Nat) (s : State) : (lockout src s).quiet = s.quiet := by
  unfold lockout
  repeat' first | (simp +zetaDelta; done) | extract_lets | split
@[simp] theorem failWindow_quiet (s : State) : (failWindow s).quiet = s.quiet := by
  unfold failWindow
  repeat' first | (simp +zetaDelta; done) | extract_lets | split
@[simp] theorem stepFailed_quiet (step kind idx : Nat) (s : State) : (stepFailed step kind idx s).quiet = s.quiet := by
  unfold stepFailed
  repeat' first | (simp +zetaDelta; done) | refine (foldl_quiet (fun _ _ => ?_) _ _).trans ?_ | refine (foldl_quiet_fst (fun _ _ => ?_) _ _).trans ?_ | refine (foldl_quiet_snd (fun _ _ => ?_) _ _).trans ?_ | extract_lets | split | simp +zetaDelta
@[simp] theorem startRecord_quiet (s : State) : (startRecord s).quiet = s.quiet := by simp [startRecord, stepFailed]
@[simp] theorem hollowFault_quiet (src : Nat) (s : State) : (hollowFault src s).quiet = s.quiet := by
  unfold hollowFault
  repeat' first | (simp +zetaDelta; done) | extract_lets | split
@[simp] theorem keepNvm_pending (s : State) : (keepNvm s).quiet.pending = s.quiet.pending := by
  unfold keepNvm
  simp +zetaDelta [pending_quiet, mem_quiet, applied_quiet, cycles_quiet, thermal_quiet]
@[simp] theorem keepNvm_applied (s : State) : (keepNvm s).quiet.applied = s.quiet.applied := by
  unfold keepNvm
  simp +zetaDelta [pending_quiet, mem_quiet, applied_quiet, cycles_quiet, thermal_quiet]
@[simp] theorem keepNvm_powerCycles (s : State) : (keepNvm s).quiet.powerCycles = s.quiet.powerCycles := by
  unfold keepNvm
  simp +zetaDelta [pending_quiet, mem_quiet, applied_quiet, cycles_quiet, thermal_quiet]
@[simp] theorem keepNvm_thermal (s : State) : (keepNvm s).quiet.thermal = s.quiet.thermal := by
  unfold keepNvm
  simp +zetaDelta [pending_quiet, mem_quiet, applied_quiet, cycles_quiet, thermal_quiet]
@[simp] theorem keepNvm_wf (s : State) (hw : Memory.wf s.quiet.mem = true) : Memory.wf (keepNvm s).quiet.mem = true := by
  unfold keepNvm
  simp +zetaDelta [pending_quiet, mem_quiet, applied_quiet, cycles_quiet, thermal_quiet, *]
@[simp] theorem resetModule_pending (code : Nat) (s : State) : (resetModule code s).quiet.pending = s.quiet.pending := by
  unfold resetModule
  simp +zetaDelta [pending_quiet, mem_quiet, applied_quiet, cycles_quiet, thermal_quiet]
@[simp] theorem resetModule_applied (code : Nat) (s : State) : (resetModule code s).quiet.applied = s.quiet.applied := by
  unfold resetModule
  simp +zetaDelta [pending_quiet, mem_quiet, applied_quiet, cycles_quiet, thermal_quiet]
@[simp] theorem resetModule_powerCycles (code : Nat) (s : State) : (resetModule code s).quiet.powerCycles = s.quiet.powerCycles := by
  unfold resetModule
  simp +zetaDelta [pending_quiet, mem_quiet, applied_quiet, cycles_quiet, thermal_quiet]
@[simp] theorem resetModule_thermal (code : Nat) (s : State) : (resetModule code s).quiet.thermal = s.quiet.thermal := by
  unfold resetModule
  simp +zetaDelta [pending_quiet, mem_quiet, applied_quiet, cycles_quiet, thermal_quiet]
@[simp] theorem resetModule_wf (code : Nat) (s : State) (hw : Memory.wf s.quiet.mem = true) : Memory.wf (resetModule code s).quiet.mem = true := by
  unfold resetModule
  simp +zetaDelta [pending_quiet, mem_quiet, applied_quiet, cycles_quiet, thermal_quiet, *]
@[simp] theorem resetWithJournal_pending (code : Nat) (s : State) : (resetWithJournal code s).quiet.pending = s.quiet.pending := by
  unfold resetWithJournal
  simp +zetaDelta [pending_quiet, mem_quiet, applied_quiet, cycles_quiet, thermal_quiet]
@[simp] theorem resetWithJournal_applied (code : Nat) (s : State) : (resetWithJournal code s).quiet.applied = s.quiet.applied := by
  unfold resetWithJournal
  simp +zetaDelta [pending_quiet, mem_quiet, applied_quiet, cycles_quiet, thermal_quiet]
@[simp] theorem resetWithJournal_powerCycles (code : Nat) (s : State) : (resetWithJournal code s).quiet.powerCycles = s.quiet.powerCycles := by
  unfold resetWithJournal
  simp +zetaDelta [pending_quiet, mem_quiet, applied_quiet, cycles_quiet, thermal_quiet]
@[simp] theorem resetWithJournal_thermal (code : Nat) (s : State) : (resetWithJournal code s).quiet.thermal = s.quiet.thermal := by
  unfold resetWithJournal
  simp +zetaDelta [pending_quiet, mem_quiet, applied_quiet, cycles_quiet, thermal_quiet]
@[simp] theorem resetWithJournal_wf (code : Nat) (s : State) (hw : Memory.wf s.quiet.mem = true) : Memory.wf (resetWithJournal code s).quiet.mem = true := by
  unfold resetWithJournal
  simp +zetaDelta [pending_quiet, mem_quiet, applied_quiet, cycles_quiet, thermal_quiet, *]
@[simp] theorem powerDown_pending (s : State) : (powerDown s).quiet.pending = s.quiet.pending := by
  unfold powerDown
  simp +zetaDelta [pending_quiet, mem_quiet, applied_quiet, cycles_quiet, thermal_quiet]
@[simp] theorem powerDown_applied (s : State) : (powerDown s).quiet.applied = s.quiet.applied := by
  unfold powerDown
  simp +zetaDelta [pending_quiet, mem_quiet, applied_quiet, cycles_quiet, thermal_quiet]
@[simp] theorem powerDown_powerCycles (s : State) : (powerDown s).quiet.powerCycles = s.quiet.powerCycles := by
  unfold powerDown
  simp +zetaDelta [pending_quiet, mem_quiet, applied_quiet, cycles_quiet, thermal_quiet]
@[simp] theorem powerDown_wf (s : State) (hw : Memory.wf s.quiet.mem = true) : Memory.wf (powerDown s).quiet.mem = true := by
  unfold powerDown
  simp +zetaDelta [pending_quiet, mem_quiet, applied_quiet, cycles_quiet, thermal_quiet, *]
@[simp] theorem enterHibernate_pending (s : State) : (enterHibernate s).quiet.pending = s.quiet.pending := by
  unfold enterHibernate
  simp +zetaDelta [pending_quiet, mem_quiet, applied_quiet, cycles_quiet, thermal_quiet]
@[simp] theorem enterHibernate_applied (s : State) : (enterHibernate s).quiet.applied = s.quiet.applied := by
  unfold enterHibernate
  simp +zetaDelta [pending_quiet, mem_quiet, applied_quiet, cycles_quiet, thermal_quiet]
@[simp] theorem enterHibernate_powerCycles (s : State) : (enterHibernate s).quiet.powerCycles = s.quiet.powerCycles := by
  unfold enterHibernate
  simp +zetaDelta [pending_quiet, mem_quiet, applied_quiet, cycles_quiet, thermal_quiet]
@[simp] theorem enterHibernate_thermal (s : State) : (enterHibernate s).quiet.thermal = s.quiet.thermal := by
  unfold enterHibernate
  simp +zetaDelta [pending_quiet, mem_quiet, applied_quiet, cycles_quiet, thermal_quiet]
@[simp] theorem enterHibernate_wf (s : State) (hw : Memory.wf s.quiet.mem = true) : Memory.wf (enterHibernate s).quiet.mem = true := by
  unfold enterHibernate
  simp +zetaDelta [pending_quiet, mem_quiet, applied_quiet, cycles_quiet, thermal_quiet, *]

end Sys2Proof.Machine
end

