-- ==== Sys2Proof/Laws/FramesRing.lean ====
section
/-! SUPPORT. What the operations leave alone: rings, cells, learning, feeds, points and the guard. -/
namespace Sys2Proof.Machine
open Sys2Proof
set_option linter.unusedTactic false
set_option linter.unreachableTactic false

set_option maxRecDepth 4000
set_option linter.unusedSimpArgs false

/-! ### Rings -/
@[simp] theorem updateIncomplete_quiet (r : Nat) (s : State) : (updateIncomplete r s).quiet = s.quiet := by simp [updateIncomplete]
@[simp] theorem writeAdmitted_quiet (r : Nat) (s : State) : (writeAdmitted r s).quiet = s.quiet := by simp [writeAdmitted]
@[simp] theorem storeSerials_quiet (r : Nat) (s : State) : (storeSerials r s).1.quiet = s.quiet := by
  unfold storeSerials
  refine foldl_quiet_fst (fun q a => ?_) _ _
  dsimp only
  repeat' first | (simp +zetaDelta; done) | extract_lets | split
@[simp] theorem postRing_quiet (r : Nat) (d : RingDesc) (s : State) : (postRing r d s).1.quiet = s.quiet := by
  unfold postRing
  repeat' first | (simp +zetaDelta; done) | extract_lets | split
@[simp] theorem postOrKeep_quiet (r : Nat) (d : RingDesc) (s : State) : (postOrKeep r d s).quiet = s.quiet := by
  unfold postOrKeep
  repeat' first | (simp +zetaDelta; done) | refine (foldl_quiet (fun _ _ => ?_) _ _).trans ?_ | refine (foldl_quiet_fst (fun _ _ => ?_) _ _).trans ?_ | refine (foldl_quiet_snd (fun _ _ => ?_) _ _).trans ?_ | extract_lets | split | simp +zetaDelta
@[simp] theorem refillRing_quiet (r : Nat) (s : State) : (refillRing r s).quiet = s.quiet := by
  unfold refillRing
  repeat' first | (simp +zetaDelta; done) | refine (foldl_quiet (fun _ _ => ?_) _ _).trans ?_ | refine (foldl_quiet_fst (fun _ _ => ?_) _ _).trans ?_ | refine (foldl_quiet_snd (fun _ _ => ?_) _ _).trans ?_ | extract_lets | split | simp +zetaDelta
@[simp] theorem queueConfig_quiet (r : Nat) (s : State) : (queueConfig r s).quiet = s.quiet := by simp [queueConfig]
@[simp] theorem sendNext_quiet (r : Nat) (s : State) : (sendNext r s).quiet = s.quiet := by
  unfold sendNext
  repeat' first | (simp +zetaDelta; done) | extract_lets | split
@[simp] theorem ringDown_quiet (r : Nat) (s : State) : (ringDown r s).quiet = s.quiet := by
  unfold ringDown
  repeat' first | (simp +zetaDelta; done) | refine (foldl_quiet (fun _ _ => ?_) _ _).trans ?_ | refine (foldl_quiet_fst (fun _ _ => ?_) _ _).trans ?_ | refine (foldl_quiet_snd (fun _ _ => ?_) _ _).trans ?_ | extract_lets | split | simp +zetaDelta
@[simp] theorem askEnumerate_quiet (r : Nat) (s : State) : (askEnumerate r s).quiet = s.quiet := by
  unfold askEnumerate
  repeat' first | (simp +zetaDelta; done) | refine (foldl_quiet (fun _ _ => ?_) _ _).trans ?_ | refine (foldl_quiet_fst (fun _ _ => ?_) _ _).trans ?_ | refine (foldl_quiet_snd (fun _ _ => ?_) _ _).trans ?_ | extract_lets | split | simp +zetaDelta
@[simp] theorem startEnumOf_quiet (halves : Bool) (r : Nat) (s : State) : (startEnumOf halves r s).quiet = s.quiet := by
  unfold startEnumOf
  repeat' first | (simp +zetaDelta; done) | refine (foldl_quiet (fun _ _ => ?_) _ _).trans ?_ | refine (foldl_quiet_fst (fun _ _ => ?_) _ _).trans ?_ | refine (foldl_quiet_snd (fun _ _ => ?_) _ _).trans ?_ | extract_lets | split | simp +zetaDelta
@[simp] theorem startEnum_quiet (r : Nat) (s : State) : (startEnum r s).quiet = s.quiet := by simp [startEnum]
@[simp] theorem probeHalf_quiet (r : Nat) (out : Bool) (near lo hi : Nat) (s : State) : (probeHalf r out near lo hi s).quiet = s.quiet := by
  unfold probeHalf
  repeat' first | (simp +zetaDelta; done) | refine (foldl_quiet (fun _ _ => ?_) _ _).trans ?_ | refine (foldl_quiet_fst (fun _ _ => ?_) _ _).trans ?_ | refine (foldl_quiet_snd (fun _ _ => ?_) _ _).trans ?_ | extract_lets | split | simp +zetaDelta
@[simp] theorem finishEnum_quiet (r : Nat) (s : State) : (finishEnum r s).quiet = s.quiet := by simp [finishEnum]
@[simp] theorem endSearch_quiet (r : Nat) (s : State) : (endSearch r s).quiet = s.quiet := by
  unfold endSearch
  repeat' first | (simp +zetaDelta; done) | refine (foldl_quiet (fun _ _ => ?_) _ _).trans ?_ | refine (foldl_quiet_fst (fun _ _ => ?_) _ _).trans ?_ | refine (foldl_quiet_snd (fun _ _ => ?_) _ _).trans ?_ | extract_lets | split | simp +zetaDelta
@[simp] theorem finishSearch_quiet (r : Nat) (s : State) : (finishSearch r s).quiet = s.quiet := by simp [finishSearch]
@[simp] theorem configure_quiet (r : Nat) (s : State) : (configure r s).quiet = s.quiet := by
  unfold configure
  repeat' first | (simp +zetaDelta; done) | refine (foldl_quiet (fun _ _ => ?_) _ _).trans ?_ | refine (foldl_quiet_fst (fun _ _ => ?_) _ _).trans ?_ | refine (foldl_quiet_snd (fun _ _ => ?_) _ _).trans ?_ | extract_lets | split | simp +zetaDelta
@[simp] theorem probeFrom_quiet (r n : Nat) (search : Bool) (s : State) : (probeFrom r n search s).quiet = s.quiet := by
  unfold probeFrom
  repeat' first | (simp +zetaDelta; done) | extract_lets | split
@[simp] theorem concludeSearch_quiet (r near far : Nat) (s : State) : (concludeSearch r near far s).quiet = s.quiet := by simp [concludeSearch]
@[simp] theorem searchPair_quiet (r : Nat) (out : Bool) (near : Nat) (s : State) : (searchPair r out near s).quiet = s.quiet := by simp [searchPair]
@[simp] theorem startSearch_quiet (r : Nat) (s : State) : (startSearch r s).quiet = s.quiet := by simp [startSearch]
@[simp] theorem takeIdentities_quiet (r : Nat) (es : List SatIdentity) (s : State) : (takeIdentities r es s).quiet = s.quiet := by simp [takeIdentities]
@[simp] theorem setStage_quiet (r n stage : Nat) (s : State) : (setStage r n stage s).quiet = s.quiet := by
  unfold setStage
  repeat' first | (simp +zetaDelta; done) | refine (foldl_quiet (fun _ _ => ?_) _ _).trans ?_ | refine (foldl_quiet_fst (fun _ _ => ?_) _ _).trans ?_ | refine (foldl_quiet_snd (fun _ _ => ?_) _ _).trans ?_ | extract_lets | split | simp +zetaDelta
theorem execEnumerateReturn_quiet (ring : Nat) (entries : Option (List SatIdentity)) (s : State) {t : State} : execEnumerateReturn ring entries s = .next t → t.quiet = s.quiet := by
  intro h
  unfold execEnumerateReturn at h
  injection h with h
  subst h
  repeat' first | (simp +zetaDelta; done) | extract_lets | split
theorem execProbeReturn_quiet (ring : Nat) (roundTrip : Option Nat) (s : State) {t : State} : execProbeReturn ring roundTrip s = .next t → t.quiet = s.quiet := by
  intro h
  unfold execProbeReturn at h
  injection h with h
  subst h
  repeat' first | (simp +zetaDelta; done) | extract_lets | split
@[simp] theorem collectLost_quiet (r : Nat) (s : State) : (collectLost r s).quiet = s.quiet := by simp [collectLost]
theorem execBlank_quiet (ring : Nat) (s : State) {t : State} : execBlank ring s = .next t → t.quiet = s.quiet := by
  intro h
  simp only [execBlank, Host.Outcome.next.injEq] at h
  subst h
  simp; done
theorem execRingTrigger_quiet (ring offset : Nat) (s : State) {t : State} : execRingTrigger ring offset s = .next t → t.quiet = s.quiet := by
  intro h
  simp only [execRingTrigger, Host.Outcome.next.injEq] at h
  subst h
  simp; done
theorem execCollect_quiet (ring : Nat) (s : State) {t : State} : execCollect ring s = .next t → t.quiet = s.quiet := by
  intro h
  unfold execCollect at h
  injection h with h
  subst h
  repeat' first | (simp +zetaDelta; done) | refine (foldl_quiet (fun _ _ => ?_) _ _).trans ?_ | refine (foldl_quiet_fst (fun _ _ => ?_) _ _).trans ?_ | refine (foldl_quiet_snd (fun _ _ => ?_) _ _).trans ?_ | extract_lets | split | simp +zetaDelta
theorem execCollectTimeout_quiet (ring : Nat) (s : State) {t : State} : execCollectTimeout ring s = .next t → t.quiet = s.quiet := by
  intro h
  simp only [execCollectTimeout, Host.Outcome.next.injEq] at h
  subst h
  simp; done
theorem execLossOfCarrier_quiet (ring : Nat) (outPair : Bool) (s : State) {t : State} : execLossOfCarrier ring outPair s = .next t → t.quiet = s.quiet := by
  intro h
  simp only [execLossOfCarrier, Host.Outcome.next.injEq] at h
  subst h
  simp; done
@[simp] theorem badBlock_quiet (r : Nat) (b : SatBlock) (s : State) : (badBlock r b s).quiet = s.quiet := by
  unfold badBlock
  repeat' first | (simp +zetaDelta; done) | refine (foldl_quiet (fun _ _ => ?_) _ _).trans ?_ | refine (foldl_quiet_fst (fun _ _ => ?_) _ _).trans ?_ | refine (foldl_quiet_snd (fun _ _ => ?_) _ _).trans ?_ | extract_lets | split | simp +zetaDelta
@[simp] theorem takeBlock_quiet (r : Nat) (b : SatBlock) (s : State) : (takeBlock r b s).quiet = s.quiet := by simp [takeBlock]
@[simp] theorem takeUnaddressed_quiet (r : Nat) (far : Bool) (l before : List Slot) (s : State) : (takeUnaddressed r far l before s).quiet = s.quiet := by
  unfold takeUnaddressed
  repeat' first | (simp +zetaDelta; done) | extract_lets | split
@[simp] theorem takeSlots_quiet (r : Nat) (far : Bool) (exp : List Nat) (all before l : List Slot) (s : State) :
    (takeSlots r far exp all before l s).quiet = s.quiet := by
  induction l generalizing before s with
  | nil => rfl
  | cons x l ih =>
    unfold takeSlots
    repeat' first | (simp +zetaDelta [ih]; done) | extract_lets | split
@[simp] theorem storeSnapshot_quiet (r : Nat) (h : SnapHeader) (l : List Slot) (s : State) : (storeSnapshot r h l s).quiet = s.quiet := by
  unfold storeSnapshot
  repeat' first | (simp +zetaDelta; done) | refine (foldl_quiet (fun _ _ => ?_) _ _).trans ?_ | refine (foldl_quiet_fst (fun _ _ => ?_) _ _).trans ?_ | refine (foldl_quiet_snd (fun _ _ => ?_) _ _).trans ?_ | extract_lets | split | simp +zetaDelta
@[simp] theorem linksBack_quiet (r : Nat) (s : State) : (linksBack r s).quiet = s.quiet := by
  unfold linksBack
  repeat' first | (simp +zetaDelta; done) | refine (foldl_quiet (fun _ _ => ?_) _ _).trans ?_ | refine (foldl_quiet_fst (fun _ _ => ?_) _ _).trans ?_ | refine (foldl_quiet_snd (fun _ _ => ?_) _ _).trans ?_ | extract_lets | split | simp +zetaDelta
@[simp] theorem followPolarity_quiet (r : Nat) (reversed : Bool) (s : State) : (followPolarity r reversed s).quiet = s.quiet := by
  unfold followPolarity
  repeat' first | (simp +zetaDelta; done) | refine (foldl_quiet (fun _ _ => ?_) _ _).trans ?_ | refine (foldl_quiet_fst (fun _ _ => ?_) _ _).trans ?_ | refine (foldl_quiet_snd (fun _ _ => ?_) _ _).trans ?_ | extract_lets | split | simp +zetaDelta
@[simp] theorem countMismatch_quiet (r : Nat) (bad : Bool) (s : State) : (countMismatch r bad s).quiet = s.quiet := by
  unfold countMismatch
  repeat' first | (simp +zetaDelta; done) | refine (foldl_quiet (fun _ _ => ?_) _ _).trans ?_ | refine (foldl_quiet_fst (fun _ _ => ?_) _ _).trans ?_ | refine (foldl_quiet_snd (fun _ _ => ?_) _ _).trans ?_ | extract_lets | split | simp +zetaDelta
theorem execCollectReturn_quiet (ring : Nat) (data : CollectData) (s : State) {t : State} : execCollectReturn ring data s = .next t → t.quiet = s.quiet := by
  intro h
  unfold execCollectReturn at h
  injection h with h
  subst h
  repeat' first | (simp +zetaDelta; done) | refine (foldl_quiet (fun _ _ => ?_) _ _).trans ?_ | refine (foldl_quiet_fst (fun _ _ => ?_) _ _).trans ?_ | refine (foldl_quiet_snd (fun _ _ => ?_) _ _).trans ?_ | extract_lets | split | simp +zetaDelta
theorem execCommandWindow_quiet (ring : Nat) (s : State) {t : State} : execCommandWindow ring s = .next t → t.quiet = s.quiet := by
  intro h
  simp only [execCommandWindow, Host.Outcome.next.injEq] at h
  subst h
  simp; done
@[simp] theorem failCommands_quiet (r : Nat) (s : State) : (failCommands r s).quiet = s.quiet := by
  unfold failCommands
  repeat' first | (simp +zetaDelta; done) | refine (foldl_quiet (fun _ _ => ?_) _ _).trans ?_ | refine (foldl_quiet_fst (fun _ _ => ?_) _ _).trans ?_ | refine (foldl_quiet_snd (fun _ _ => ?_) _ _).trans ?_ | extract_lets | split | simp +zetaDelta
@[simp] theorem serveSatIdentity_quiet (p : Port) (tag : Half) (pl : List Byte) (s : State) : (serveSatIdentity p tag pl s).quiet = s.quiet := by simp [serveSatIdentity]
@[simp] theorem serveSatCommand_quiet (p : Port) (tag : Half) (pl : List Byte) (s : State) : (serveSatCommand p tag pl s).quiet = s.quiet := by simp [serveSatCommand]
theorem execSatIdentity_quiet (port : Port) (tag : Half) (payload : List Byte) (s : State) {t : State} : execSatIdentity port tag payload s = .next t → t.quiet = s.quiet := by
  intro h
  simp only [execSatIdentity, Host.Outcome.next.injEq] at h
  subst h
  simp; done
theorem execSatCommand_quiet (port : Port) (tag : Half) (payload : List Byte) (s : State) {t : State} : execSatCommand port tag payload s = .next t → t.quiet = s.quiet := by
  intro h
  simp only [execSatCommand, Host.Outcome.next.injEq] at h
  subst h
  simp; done

/-! ### Cells -/
@[simp] theorem raiseEach_quiet (l : List Nat) {f : Nat → State → State} (h : ∀ i s, (f i s).quiet = s.quiet) (s : State) :
    (raiseEach l f s).quiet = s.quiet := foldl_quiet (fun s a => h a s) l s
@[simp] theorem satFaults_quiet (k : Nat) (buf : SnapBuffer) (s : State) : (satFaults k buf s).quiet = s.quiet := by simp [satFaults]
@[simp] theorem measureCells_quiet (k : Nat) (buf : SnapBuffer) (s : State) : (measureCells k buf s).quiet = s.quiet := by simp [measureCells]
@[simp] theorem followLanes_quiet (k : Nat) (buf : SnapBuffer) (s : State) : (followLanes k buf s).quiet = s.quiet := by
  unfold followLanes
  repeat' first | (simp +zetaDelta; done) | refine (foldl_quiet (fun _ _ => ?_) _ _).trans ?_ | refine (foldl_quiet_fst (fun _ _ => ?_) _ _).trans ?_ | refine (foldl_quiet_snd (fun _ _ => ?_) _ _).trans ?_ | extract_lets | split | simp +zetaDelta
@[simp] theorem judgeLockout_quiet (k b src : Nat) (holds was : Bool) {event : State → State} (h : ∀ s, (event s).quiet = s.quiet)
    (s : State) : (judgeLockout k b src holds was event s).quiet = s.quiet := by
  unfold judgeLockout
  repeat' first | (simp [h]; done) | split
@[simp] theorem protectCells_quiet (k : Nat) (h : SnapHeader) (s : State) : (protectCells k h s).quiet = s.quiet := by simp [protectCells]
@[simp] theorem judgeSum_quiet (k : Nat) (p : ParamState) (s : State) : (judgeSum k p s).quiet = s.quiet := by
  unfold judgeSum
  repeat' first | (simp +zetaDelta; done) | extract_lets | split
@[simp] theorem judgeLimits_quiet (k at' : Nat) (s : State) : (judgeLimits k at' s).quiet = s.quiet := by simp [judgeLimits]

/-! ### Learn -/
@[simp] theorem urgentSat_quiet (k n : Nat) (s : State) : (urgentSat k n s).quiet = s.quiet := by simp [urgentSat]
@[simp] theorem modStrandMem_quiet (k : Nat) (f : StrandMem → StrandMem) (s : State) : (modStrandMem k f s).quiet = s.quiet := by simp [modStrandMem]
@[simp] theorem resetCell_quiet (k c : Nat) (s : State) : (resetCell k c s).quiet = s.quiet := by simp [resetCell]
@[simp] theorem disqualify_quiet (k c cause : Nat) (s : State) : (disqualify k c cause s).quiet = s.quiet := by simp [disqualify]
@[simp] theorem disqualifyStrand_quiet (k cause : Nat) (s : State) : (disqualifyStrand k cause s).quiet = s.quiet := by simp [disqualifyStrand]
@[simp] theorem candidate_quiet (p : ParamState) (k c : Nat) (w cand var : Rat) (s : State) : (candidate p k c w cand var s).quiet = s.quiet := by simp [candidate]
@[simp] theorem closeCycle_quiet (p : ParamState) (k c : Nat) (y : LearnCycle) (s1 var1 w1 cap : Rat) (s : State) : (closeCycle p k c y s1 var1 w1 cap s).2.quiet = s.quiet := by
  unfold closeCycle
  repeat' first | (simp +zetaDelta; done) | extract_lets | split
@[simp] theorem learnAnchor_quiet (p : ParamState) (k c : Nat) (w : Rat) (nowMs : Nat) (s : State) : (learnAnchor p k c w nowMs s).quiet = s.quiet := by
  unfold learnAnchor
  repeat' first | (simp +zetaDelta; done) | extract_lets | split
theorem execLearningCycleTimeout_quiet (cell : Nat) (s : State) {t : State} : execLearningCycleTimeout cell s = .next t → t.quiet = s.quiet := by
  intro h
  unfold execLearningCycleTimeout at h
  injection h with h
  subst h
  repeat' first | (simp +zetaDelta; done) | extract_lets | split
@[simp] theorem commitAlone_quiet (k c point : Nat) (a : Accum) (s : State) : (commitAlone k c point a s).quiet = s.quiet := by
  unfold commitAlone
  repeat' first | (simp +zetaDelta; done) | refine (foldl_quiet (fun _ _ => ?_) _ _).trans ?_ | refine (foldl_quiet_fst (fun _ _ => ?_) _ _).trans ?_ | refine (foldl_quiet_snd (fun _ _ => ?_) _ _).trans ?_ | extract_lets | split | simp +zetaDelta
@[simp] theorem takeRser_quiet (k c : Nat) (r : Rat) (point : Nat) (s : State) : (takeRser k c r point s).quiet = s.quiet := by
  unfold takeRser
  repeat' first | (simp +zetaDelta; done) | refine (foldl_quiet (fun _ _ => ?_) _ _).trans ?_ | refine (foldl_quiet_fst (fun _ _ => ?_) _ _).trans ?_ | refine (foldl_quiet_snd (fun _ _ => ?_) _ _).trans ?_ | extract_lets | split | simp +zetaDelta
@[simp] theorem takeRelax_quiet (k c : Nat) (x : Rat × Rat) (point : Nat) (s : State) : (takeRelax k c x point s).quiet = s.quiet := by
  unfold takeRelax
  repeat' first | (simp +zetaDelta; done) | refine (foldl_quiet (fun _ _ => ?_) _ _).trans ?_ | refine (foldl_quiet_fst (fun _ _ => ?_) _ _).trans ?_ | refine (foldl_quiet_snd (fun _ _ => ?_) _ _).trans ?_ | extract_lets | split | simp +zetaDelta
@[simp] theorem impedanceStep_quiet (p : ParamState) (k c : Nat) (temp : Option Rat) (z : ImpIn) (s : State) : (impedanceStep p k c temp z s).quiet = s.quiet := by
  unfold impedanceStep
  repeat' first | (simp +zetaDelta; done) | refine (foldl_quiet (fun _ _ => ?_) _ _).trans ?_ | refine (foldl_quiet_fst (fun _ _ => ?_) _ _).trans ?_ | refine (foldl_quiet_snd (fun _ _ => ?_) _ _).trans ?_ | extract_lets | split | simp +zetaDelta
@[simp] theorem startRound_quiet (s : State) : (startRound s).quiet = s.quiet := by
  unfold startRound
  repeat' first | (simp +zetaDelta; done) | refine (foldl_quiet (fun _ _ => ?_) _ _).trans ?_ | refine (foldl_quiet_fst (fun _ _ => ?_) _ _).trans ?_ | refine (foldl_quiet_snd (fun _ _ => ?_) _ _).trans ?_ | extract_lets | split | simp +zetaDelta
theorem execMemoryWriteback_quiet (done : Bool) (s : State) {t : State} : execMemoryWriteback done s = .next t → t.quiet = s.quiet := by
  intro h
  unfold execMemoryWriteback at h
  injection h with h
  subst h
  repeat' first | (simp +zetaDelta; done) | refine (foldl_quiet (fun _ _ => ?_) _ _).trans ?_ | refine (foldl_quiet_fst (fun _ _ => ?_) _ _).trans ?_ | refine (foldl_quiet_snd (fun _ _ => ?_) _ _).trans ?_ | extract_lets | split | simp +zetaDelta
@[simp] theorem abandonWrite_quiet (s : State) : (abandonWrite s).quiet = s.quiet := by
  unfold abandonWrite
  repeat' first | (simp +zetaDelta; done) | extract_lets | split
@[simp] theorem restoreMemory_quiet (s : State) : (restoreMemory s).quiet = s.quiet := by simp [restoreMemory]

/-! ### Feeds -/
@[simp] theorem feedEvent_quiet (src : Nat) (detail : List Byte) (s : State) : (feedEvent src detail s).quiet = s.quiet := by simp [feedEvent]
@[simp] theorem setFeedCode_quiet (c : FeedCode) (s : State) : (setFeedCode c s).quiet = s.quiet := by simp [setFeedCode]
@[simp] theorem setFeedMv_quiet (x : FeedId) (mv : Nat) (s : State) : (setFeedMv x mv s).quiet = s.quiet := by
  unfold setFeedMv
  repeat' first | (simp +zetaDelta; done) | extract_lets | split
@[simp] theorem carry_quiet (x : FeedId) (s : State) : (carry x s).quiet = s.quiet := by simp [carry]
@[simp] theorem abortProof_quiet (x : FeedId) (s : State) : (abortProof x s).quiet = s.quiet := by
  unfold abortProof
  repeat' first | (simp +zetaDelta; done) | refine (foldl_quiet (fun _ _ => ?_) _ _).trans ?_ | refine (foldl_quiet_fst (fun _ _ => ?_) _ _).trans ?_ | refine (foldl_quiet_snd (fun _ _ => ?_) _ _).trans ?_ | extract_lets | split | simp +zetaDelta
theorem execFeedBelowThreshold_quiet (mvA mvB : Nat) (s : State) {t : State} : execFeedBelowThreshold mvA mvB s = .next t → t.quiet = s.quiet := by
  intro h
  unfold execFeedBelowThreshold at h
  injection h with h
  subst h
  repeat' first | (simp +zetaDelta; done) | refine (foldl_quiet (fun _ _ => ?_) _ _).trans ?_ | refine (foldl_quiet_fst (fun _ _ => ?_) _ _).trans ?_ | refine (foldl_quiet_snd (fun _ _ => ?_) _ _).trans ?_ | extract_lets | split | simp +zetaDelta
theorem execHandoverComplete_quiet (s : State) {t : State} : execHandoverComplete s = .next t → t.quiet = s.quiet := by
  intro h
  unfold execHandoverComplete at h
  injection h with h
  subst h
  repeat' first | (simp +zetaDelta; done) | extract_lets | split
theorem execHandoverFailed_quiet (s : State) {t : State} : execHandoverFailed s = .next t → t.quiet = s.quiet := by
  intro h
  unfold execHandoverFailed at h
  injection h with h
  subst h
  repeat' first | (simp +zetaDelta; done) | extract_lets | split
theorem execStandbyRestored_quiet (feed : FeedId) (mv : Nat) (s : State) {t : State} : execStandbyRestored feed mv s = .next t → t.quiet = s.quiet := by
  intro h
  unfold execStandbyRestored at h
  injection h with h
  subst h
  repeat' first | (simp +zetaDelta; done) | extract_lets | split
theorem execHoldOnlyRecovery_quiet (mvA mvB : Nat) (s : State) {t : State} : execHoldOnlyRecovery mvA mvB s = .next t → t.quiet = s.quiet := by
  intro h
  simp only [execHoldOnlyRecovery, Host.Outcome.next.injEq] at h
  subst h
  simp; done
theorem execFeedsIdentical_quiet (same absent : Bool) (s : State) {t : State} : execFeedsIdentical same absent s = .next t → t.quiet = s.quiet := by
  intro h
  unfold execFeedsIdentical at h
  injection h with h
  subst h
  repeat' first | (simp +zetaDelta; done) | extract_lets | split
theorem execFeedAbove36v_quiet (feed : FeedId) (s : State) {t : State} : execFeedAbove36v feed s = .next t → t.quiet = s.quiet := by
  intro h
  simp only [execFeedAbove36v, Host.Outcome.next.injEq] at h
  subst h
  simp; done
@[simp] theorem showSingle_quiet (s : State) : (showSingle s).quiet = s.quiet := by
  unfold showSingle
  repeat' first | (simp +zetaDelta; done) | refine (foldl_quiet (fun _ _ => ?_) _ _).trans ?_ | refine (foldl_quiet_fst (fun _ _ => ?_) _ _).trans ?_ | refine (foldl_quiet_snd (fun _ _ => ?_) _ _).trans ?_ | extract_lets | split | simp +zetaDelta
theorem execFeedReversed_quiet (feed : FeedId) (s : State) {t : State} : execFeedReversed feed s = .next t → t.quiet = s.quiet := by
  intro h
  simp only [execFeedReversed, Host.Outcome.next.injEq] at h
  subst h
  simp; done
theorem execFeedStopThreshold_quiet (feed : FeedId) (s : State) {t : State} : execFeedStopThreshold feed s = .next t → t.quiet = s.quiet := by
  intro h
  simp only [execFeedStopThreshold, Host.Outcome.next.injEq] at h
  subst h
  simp; done
@[simp] theorem startProof_quiet (by' : Option Requester) (s : State) : (startProof by' s).quiet = s.quiet := by simp [startProof]
@[simp] theorem serveProofTest_quiet (p : Port) (tag : Half) (pl : List Byte) (s : State) : (serveProofTest p tag pl s).quiet = s.quiet := by simp [serveProofTest]
theorem execProofTestFeed_quiet (port : Port) (tag : Half) (payload : List Byte) (s : State) {t : State} : execProofTestFeed port tag payload s = .next t → t.quiet = s.quiet := by
  intro h
  simp only [execProofTestFeed, Host.Outcome.next.injEq] at h
  subst h
  simp; done
theorem execProofTestDue_quiet (s : State) {t : State} : execProofTestDue s = .next t → t.quiet = s.quiet := by
  intro h
  simp only [execProofTestDue, Host.Outcome.next.injEq] at h
  subst h
  simp; done
theorem execProofTestWindowEnd_quiet (result lowHold lowFeed : Nat) (s : State) {t : State} : execProofTestWindowEnd result lowHold lowFeed s = .next t → t.quiet = s.quiet := by
  intro h
  unfold execProofTestWindowEnd at h
  injection h with h
  subst h
  repeat' first | (simp +zetaDelta; done) | extract_lets | split
@[simp] theorem commitStep2_quiet (s : State) : (commitStep2 s).quiet = s.quiet := by simp [commitStep2]
@[simp] theorem commitStep4_quiet (s : State) : (commitStep4 s).quiet = s.quiet := by simp [commitStep4]
@[simp] theorem commitSteps_quiet (a b : Nat) (s : State) : (commitSteps a b s).quiet = s.quiet := by simp [commitSteps]
@[simp] theorem commitResume_quiet (s : State) : (commitResume s).quiet = s.quiet := by simp [commitResume]
theorem execPowerFailCommit_quiet (mv : Nat) (steps : Nat) (s : State) {t : State} : execPowerFailCommit mv steps s = .next t → t.quiet = s.quiet := by
  intro h
  simp only [execPowerFailCommit, Host.Outcome.next.injEq] at h
  subst h
  simp; done
theorem execCommitComplete_quiet (s : State) {t : State} : execCommitComplete s = .next t → t.quiet = s.quiet := by
  intro h
  unfold execCommitComplete at h
  injection h with h
  subst h
  repeat' first | (simp +zetaDelta; done) | extract_lets | split
theorem execSupplyRecovered_quiet (s : State) {t : State} : execSupplyRecovered s = .next t → t.quiet = s.quiet := by
  intro h
  unfold execSupplyRecovered at h
  injection h with h
  subst h
  repeat' first | (simp +zetaDelta; done) | extract_lets | split
@[simp] theorem tearSlot_quiet (s : State) : (tearSlot s).quiet = s.quiet := by
  unfold tearSlot
  repeat' first | (simp +zetaDelta; done) | extract_lets | split
theorem execOrderedShutdown_pending (s : State) {t : State} : execOrderedShutdown s = .next t → t.quiet.pending = s.quiet.pending := by
  intro h
  unfold execOrderedShutdown at h
  injection h with h
  subst h
  repeat' first | assumption | (simp [pending_quiet, mem_quiet, applied_quiet, cycles_quiet, thermal_quiet, *]; done) | (extract_lets +onlyGivenNames x; (first | (have hx : x.quiet.pending = s.quiet.pending := by unfold x; (repeat' first | assumption | (simp [pending_quiet, mem_quiet, applied_quiet, cycles_quiet, thermal_quiet, *]; done) | refine (foldl_pending (fun _ _ => ?_) _ _).trans ?_ | refine (foldl_pending_snd (fun _ _ => ?_) _ _).trans ?_ | extract_lets | (simp +zetaDelta [pending_quiet, mem_quiet, applied_quiet, cycles_quiet, thermal_quiet, *]; done) | split)) | (have hx : x.1.quiet.pending = s.quiet.pending := by unfold x; (repeat' first | assumption | (simp [pending_quiet, mem_quiet, applied_quiet, cycles_quiet, thermal_quiet, *]; done) | refine (foldl_pending (fun _ _ => ?_) _ _).trans ?_ | refine (foldl_pending_snd (fun _ _ => ?_) _ _).trans ?_ | extract_lets | (simp +zetaDelta [pending_quiet, mem_quiet, applied_quiet, cycles_quiet, thermal_quiet, *]; done) | split)) | (have hx : x.2.quiet.pending = s.quiet.pending := by unfold x; (repeat' first | assumption | (simp [pending_quiet, mem_quiet, applied_quiet, cycles_quiet, thermal_quiet, *]; done) | refine (foldl_pending (fun _ _ => ?_) _ _).trans ?_ | refine (foldl_pending_snd (fun _ _ => ?_) _ _).trans ?_ | extract_lets | (simp +zetaDelta [pending_quiet, mem_quiet, applied_quiet, cycles_quiet, thermal_quiet, *]; done) | split)) | skip); clear_value x) | refine (foldl_pending (fun _ _ => ?_) _ _).trans ?_ | split
theorem execOrderedShutdown_applied (s : State) {t : State} : execOrderedShutdown s = .next t → t.quiet.applied = s.quiet.applied := by
  intro h
  unfold execOrderedShutdown at h
  injection h with h
  subst h
  repeat' first | assumption | (simp [pending_quiet, mem_quiet, applied_quiet, cycles_quiet, thermal_quiet, *]; done) | (extract_lets +onlyGivenNames x; (first | (have hx : x.quiet.applied = s.quiet.applied := by unfold x; (repeat' first | assumption | (simp [pending_quiet, mem_quiet, applied_quiet, cycles_quiet, thermal_quiet, *]; done) | refine (foldl_applied (fun _ _ => ?_) _ _).trans ?_ | refine (foldl_applied_snd (fun _ _ => ?_) _ _).trans ?_ | extract_lets | (simp +zetaDelta [pending_quiet, mem_quiet, applied_quiet, cycles_quiet, thermal_quiet, *]; done) | split)) | (have hx : x.1.quiet.applied = s.quiet.applied := by unfold x; (repeat' first | assumption | (simp [pending_quiet, mem_quiet, applied_quiet, cycles_quiet, thermal_quiet, *]; done) | refine (foldl_applied (fun _ _ => ?_) _ _).trans ?_ | refine (foldl_applied_snd (fun _ _ => ?_) _ _).trans ?_ | extract_lets | (simp +zetaDelta [pending_quiet, mem_quiet, applied_quiet, cycles_quiet, thermal_quiet, *]; done) | split)) | (have hx : x.2.quiet.applied = s.quiet.applied := by unfold x; (repeat' first | assumption | (simp [pending_quiet, mem_quiet, applied_quiet, cycles_quiet, thermal_quiet, *]; done) | refine (foldl_applied (fun _ _ => ?_) _ _).trans ?_ | refine (foldl_applied_snd (fun _ _ => ?_) _ _).trans ?_ | extract_lets | (simp +zetaDelta [pending_quiet, mem_quiet, applied_quiet, cycles_quiet, thermal_quiet, *]; done) | split)) | skip); clear_value x) | refine (foldl_applied (fun _ _ => ?_) _ _).trans ?_ | split
theorem execOrderedShutdown_powerCycles (s : State) {t : State} : execOrderedShutdown s = .next t → t.quiet.powerCycles = s.quiet.powerCycles := by
  intro h
  unfold execOrderedShutdown at h
  injection h with h
  subst h
  repeat' first | assumption | (simp [pending_quiet, mem_quiet, applied_quiet, cycles_quiet, thermal_quiet, *]; done) | (extract_lets +onlyGivenNames x; (first | (have hx : x.quiet.powerCycles = s.quiet.powerCycles := by unfold x; (repeat' first | assumption | (simp [pending_quiet, mem_quiet, applied_quiet, cycles_quiet, thermal_quiet, *]; done) | refine (foldl_powerCycles (fun _ _ => ?_) _ _).trans ?_ | refine (foldl_powerCycles_snd (fun _ _ => ?_) _ _).trans ?_ | extract_lets | (simp +zetaDelta [pending_quiet, mem_quiet, applied_quiet, cycles_quiet, thermal_quiet, *]; done) | split)) | (have hx : x.1.quiet.powerCycles = s.quiet.powerCycles := by unfold x; (repeat' first | assumption | (simp [pending_quiet, mem_quiet, applied_quiet, cycles_quiet, thermal_quiet, *]; done) | refine (foldl_powerCycles (fun _ _ => ?_) _ _).trans ?_ | refine (foldl_powerCycles_snd (fun _ _ => ?_) _ _).trans ?_ | extract_lets | (simp +zetaDelta [pending_quiet, mem_quiet, applied_quiet, cycles_quiet, thermal_quiet, *]; done) | split)) | (have hx : x.2.quiet.powerCycles = s.quiet.powerCycles := by unfold x; (repeat' first | assumption | (simp [pending_quiet, mem_quiet, applied_quiet, cycles_quiet, thermal_quiet, *]; done) | refine (foldl_powerCycles (fun _ _ => ?_) _ _).trans ?_ | refine (foldl_powerCycles_snd (fun _ _ => ?_) _ _).trans ?_ | extract_lets | (simp +zetaDelta [pending_quiet, mem_quiet, applied_quiet, cycles_quiet, thermal_quiet, *]; done) | split)) | skip); clear_value x) | refine (foldl_powerCycles (fun _ _ => ?_) _ _).trans ?_ | split
theorem execOrderedShutdown_wf (s : State) {t : State} : execOrderedShutdown s = .next t → Memory.wf s.quiet.mem = true → Memory.wf t.quiet.mem = true := by
  intro h hw
  unfold execOrderedShutdown at h
  injection h with h
  subst h
  repeat' first | assumption | (simp [pending_quiet, mem_quiet, applied_quiet, cycles_quiet, thermal_quiet, *]; done) | (extract_lets +onlyGivenNames x; (first | (have hx : Memory.wf x.quiet.mem = true := by unfold x; (repeat' first | assumption | (simp [pending_quiet, mem_quiet, applied_quiet, cycles_quiet, thermal_quiet, *]; done) | refine foldl_wf (fun _ _ h => ?_) _ _ ?_ | refine foldl_wf_snd (fun _ _ h => ?_) _ _ ?_ | extract_lets | (simp +zetaDelta [pending_quiet, mem_quiet, applied_quiet, cycles_quiet, thermal_quiet, *]; done) | split)) | (have hx : Memory.wf x.1.quiet.mem = true := by unfold x; (repeat' first | assumption | (simp [pending_quiet, mem_quiet, applied_quiet, cycles_quiet, thermal_quiet, *]; done) | refine foldl_wf (fun _ _ h => ?_) _ _ ?_ | refine foldl_wf_snd (fun _ _ h => ?_) _ _ ?_ | extract_lets | (simp +zetaDelta [pending_quiet, mem_quiet, applied_quiet, cycles_quiet, thermal_quiet, *]; done) | split)) | (have hx : Memory.wf x.2.quiet.mem = true := by unfold x; (repeat' first | assumption | (simp [pending_quiet, mem_quiet, applied_quiet, cycles_quiet, thermal_quiet, *]; done) | refine foldl_wf (fun _ _ h => ?_) _ _ ?_ | refine foldl_wf_snd (fun _ _ h => ?_) _ _ ?_ | extract_lets | (simp +zetaDelta [pending_quiet, mem_quiet, applied_quiet, cycles_quiet, thermal_quiet, *]; done) | split)) | skip); clear_value x) | refine foldl_wf (fun _ _ h => ?_) _ _ ?_ | split
theorem execHibernateHoldLow_quiet (s : State) {t : State} : execHibernateHoldLow s = .next t → t.quiet = s.quiet := by
  intro h
  simp only [execHibernateHoldLow, Host.Outcome.next.injEq] at h
  subst h
  simp; done
theorem execJournalPeriodic_quiet (s : State) {t : State} : execJournalPeriodic s = .next t → t.quiet = s.quiet := by
  intro h
  simp only [execJournalPeriodic, Host.Outcome.next.injEq] at h
  subst h
  simp; done

/-! ### Guard -/
@[simp] theorem judgeLanes_quiet (r n : Nat) (s : State) : (judgeLanes r n s).quiet = s.quiet := by simp [judgeLanes]
@[simp] theorem modLane_quiet (r n : Nat) (f : GuardLane → GuardLane) (s : State) : (modLane r n f s).quiet = s.quiet := by simp [modLane]
theorem execFlagLane_quiet (ring : Nat) (lane : Half) (s : State) {t : State} : execFlagLane ring lane s = .next t → t.quiet = s.quiet := by
  intro h
  simp only [execFlagLane, Host.Outcome.next.injEq] at h
  subst h
  simp; done
theorem execLaneTimeout_quiet (ring addr : Nat) (s : State) {t : State} : execLaneTimeout ring addr s = .next t → t.quiet = s.quiet := by
  intro h
  simp only [execLaneTimeout, Host.Outcome.next.injEq] at h
  subst h
  simp; done
@[simp] theorem overcurrent_quiet (k : Nat) (s : State) : (overcurrent k s).quiet = s.quiet := by
  unfold overcurrent
  split <;> simp
theorem execOcComparator_quiet (strand : Nat) (asserted : Bool) (s : State) {t : State} : execOcComparator strand asserted s = .next t → t.quiet = s.quiet := by
  intro h
  simp only [execOcComparator, Host.Outcome.next.injEq] at h
  subst h
  simp; done
@[simp] theorem modWatchdog_quiet (f : Watchdog → Watchdog) (s : State) : (modWatchdog f s).quiet = s.quiet := by simp [modWatchdog]
theorem execWatchdogChallenge_quiet (value : Nat) (s : State) {t : State} : execWatchdogChallenge value s = .next t → t.quiet = s.quiet := by
  intro h
  simp only [execWatchdogChallenge, Host.Outcome.next.injEq] at h
  subst h
  simp; done
theorem execWatchdogResponse_quiet (value : Nat) (intime : Bool) (s : State) {t : State} : execWatchdogResponse value intime s = .next t → t.quiet = s.quiet := by
  intro h
  unfold execWatchdogResponse at h
  injection h with h
  subst h
  repeat' first | (simp +zetaDelta; done) | extract_lets | split
theorem execWatchdogWindowClose_pending (s : State) {t : State} : execWatchdogWindowClose s = .next t → t.quiet.pending = s.quiet.pending := by
  intro h
  unfold execWatchdogWindowClose at h
  injection h with h
  subst h
  repeat' first | (simp +zetaDelta [pending_quiet, mem_quiet, applied_quiet, cycles_quiet, thermal_quiet]; done) | extract_lets | split
theorem execWatchdogWindowClose_applied (s : State) {t : State} : execWatchdogWindowClose s = .next t → t.quiet.applied = s.quiet.applied := by
  intro h
  unfold execWatchdogWindowClose at h
  injection h with h
  subst h
  repeat' first | (simp +zetaDelta [pending_quiet, mem_quiet, applied_quiet, cycles_quiet, thermal_quiet]; done) | extract_lets | split
theorem execWatchdogWindowClose_powerCycles (s : State) {t : State} : execWatchdogWindowClose s = .next t → t.quiet.powerCycles = s.quiet.powerCycles := by
  intro h
  unfold execWatchdogWindowClose at h
  injection h with h
  subst h
  repeat' first | (simp +zetaDelta [pending_quiet, mem_quiet, applied_quiet, cycles_quiet, thermal_quiet]; done) | extract_lets | split
theorem execWatchdogWindowClose_thermal (s : State) {t : State} : execWatchdogWindowClose s = .next t → t.quiet.thermal = s.quiet.thermal := by
  intro h
  unfold execWatchdogWindowClose at h
  injection h with h
  subst h
  repeat' first | (simp +zetaDelta [pending_quiet, mem_quiet, applied_quiet, cycles_quiet, thermal_quiet]; done) | extract_lets | split
theorem execWatchdogWindowClose_wf (s : State) {t : State} : execWatchdogWindowClose s = .next t → Memory.wf s.quiet.mem = true → Memory.wf t.quiet.mem = true := by
  intro h hw
  unfold execWatchdogWindowClose at h
  injection h with h
  subst h
  repeat' first | (simp +zetaDelta [pending_quiet, mem_quiet, applied_quiet, cycles_quiet, thermal_quiet, *]; done) | extract_lets | split
theorem execAc0SupervisionTask_quiet (s : State) {t : State} : execAc0SupervisionTask s = .next t → t.quiet = s.quiet := by
  intro h
  simp only [execAc0SupervisionTask, Host.Outcome.next.injEq] at h
  subst h
  simp; done
theorem execAc0WordTimeout_quiet (s : State) {t : State} : execAc0WordTimeout s = .next t → t.quiet = s.quiet := by
  intro h
  simp only [execAc0WordTimeout, Host.Outcome.next.injEq] at h
  subst h
  simp; done
@[simp] theorem judgeDemand_quiet (p : Nat) (s : State) : (judgeDemand p s).quiet = s.quiet := by simp [judgeDemand]
theorem execSafetyInputChange_quiet (input : Nat) (closed : Bool) (s : State) {t : State} : execSafetyInputChange input closed s = .next t → t.quiet = s.quiet := by
  intro h
  simp only [execSafetyInputChange, Host.Outcome.next.injEq] at h
  subst h
  simp; done
theorem execDiscrepancyTimeout_quiet (pair : Nat) (s : State) {t : State} : execDiscrepancyTimeout pair s = .next t → t.quiet = s.quiet := by
  intro h
  simp only [execDiscrepancyTimeout, Host.Outcome.next.injEq] at h
  subst h
  simp; done
theorem execTsDarkWindow_quiet (group : Nat) (own foreign : Nat) (s : State) {t : State} : execTsDarkWindow group own foreign s = .next t → t.quiet = s.quiet := by
  intro h
  simp only [execTsDarkWindow, Host.Outcome.next.injEq] at h
  subst h
  simp; done
@[simp] theorem guardFirstLook_quiet (s : State) : (guardFirstLook s).quiet = s.quiet :=
  (foldl_quiet (fun s k => by split <;> simp) _ _).trans (foldl_quiet (fun s k => by split <;> simp) _ _)
theorem execEnableTestGap_quiet (output : Nat) (passed : Bool) (s : State) {t : State} : execEnableTestGap output passed s = .next t → t.quiet = s.quiet := by
  intro h
  simp only [execEnableTestGap, Host.Outcome.next.injEq] at h
  subst h
  simp; done
theorem execAc0CommandTest_quiet (output : Nat) (passed : Bool) (s : State) {t : State} : execAc0CommandTest output passed s = .next t → t.quiet = s.quiet := by
  intro h
  simp only [execAc0CommandTest, Host.Outcome.next.injEq] at h
  subst h
  simp; done
theorem execOscillatorCheck_quiet (good : Bool) (s : State) {t : State} : execOscillatorCheck good s = .next t → t.quiet = s.quiet := by
  intro h
  simp only [execOscillatorCheck, Host.Outcome.next.injEq] at h
  subst h
  simp; done
@[simp] theorem writeGuardConfig_quiet (s : State) : (writeGuardConfig s).quiet = s.quiet := by simp [writeGuardConfig]
@[simp] theorem guardMismatch_quiet (s : State) : (guardMismatch s).quiet = s.quiet := by simp [guardMismatch]
theorem execGuardConfigCrcCheck_quiet (good : Bool) (s : State) {t : State} : execGuardConfigCrcCheck good s = .next t → t.quiet = s.quiet := by
  intro h
  simp only [execGuardConfigCrcCheck, Host.Outcome.next.injEq] at h
  subst h
  simp; done
theorem execGuardConfigReadback_quiet (good : Bool) (s : State) {t : State} : execGuardConfigReadback good s = .next t → t.quiet = s.quiet := by
  intro h
  simp only [execGuardConfigReadback, Host.Outcome.next.injEq] at h
  subst h
  simp; done
theorem execStrandTripClear_quiet (strand : Nat) (s : State) {t : State} : execStrandTripClear strand s = .next t → t.quiet = s.quiet := by
  intro h
  simp only [execStrandTripClear, Host.Outcome.next.injEq] at h
  subst h
  simp; done
theorem execLockRstPress_quiet (s : State) {t : State} : execLockRstPress s = .next t → t.quiet = s.quiet := by
  intro h
  simp only [execLockRstPress, Host.Outcome.next.injEq] at h
  subst h
  simp; done
theorem execLockRstRelease_pending (held : Nat) (s : State) {t : State} : execLockRstRelease held s = .next t → t.quiet.pending = s.quiet.pending := by
  intro h
  unfold execLockRstRelease at h
  injection h with h
  subst h
  repeat' first | (simp +zetaDelta [pending_quiet, mem_quiet, applied_quiet, cycles_quiet, thermal_quiet]; done) | extract_lets | split
theorem execLockRstRelease_applied (held : Nat) (s : State) {t : State} : execLockRstRelease held s = .next t → t.quiet.applied = s.quiet.applied := by
  intro h
  unfold execLockRstRelease at h
  injection h with h
  subst h
  repeat' first | (simp +zetaDelta [pending_quiet, mem_quiet, applied_quiet, cycles_quiet, thermal_quiet]; done) | extract_lets | split
theorem execLockRstRelease_powerCycles (held : Nat) (s : State) {t : State} : execLockRstRelease held s = .next t → t.quiet.powerCycles = s.quiet.powerCycles := by
  intro h
  unfold execLockRstRelease at h
  injection h with h
  subst h
  repeat' first | (simp +zetaDelta [pending_quiet, mem_quiet, applied_quiet, cycles_quiet, thermal_quiet]; done) | extract_lets | split
theorem execLockRstRelease_thermal (held : Nat) (s : State) {t : State} : execLockRstRelease held s = .next t → t.quiet.thermal = s.quiet.thermal := by
  intro h
  unfold execLockRstRelease at h
  injection h with h
  subst h
  repeat' first | (simp +zetaDelta [pending_quiet, mem_quiet, applied_quiet, cycles_quiet, thermal_quiet]; done) | extract_lets | split
theorem execLockRstRelease_wf (held : Nat) (s : State) {t : State} : execLockRstRelease held s = .next t → Memory.wf s.quiet.mem = true → Memory.wf t.quiet.mem = true := by
  intro h hw
  unfold execLockRstRelease at h
  injection h with h
  subst h
  repeat' first | (simp +zetaDelta [pending_quiet, mem_quiet, applied_quiet, cycles_quiet, thermal_quiet, *]; done) | extract_lets | split
theorem execLockoutArmExpiry_quiet (s : State) {t : State} : execLockoutArmExpiry s = .next t → t.quiet = s.quiet := by
  intro h
  simp only [execLockoutArmExpiry, Host.Outcome.next.injEq] at h
  subst h
  simp; done
@[simp] theorem logChange_quiet (e : ChangeEntry) (s : State) : (logChange e s).quiet = s.quiet := by simp [logChange]

end Sys2Proof.Machine
end

