-- ==== Sys2Proof/Laws/FramesPort.lean ====
section
/-! SUPPORT. What the operations leave alone: requests, two-wire, field I/O, balancing, loops and banks. -/
namespace Sys2Proof.Machine
open Sys2Proof
set_option linter.unusedTactic false
set_option linter.unreachableTactic false

set_option maxRecDepth 4000
set_option linter.unusedSimpArgs false

/-! ### Requests -/
@[simp] theorem serveIdentity_quiet (p : Port) (tag : Half) (pl : List Byte) (s : State) : (serveIdentity p tag pl s).quiet = s.quiet := by simp [serveIdentity]
@[simp] theorem serveStatus_quiet (p : Port) (tag : Half) (pl : List Byte) (s : State) : (serveStatus p tag pl s).quiet = s.quiet := by simp [serveStatus]
@[simp] theorem serveEcho_quiet (p : Port) (tag : Half) (pl : List Byte) (s : State) : (serveEcho p tag pl s).quiet = s.quiet := by simp [serveEcho]
@[simp] theorem acceptMode_quiet (t : Mode) (by' : Requester) (s : State) : (acceptMode t by' s).quiet = s.quiet := by simp [acceptMode]
@[simp] theorem serveRequestMode_quiet (p : Port) (tag : Half) (pl : List Byte) (s : State) : (serveRequestMode p tag pl s).quiet = s.quiet := by
  unfold serveRequestMode
  repeat' first | (simp +zetaDelta; done) | extract_lets | split
@[simp] theorem serveConnect_quiet (p : Port) (tag : Half) (pl : List Byte) (s : State) : (serveConnect p tag pl s).quiet = s.quiet := by
  unfold serveConnect
  refine serve_quiet _ _ _ _ _ (fun s => ?_) _
  split
  · simp
  · split
    · simp
    · split <;> simp
@[simp] theorem disconnect_quiet (m : Nat) (by' : Requester) (s : State) : (disconnect m by' s).1.quiet = s.quiet := by
  unfold disconnect
  repeat' first | (simp +zetaDelta; done) | extract_lets | split
@[simp] theorem serveDisconnect_quiet (p : Port) (tag : Half) (pl : List Byte) (s : State) : (serveDisconnect p tag pl s).quiet = s.quiet := by
  unfold serveDisconnect
  refine serve_quiet _ _ _ _ _ (fun s => ?_) _
  dsimp only
  repeat' first | (simp +zetaDelta; done) | extract_lets | split
@[simp] theorem serveLockArm_quiet (p : Port) (tag : Half) (pl : List Byte) (s : State) : (serveLockArm p tag pl s).quiet = s.quiet := by
  unfold serveLockArm
  refine serve_quiet _ _ _ _ _ (fun s => ?_) _
  dsimp only
  repeat' first | (simp +zetaDelta; done) | extract_lets | split
@[simp] theorem serveResetModule_quiet (p : Port) (tag : Half) (pl : List Byte) (s : State) : (serveResetModule p tag pl s).quiet = s.quiet := by
  unfold serveResetModule
  refine serve_quiet _ _ _ _ _ (fun s => ?_) _
  dsimp only
  repeat' first | (simp +zetaDelta; done) | extract_lets | split
theorem execModuleResetAfterReply_pending (s : State) {t : State} : execModuleResetAfterReply s = .next t → t.quiet.pending = s.quiet.pending := by
  intro h
  unfold execModuleResetAfterReply at h
  injection h with h
  subst h
  repeat' first | (simp +zetaDelta [pending_quiet, mem_quiet, applied_quiet, cycles_quiet, thermal_quiet]; done) | extract_lets | split
theorem execModuleResetAfterReply_applied (s : State) {t : State} : execModuleResetAfterReply s = .next t → t.quiet.applied = s.quiet.applied := by
  intro h
  unfold execModuleResetAfterReply at h
  injection h with h
  subst h
  repeat' first | (simp +zetaDelta [pending_quiet, mem_quiet, applied_quiet, cycles_quiet, thermal_quiet]; done) | extract_lets | split
theorem execModuleResetAfterReply_powerCycles (s : State) {t : State} : execModuleResetAfterReply s = .next t → t.quiet.powerCycles = s.quiet.powerCycles := by
  intro h
  unfold execModuleResetAfterReply at h
  injection h with h
  subst h
  repeat' first | (simp +zetaDelta [pending_quiet, mem_quiet, applied_quiet, cycles_quiet, thermal_quiet]; done) | extract_lets | split
theorem execModuleResetAfterReply_thermal (s : State) {t : State} : execModuleResetAfterReply s = .next t → t.quiet.thermal = s.quiet.thermal := by
  intro h
  unfold execModuleResetAfterReply at h
  injection h with h
  subst h
  repeat' first | (simp +zetaDelta [pending_quiet, mem_quiet, applied_quiet, cycles_quiet, thermal_quiet]; done) | extract_lets | split
theorem execModuleResetAfterReply_wf (s : State) {t : State} : execModuleResetAfterReply s = .next t → Memory.wf s.quiet.mem = true → Memory.wf t.quiet.mem = true := by
  intro h hw
  unfold execModuleResetAfterReply at h
  injection h with h
  subst h
  repeat' first | (simp +zetaDelta [pending_quiet, mem_quiet, applied_quiet, cycles_quiet, thermal_quiet, *]; done) | extract_lets | split
@[simp] theorem serveReadPoints_quiet (p : Port) (tag : Half) (pl : List Byte) (s : State) : (serveReadPoints p tag pl s).quiet = s.quiet := by
  unfold serveReadPoints
  repeat' first | (simp +zetaDelta; done) | extract_lets | split
@[simp] theorem serveSubscribe_quiet (p : Port) (tag : Half) (pl : List Byte) (s : State) : (serveSubscribe p tag pl s).quiet = s.quiet := by
  unfold serveSubscribe
  repeat' first | (simp +zetaDelta; done) | extract_lets | split
@[simp] theorem markSubs_quiet (p : Port) (f : Subscription → Bool) (s : State) : (markSubs p f s).quiet = s.quiet := by simp [markSubs]
theorem execPointData_quiet (port : Port) (num : Nat) (s : State) {t : State} : execPointData port num s = .next t → t.quiet = s.quiet := by
  intro h
  unfold execPointData at h
  injection h with h
  subst h
  repeat' first | (simp +zetaDelta; done) | refine (foldl_quiet (fun _ _ => ?_) _ _).trans ?_ | refine (foldl_quiet_fst (fun _ _ => ?_) _ _).trans ?_ | refine (foldl_quiet_snd (fun _ _ => ?_) _ _).trans ?_ | extract_lets | split | simp +zetaDelta
@[simp] theorem postDue_quiet (p : Port) (s : State) : (postDue p s).quiet = s.quiet := by simp [postDue]
@[simp] theorem serveReadSnapshot_quiet (p : Port) (tag : Half) (pl : List Byte) (s : State) : (serveReadSnapshot p tag pl s).quiet = s.quiet := by
  unfold serveReadSnapshot
  refine serve_quiet _ _ _ _ _ (fun s => ?_) _
  dsimp only
  repeat' first | (simp +zetaDelta; done) | extract_lets | split
theorem execGetIdentity_quiet (port : Port) (tag : Half) (payload : List Byte) (s : State) {t : State} : execGetIdentity port tag payload s = .next t → t.quiet = s.quiet := by
  intro h
  simp only [execGetIdentity, Host.Outcome.next.injEq] at h
  subst h
  simp; done
theorem execGetStatus_quiet (port : Port) (tag : Half) (payload : List Byte) (s : State) {t : State} : execGetStatus port tag payload s = .next t → t.quiet = s.quiet := by
  intro h
  simp only [execGetStatus, Host.Outcome.next.injEq] at h
  subst h
  simp; done
theorem execEcho_quiet (port : Port) (tag : Half) (payload : List Byte) (s : State) {t : State} : execEcho port tag payload s = .next t → t.quiet = s.quiet := by
  intro h
  simp only [execEcho, Host.Outcome.next.injEq] at h
  subst h
  simp; done
theorem execRequestMode_quiet (port : Port) (tag : Half) (payload : List Byte) (s : State) {t : State} : execRequestMode port tag payload s = .next t → t.quiet = s.quiet := by
  intro h
  simp only [execRequestMode, Host.Outcome.next.injEq] at h
  subst h
  simp; done
theorem execConnectStrands_quiet (port : Port) (tag : Half) (payload : List Byte) (s : State) {t : State} : execConnectStrands port tag payload s = .next t → t.quiet = s.quiet := by
  intro h
  simp only [execConnectStrands, Host.Outcome.next.injEq] at h
  subst h
  simp; done
theorem execDisconnectStrands_quiet (port : Port) (tag : Half) (payload : List Byte) (s : State) {t : State} : execDisconnectStrands port tag payload s = .next t → t.quiet = s.quiet := by
  intro h
  simp only [execDisconnectStrands, Host.Outcome.next.injEq] at h
  subst h
  simp; done
theorem execLockoutResetArm_quiet (port : Port) (tag : Half) (payload : List Byte) (s : State) {t : State} : execLockoutResetArm port tag payload s = .next t → t.quiet = s.quiet := by
  intro h
  simp only [execLockoutResetArm, Host.Outcome.next.injEq] at h
  subst h
  simp; done
theorem execResetModule_quiet (port : Port) (tag : Half) (payload : List Byte) (s : State) {t : State} : execResetModule port tag payload s = .next t → t.quiet = s.quiet := by
  intro h
  simp only [execResetModule, Host.Outcome.next.injEq] at h
  subst h
  simp; done
theorem execReadPoints_quiet (port : Port) (tag : Half) (payload : List Byte) (s : State) {t : State} : execReadPoints port tag payload s = .next t → t.quiet = s.quiet := by
  intro h
  simp only [execReadPoints, Host.Outcome.next.injEq] at h
  subst h
  simp; done
theorem execSubscribePoints_quiet (port : Port) (tag : Half) (payload : List Byte) (s : State) {t : State} : execSubscribePoints port tag payload s = .next t → t.quiet = s.quiet := by
  intro h
  simp only [execSubscribePoints, Host.Outcome.next.injEq] at h
  subst h
  simp; done
theorem execReadSnapshot_quiet (port : Port) (tag : Half) (payload : List Byte) (s : State) {t : State} : execReadSnapshot port tag payload s = .next t → t.quiet = s.quiet := by
  intro h
  simp only [execReadSnapshot, Host.Outcome.next.injEq] at h
  subst h
  simp; done

/-! ### TwoWire -/
@[simp] theorem modTw_quiet (f : TwTarget → TwTarget) (s : State) : (modTw f s).quiet = s.quiet := by simp [modTw]
@[simp] theorem raiseTw_quiet (e : TwError) (addr : Nat) (s : State) : (raiseTw e addr s).quiet = s.quiet := by simp [raiseTw]
@[simp] theorem twEcho_quiet (st arg : Nat) (s : State) : (twEcho st arg s).quiet = s.quiet := by simp [twEcho]
@[simp] theorem twNibble_quiet (st : Nat) (s : State) : (twNibble st s).quiet = s.quiet := by simp [twNibble]
@[simp] theorem runWord_quiet (code arg : Nat) (s : State) : (runWord code arg s).quiet = s.quiet := by
  unfold runWord
  repeat' first | (simp +zetaDelta; done) | extract_lets | split
@[simp] theorem twPost_quiet (code arg : Nat) (s : State) : (twPost code arg s).quiet = s.quiet := by
  unfold twPost
  repeat' first | (simp +zetaDelta; done) | refine (foldl_quiet (fun _ _ => ?_) _ _).trans ?_ | refine (foldl_quiet_fst (fun _ _ => ?_) _ _).trans ?_ | refine (foldl_quiet_snd (fun _ _ => ?_) _ _).trans ?_ | extract_lets | split | simp +zetaDelta
theorem execTwStatusRead_quiet (s : State) {t : State} : execTwStatusRead s = .next t → t.quiet = s.quiet := by
  intro h
  simp only [execTwStatusRead, Host.Outcome.next.injEq] at h
  subst h
  simp; done
theorem execTwReplyRead_quiet (s : State) {t : State} : execTwReplyRead s = .next t → t.quiet = s.quiet := by
  intro h
  simp only [execTwReplyRead, Host.Outcome.next.injEq] at h
  subst h
  simp; done
theorem execTwStretchExpired_quiet (s : State) {t : State} : execTwStretchExpired s = .next t → t.quiet = s.quiet := by
  intro h
  simp only [execTwStretchExpired, Host.Outcome.next.injEq] at h
  subst h
  simp; done
theorem execTwProtocol_quiet (s : State) {t : State} : execTwProtocol s = .next t → t.quiet = s.quiet := by
  intro h
  simp only [execTwProtocol, Host.Outcome.next.injEq] at h
  subst h
  simp; done
theorem execTwSclTimeout_quiet (s : State) {t : State} : execTwSclTimeout s = .next t → t.quiet = s.quiet := by
  intro h
  simp only [execTwSclTimeout, Host.Outcome.next.injEq] at h
  subst h
  simp; done
theorem execTwWriteDiscarded_quiet (_bytes : List Byte) (s : State) {t : State} : execTwWriteDiscarded _bytes s = .next t → t.quiet = s.quiet := by
  intro h
  simp only [execTwWriteDiscarded, Host.Outcome.next.injEq] at h
  subst h
  simp; done
theorem execVioLost_quiet (s : State) {t : State} : execVioLost s = .next t → t.quiet = s.quiet := by
  intro h
  simp only [execVioLost, Host.Outcome.next.injEq] at h
  subst h
  simp; done
theorem execVioRestored_quiet (s : State) {t : State} : execVioRestored s = .next t → t.quiet = s.quiet := by
  intro h
  simp only [execVioRestored, Host.Outcome.next.injEq] at h
  subst h
  simp; done
@[simp] theorem modTwc_quiet (f : TwController → TwController) (s : State) : (modTwc f s).quiet = s.quiet := by simp [modTwc]
theorem execTwSlotDue_quiet (slot : Nat) (s : State) {t : State} : execTwSlotDue slot s = .next t → t.quiet = s.quiet := by
  intro h
  unfold execTwSlotDue at h
  injection h with h
  subst h
  repeat' first | (simp +zetaDelta; done) | refine (foldl_quiet (fun _ _ => ?_) _ _).trans ?_ | refine (foldl_quiet_fst (fun _ _ => ?_) _ _).trans ?_ | refine (foldl_quiet_snd (fun _ _ => ?_) _ _).trans ?_ | extract_lets | split | simp +zetaDelta
@[simp] theorem endTransaction_quiet (j : Nat) (value : Option Int) (ok : Bool) (s : State) : (endTransaction j value ok s).quiet = s.quiet := by simp [endTransaction]
@[simp] theorem failTransaction_quiet (s : State) : (failTransaction s).quiet = s.quiet := by
  unfold failTransaction
  repeat' first | (simp +zetaDelta; done) | extract_lets | split
theorem execTwTransactionDone_quiet (ok : Bool) (data : List Byte) (s : State) {t : State} : execTwTransactionDone ok data s = .next t → t.quiet = s.quiet := by
  intro h
  unfold execTwTransactionDone at h
  injection h with h
  subst h
  repeat' first | (simp +zetaDelta; done) | extract_lets | split
theorem execArbLost_quiet (byteIndex bitIndex : Nat) (s : State) {t : State} : execArbLost byteIndex bitIndex s = .next t → t.quiet = s.quiet := by
  intro h
  unfold execArbLost at h
  injection h with h
  subst h
  repeat' first | (simp +zetaDelta; done) | extract_lets | split
theorem execTwCtrlTimeout_quiet (s : State) {t : State} : execTwCtrlTimeout s = .next t → t.quiet = s.quiet := by
  intro h
  simp only [execTwCtrlTimeout, Host.Outcome.next.injEq] at h
  subst h
  simp; done
theorem execTwBusStuck_quiet (recovered : Bool) (s : State) {t : State} : execTwBusStuck recovered s = .next t → t.quiet = s.quiet := by
  intro h
  simp only [execTwBusStuck, Host.Outcome.next.injEq] at h
  subst h
  simp; done
theorem execTwBusFree_quiet (s : State) {t : State} : execTwBusFree s = .next t → t.quiet = s.quiet := by
  intro h
  simp only [execTwBusFree, Host.Outcome.next.injEq] at h
  subst h
  simp; done

/-! ### Ram -/
@[simp] theorem freeBytes_quiet (n : Nat) (s : State) : (freeBytes n s).2.quiet = s.quiet := by simp [freeBytes]
@[simp] theorem readBank_quiet (bank offset n : Nat) (s : State) : (readBank bank offset n s).2.quiet = s.quiet := by simp [readBank]

/-! ### FieldIo -/
@[simp] theorem modOut_quiet (i : Nat) (f : OutputState → OutputState) (s : State) : (modOut i f s).quiet = s.quiet := by simp [modOut]
@[simp] theorem withdrawOut_quiet (i : Nat) (s : State) : (withdrawOut i s).quiet = s.quiet := by simp [withdrawOut]
@[simp] theorem soLock_quiet (i : Nat) (s : State) : (soLock i s).quiet = s.quiet := by simp [soLock]
@[simp] theorem setVerdict_quiet (i v : Nat) (s : State) : (setVerdict i v s).quiet = s.quiet := by simp [setVerdict]
theorem execFieldReadback_quiet (output : OutputId) (data : Readback) (s : State) {t : State} : execFieldReadback output data s = .next t → t.quiet = s.quiet := by
  intro h
  simp only [execFieldReadback, Host.Outcome.next.injEq] at h
  subst h
  simp; done
theorem execOverloadCutoff_quiet (output : OutputId) (s : State) {t : State} : execOverloadCutoff output s = .next t → t.quiet = s.quiet := by
  intro h
  simp only [execOverloadCutoff, Host.Outcome.next.injEq] at h
  subst h
  simp; done
theorem execOverloadRetry_quiet (output : OutputId) (s : State) {t : State} : execOverloadRetry output s = .next t → t.quiet = s.quiet := by
  intro h
  simp only [execOverloadRetry, Host.Outcome.next.injEq] at h
  subst h
  simp; done
theorem execOverloadSequenceEnd_quiet (output : OutputId) (s : State) {t : State} : execOverloadSequenceEnd output s = .next t → t.quiet = s.quiet := by
  intro h
  simp only [execOverloadSequenceEnd, Host.Outcome.next.injEq] at h
  subst h
  simp; done
theorem execShortSearch_quiet (output : OutputId) (partner : Option Nat) (s : State) {t : State} : execShortSearch output partner s = .next t → t.quiet = s.quiet := by
  intro h
  unfold execShortSearch at h
  injection h with h
  subst h
  repeat' first | (simp +zetaDelta; done) | extract_lets | split
@[simp] theorem modLplus_quiet (x : Nat) (f : LPlus → LPlus) (s : State) : (modLplus x f s).quiet = s.quiet := by simp [modLplus]
theorem execLplusWarning_quiet (supply : Nat) (mv : Nat) (low : Bool) (s : State) {t : State} : execLplusWarning supply mv low s = .next t → t.quiet = s.quiet := by
  intro h
  simp only [execLplusWarning, Host.Outcome.next.injEq] at h
  subst h
  simp; done
theorem execLplusLow_quiet (supply : Nat) (mv : Nat) (s : State) {t : State} : execLplusLow supply mv s = .next t → t.quiet = s.quiet := by
  intro h
  simp only [execLplusLow, Host.Outcome.next.injEq] at h
  subst h
  simp; done
theorem execLplusRelease_quiet (supply : Nat) (mv : Nat) (s : State) {t : State} : execLplusRelease supply mv s = .next t → t.quiet = s.quiet := by
  intro h
  simp only [execLplusRelease, Host.Outcome.next.injEq] at h
  subst h
  simp; done
theorem execDiFilter_quiet (input : Nat) (level : Bool) (s : State) {t : State} : execDiFilter input level s = .next t → t.quiet = s.quiet := by
  intro h
  simp only [execDiFilter, Host.Outcome.next.injEq] at h
  subst h
  simp; done
@[simp] theorem modAi_quiet (i : Nat) (f : AiState → AiState) (s : State) : (modAi i f s).quiet = s.quiet := by simp [modAi]
@[simp] theorem setAiStatus_quiet (i st : Nat) (s : State) : (setAiStatus i st s).quiet = s.quiet := by simp [setAiStatus]
theorem execAiSample_quiet (input : Nat) (micro : Int) (s : State) {t : State} : execAiSample input micro s = .next t → t.quiet = s.quiet := by
  intro h
  simp only [execAiSample, Host.Outcome.next.injEq] at h
  subst h
  simp; done
theorem execAiWireBreak_quiet (input : Nat) (broken : Bool) (s : State) {t : State} : execAiWireBreak input broken s = .next t → t.quiet = s.quiet := by
  intro h
  simp only [execAiWireBreak, Host.Outcome.next.injEq] at h
  subst h
  simp; done
theorem execAiBurdenReopen_quiet (input : Nat) (s : State) {t : State} : execAiBurdenReopen input s = .next t → t.quiet = s.quiet := by
  intro h
  simp only [execAiBurdenReopen, Host.Outcome.next.injEq] at h
  subst h
  simp; done
@[simp] theorem modPi_quiet (i : Nat) (f : PiState → PiState) (s : State) : (modPi i f s).quiet = s.quiet := by simp [modPi]
theorem execPiEdge_quiet (input : Nat) (stamp : Nat) (short : Bool) (s : State) {t : State} : execPiEdge input stamp short s = .next t → t.quiet = s.quiet := by
  intro h
  simp only [execPiEdge, Host.Outcome.next.injEq] at h
  subst h
  simp; done
theorem execPiGate_quiet (input : Nat) (s : State) {t : State} : execPiGate input s = .next t → t.quiet = s.quiet := by
  intro h
  simp only [execPiGate, Host.Outcome.next.injEq] at h
  subst h
  simp; done
theorem execPiNoInput_quiet (input : Nat) (s : State) {t : State} : execPiNoInput input s = .next t → t.quiet = s.quiet := by
  intro h
  simp only [execPiNoInput, Host.Outcome.next.injEq] at h
  subst h
  simp; done
@[simp] theorem driveAo_quiet (i u : Nat) (s : State) : (driveAo i u s).quiet = s.quiet := by simp [driveAo]
@[simp] theorem reconfigureAo_quiet (i : Nat) (s : State) : (reconfigureAo i s).quiet = s.quiet := by simp [reconfigureAo]
@[simp] theorem driveGo_quiet (y u : Nat) (s : State) : (driveGo y u s).quiet = s.quiet := by simp [driveGo]
@[simp] theorem judgeTarget_quiet (n : Nat) (s : State) : (judgeTarget n s).quiet = s.quiet := by
  unfold judgeTarget
  repeat' first | (simp +zetaDelta; done) | extract_lets | split
theorem execAoFault_quiet (output code : Nat) (readback : Int) (s : State) {t : State} : execAoFault output code readback s = .next t → t.quiet = s.quiet := by
  intro h
  simp only [execAoFault, Host.Outcome.next.injEq] at h
  subst h
  simp; done
@[simp] theorem applySoCmd_quiet (v : Nat) (s : State) : (applySoCmd v s).quiet = s.quiet := by simp [applySoCmd]
@[simp] theorem applyLatchClear_quiet (v : Nat) (s : State) : (applyLatchClear v s).quiet = s.quiet := by simp [applyLatchClear]
@[simp] theorem applyGoCmd_quiet (y u : Nat) (s : State) : (applyGoCmd y u s).quiet = s.quiet := by simp [applyGoCmd]
@[simp] theorem applyAoCmd_quiet (i u : Nat) (s : State) : (applyAoCmd i u s).quiet = s.quiet := by simp [applyAoCmd]
@[simp] theorem fieldOff_quiet (s : State) : (fieldOff s).quiet = s.quiet := by simp [fieldOff]
@[simp] theorem fieldOn_quiet (s : State) : (fieldOn s).quiet = s.quiet := by
  unfold fieldOn
  repeat' first | (simp +zetaDelta; done) | refine (foldl_quiet (fun _ _ => ?_) _ _).trans ?_ | refine (foldl_quiet_fst (fun _ _ => ?_) _ _).trans ?_ | refine (foldl_quiet_snd (fun _ _ => ?_) _ _).trans ?_ | extract_lets | split | simp +zetaDelta

/-! ### OpenWire -/
@[simp] theorem setBroken_quiet (k : Nat) (broken : List (Nat × Nat)) (s : State) : (setBroken k broken s).quiet = s.quiet := by simp [setBroken]
@[simp] theorem startOwt_quiet (k mode : Nat) (sats : List Nat) (by' : Option Requester) (s : State) : (startOwt k mode sats by' s).quiet = s.quiet := by simp [startOwt]
@[simp] theorem serveOpenWire_quiet (p : Port) (tag : Half) (pl : List Byte) (s : State) : (serveOpenWire p tag pl s).quiet = s.quiet := by simp [serveOpenWire]
theorem execOpenWireTest_quiet (port : Port) (tag : Half) (payload : List Byte) (s : State) {t : State} : execOpenWireTest port tag payload s = .next t → t.quiet = s.quiet := by
  intro h
  simp only [execOpenWireTest, Host.Outcome.next.injEq] at h
  subst h
  simp; done
theorem execOwPeriod_quiet (strand : Nat) (s : State) {t : State} : execOwPeriod strand s = .next t → t.quiet = s.quiet := by
  intro h
  simp only [execOwPeriod, Host.Outcome.next.injEq] at h
  subst h
  simp; done
@[simp] theorem settleOwt_quiet (k : Nat) (report : List Byte) (s : State) : (settleOwt k report s).quiet = s.quiet := by simp [settleOwt]
@[simp] theorem postPhase_quiet (k p : Nat) (s : State) : (postPhase k p s).quiet = s.quiet := by
  unfold postPhase
  repeat' first | (simp +zetaDelta; done) | extract_lets | split
@[simp] theorem phaseArmed_quiet (k : Nat) (failed : List Nat) (s : State) : (phaseArmed k failed s).quiet = s.quiet := by simp [phaseArmed]
@[simp] theorem endOwt_quiet (k : Nat) (t : OwtState) (s : State) : (endOwt k t s).quiet = s.quiet := by simp [endOwt]
@[simp] theorem endSurvey_quiet (k : Nat) (t : OwtState) (s : State) : (endSurvey k t s).quiet = s.quiet := by
  unfold endSurvey
  repeat' first | (simp +zetaDelta; done) | refine (foldl_quiet (fun _ _ => ?_) _ _).trans ?_ | refine (foldl_quiet_fst (fun _ _ => ?_) _ _).trans ?_ | refine (foldl_quiet_snd (fun _ _ => ?_) _ _).trans ?_ | extract_lets | split | simp +zetaDelta
@[simp] theorem owtStep_quiet (k : Nat) (h : SnapHeader) (s : State) : (owtStep k h s).quiet = s.quiet := by
  unfold owtStep
  repeat' first | (simp +zetaDelta; done) | extract_lets | split
@[simp] theorem autoTest_quiet (k c : Nat) (s : State) : (autoTest k c s).quiet = s.quiet := by
  unfold autoTest
  repeat' first | (simp +zetaDelta; done) | refine (foldl_quiet (fun _ _ => ?_) _ _).trans ?_ | refine (foldl_quiet_fst (fun _ _ => ?_) _ _).trans ?_ | refine (foldl_quiet_snd (fun _ _ => ?_) _ _).trans ?_ | extract_lets | split | simp +zetaDelta
@[simp] theorem judgeSigns_quiet (k : Nat) (innov : Nat → Option Rat) (s : State) : (judgeSigns k innov s).quiet = s.quiet := by simp [judgeSigns]
theorem execWireVerdictTimeout_quiet (strand sat wire : Nat) (s : State) {t : State} : execWireVerdictTimeout strand sat wire s = .next t → t.quiet = s.quiet := by
  intro h
  simp only [execWireVerdictTimeout, Host.Outcome.next.injEq] at h
  subst h
  simp; done
theorem execCellStale_quiet (cell : Nat) (s : State) {t : State} : execCellStale cell s = .next t → t.quiet = s.quiet := by
  intro h
  simp only [execCellStale, Host.Outcome.next.injEq] at h
  subst h
  simp; done

/-! ### Estim -/
@[simp] theorem startCells_quiet (p : ParamState) (k : Nat) (m : MeasState) (h : SnapHeader) (s : State) : (startCells p k m h s).quiet = s.quiet := by
  unfold startCells
  repeat' first | (simp +zetaDelta; done) | refine (foldl_quiet (fun _ _ => ?_) _ _).trans ?_ | refine (foldl_quiet_fst (fun _ _ => ?_) _ _).trans ?_ | refine (foldl_quiet_snd (fun _ _ => ?_) _ _).trans ?_ | extract_lets | split | simp +zetaDelta
@[simp] theorem judgeObs_quiet (p : ParamState) (k : Nat) (s : State) : (judgeObs p k s).quiet = s.quiet := by simp [judgeObs]
@[simp] theorem advancePredictors_quiet (p : ParamState) (k : Nat) (h : SnapHeader) (dt : Rat) (s : State) : (advancePredictors p k h dt s).quiet = s.quiet := by simp [advancePredictors]
@[simp] theorem endSecond_quiet (p : ParamState) (k at' skipped : Nat) (s : State) : (endSecond p k at' skipped s).quiet = s.quiet := by simp [endSecond]
@[simp] theorem scoreCells_quiet (k : Nat) (l : List Share) (res : Option (Rat × Rat)) (s : State) : (scoreCells k l res s).quiet = s.quiet := by
  unfold scoreCells
  repeat' first | (simp +zetaDelta; done) | refine (foldl_quiet (fun _ _ => ?_) _ _).trans ?_ | refine (foldl_quiet_fst (fun _ _ => ?_) _ _).trans ?_ | refine (foldl_quiet_snd (fun _ _ => ?_) _ _).trans ?_ | extract_lets | split | simp +zetaDelta
@[simp] theorem watchCycles_quiet (k : Nat) (o : HandOff) (s : State) : (watchCycles k o s).quiet = s.quiet := by
  unfold watchCycles
  refine (foldl_quiet (fun _ _ => ?_) _ _).trans (by simp)
  simp only
  split <;> simp
@[simp] theorem inferSnapshot_quiet (k : Nat) (o : HandOff) (s : State) : (inferSnapshot k o s).quiet = s.quiet := by
  unfold inferSnapshot
  refine (foldl_quiet (fun s c => ?_) _ _).trans ?_
  · repeat' first | (simp +zetaDelta; done) | split
  · rw [watchCycles_quiet, judgeObs_quiet, State.modEst_quiet]
    repeat' first | (simp; done) | split
theorem execCurrentInference_quiet (ring : Nat) (s : State) {t : State} : execCurrentInference ring s = .next t → t.quiet = s.quiet := by
  intro h
  unfold execCurrentInference at h
  injection h with h
  subst h
  repeat' first | (simp +zetaDelta; done) | refine (foldl_quiet (fun _ _ => ?_) _ _).trans ?_ | refine (foldl_quiet_fst (fun _ _ => ?_) _ _).trans ?_ | refine (foldl_quiet_snd (fun _ _ => ?_) _ _).trans ?_ | extract_lets | split | simp +zetaDelta
@[simp] theorem updateCell_quiet (p : ParamState) (k c : Nat) (u : HandOff) (ik sigma step : Rat) (s : State) : (updateCell p k c u ik sigma step s).quiet = s.quiet := by
  unfold updateCell
  repeat' first | (simp +zetaDelta; done) | refine (foldl_quiet (fun _ _ => ?_) _ _).trans ?_ | refine (foldl_quiet_fst (fun _ _ => ?_) _ _).trans ?_ | refine (foldl_quiet_snd (fun _ _ => ?_) _ _).trans ?_ | extract_lets | split | simp +zetaDelta
@[simp] theorem refreshSummary_quiet (k : Nat) (h : SnapHeader) (s : State) : (refreshSummary k h s).quiet = s.quiet := by simp [refreshSummary]
theorem execAnchorStale_quiet (strand : Nat) (s : State) {t : State} : execAnchorStale strand s = .next t → t.quiet = s.quiet := by
  intro h
  simp only [execAnchorStale, Host.Outcome.next.injEq] at h
  subst h
  simp; done
@[simp] theorem clearStale_quiet (p : ParamState) (k : Nat) (s : State) : (clearStale p k s).quiet = s.quiet := by simp [clearStale]
theorem execCurrentDisagree_quiet (strand : Nat) (disagree : Bool) (s : State) {t : State} : execCurrentDisagree strand disagree s = .next t → t.quiet = s.quiet := by
  intro h
  simp only [execCurrentDisagree, Host.Outcome.next.injEq] at h
  subst h
  simp; done
theorem execReversedShunt_quiet (strand : Nat) (s : State) {t : State} : execReversedShunt strand s = .next t → t.quiet = s.quiet := by
  intro h
  simp only [execReversedShunt, Host.Outcome.next.injEq] at h
  subst h
  simp; done
@[simp] theorem reportStrand_quiet (k : Nat) (s : State) : (reportStrand k s).quiet = s.quiet := by
  unfold reportStrand
  repeat' first | (simp +zetaDelta; done) | refine (foldl_quiet (fun _ _ => ?_) _ _).trans ?_ | refine (foldl_quiet_fst (fun _ _ => ?_) _ _).trans ?_ | refine (foldl_quiet_snd (fun _ _ => ?_) _ _).trans ?_ | extract_lets | split | simp +zetaDelta
theorem execReportedValues_quiet (ring : Nat) (s : State) {t : State} : execReportedValues ring s = .next t → t.quiet = s.quiet := by
  intro h
  simp only [execReportedValues, Host.Outcome.next.injEq] at h
  subst h
  simp; done
@[simp] theorem updateStrand_quiet (k : Nat) (u : HandOff) (ik : Rat) (s : State) : (updateStrand k u ik s).quiet = s.quiet := by
  unfold updateStrand
  rw [clearStale_quiet, judgeSigns_quiet]
  repeat' first | (simp; done) | split
theorem execModelUpdate_quiet (ring : Nat) (s : State) {t : State} : execModelUpdate ring s = .next t → t.quiet = s.quiet := by
  intro h
  unfold execModelUpdate at h
  injection h with h
  subst h
  repeat' first | (simp +zetaDelta; done) | extract_lets | split
@[simp] theorem restoreWires_quiet (k : Nat) (broken : List (Nat × Nat)) (s : State) : (restoreWires k broken s).quiet = s.quiet := by
  unfold restoreWires
  repeat' first | (simp +zetaDelta; done) | refine (foldl_quiet (fun _ _ => ?_) _ _).trans ?_ | refine (foldl_quiet_fst (fun _ _ => ?_) _ _).trans ?_ | refine (foldl_quiet_snd (fun _ _ => ?_) _ _).trans ?_ | extract_lets | split | simp +zetaDelta
@[simp] theorem restoreStrand_quiet (te : Option Nat) (j : JournalSlot) (k : Nat) (s : State) : (restoreStrand te j k s).quiet = s.quiet := by
  unfold restoreStrand
  repeat' first | (simp +zetaDelta; done) | refine (foldl_quiet (fun _ _ => ?_) _ _).trans ?_ | refine (foldl_quiet_fst (fun _ _ => ?_) _ _).trans ?_ | refine (foldl_quiet_snd (fun _ _ => ?_) _ _).trans ?_ | extract_lets | split | simp +zetaDelta
@[simp] theorem restoreEstimator_quiet (te : JournalSlot → Option Nat) (s : State) : (restoreEstimator te s).quiet = s.quiet := by
  unfold restoreEstimator
  repeat' first | (simp +zetaDelta; done) | refine (foldl_quiet (fun _ _ => ?_) _ _).trans ?_ | refine (foldl_quiet_fst (fun _ _ => ?_) _ _).trans ?_ | refine (foldl_quiet_snd (fun _ _ => ?_) _ _).trans ?_ | extract_lets | split | simp +zetaDelta
@[simp] theorem reinitCells_quiet (all : Bool) (s : State) : (reinitCells all s).quiet = s.quiet := by simp [reinitCells]

/-! ### Balance -/
@[simp] theorem takePlan_quiet (k : Nat) (legs : List (Leg × Nat)) (s : State) : (takePlan k legs s).quiet = s.quiet := by simp [takePlan]
@[simp] theorem planRailStart_quiet (k : Nat) (d : List Leg) (cells : List PlanCell) (s : State) : (planRailStart k d cells s).quiet = s.quiet := by
  unfold planRailStart
  simp +zetaDelta only
  repeat' first | (simp +zetaDelta; done) | extract_lets | split
@[simp] theorem planTransfers_quiet (k : Nat) (d r : List Leg) (s : State) : (planTransfers k d r s).quiet = s.quiet := by
  unfold planTransfers
  simp +zetaDelta only
  repeat' first | (simp +zetaDelta; done) | extract_lets | split
@[simp] theorem planStrand_quiet (k : Nat) (s : State) : (planStrand k s).quiet = s.quiet := by
  unfold planStrand
  repeat' first | (simp +zetaDelta; done) | refine (foldl_quiet (fun _ _ => ?_) _ _).trans ?_ | refine (foldl_quiet_fst (fun _ _ => ?_) _ _).trans ?_ | refine (foldl_quiet_snd (fun _ _ => ?_) _ _).trans ?_ | extract_lets | split | simp +zetaDelta
theorem execBalancingPlan_quiet (ring : Nat) (s : State) {t : State} : execBalancingPlan ring s = .next t → t.quiet = s.quiet := by
  intro h
  unfold execBalancingPlan at h
  injection h with h
  subst h
  repeat' first | (simp +zetaDelta; done) | refine (foldl_quiet (fun _ _ => ?_) _ _).trans ?_ | refine (foldl_quiet_fst (fun _ _ => ?_) _ _).trans ?_ | refine (foldl_quiet_snd (fun _ _ => ?_) _ _).trans ?_ | extract_lets | split | simp +zetaDelta
@[simp] theorem countRailFault_quiet (k : Nat) (s : State) : (countRailFault k s).quiet = s.quiet := by simp [countRailFault]
@[simp] theorem railFault_quiet (k n : Nat) (s : State) : (railFault k n s).quiet = s.quiet := by simp [railFault]
theorem execRailFaultHoldEnd_quiet (ring : Nat) (s : State) {t : State} : execRailFaultHoldEnd ring s = .next t → t.quiet = s.quiet := by
  intro h
  simp only [execRailFaultHoldEnd, Host.Outcome.next.injEq] at h
  subst h
  simp; done
theorem execRailStartFailed_quiet (ring : Nat) (s : State) {t : State} : execRailStartFailed ring s = .next t → t.quiet = s.quiet := by
  intro h
  simp only [execRailStartFailed, Host.Outcome.next.injEq] at h
  subst h
  simp; done
@[simp] theorem converterFault_quiet (k n : Nat) (s : State) : (converterFault k n s).quiet = s.quiet := by simp [converterFault]
theorem execSatelliteExclusionEnd_quiet (ring sat : Nat) (s : State) {t : State} : execSatelliteExclusionEnd ring sat s = .next t → t.quiet = s.quiet := by
  intro h
  simp only [execSatelliteExclusionEnd, Host.Outcome.next.injEq] at h
  subst h
  simp; done
@[simp] theorem transferFailed_quiet (k n : Nat) (s : State) : (transferFailed k n s).quiet = s.quiet := by simp [transferFailed]
@[simp] theorem judgeConverters_quiet (k : Nat) (buf : SnapBuffer) (s : State) : (judgeConverters k buf s).quiet = s.quiet := by simp [judgeConverters]
@[simp] theorem transferResponse_quiet (k : Nat) (e : RingEntry) (p : RingReply) (s : State) : (transferResponse k e p s).quiet = s.quiet := by simp [transferResponse]

/-! ### Loops -/
@[simp] theorem modLoop_quiet (n : Nat) (f : LoopState → LoopState) (s : State) : (modLoop n f s).quiet = s.quiet := by simp [modLoop]
@[simp] theorem writeTarget'_quiet (config : Nat) (u : Option Nat) (s : State) : (writeTarget' config u s).quiet = s.quiet := by
  unfold writeTarget'
  repeat' first | (simp +zetaDelta; done) | extract_lets | split
@[simp] theorem holdLoop_quiet (n : Nat) (s : State) : (holdLoop n s).quiet = s.quiet := by simp [holdLoop]
@[simp] theorem modTrace_quiet (f : TraceState → TraceState) (s : State) : (modTrace f s).quiet = s.quiet := by simp [modTrace]
@[simp] theorem routeTrace_quiet (src : Nat) (on : Bool) (s : State) : (routeTrace src on s).quiet = s.quiet := by simp [routeTrace]
@[simp] theorem traceFreeze_quiet (s : State) : (traceFreeze s).quiet = s.quiet := by
  unfold traceFreeze
  repeat' first | (simp +zetaDelta; done) | extract_lets | split
@[simp] theorem streamPush_quiet (c : Nat) (v : Int) (s : State) : (streamPush c v s).quiet = s.quiet := by simp [streamPush]
@[simp] theorem traceStep_quiet (n at' : Nat) (s : State) : (traceStep n at' s).quiet = s.quiet := by simp [traceStep]
@[simp] theorem loopOverrun_quiet (n : Nat) (w : List Nat) (s : State) : (loopOverrun n w s).quiet = s.quiet := by simp [loopOverrun]
@[simp] theorem loopSkip_quiet (n : Nat) (spBad pvBad : Bool) (s : State) : (loopSkip n spBad pvBad s).quiet = s.quiet := by simp [loopSkip]
@[simp] theorem loopComplete_quiet (n : Nat) (w : List Nat) (sp pv : Option Rat) (want : Option Rat) (at' delay : Nat) (s : State) : (loopComplete n w sp pv want at' delay s).quiet = s.quiet := by simp [loopComplete]
theorem execLoopSample_quiet (loop : Nat) (data : LoopData) (s : State) {t : State} :
    execLoopSample loop data s = .next t → t.quiet = s.quiet := by
  intro h
  unfold execLoopSample at h
  injection h with h
  subst h
  repeat' first | assumption | (simp [*]; done) | (extract_lets +onlyGivenNames x; (first | (have hx : x.quiet = s.quiet := by unfold x; (repeat' first | (simp [*]; done) | extract_lets | split)) | skip); clear_value x) | split
theorem execLoopTargetFault_quiet (loop : Nat) (s : State) {t : State} : execLoopTargetFault loop s = .next t → t.quiet = s.quiet := by
  intro h
  simp only [execLoopTargetFault, Host.Outcome.next.injEq] at h
  subst h
  simp; done
@[simp] theorem startLoop_quiet (n : Nat) (s : State) : (startLoop n s).quiet = s.quiet := by simp [startLoop]
@[simp] theorem stopLoop_quiet (n : Nat) (s : State) : (stopLoop n s).quiet = s.quiet := by simp [stopLoop]
@[simp] theorem startLoops_quiet (s : State) : (startLoops s).quiet = s.quiet := by simp [startLoops]
@[simp] theorem applyEnable_quiet (old : Nat → List Nat) (n : Nat) (s : State) : (applyEnable old n s).quiet = s.quiet := by
  unfold applyEnable
  repeat' first | (simp +zetaDelta; done) | extract_lets | split
@[simp] theorem applyParent_quiet (old : Nat → List Nat) (n : Nat) (s : State) : (applyParent old n s).quiet = s.quiet := by
  unfold applyParent
  repeat' first | (simp +zetaDelta; done) | extract_lets | split
@[simp] theorem applyLoops_quiet (old : Nat → List Nat) (s : State) : (applyLoops old s).quiet = s.quiet := by simp [applyLoops]
@[simp] theorem serveLoopSetMode_quiet (p : Port) (tag : Half) (pl : List Byte) (s : State) : (serveLoopSetMode p tag pl s).quiet = s.quiet := by simp [serveLoopSetMode]
@[simp] theorem serveLoopSetManual_quiet (p : Port) (tag : Half) (pl : List Byte) (s : State) : (serveLoopSetManual p tag pl s).quiet = s.quiet := by simp [serveLoopSetManual]
@[simp] theorem traceDisarm_quiet (s : State) : (traceDisarm s).quiet = s.quiet := by
  unfold traceDisarm
  repeat' first | (simp +zetaDelta; done) | extract_lets | split
@[simp] theorem serveTraceArm_quiet (p : Port) (tag : Half) (pl : List Byte) (s : State) : (serveTraceArm p tag pl s).quiet = s.quiet := by simp [serveTraceArm]
@[simp] theorem serveTraceRead_quiet (p : Port) (tag : Half) (pl : List Byte) (s : State) : (serveTraceRead p tag pl s).quiet = s.quiet := by simp [serveTraceRead]
theorem execLoopSetMode_quiet (port : Port) (tag : Half) (payload : List Byte) (s : State) {t : State} : execLoopSetMode port tag payload s = .next t → t.quiet = s.quiet := by
  intro h
  simp only [execLoopSetMode, Host.Outcome.next.injEq] at h
  subst h
  simp; done
theorem execLoopSetManual_quiet (port : Port) (tag : Half) (payload : List Byte) (s : State) {t : State} : execLoopSetManual port tag payload s = .next t → t.quiet = s.quiet := by
  intro h
  simp only [execLoopSetManual, Host.Outcome.next.injEq] at h
  subst h
  simp; done
theorem execTraceArm_quiet (port : Port) (tag : Half) (payload : List Byte) (s : State) {t : State} : execTraceArm port tag payload s = .next t → t.quiet = s.quiet := by
  intro h
  simp only [execTraceArm, Host.Outcome.next.injEq] at h
  subst h
  simp; done
theorem execTraceRead_quiet (port : Port) (tag : Half) (payload : List Byte) (s : State) {t : State} : execTraceRead port tag payload s = .next t → t.quiet = s.quiet := by
  intro h
  simp only [execTraceRead, Host.Outcome.next.injEq] at h
  subst h
  simp; done

/-! ### Banks -/
@[simp] theorem modBank_quiet (b : Nat) (f : BankState → BankState) (s : State) : (modBank b f s).quiet = s.quiet := by simp [modBank]
@[simp] theorem accessStatus_quiet (m : Nat) (refused : Bool) (s : State) : (accessStatus m refused s).quiet = s.quiet := rfl
@[simp] theorem bankConflict_quiet (m b : Nat) (s : State) : (bankConflict m b s).quiet = s.quiet := by simp [bankConflict]
@[simp] theorem bankStore_pending (m b off : Nat) (bytes : List Byte) (s : State) : (bankStore m b off bytes s).quiet.pending = s.quiet.pending := by
  unfold bankStore
  repeat' first | (simp +zetaDelta [pending_quiet, mem_quiet, applied_quiet, cycles_quiet, thermal_quiet]; done) | extract_lets | split
@[simp] theorem bankStore_applied (m b off : Nat) (bytes : List Byte) (s : State) : (bankStore m b off bytes s).quiet.applied = s.quiet.applied := by
  unfold bankStore
  repeat' first | (simp +zetaDelta [pending_quiet, mem_quiet, applied_quiet, cycles_quiet, thermal_quiet]; done) | extract_lets | split
@[simp] theorem bankStore_powerCycles (m b off : Nat) (bytes : List Byte) (s : State) : (bankStore m b off bytes s).quiet.powerCycles = s.quiet.powerCycles := by
  unfold bankStore
  repeat' first | (simp +zetaDelta [pending_quiet, mem_quiet, applied_quiet, cycles_quiet, thermal_quiet]; done) | extract_lets | split
@[simp] theorem bankStore_thermal (m b off : Nat) (bytes : List Byte) (s : State) : (bankStore m b off bytes s).quiet.thermal = s.quiet.thermal := by
  unfold bankStore
  repeat' first | (simp +zetaDelta [pending_quiet, mem_quiet, applied_quiet, cycles_quiet, thermal_quiet]; done) | extract_lets | split
@[simp] theorem bankStore_wf (m b off : Nat) (bytes : List Byte) (s : State) (hw : Memory.wf s.quiet.mem = true) : Memory.wf (bankStore m b off bytes s).quiet.mem = true := by
  unfold bankStore
  repeat' first | (simp +zetaDelta [pending_quiet, mem_quiet, applied_quiet, cycles_quiet, thermal_quiet, *]; done) | extract_lets | split
@[simp] theorem settleWaiting_pending (b : Nat) (s : State) : (settleWaiting b s).quiet.pending = s.quiet.pending := by
  unfold settleWaiting
  repeat' first | assumption | (simp +zetaDelta [pending_quiet, mem_quiet, applied_quiet, cycles_quiet, thermal_quiet]; done) | refine (foldl_pending (fun _ _ => ?_) _ _).trans ?_ | extract_lets | split
@[simp] theorem settleWaiting_applied (b : Nat) (s : State) : (settleWaiting b s).quiet.applied = s.quiet.applied := by
  unfold settleWaiting
  repeat' first | assumption | (simp +zetaDelta [pending_quiet, mem_quiet, applied_quiet, cycles_quiet, thermal_quiet]; done) | refine (foldl_applied (fun _ _ => ?_) _ _).trans ?_ | extract_lets | split
@[simp] theorem settleWaiting_powerCycles (b : Nat) (s : State) : (settleWaiting b s).quiet.powerCycles = s.quiet.powerCycles := by
  unfold settleWaiting
  repeat' first | assumption | (simp +zetaDelta [pending_quiet, mem_quiet, applied_quiet, cycles_quiet, thermal_quiet]; done) | refine (foldl_powerCycles (fun _ _ => ?_) _ _).trans ?_ | extract_lets | split
@[simp] theorem settleWaiting_thermal (b : Nat) (s : State) : (settleWaiting b s).quiet.thermal = s.quiet.thermal := by
  unfold settleWaiting
  repeat' first | assumption | (simp +zetaDelta [pending_quiet, mem_quiet, applied_quiet, cycles_quiet, thermal_quiet]; done) | refine (foldl_thermal (fun _ _ => ?_) _ _).trans ?_ | extract_lets | split
@[simp] theorem settleWaiting_wf (b : Nat) (s : State) (hw : Memory.wf s.quiet.mem = true) : Memory.wf (settleWaiting b s).quiet.mem = true := by
  unfold settleWaiting
  repeat' first | assumption | (simp +zetaDelta [pending_quiet, mem_quiet, applied_quiet, cycles_quiet, thermal_quiet, *]; done) | refine foldl_wf (fun _ _ h => ?_) _ _ ?_ | extract_lets | split
theorem execBankWrite_pending (by' : Master) (bank offset : Nat) (bytes : List Byte) (s : State) {t : State} : execBankWrite by' bank offset bytes s = .next t → t.quiet.pending = s.quiet.pending := by
  intro h
  unfold execBankWrite at h
  injection h with h
  subst h
  repeat' first | (simp +zetaDelta [pending_quiet, mem_quiet, applied_quiet, cycles_quiet, thermal_quiet]; done) | extract_lets | split
theorem execBankWrite_applied (by' : Master) (bank offset : Nat) (bytes : List Byte) (s : State) {t : State} : execBankWrite by' bank offset bytes s = .next t → t.quiet.applied = s.quiet.applied := by
  intro h
  unfold execBankWrite at h
  injection h with h
  subst h
  repeat' first | (simp +zetaDelta [pending_quiet, mem_quiet, applied_quiet, cycles_quiet, thermal_quiet]; done) | extract_lets | split
theorem execBankWrite_powerCycles (by' : Master) (bank offset : Nat) (bytes : List Byte) (s : State) {t : State} : execBankWrite by' bank offset bytes s = .next t → t.quiet.powerCycles = s.quiet.powerCycles := by
  intro h
  unfold execBankWrite at h
  injection h with h
  subst h
  repeat' first | (simp +zetaDelta [pending_quiet, mem_quiet, applied_quiet, cycles_quiet, thermal_quiet]; done) | extract_lets | split
theorem execBankWrite_thermal (by' : Master) (bank offset : Nat) (bytes : List Byte) (s : State) {t : State} : execBankWrite by' bank offset bytes s = .next t → t.quiet.thermal = s.quiet.thermal := by
  intro h
  unfold execBankWrite at h
  injection h with h
  subst h
  repeat' first | (simp +zetaDelta [pending_quiet, mem_quiet, applied_quiet, cycles_quiet, thermal_quiet]; done) | extract_lets | split
theorem execBankWrite_wf (by' : Master) (bank offset : Nat) (bytes : List Byte) (s : State) {t : State} : execBankWrite by' bank offset bytes s = .next t → Memory.wf s.quiet.mem = true → Memory.wf t.quiet.mem = true := by
  intro h hw
  unfold execBankWrite at h
  injection h with h
  subst h
  repeat' first | (simp +zetaDelta [pending_quiet, mem_quiet, applied_quiet, cycles_quiet, thermal_quiet, *]; done) | extract_lets | split
theorem execBankOwnerWrite_pending (by' : Master) (bank : Nat) (word : Word) (s : State) {t : State} : execBankOwnerWrite by' bank word s = .next t → t.quiet.pending = s.quiet.pending := by
  intro h
  unfold execBankOwnerWrite at h
  injection h with h
  subst h
  repeat' first | (simp +zetaDelta [pending_quiet, mem_quiet, applied_quiet, cycles_quiet, thermal_quiet]; done) | extract_lets | split
theorem execBankOwnerWrite_applied (by' : Master) (bank : Nat) (word : Word) (s : State) {t : State} : execBankOwnerWrite by' bank word s = .next t → t.quiet.applied = s.quiet.applied := by
  intro h
  unfold execBankOwnerWrite at h
  injection h with h
  subst h
  repeat' first | (simp +zetaDelta [pending_quiet, mem_quiet, applied_quiet, cycles_quiet, thermal_quiet]; done) | extract_lets | split
theorem execBankOwnerWrite_powerCycles (by' : Master) (bank : Nat) (word : Word) (s : State) {t : State} : execBankOwnerWrite by' bank word s = .next t → t.quiet.powerCycles = s.quiet.powerCycles := by
  intro h
  unfold execBankOwnerWrite at h
  injection h with h
  subst h
  repeat' first | (simp +zetaDelta [pending_quiet, mem_quiet, applied_quiet, cycles_quiet, thermal_quiet]; done) | extract_lets | split
theorem execBankOwnerWrite_thermal (by' : Master) (bank : Nat) (word : Word) (s : State) {t : State} : execBankOwnerWrite by' bank word s = .next t → t.quiet.thermal = s.quiet.thermal := by
  intro h
  unfold execBankOwnerWrite at h
  injection h with h
  subst h
  repeat' first | (simp +zetaDelta [pending_quiet, mem_quiet, applied_quiet, cycles_quiet, thermal_quiet]; done) | extract_lets | split
theorem execBankOwnerWrite_wf (by' : Master) (bank : Nat) (word : Word) (s : State) {t : State} : execBankOwnerWrite by' bank word s = .next t → Memory.wf s.quiet.mem = true → Memory.wf t.quiet.mem = true := by
  intro h hw
  unfold execBankOwnerWrite at h
  injection h with h
  subst h
  repeat' first | (simp +zetaDelta [pending_quiet, mem_quiet, applied_quiet, cycles_quiet, thermal_quiet, *]; done) | extract_lets | split
theorem execOwnerHandoverEffect_pending (bank : Nat) (s : State) {t : State} : execOwnerHandoverEffect bank s = .next t → t.quiet.pending = s.quiet.pending := by
  intro h
  unfold execOwnerHandoverEffect at h
  injection h with h
  subst h
  repeat' first | (simp +zetaDelta [pending_quiet, mem_quiet, applied_quiet, cycles_quiet, thermal_quiet]; done) | extract_lets | split
theorem execOwnerHandoverEffect_applied (bank : Nat) (s : State) {t : State} : execOwnerHandoverEffect bank s = .next t → t.quiet.applied = s.quiet.applied := by
  intro h
  unfold execOwnerHandoverEffect at h
  injection h with h
  subst h
  repeat' first | (simp +zetaDelta [pending_quiet, mem_quiet, applied_quiet, cycles_quiet, thermal_quiet]; done) | extract_lets | split
theorem execOwnerHandoverEffect_powerCycles (bank : Nat) (s : State) {t : State} : execOwnerHandoverEffect bank s = .next t → t.quiet.powerCycles = s.quiet.powerCycles := by
  intro h
  unfold execOwnerHandoverEffect at h
  injection h with h
  subst h
  repeat' first | (simp +zetaDelta [pending_quiet, mem_quiet, applied_quiet, cycles_quiet, thermal_quiet]; done) | extract_lets | split
theorem execOwnerHandoverEffect_thermal (bank : Nat) (s : State) {t : State} : execOwnerHandoverEffect bank s = .next t → t.quiet.thermal = s.quiet.thermal := by
  intro h
  unfold execOwnerHandoverEffect at h
  injection h with h
  subst h
  repeat' first | (simp +zetaDelta [pending_quiet, mem_quiet, applied_quiet, cycles_quiet, thermal_quiet]; done) | extract_lets | split
theorem execOwnerHandoverEffect_wf (bank : Nat) (s : State) {t : State} : execOwnerHandoverEffect bank s = .next t → Memory.wf s.quiet.mem = true → Memory.wf t.quiet.mem = true := by
  intro h hw
  unfold execOwnerHandoverEffect at h
  injection h with h
  subst h
  repeat' first | (simp +zetaDelta [pending_quiet, mem_quiet, applied_quiet, cycles_quiet, thermal_quiet, *]; done) | extract_lets | split
@[simp] theorem undefineWord_quiet (a : Nat) (s : State) : (undefineWord a s).quiet = s.quiet := by
  unfold undefineWord
  repeat' first | (simp +zetaDelta; done) | extract_lets | split
theorem execMailboxCollision_quiet (offset : Nat) (hostLater hostReads coreReads : Bool) (s : State) {t : State} : execMailboxCollision offset hostLater hostReads coreReads s = .next t → t.quiet = s.quiet := by
  intro h
  simp only [execMailboxCollision, Host.Outcome.next.injEq] at h
  subst h
  simp; done
@[simp] theorem eccOnce_quiet (b row : Nat) (s : State) : (eccOnce b row s).quiet = s.quiet := by simp [eccOnce]
theorem execEccCorrected_quiet (bank row : Nat) (s : State) {t : State} : execEccCorrected bank row s = .next t → t.quiet = s.quiet := by
  intro h
  simp only [execEccCorrected, Host.Outcome.next.injEq] at h
  subst h
  simp; done
theorem execScrub_quiet (bank row : Nat) (found : Nat) (s : State) {t : State} : execScrub bank row found s = .next t → t.quiet = s.quiet := by
  intro h
  unfold execScrub at h
  injection h with h
  subst h
  split
  · induction found with
    | zero => rfl
    | succ n ih => rw [Nat.repeat]; simp [ih]
  · rfl
@[simp] theorem holdAllLoops_quiet (s : State) : (holdAllLoops s).quiet = s.quiet := by simp [holdAllLoops]
@[simp] theorem bankLost_pending (src b : Nat) (s : State) : (bankLost src b s).quiet.pending = s.quiet.pending := by
  unfold bankLost
  repeat' first | (simp +zetaDelta [pending_quiet, mem_quiet, applied_quiet, cycles_quiet, thermal_quiet]; done) | extract_lets | split
@[simp] theorem bankLost_applied (src b : Nat) (s : State) : (bankLost src b s).quiet.applied = s.quiet.applied := by
  unfold bankLost
  repeat' first | (simp +zetaDelta [pending_quiet, mem_quiet, applied_quiet, cycles_quiet, thermal_quiet]; done) | extract_lets | split
@[simp] theorem bankLost_powerCycles (src b : Nat) (s : State) : (bankLost src b s).quiet.powerCycles = s.quiet.powerCycles := by
  unfold bankLost
  repeat' first | (simp +zetaDelta [pending_quiet, mem_quiet, applied_quiet, cycles_quiet, thermal_quiet]; done) | extract_lets | split
@[simp] theorem bankLost_thermal (src b : Nat) (s : State) : (bankLost src b s).quiet.thermal = s.quiet.thermal := by
  unfold bankLost
  repeat' first | (simp +zetaDelta [pending_quiet, mem_quiet, applied_quiet, cycles_quiet, thermal_quiet]; done) | extract_lets | split
@[simp] theorem bankLost_wf (src b : Nat) (s : State) (hw : Memory.wf s.quiet.mem = true) : Memory.wf (bankLost src b s).quiet.mem = true := by
  unfold bankLost
  repeat' first | (simp +zetaDelta [pending_quiet, mem_quiet, applied_quiet, cycles_quiet, thermal_quiet, *]; done) | extract_lets | split
theorem execEccUncorrectable_pending (bank row : Nat) (s : State) {t : State} : execEccUncorrectable bank row s = .next t → t.quiet.pending = s.quiet.pending := by
  intro h
  unfold execEccUncorrectable at h
  injection h with h
  subst h
  repeat' first | (simp +zetaDelta [pending_quiet, mem_quiet, applied_quiet, cycles_quiet, thermal_quiet]; done) | extract_lets | split
theorem execEccUncorrectable_applied (bank row : Nat) (s : State) {t : State} : execEccUncorrectable bank row s = .next t → t.quiet.applied = s.quiet.applied := by
  intro h
  unfold execEccUncorrectable at h
  injection h with h
  subst h
  repeat' first | (simp +zetaDelta [pending_quiet, mem_quiet, applied_quiet, cycles_quiet, thermal_quiet]; done) | extract_lets | split
theorem execEccUncorrectable_powerCycles (bank row : Nat) (s : State) {t : State} : execEccUncorrectable bank row s = .next t → t.quiet.powerCycles = s.quiet.powerCycles := by
  intro h
  unfold execEccUncorrectable at h
  injection h with h
  subst h
  repeat' first | (simp +zetaDelta [pending_quiet, mem_quiet, applied_quiet, cycles_quiet, thermal_quiet]; done) | extract_lets | split
theorem execEccUncorrectable_thermal (bank row : Nat) (s : State) {t : State} : execEccUncorrectable bank row s = .next t → t.quiet.thermal = s.quiet.thermal := by
  intro h
  unfold execEccUncorrectable at h
  injection h with h
  subst h
  repeat' first | (simp +zetaDelta [pending_quiet, mem_quiet, applied_quiet, cycles_quiet, thermal_quiet]; done) | extract_lets | split
theorem execEccUncorrectable_wf (bank row : Nat) (s : State) {t : State} : execEccUncorrectable bank row s = .next t → Memory.wf s.quiet.mem = true → Memory.wf t.quiet.mem = true := by
  intro h hw
  unfold execEccUncorrectable at h
  injection h with h
  subst h
  repeat' first | (simp +zetaDelta [pending_quiet, mem_quiet, applied_quiet, cycles_quiet, thermal_quiet, *]; done) | extract_lets | split
@[simp] theorem serveMarch_quiet (p : Port) (tag : Half) (pl : List Byte) (s : State) : (serveMarch p tag pl s).quiet = s.quiet := by simp [serveMarch]
theorem execMarchTest_quiet (port : Port) (tag : Half) (payload : List Byte) (s : State) {t : State} : execMarchTest port tag payload s = .next t → t.quiet = s.quiet := by
  intro h
  simp only [execMarchTest, Host.Outcome.next.injEq] at h
  subst h
  simp; done
@[simp] theorem marchBank_pending (failing : List (Nat × Nat)) (wipe : Bool) (b : Nat) (s : State) : (marchBank failing wipe b s).2.quiet.pending = s.quiet.pending := by
  unfold marchBank
  repeat' first | assumption | (simp [pending_quiet, mem_quiet, applied_quiet, cycles_quiet, thermal_quiet, *]; done) | (extract_lets +onlyGivenNames x; (first | (have hx : x.quiet.pending = s.quiet.pending := by unfold x; (repeat' first | assumption | (simp [pending_quiet, mem_quiet, applied_quiet, cycles_quiet, thermal_quiet, *]; done) | refine (foldl_pending (fun _ _ => ?_) _ _).trans ?_ | refine (foldl_pending_snd (fun _ _ => ?_) _ _).trans ?_ | extract_lets | (simp +zetaDelta [pending_quiet, mem_quiet, applied_quiet, cycles_quiet, thermal_quiet, *]; done) | split)) | (have hx : x.1.quiet.pending = s.quiet.pending := by unfold x; (repeat' first | assumption | (simp [pending_quiet, mem_quiet, applied_quiet, cycles_quiet, thermal_quiet, *]; done) | refine (foldl_pending (fun _ _ => ?_) _ _).trans ?_ | refine (foldl_pending_snd (fun _ _ => ?_) _ _).trans ?_ | extract_lets | (simp +zetaDelta [pending_quiet, mem_quiet, applied_quiet, cycles_quiet, thermal_quiet, *]; done) | split)) | (have hx : x.2.quiet.pending = s.quiet.pending := by unfold x; (repeat' first | assumption | (simp [pending_quiet, mem_quiet, applied_quiet, cycles_quiet, thermal_quiet, *]; done) | refine (foldl_pending (fun _ _ => ?_) _ _).trans ?_ | refine (foldl_pending_snd (fun _ _ => ?_) _ _).trans ?_ | extract_lets | (simp +zetaDelta [pending_quiet, mem_quiet, applied_quiet, cycles_quiet, thermal_quiet, *]; done) | split)) | skip); clear_value x) | refine (foldl_pending (fun _ _ => ?_) _ _).trans ?_ | split
@[simp] theorem marchBank_applied (failing : List (Nat × Nat)) (wipe : Bool) (b : Nat) (s : State) : (marchBank failing wipe b s).2.quiet.applied = s.quiet.applied := by
  unfold marchBank
  repeat' first | assumption | (simp [pending_quiet, mem_quiet, applied_quiet, cycles_quiet, thermal_quiet, *]; done) | (extract_lets +onlyGivenNames x; (first | (have hx : x.quiet.applied = s.quiet.applied := by unfold x; (repeat' first | assumption | (simp [pending_quiet, mem_quiet, applied_quiet, cycles_quiet, thermal_quiet, *]; done) | refine (foldl_applied (fun _ _ => ?_) _ _).trans ?_ | refine (foldl_applied_snd (fun _ _ => ?_) _ _).trans ?_ | extract_lets | (simp +zetaDelta [pending_quiet, mem_quiet, applied_quiet, cycles_quiet, thermal_quiet, *]; done) | split)) | (have hx : x.1.quiet.applied = s.quiet.applied := by unfold x; (repeat' first | assumption | (simp [pending_quiet, mem_quiet, applied_quiet, cycles_quiet, thermal_quiet, *]; done) | refine (foldl_applied (fun _ _ => ?_) _ _).trans ?_ | refine (foldl_applied_snd (fun _ _ => ?_) _ _).trans ?_ | extract_lets | (simp +zetaDelta [pending_quiet, mem_quiet, applied_quiet, cycles_quiet, thermal_quiet, *]; done) | split)) | (have hx : x.2.quiet.applied = s.quiet.applied := by unfold x; (repeat' first | assumption | (simp [pending_quiet, mem_quiet, applied_quiet, cycles_quiet, thermal_quiet, *]; done) | refine (foldl_applied (fun _ _ => ?_) _ _).trans ?_ | refine (foldl_applied_snd (fun _ _ => ?_) _ _).trans ?_ | extract_lets | (simp +zetaDelta [pending_quiet, mem_quiet, applied_quiet, cycles_quiet, thermal_quiet, *]; done) | split)) | skip); clear_value x) | refine (foldl_applied (fun _ _ => ?_) _ _).trans ?_ | split
@[simp] theorem marchBank_powerCycles (failing : List (Nat × Nat)) (wipe : Bool) (b : Nat) (s : State) : (marchBank failing wipe b s).2.quiet.powerCycles = s.quiet.powerCycles := by
  unfold marchBank
  repeat' first | assumption | (simp [pending_quiet, mem_quiet, applied_quiet, cycles_quiet, thermal_quiet, *]; done) | (extract_lets +onlyGivenNames x; (first | (have hx : x.quiet.powerCycles = s.quiet.powerCycles := by unfold x; (repeat' first | assumption | (simp [pending_quiet, mem_quiet, applied_quiet, cycles_quiet, thermal_quiet, *]; done) | refine (foldl_powerCycles (fun _ _ => ?_) _ _).trans ?_ | refine (foldl_powerCycles_snd (fun _ _ => ?_) _ _).trans ?_ | extract_lets | (simp +zetaDelta [pending_quiet, mem_quiet, applied_quiet, cycles_quiet, thermal_quiet, *]; done) | split)) | (have hx : x.1.quiet.powerCycles = s.quiet.powerCycles := by unfold x; (repeat' first | assumption | (simp [pending_quiet, mem_quiet, applied_quiet, cycles_quiet, thermal_quiet, *]; done) | refine (foldl_powerCycles (fun _ _ => ?_) _ _).trans ?_ | refine (foldl_powerCycles_snd (fun _ _ => ?_) _ _).trans ?_ | extract_lets | (simp +zetaDelta [pending_quiet, mem_quiet, applied_quiet, cycles_quiet, thermal_quiet, *]; done) | split)) | (have hx : x.2.quiet.powerCycles = s.quiet.powerCycles := by unfold x; (repeat' first | assumption | (simp [pending_quiet, mem_quiet, applied_quiet, cycles_quiet, thermal_quiet, *]; done) | refine (foldl_powerCycles (fun _ _ => ?_) _ _).trans ?_ | refine (foldl_powerCycles_snd (fun _ _ => ?_) _ _).trans ?_ | extract_lets | (simp +zetaDelta [pending_quiet, mem_quiet, applied_quiet, cycles_quiet, thermal_quiet, *]; done) | split)) | skip); clear_value x) | refine (foldl_powerCycles (fun _ _ => ?_) _ _).trans ?_ | split
@[simp] theorem marchBank_thermal (failing : List (Nat × Nat)) (wipe : Bool) (b : Nat) (s : State) : (marchBank failing wipe b s).2.quiet.thermal = s.quiet.thermal := by
  unfold marchBank
  repeat' first | assumption | (simp [pending_quiet, mem_quiet, applied_quiet, cycles_quiet, thermal_quiet, *]; done) | (extract_lets +onlyGivenNames x; (first | (have hx : x.quiet.thermal = s.quiet.thermal := by unfold x; (repeat' first | assumption | (simp [pending_quiet, mem_quiet, applied_quiet, cycles_quiet, thermal_quiet, *]; done) | refine (foldl_thermal (fun _ _ => ?_) _ _).trans ?_ | refine (foldl_thermal_snd (fun _ _ => ?_) _ _).trans ?_ | extract_lets | (simp +zetaDelta [pending_quiet, mem_quiet, applied_quiet, cycles_quiet, thermal_quiet, *]; done) | split)) | (have hx : x.1.quiet.thermal = s.quiet.thermal := by unfold x; (repeat' first | assumption | (simp [pending_quiet, mem_quiet, applied_quiet, cycles_quiet, thermal_quiet, *]; done) | refine (foldl_thermal (fun _ _ => ?_) _ _).trans ?_ | refine (foldl_thermal_snd (fun _ _ => ?_) _ _).trans ?_ | extract_lets | (simp +zetaDelta [pending_quiet, mem_quiet, applied_quiet, cycles_quiet, thermal_quiet, *]; done) | split)) | (have hx : x.2.quiet.thermal = s.quiet.thermal := by unfold x; (repeat' first | assumption | (simp [pending_quiet, mem_quiet, applied_quiet, cycles_quiet, thermal_quiet, *]; done) | refine (foldl_thermal (fun _ _ => ?_) _ _).trans ?_ | refine (foldl_thermal_snd (fun _ _ => ?_) _ _).trans ?_ | extract_lets | (simp +zetaDelta [pending_quiet, mem_quiet, applied_quiet, cycles_quiet, thermal_quiet, *]; done) | split)) | skip); clear_value x) | refine (foldl_thermal (fun _ _ => ?_) _ _).trans ?_ | split
@[simp] theorem marchBank_wf (failing : List (Nat × Nat)) (wipe : Bool) (b : Nat) (s : State) (hw : Memory.wf s.quiet.mem = true) : Memory.wf (marchBank failing wipe b s).2.quiet.mem = true := by
  unfold marchBank
  repeat' first | assumption | (simp [pending_quiet, mem_quiet, applied_quiet, cycles_quiet, thermal_quiet, *]; done) | (extract_lets +onlyGivenNames x; (first | (have hx : Memory.wf x.quiet.mem = true := by unfold x; (repeat' first | assumption | (simp [pending_quiet, mem_quiet, applied_quiet, cycles_quiet, thermal_quiet, *]; done) | refine foldl_wf (fun _ _ h => ?_) _ _ ?_ | refine foldl_wf_snd (fun _ _ h => ?_) _ _ ?_ | extract_lets | (simp +zetaDelta [pending_quiet, mem_quiet, applied_quiet, cycles_quiet, thermal_quiet, *]; done) | split)) | (have hx : Memory.wf x.1.quiet.mem = true := by unfold x; (repeat' first | assumption | (simp [pending_quiet, mem_quiet, applied_quiet, cycles_quiet, thermal_quiet, *]; done) | refine foldl_wf (fun _ _ h => ?_) _ _ ?_ | refine foldl_wf_snd (fun _ _ h => ?_) _ _ ?_ | extract_lets | (simp +zetaDelta [pending_quiet, mem_quiet, applied_quiet, cycles_quiet, thermal_quiet, *]; done) | split)) | (have hx : Memory.wf x.2.quiet.mem = true := by unfold x; (repeat' first | assumption | (simp [pending_quiet, mem_quiet, applied_quiet, cycles_quiet, thermal_quiet, *]; done) | refine foldl_wf (fun _ _ h => ?_) _ _ ?_ | refine foldl_wf_snd (fun _ _ h => ?_) _ _ ?_ | extract_lets | (simp +zetaDelta [pending_quiet, mem_quiet, applied_quiet, cycles_quiet, thermal_quiet, *]; done) | split)) | skip); clear_value x) | refine foldl_wf (fun _ _ h => ?_) _ _ ?_ | split
theorem execMarchTestComplete_pending (failing : List (Nat × Nat)) (s : State) {t : State} : execMarchTestComplete failing s = .next t → t.quiet.pending = s.quiet.pending := by
  intro h
  unfold execMarchTestComplete at h
  injection h with h
  subst h
  repeat' first | assumption | (simp [pending_quiet, mem_quiet, applied_quiet, cycles_quiet, thermal_quiet, *]; done) | (extract_lets +onlyGivenNames x; (first | (have hx : x.quiet.pending = s.quiet.pending := by unfold x; (repeat' first | assumption | (simp [pending_quiet, mem_quiet, applied_quiet, cycles_quiet, thermal_quiet, *]; done) | refine (foldl_pending (fun _ _ => ?_) _ _).trans ?_ | refine (foldl_pending_snd (fun _ _ => ?_) _ _).trans ?_ | extract_lets | (simp +zetaDelta [pending_quiet, mem_quiet, applied_quiet, cycles_quiet, thermal_quiet, *]; done) | split)) | (have hx : x.1.quiet.pending = s.quiet.pending := by unfold x; (repeat' first | assumption | (simp [pending_quiet, mem_quiet, applied_quiet, cycles_quiet, thermal_quiet, *]; done) | refine (foldl_pending (fun _ _ => ?_) _ _).trans ?_ | refine (foldl_pending_snd (fun _ _ => ?_) _ _).trans ?_ | extract_lets | (simp +zetaDelta [pending_quiet, mem_quiet, applied_quiet, cycles_quiet, thermal_quiet, *]; done) | split)) | (have hx : x.2.quiet.pending = s.quiet.pending := by unfold x; (repeat' first | assumption | (simp [pending_quiet, mem_quiet, applied_quiet, cycles_quiet, thermal_quiet, *]; done) | refine (foldl_pending (fun _ _ => ?_) _ _).trans ?_ | refine (foldl_pending_snd (fun _ _ => ?_) _ _).trans ?_ | extract_lets | (simp +zetaDelta [pending_quiet, mem_quiet, applied_quiet, cycles_quiet, thermal_quiet, *]; done) | split)) | skip); clear_value x) | refine (foldl_pending (fun _ _ => ?_) _ _).trans ?_ | split
theorem execMarchTestComplete_applied (failing : List (Nat × Nat)) (s : State) {t : State} : execMarchTestComplete failing s = .next t → t.quiet.applied = s.quiet.applied := by
  intro h
  unfold execMarchTestComplete at h
  injection h with h
  subst h
  repeat' first | assumption | (simp [pending_quiet, mem_quiet, applied_quiet, cycles_quiet, thermal_quiet, *]; done) | (extract_lets +onlyGivenNames x; (first | (have hx : x.quiet.applied = s.quiet.applied := by unfold x; (repeat' first | assumption | (simp [pending_quiet, mem_quiet, applied_quiet, cycles_quiet, thermal_quiet, *]; done) | refine (foldl_applied (fun _ _ => ?_) _ _).trans ?_ | refine (foldl_applied_snd (fun _ _ => ?_) _ _).trans ?_ | extract_lets | (simp +zetaDelta [pending_quiet, mem_quiet, applied_quiet, cycles_quiet, thermal_quiet, *]; done) | split)) | (have hx : x.1.quiet.applied = s.quiet.applied := by unfold x; (repeat' first | assumption | (simp [pending_quiet, mem_quiet, applied_quiet, cycles_quiet, thermal_quiet, *]; done) | refine (foldl_applied (fun _ _ => ?_) _ _).trans ?_ | refine (foldl_applied_snd (fun _ _ => ?_) _ _).trans ?_ | extract_lets | (simp +zetaDelta [pending_quiet, mem_quiet, applied_quiet, cycles_quiet, thermal_quiet, *]; done) | split)) | (have hx : x.2.quiet.applied = s.quiet.applied := by unfold x; (repeat' first | assumption | (simp [pending_quiet, mem_quiet, applied_quiet, cycles_quiet, thermal_quiet, *]; done) | refine (foldl_applied (fun _ _ => ?_) _ _).trans ?_ | refine (foldl_applied_snd (fun _ _ => ?_) _ _).trans ?_ | extract_lets | (simp +zetaDelta [pending_quiet, mem_quiet, applied_quiet, cycles_quiet, thermal_quiet, *]; done) | split)) | skip); clear_value x) | refine (foldl_applied (fun _ _ => ?_) _ _).trans ?_ | split
theorem execMarchTestComplete_powerCycles (failing : List (Nat × Nat)) (s : State) {t : State} : execMarchTestComplete failing s = .next t → t.quiet.powerCycles = s.quiet.powerCycles := by
  intro h
  unfold execMarchTestComplete at h
  injection h with h
  subst h
  repeat' first | assumption | (simp [pending_quiet, mem_quiet, applied_quiet, cycles_quiet, thermal_quiet, *]; done) | (extract_lets +onlyGivenNames x; (first | (have hx : x.quiet.powerCycles = s.quiet.powerCycles := by unfold x; (repeat' first | assumption | (simp [pending_quiet, mem_quiet, applied_quiet, cycles_quiet, thermal_quiet, *]; done) | refine (foldl_powerCycles (fun _ _ => ?_) _ _).trans ?_ | refine (foldl_powerCycles_snd (fun _ _ => ?_) _ _).trans ?_ | extract_lets | (simp +zetaDelta [pending_quiet, mem_quiet, applied_quiet, cycles_quiet, thermal_quiet, *]; done) | split)) | (have hx : x.1.quiet.powerCycles = s.quiet.powerCycles := by unfold x; (repeat' first | assumption | (simp [pending_quiet, mem_quiet, applied_quiet, cycles_quiet, thermal_quiet, *]; done) | refine (foldl_powerCycles (fun _ _ => ?_) _ _).trans ?_ | refine (foldl_powerCycles_snd (fun _ _ => ?_) _ _).trans ?_ | extract_lets | (simp +zetaDelta [pending_quiet, mem_quiet, applied_quiet, cycles_quiet, thermal_quiet, *]; done) | split)) | (have hx : x.2.quiet.powerCycles = s.quiet.powerCycles := by unfold x; (repeat' first | assumption | (simp [pending_quiet, mem_quiet, applied_quiet, cycles_quiet, thermal_quiet, *]; done) | refine (foldl_powerCycles (fun _ _ => ?_) _ _).trans ?_ | refine (foldl_powerCycles_snd (fun _ _ => ?_) _ _).trans ?_ | extract_lets | (simp +zetaDelta [pending_quiet, mem_quiet, applied_quiet, cycles_quiet, thermal_quiet, *]; done) | split)) | skip); clear_value x) | refine (foldl_powerCycles (fun _ _ => ?_) _ _).trans ?_ | split
theorem execMarchTestComplete_thermal (failing : List (Nat × Nat)) (s : State) {t : State} : execMarchTestComplete failing s = .next t → t.quiet.thermal = s.quiet.thermal := by
  intro h
  unfold execMarchTestComplete at h
  injection h with h
  subst h
  repeat' first | assumption | (simp [pending_quiet, mem_quiet, applied_quiet, cycles_quiet, thermal_quiet, *]; done) | (extract_lets +onlyGivenNames x; (first | (have hx : x.quiet.thermal = s.quiet.thermal := by unfold x; (repeat' first | assumption | (simp [pending_quiet, mem_quiet, applied_quiet, cycles_quiet, thermal_quiet, *]; done) | refine (foldl_thermal (fun _ _ => ?_) _ _).trans ?_ | refine (foldl_thermal_snd (fun _ _ => ?_) _ _).trans ?_ | extract_lets | (simp +zetaDelta [pending_quiet, mem_quiet, applied_quiet, cycles_quiet, thermal_quiet, *]; done) | split)) | (have hx : x.1.quiet.thermal = s.quiet.thermal := by unfold x; (repeat' first | assumption | (simp [pending_quiet, mem_quiet, applied_quiet, cycles_quiet, thermal_quiet, *]; done) | refine (foldl_thermal (fun _ _ => ?_) _ _).trans ?_ | refine (foldl_thermal_snd (fun _ _ => ?_) _ _).trans ?_ | extract_lets | (simp +zetaDelta [pending_quiet, mem_quiet, applied_quiet, cycles_quiet, thermal_quiet, *]; done) | split)) | (have hx : x.2.quiet.thermal = s.quiet.thermal := by unfold x; (repeat' first | assumption | (simp [pending_quiet, mem_quiet, applied_quiet, cycles_quiet, thermal_quiet, *]; done) | refine (foldl_thermal (fun _ _ => ?_) _ _).trans ?_ | refine (foldl_thermal_snd (fun _ _ => ?_) _ _).trans ?_ | extract_lets | (simp +zetaDelta [pending_quiet, mem_quiet, applied_quiet, cycles_quiet, thermal_quiet, *]; done) | split)) | skip); clear_value x) | refine (foldl_thermal (fun _ _ => ?_) _ _).trans ?_ | split
theorem execMarchTestComplete_wf (failing : List (Nat × Nat)) (s : State) {t : State} :
    execMarchTestComplete failing s = .next t → Memory.wf s.quiet.mem = true → Memory.wf t.quiet.mem = true := by
  intro h hw
  unfold execMarchTestComplete at h
  injection h with h
  subst h
  split
  · exact hw
  · split
    · exact hw
    · refine foldl_wf (fun _ _ h => by simp [h]) _ _ ?_
      rw [complete_quiet]
      exact foldl_wf_snd (fun _ _ h => by simp [h]) _ _ (by simpa [mem_quiet] using hw)
@[simp] theorem serveBankStatus_quiet (p : Port) (tag : Half) (pl : List Byte) (s : State) : (serveBankStatus p tag pl s).quiet = s.quiet := by simp [serveBankStatus]
theorem execBankStatus_quiet (port : Port) (tag : Half) (payload : List Byte) (s : State) {t : State} : execBankStatus port tag payload s = .next t → t.quiet = s.quiet := by
  intro h
  simp only [execBankStatus, Host.Outcome.next.injEq] at h
  subst h
  simp; done
@[simp] theorem serveBankRead_quiet (p : Port) (tag : Half) (pl : List Byte) (s : State) : (serveBankRead p tag pl s).quiet = s.quiet := by simp [serveBankRead]
theorem execBankRead_quiet (port : Port) (tag : Half) (payload : List Byte) (s : State) {t : State} : execBankRead port tag payload s = .next t → t.quiet = s.quiet := by
  intro h
  simp only [execBankRead, Host.Outcome.next.injEq] at h
  subst h
  simp; done

end Sys2Proof.Machine
end

