-- ==== Sys2Proof/Laws/FramesNet.lean ====
section
/-! SUPPORT. What the operations leave alone: updates, checks, HV, CAN, time and federation. -/
namespace Sys2Proof.Machine
open Sys2Proof
set_option linter.unusedTactic false
set_option linter.unreachableTactic false

set_option maxRecDepth 4000
set_option linter.unusedSimpArgs false

/-! ### Update -/
@[simp] theorem modComp_quiet (c : Nat) (f : CompState → CompState) (s : State) : (modComp c f s).quiet = s.quiet := by simp [modComp]
@[simp] theorem updEvent_quiet (src code c : Nat) (s : State) : (updEvent src code c s).quiet = s.quiet := by simp [updEvent]
@[simp] theorem serveUpdBegin_quiet (p : Port) (tag : Half) (pl : List Byte) (s : State) : (serveUpdBegin p tag pl s).quiet = s.quiet := by simp [serveUpdBegin]
theorem execUpdBegin_quiet (port : Port) (tag : Half) (payload : List Byte) (s : State) {t : State} : execUpdBegin port tag payload s = .next t → t.quiet = s.quiet := by
  intro h
  simp only [execUpdBegin, Host.Outcome.next.injEq] at h
  subst h
  simp; done
@[simp] theorem storePiece_quiet (i : Nat) (x : Piece) (s : State) : (storePiece i x s).quiet = s.quiet := by simp [storePiece]
@[simp] theorem serveUpdPiece_quiet (p : Port) (tag : Half) (pl : List Byte) (s : State) : (serveUpdPiece p tag pl s).quiet = s.quiet := by
  unfold serveUpdPiece
  refine serve_quiet _ _ _ _ _ (fun s => ?_) _
  dsimp only
  repeat' first | (simp +zetaDelta; done) | extract_lets | split
theorem execUpdPiece_quiet (port : Port) (tag : Half) (payload : List Byte) (s : State) {t : State} : execUpdPiece port tag payload s = .next t → t.quiet = s.quiet := by
  intro h
  simp only [execUpdPiece, Host.Outcome.next.injEq] at h
  subst h
  simp; done
@[simp] theorem serveUpdProgress_quiet (p : Port) (tag : Half) (pl : List Byte) (s : State) : (serveUpdProgress p tag pl s).quiet = s.quiet := by simp [serveUpdProgress]
theorem execUpdProgress_quiet (port : Port) (tag : Half) (payload : List Byte) (s : State) {t : State} : execUpdProgress port tag payload s = .next t → t.quiet = s.quiet := by
  intro h
  simp only [execUpdProgress, Host.Outcome.next.injEq] at h
  subst h
  simp; done
@[simp] theorem serveUpdVerify_quiet (p : Port) (tag : Half) (pl : List Byte) (s : State) : (serveUpdVerify p tag pl s).quiet = s.quiet := by simp [serveUpdVerify]
theorem execUpdVerify_quiet (port : Port) (tag : Half) (payload : List Byte) (s : State) {t : State} : execUpdVerify port tag payload s = .next t → t.quiet = s.quiet := by
  intro h
  simp only [execUpdVerify, Host.Outcome.next.injEq] at h
  subst h
  simp; done
theorem execVerificationComplete_quiet (good : Bool) (s : State) {t : State} : execVerificationComplete good s = .next t → t.quiet = s.quiet := by
  intro h
  unfold execVerificationComplete at h
  injection h with h
  subst h
  repeat' first | (simp +zetaDelta; done) | extract_lets | split
@[simp] theorem markBase_quiet (c : Nat) (s : State) : (markBase c s).quiet = s.quiet := by simp [markBase]
@[simp] theorem setIdent_quiet (c v : Nat) (s : State) : (setIdent c v s).quiet = s.quiet := by
  unfold setIdent
  simp +zetaDelta only
  repeat' first | (simp +zetaDelta; done) | extract_lets | split
@[simp] theorem releaseBanks_quiet (s : State) : (releaseBanks s).quiet = s.quiet := by simp [releaseBanks]
@[simp] theorem confirm_quiet (c : Nat) (s : State) : (confirm c s).quiet = s.quiet := by simp [confirm]
@[simp] theorem serveUpdHandover_quiet (p : Port) (tag : Half) (pl : List Byte) (s : State) : (serveUpdHandover p tag pl s).quiet = s.quiet := by simp [serveUpdHandover]
theorem execUpdHandover_quiet (port : Port) (tag : Half) (payload : List Byte) (s : State) {t : State} : execUpdHandover port tag payload s = .next t → t.quiet = s.quiet := by
  intro h
  simp only [execUpdHandover, Host.Outcome.next.injEq] at h
  subst h
  simp; done
@[simp] theorem handedOver_quiet (h : Handover) (s : State) : (handedOver h s).quiet = s.quiet := by simp [handedOver]
@[simp] theorem swapRunning_quiet (s : State) : (swapRunning s).quiet = s.quiet := by simp [swapRunning]
@[simp] theorem commitHandover_quiet (s : State) : (commitHandover s).quiet = s.quiet := by
  unfold commitHandover
  repeat' first | (simp +zetaDelta; done) | extract_lets | split
theorem execImageCopyComplete_quiet (good : Bool) (s : State) {t : State} : execImageCopyComplete good s = .next t → t.quiet = s.quiet := by
  intro h
  unfold execImageCopyComplete at h
  injection h with h
  subst h
  repeat' first | (simp +zetaDelta; done) | extract_lets | split
theorem execSatelliteSwitch_quiet (ring sat : Nat) (image : Bool) (s : State) {t : State} : execSatelliteSwitch ring sat image s = .next t → t.quiet = s.quiet := by
  intro h
  unfold execSatelliteSwitch at h
  injection h with h
  subst h
  repeat' first | (simp +zetaDelta; done) | extract_lets | split
@[simp] theorem startRestore_quiet (s : State) : (startRestore s).quiet = s.quiet := by simp [startRestore]
@[simp] theorem tellAbort_quiet (st : Nat) (s : State) : (tellAbort st s).quiet = s.quiet := by simp [tellAbort]
@[simp] theorem commitFallback_quiet (s : State) : (commitFallback s).quiet = s.quiet := by
  unfold commitFallback
  simp +zetaDelta only
  repeat' first | (simp +zetaDelta; done) | extract_lets | split
theorem execRestoreComplete_quiet (good : Bool) (s : State) {t : State} : execRestoreComplete good s = .next t → t.quiet = s.quiet := by
  intro h
  unfold execRestoreComplete at h
  injection h with h
  subst h
  repeat' first | (simp +zetaDelta; done) | refine (foldl_quiet (fun _ _ => ?_) _ _).trans ?_ | refine (foldl_quiet_fst (fun _ _ => ?_) _ _).trans ?_ | refine (foldl_quiet_snd (fun _ _ => ?_) _ _).trans ?_ | extract_lets | split | simp +zetaDelta
theorem execHealthWindowEnd_quiet (s : State) {t : State} : execHealthWindowEnd s = .next t → t.quiet = s.quiet := by
  intro h
  unfold execHealthWindowEnd at h
  injection h with h
  subst h
  repeat' first | (simp +zetaDelta; done) | extract_lets | split
@[simp] theorem serveUpdConfirm_quiet (p : Port) (tag : Half) (pl : List Byte) (s : State) : (serveUpdConfirm p tag pl s).quiet = s.quiet := by simp [serveUpdConfirm]
theorem execUpdConfirm_quiet (port : Port) (tag : Half) (payload : List Byte) (s : State) {t : State} : execUpdConfirm port tag payload s = .next t → t.quiet = s.quiet := by
  intro h
  simp only [execUpdConfirm, Host.Outcome.next.injEq] at h
  subst h
  simp; done
@[simp] theorem closeSession_quiet (c : Nat) (s : State) : (closeSession c s).quiet = s.quiet := by
  unfold closeSession
  repeat' first | (simp +zetaDelta; done) | extract_lets | split
@[simp] theorem serveUpdAbort_quiet (p : Port) (tag : Half) (pl : List Byte) (s : State) : (serveUpdAbort p tag pl s).quiet = s.quiet := by simp [serveUpdAbort]
theorem execUpdAbort_quiet (port : Port) (tag : Half) (payload : List Byte) (s : State) {t : State} : execUpdAbort port tag payload s = .next t → t.quiet = s.quiet := by
  intro h
  simp only [execUpdAbort, Host.Outcome.next.injEq] at h
  subst h
  simp; done
@[simp] theorem updStartPeers_quiet (s : State) : (updStartPeers s).quiet = s.quiet := by simp [updStartPeers]
@[simp] theorem updStartMain_quiet (cause : Nat) (s : State) : (updStartMain cause s).1.quiet = s.quiet := by
  unfold updStartMain
  repeat' first | (simp +zetaDelta; done) | extract_lets | split
@[simp] theorem hibernateGate_quiet (by' : Requester) (s : State) : (hibernateGate by' s).1.quiet = s.quiet := by
  unfold hibernateGate
  repeat' first | (simp +zetaDelta; done) | extract_lets | split

/-! ### Hv -/
@[simp] theorem roundStrand_quiet (k : Nat) (d : HvStrand) (s : State) : (roundStrand k d s).quiet = s.quiet := by simp [roundStrand]
@[simp] theorem roundReference_quiet (bad : Bool) (s : State) : (roundReference bad s).quiet = s.quiet := by simp [roundReference]
@[simp] theorem roundPin_quiet (mask : Nat) (s : State) : (roundPin mask s).quiet = s.quiet := by simp [roundPin]
theorem execHvRound_quiet (data : HvRound) (s : State) {t : State} : execHvRound data s = .next t → t.quiet = s.quiet := by
  intro h
  simp only [execHvRound, Host.Outcome.next.injEq] at h
  subst h
  simp; done
theorem execShuntOffset_quiet (strand : Nat) (microvolts : Int) (s : State) {t : State} : execShuntOffset strand microvolts s = .next t → t.quiet = s.quiet := by
  intro h
  simp only [execShuntOffset, Host.Outcome.next.injEq] at h
  subst h
  simp; done
@[simp] theorem followLine_quiet (s : State) : (followLine s).quiet = s.quiet := by simp [followLine]
@[simp] theorem isoWarning_quiet (which ohms : Nat) (s : State) : (isoWarning which ohms s).quiet = s.quiet := by simp [isoWarning]
@[simp] theorem isoBus_quiet (ohms : Nat) (s : State) : (isoBus ohms s).quiet = s.quiet := by simp [isoBus]
@[simp] theorem isoStrand_quiet (k ohms : Nat) (s : State) : (isoStrand k ohms s).quiet = s.quiet := by simp [isoStrand]
@[simp] theorem isoResult_quiet (which ohms : Nat) (s : State) : (isoResult which ohms s).quiet = s.quiet := by
  unfold isoResult
  repeat' first | (simp +zetaDelta; done) | refine (foldl_quiet (fun _ _ => ?_) _ _).trans ?_ | refine (foldl_quiet_fst (fun _ _ => ?_) _ _).trans ?_ | refine (foldl_quiet_snd (fun _ _ => ?_) _ _).trans ?_ | extract_lets | split | simp +zetaDelta
theorem execInsulationResult_quiet (which ohms : Nat) (s : State) {t : State} : execInsulationResult which ohms s = .next t → t.quiet = s.quiet := by
  intro h
  simp only [execInsulationResult, Host.Outcome.next.injEq] at h
  subst h
  simp; done
theorem execEarthCheck_quiet (good : Bool) (s : State) {t : State} : execEarthCheck good s = .next t → t.quiet = s.quiet := by
  intro h
  simp only [execEarthCheck, Host.Outcome.next.injEq] at h
  subst h
  simp; done
theorem execContactorVoltageHigh_quiet (strand : Nat) (s : State) {t : State} : execContactorVoltageHigh strand s = .next t → t.quiet = s.quiet := by
  intro h
  simp only [execContactorVoltageHigh, Host.Outcome.next.injEq] at h
  subst h
  simp; done

/-! ### Can -/
@[simp] theorem State.modCan_quiet (s : State) (c : Nat) (f : CanState → CanState) : (State.modCan s c f).quiet = s.quiet := by simp [State.modCan]
@[simp] theorem raiseCan_quiet (src c : Nat) (s : State) : (raiseCan src c s).quiet = s.quiet := by simp [raiseCan]
@[simp] theorem postRx_quiet (c q : Nat) (fr : CanFrame) (s : State) : (postRx c q fr s).quiet = s.quiet := by simp [postRx]
@[simp] theorem ackRx_quiet (c q : Nat) (data : List Byte) (s : State) : (ackRx c q data s).quiet = s.quiet := by simp [ackRx]
@[simp] theorem busOff_quiet (c : Nat) (s : State) : (busOff c s).quiet = s.quiet := by simp [busOff]
@[simp] theorem judgeErrors_quiet (c : Nat) (s : State) : (judgeErrors c s).quiet = s.quiet := by simp [judgeErrors]
@[simp] theorem goodReception_quiet (c : Nat) (s : State) : (goodReception c s).quiet = s.quiet := by simp [goodReception]
@[simp] theorem postTx_quiet (c p : Nat) (d : TxDesc) (s : State) : (postTx c p d s).1.quiet = s.quiet := by
  unfold postTx
  repeat' first | (simp +zetaDelta; done) | extract_lets | split
@[simp] theorem popTx_quiet (c p : Nat) (s : State) : (popTx c p s).quiet = s.quiet := by simp [popTx]
@[simp] theorem abortChannel_quiet (c : Nat) (s : State) : (abortChannel c s).quiet = s.quiet := by simp [abortChannel]
@[simp] theorem switchChannel_quiet (c : Nat) (on : Bool) (s : State) : (switchChannel c on s).quiet = s.quiet := by simp [switchChannel]
@[simp] theorem postSegments_quiet (c : Nat) (l : List (List Byte)) (s : State) : (postSegments c l s).quiet = s.quiet := by
  induction l generalizing s with
  | nil => unfold postSegments; simp
  | cons x l ih =>
    unfold postSegments
    repeat' first | (simp +zetaDelta [ih]; done) | split
@[simp] theorem drainCan_quiet (c n : Nat) (s : State) : (drainCan c n s).quiet = s.quiet := by
  induction n generalizing s with
  | zero => rfl
  | succ n ih =>
    unfold drainCan
    repeat' first | (simp +zetaDelta [ih]; done) | extract_lets | split
@[simp] theorem pumpCan_quiet (s : State) : (pumpCan s).quiet = s.quiet := by simp [pumpCan]
@[simp] theorem setReasm_quiet (r : Reassembly) (s : State) : (setReasm r s).quiet = s.quiet := by simp [setReasm]
@[simp] theorem abandonPacket_quiet (s : State) : (abandonPacket s).quiet = s.quiet := by simp [abandonPacket]
@[simp] theorem postCanCmd_quiet (b : List Byte) (s : State) : (postCanCmd b s).quiet = s.quiet := by simp [postCanCmd]
@[simp] theorem takeSegment_quiet (last short : Bool) (data : List Byte) (s : State) : (takeSegment last short data s).quiet = s.quiet := by simp [takeSegment]
theorem execCanFrameReceived_quiet (channel : Nat) (frame : CanFrame) (s : State) {t : State} :
    execCanFrameReceived channel frame s = .next t → t.quiet = s.quiet := by
  intro h
  unfold execCanFrameReceived at h
  split at h
  · cases h
  · injection h with h
    subst h
    repeat' first | (simp +zetaDelta; done) | extract_lets | split
theorem execCanTxComplete_quiet (channel : Nat) (status : TxStatus) (sof delay : Nat) (s : State) {t : State} : execCanTxComplete channel status sof delay s = .next t → t.quiet = s.quiet := by
  intro h
  unfold execCanTxComplete at h
  injection h with h
  subst h
  repeat' first | (simp +zetaDelta; done) | refine (foldl_quiet (fun _ _ => ?_) _ _).trans ?_ | refine (foldl_quiet_fst (fun _ _ => ?_) _ _).trans ?_ | refine (foldl_quiet_snd (fun _ _ => ?_) _ _).trans ?_ | extract_lets | split | simp +zetaDelta
theorem execCanTxDeadline_quiet (channel prio index : Nat) (s : State) {t : State} : execCanTxDeadline channel prio index s = .next t → t.quiet = s.quiet := by
  intro h
  unfold execCanTxDeadline at h
  injection h with h
  subst h
  repeat' first | (simp +zetaDelta; done) | extract_lets | split
theorem execCanBusError_quiet (channel : Nat) (transmit : Bool) (weight : Nat) (s : State) {t : State} : execCanBusError channel transmit weight s = .next t → t.quiet = s.quiet := by
  intro h
  unfold execCanBusError at h
  injection h with h
  subst h
  repeat' first | (simp +zetaDelta; done) | refine (foldl_quiet (fun _ _ => ?_) _ _).trans ?_ | refine (foldl_quiet_fst (fun _ _ => ?_) _ _).trans ?_ | refine (foldl_quiet_snd (fun _ _ => ?_) _ _).trans ?_ | extract_lets | split | simp +zetaDelta
theorem execCanBusoffHoldoff_quiet (channel : Nat) (s : State) {t : State} : execCanBusoffHoldoff channel s = .next t → t.quiet = s.quiet := by
  intro h
  simp only [execCanBusoffHoldoff, Host.Outcome.next.injEq] at h
  subst h
  simp; done
@[simp] theorem applyRecover_quiet (v : Nat) (s : State) : (applyRecover v s).quiet = s.quiet := by simp [applyRecover]
theorem execCanRecoveryComplete_quiet (channel : Nat) (s : State) {t : State} : execCanRecoveryComplete channel s = .next t → t.quiet = s.quiet := by
  intro h
  simp only [execCanRecoveryComplete, Host.Outcome.next.injEq] at h
  subst h
  simp; done
theorem execCanLinesSwapped_quiet (channel : Nat) (s : State) {t : State} : execCanLinesSwapped channel s = .next t → t.quiet = s.quiet := by
  intro h
  simp only [execCanLinesSwapped, Host.Outcome.next.injEq] at h
  subst h
  simp; done
theorem execTxdTimeout_quiet (channel : Nat) (s : State) {t : State} : execTxdTimeout channel s = .next t → t.quiet = s.quiet := by
  intro h
  simp only [execTxdTimeout, Host.Outcome.next.injEq] at h
  subst h
  simp; done
theorem execCanReassemblyTimeout_quiet (s : State) {t : State} : execCanReassemblyTimeout s = .next t → t.quiet = s.quiet := by
  intro h
  simp only [execCanReassemblyTimeout, Host.Outcome.next.injEq] at h
  subst h
  simp; done

/-! ### NetTime -/
@[simp] theorem modClock_quiet (f : ClockState → ClockState) (s : State) : (modClock f s).quiet = s.quiet := by simp [modClock]
@[simp] theorem raiseNt_quiet (src : Nat) (s : State) : (raiseNt src s).quiet = s.quiet := by simp [raiseNt]
@[simp] theorem setNtState_quiet (n src : Nat) (s : State) : (setNtState n src s).quiet = s.quiet := by simp [setNtState]
@[simp] theorem ntStepped_quiet (s : State) : (ntStepped s).quiet = s.quiet := by simp [ntStepped]
@[simp] theorem becomeMaster_quiet (s : State) : (becomeMaster s).quiet = s.quiet := by simp [becomeMaster]
@[simp] theorem takeRoles_quiet (s : State) : (takeRoles s).quiet = s.quiet := by simp [takeRoles]
theorem execSync_quiet (channel : Nat) (s : State) {t : State} : execSync channel s = .next t → t.quiet = s.quiet := by
  intro h
  simp only [execSync, Host.Outcome.next.injEq] at h
  subst h
  simp; done
theorem execSyncReceived_quiet (channel : Nat) (bytes : List Byte) (capture : Nat) (s : State) {t : State} : execSyncReceived channel bytes capture s = .next t → t.quiet = s.quiet := by
  intro h
  simp only [execSyncReceived, Host.Outcome.next.injEq] at h
  subst h
  simp; done
@[simp] theorem usePair_quiet (y : SyncHeard) (tm : Nat) (s : State) : (usePair y tm s).quiet = s.quiet := by simp [usePair]
theorem execFollowUpReceived_quiet (channel : Nat) (bytes : List Byte) (late : Bool) (s : State) {t : State} : execFollowUpReceived channel bytes late s = .next t → t.quiet = s.quiet := by
  intro h
  unfold execFollowUpReceived at h
  injection h with h
  subst h
  repeat' first | (simp +zetaDelta; done) | extract_lets | split
theorem execNtPairTimeout_quiet (s : State) {t : State} : execNtPairTimeout s = .next t → t.quiet = s.quiet := by
  intro h
  unfold execNtPairTimeout at h
  injection h with h
  subst h
  repeat' first | (simp +zetaDelta; done) | extract_lets | split
theorem execNtHoldoverExpiry_quiet (s : State) {t : State} : execNtHoldoverExpiry s = .next t → t.quiet = s.quiet := by
  intro h
  simp only [execNtHoldoverExpiry, Host.Outcome.next.injEq] at h
  subst h
  simp; done

/-! ### Federation -/
@[simp] theorem modDisp_quiet (f : DispState → DispState) (s : State) : (modDisp f s).quiet = s.quiet := by simp [modDisp]
@[simp] theorem raiseDisp_quiet (src id ch : Nat) (s : State) : (raiseDisp src id ch s).quiet = s.quiet := by simp [raiseDisp]
@[simp] theorem postDispatch_quiet (ch prio type share : Nat) (data : List Byte) (s : State) : (postDispatch ch prio type share data s).quiet = s.quiet := by simp [postDispatch]
@[simp] theorem sendStatus_quiet (s : State) : (sendStatus s).quiet = s.quiet := by simp [sendStatus]
@[simp] theorem cancelDispatch_quiet (ch : Nat) (s : State) : (cancelDispatch ch s).quiet = s.quiet := by simp [cancelDispatch]
@[simp] theorem refreshLedger_quiet (m : Member) (s : State) : (refreshLedger m s).quiet = s.quiet := by simp [refreshLedger]
@[simp] theorem pruneLedger_quiet (s : State) : (pruneLedger s).quiet = s.quiet := by simp [pruneLedger]
@[simp] theorem takeTarget_quiet (h : Option Int) (s : State) : (takeTarget h s).quiet = s.quiet := by simp [takeTarget]
@[simp] theorem setSaturated_quiet (b : Bool) (s : State) : (setSaturated b s).quiet = s.quiet := by simp [setSaturated]
@[simp] theorem postAllocs_quiet (ch type n k : Nat) (fuel : Nat) (l : List (List Byte)) (s : State) :
    (postAllocs ch type n k fuel l s).quiet = s.quiet := by
  induction fuel generalizing l s with
  | zero => unfold postAllocs; rfl
  | succ x ih =>
    cases l with
    | nil => unfold postAllocs; rfl
    | cons a l => unfold postAllocs; simp [ih]
@[simp] theorem allocateSegment_quiet (p : Int) (s : State) : (allocateSegment p s).1.quiet = s.quiet := by simp [allocateSegment]
@[simp] theorem effectAlloc_quiet (l : List Int) (s : State) : (effectAlloc l s).quiet = s.quiet := by simp [effectAlloc]
theorem execDispatchCycleStart_quiet (s : State) {t : State} : execDispatchCycleStart s = .next t → t.quiet = s.quiet := by
  intro h
  unfold execDispatchCycleStart at h
  injection h with h
  subst h
  repeat' first | (simp +zetaDelta; done) | refine (foldl_quiet (fun _ _ => ?_) _ _).trans ?_ | refine (foldl_quiet_fst (fun _ _ => ?_) _ _).trans ?_ | refine (foldl_quiet_snd (fun _ _ => ?_) _ _).trans ?_ | extract_lets | split | simp +zetaDelta
@[simp] theorem roleChanged_quiet (was : Bool × Bool) (ch : Nat) (s : State) : (roleChanged was ch s).quiet = s.quiet := by simp [roleChanged]
@[simp] theorem sendSegStatus_quiet (s : State) : (sendSegStatus s).quiet = s.quiet := by simp [sendSegStatus]
@[simp] theorem sendDetail_quiet (s : State) : (sendDetail s).quiet = s.quiet := by simp [sendDetail]
theorem execSegmentElection_quiet (s : State) {t : State} : execSegmentElection s = .next t → t.quiet = s.quiet := by
  intro h
  simp only [execSegmentElection, Host.Outcome.next.injEq] at h
  subst h
  simp; done
@[simp] theorem allocateTrunk_quiet (s : State) : (allocateTrunk s).quiet = s.quiet := by simp [allocateTrunk]
theorem execTrunkElection_quiet (s : State) {t : State} : execTrunkElection s = .next t → t.quiet = s.quiet := by
  intro h
  simp only [execTrunkElection, Host.Outcome.next.injEq] at h
  subst h
  simp; done
theorem execSegmentAllocation_quiet (s : State) {t : State} : execSegmentAllocation s = .next t → t.quiet = s.quiet := by
  intro h
  unfold execSegmentAllocation at h
  injection h with h
  subst h
  repeat' first | (simp +zetaDelta; done) | extract_lets | split
@[simp] theorem ignoreFrame_quiet (s : State) : (ignoreFrame s).quiet = s.quiet := by simp [ignoreFrame]
@[simp] theorem takeFrame_quiet (ch : Nat) (bytes : List Byte) {body : State → State} (h : ∀ s, (body s).quiet = s.quiet) (s : State) :
    (takeFrame ch bytes body s).quiet = s.quiet := by
  unfold takeFrame
  split <;> simp [h]
@[simp] theorem taggedFrame_quiet (bytes : List Byte) (late : Bool) {body : State → State} (h : ∀ s, (body s).quiet = s.quiet)
    (s : State) : (taggedFrame bytes late body s).quiet = s.quiet := by
  unfold taggedFrame
  split
  · simp
  · split <;> simp [h]
@[simp] theorem meetTwin_quiet (serial : List Byte) (ch : Nat) (s : State) : (meetTwin serial ch s).quiet = s.quiet := by simp [meetTwin]
@[simp] theorem hearTwin_quiet (flags : Nat) (serial : List Byte) (ch : Nat) (trunk : Bool) (s : State) :
    (hearTwin flags serial ch trunk s).quiet = s.quiet := by
  unfold hearTwin
  repeat' first | (simp +zetaDelta; done) | extract_lets | split
theorem execStatusReceived_quiet (src : Nat) (bytes : List Byte) (late : Bool) (s : State) {t : State} :
    execStatusReceived src bytes late s = .next t → t.quiet = s.quiet := by
  intro h
  unfold execStatusReceived at h
  injection h with h
  subst h
  refine takeFrame_quiet _ _ (taggedFrame_quiet _ _ fun s => ?_) _
  repeat' first | (simp; done) | extract_lets | split
theorem execSegStatusReceived_quiet (src : Nat) (bytes : List Byte) (late : Bool) (s : State) {t : State} :
    execSegStatusReceived src bytes late s = .next t → t.quiet = s.quiet := by
  intro h
  unfold execSegStatusReceived at h
  injection h with h
  subst h
  split
  · rfl
  refine takeFrame_quiet _ _ (taggedFrame_quiet _ _ fun s => ?_) _
  repeat' first | (simp; done) | extract_lets | split
@[simp] theorem leadFrame_quiet (lead : Option Nat) (src : Nat) (bytes : List Byte) (late : Bool) {body : State → State}
    (h : ∀ s, (body s).quiet = s.quiet) (s : State) : (leadFrame lead src bytes late body s).quiet = s.quiet := by
  unfold leadFrame
  split <;> simp [h]
theorem execSegAllocReceived_quiet (src : Nat) (bytes : List Byte) (late : Bool) (s : State) {t : State} :
    execSegAllocReceived src bytes late s = .next t → t.quiet = s.quiet := by
  intro h
  unfold execSegAllocReceived at h
  injection h with h
  subst h
  split
  · rfl
  refine takeFrame_quiet _ _ (fun s => leadFrame_quiet _ _ _ _ (fun s => ?_) _) _
  repeat' first | (simp; done) | extract_lets | split
theorem execAllocReceived_quiet (src : Nat) (bytes : List Byte) (late : Bool) (s : State) {t : State} :
    execAllocReceived src bytes late s = .next t → t.quiet = s.quiet := by
  intro h
  unfold execAllocReceived at h
  injection h with h
  subst h
  refine takeFrame_quiet _ _ (fun s => leadFrame_quiet _ _ _ _ (fun s => ?_) _) _
  repeat' first | (simp; done) | extract_lets | split
theorem execSegDetailReceived_quiet (src : Nat) (bytes : List Byte) (late : Bool) (s : State) {t : State} :
    execSegDetailReceived src bytes late s = .next t → t.quiet = s.quiet := by
  intro h
  unfold execSegDetailReceived at h
  injection h with h
  subst h
  split
  · rfl
  refine takeFrame_quiet _ _ (fun s => ?_) _
  repeat' first | (simp; done) | refine foldl_quiet (fun _ _ => ?_) _ _ | extract_lets | split
theorem execAllocStale_quiet (s : State) {t : State} : execAllocStale s = .next t → t.quiet = s.quiet := by
  intro h
  simp only [execAllocStale, Host.Outcome.next.injEq] at h
  subst h
  simp; done
theorem execNoSetpoint_quiet (s : State) {t : State} : execNoSetpoint s = .next t → t.quiet = s.quiet := by
  intro h
  simp only [execNoSetpoint, Host.Outcome.next.injEq] at h
  subst h
  simp; done

end Sys2Proof.Machine
end

