-- ==== Sys2Proof/Laws/FramesEst.lean ====
section
/-! SUPPORT. What the operations leave alone: estimation, intake, staging and thermal. -/
namespace Sys2Proof.Machine
open Sys2Proof
set_option linter.unusedTactic false
set_option linter.unreachableTactic false

set_option maxRecDepth 4000
set_option linter.unusedSimpArgs false

/-! ### Intake -/
@[simp] theorem takeHv_quiet (k : Nat) (h : SnapHeader) (d : IntakeData) (s : State) : (takeHv k h d s).quiet = s.quiet := by simp [takeHv]
@[simp] theorem feedEstimator_quiet (k : Nat) (h : SnapHeader) (s : State) : (feedEstimator k h s).quiet = s.quiet := by simp [feedEstimator]
theorem execSnapshotIntake_quiet (ring : Nat) (data : IntakeData) (s : State) {t : State} : execSnapshotIntake ring data s = .next t → t.quiet = s.quiet := by
  intro h
  unfold execSnapshotIntake at h
  injection h with h
  subst h
  repeat' first | (simp +zetaDelta; done) | extract_lets | split
@[simp] theorem entryAnswered_quiet (r : Nat) (purpose : Purpose) (e : RingEntry) (p : RingReply) (s : State) : (entryAnswered r purpose e p s).quiet = s.quiet := by
  unfold entryAnswered
  repeat' first | (simp +zetaDelta; done) | extract_lets | split
@[simp] theorem entryFailed_quiet (r : Nat) (purpose : Purpose) (e : RingEntry) (s : State) : (entryFailed r purpose e s).quiet = s.quiet := by
  unfold entryFailed
  repeat' first | (simp +zetaDelta; done) | extract_lets | split
@[simp] theorem purposeDone_quiet (r : Nat) (purpose : Purpose) (failed : List Nat) (s : State) : (purposeDone r purpose failed s).quiet = s.quiet := by
  unfold purposeDone
  repeat' first | (simp +zetaDelta; done) | extract_lets | split
@[simp] theorem directNext_quiet (r : Nat) (again : List RingEntry) (s : State) : (directNext r again s).quiet = s.quiet := by
  unfold directNext
  repeat' first | (simp +zetaDelta; done) | refine (foldl_quiet (fun _ _ => ?_) _ _).trans ?_ | refine (foldl_quiet_fst (fun _ _ => ?_) _ _).trans ?_ | refine (foldl_quiet_snd (fun _ _ => ?_) _ _).trans ?_ | extract_lets | split | simp +zetaDelta
theorem execCommandResponse_quiet (ring : Nat) (entries : List RingReply) (s : State) {t : State} : execCommandResponse ring entries s = .next t → t.quiet = s.quiet := by
  intro h
  unfold execCommandResponse at h
  injection h with h
  subst h
  repeat' first | (simp +zetaDelta; done) | refine (foldl_quiet (fun _ _ => ?_) _ _).trans ?_ | refine (foldl_quiet_fst (fun _ _ => ?_) _ _).trans ?_ | refine (foldl_quiet_snd (fun _ _ => ?_) _ _).trans ?_ | extract_lets | split | simp +zetaDelta

/-! ### Stage -/
@[simp] theorem modParam_quiet {f : ParamState → ParamState} (h : ∀ q, (f q).applied = q.applied) (s : State) :
    (modParam f s).quiet = s.quiet := by simp [modParam, h]
@[simp] theorem serveReadParam_quiet (p : Port) (tag : Half) (pl : List Byte) (s : State) : (serveReadParam p tag pl s).quiet = s.quiet := by
  unfold serveReadParam
  repeat' first | (simp +zetaDelta; done) | extract_lets | split
@[simp] theorem serveStageParam_quiet (p : Port) (tag : Half) (pl : List Byte) (s : State) : (serveStageParam p tag pl s).quiet = s.quiet := by
  unfold serveStageParam
  refine serve_quiet _ _ _ _ _ (fun s => ?_) _
  dsimp only
  repeat' first | (simp +zetaDelta; done) | extract_lets | split
@[simp] theorem serveCheckStage_quiet (p : Port) (tag : Half) (pl : List Byte) (s : State) : (serveCheckStage p tag pl s).quiet = s.quiet := by simp [serveCheckStage]
@[simp] theorem serveFordApply_quiet (p : Port) (tag : Half) (pl : List Byte) (s : State) : (serveFordApply p tag pl s).quiet = s.quiet := by
  unfold serveFordApply
  refine serve_quiet _ _ _ _ _ (fun s => ?_) _
  dsimp only
  repeat' first | (simp +zetaDelta; done) | extract_lets | split
@[simp] theorem noteForced_quiet (p : Port) (s : State) : (noteForced p s).quiet = s.quiet := by simp [noteForced]
@[simp] theorem serveDiscard_quiet (p : Port) (tag : Half) (pl : List Byte) (s : State) : (serveDiscard p tag pl s).quiet = s.quiet := by
  unfold serveDiscard
  refine serve_quiet _ _ _ _ _ (fun s => ?_) _
  dsimp only
  repeat' first | (simp +zetaDelta; done) | extract_lets | split
@[simp] theorem serveUnlock_quiet (p : Port) (tag : Half) (pl : List Byte) (s : State) : (serveUnlock p tag pl s).quiet = s.quiet := by simp [serveUnlock]
@[simp] theorem serveChangeLog_quiet (p : Port) (tag : Half) (pl : List Byte) (s : State) : (serveChangeLog p tag pl s).quiet = s.quiet := by simp [serveChangeLog]
@[simp] theorem applyImmediate_quiet (id : Nat) (v : PVal) (s : State) : (applyImmediate id v s).quiet = s.quiet := by
  unfold applyImmediate
  repeat' first | (simp +zetaDelta; done) | extract_lets | split
@[simp] theorem applyImmediates_quiet (s : State) : (applyImmediates s).quiet = s.quiet := by simp [applyImmediates]
@[simp] theorem loadGuard_quiet (s : State) : (loadGuard s).quiet = s.quiet := by simp [loadGuard]
@[simp] theorem commitGuarded_quiet (old : ParamState) (changed : List Nat) (p : Port) (s : State) : (commitGuarded old changed p s).quiet = s.quiet := by simp [commitGuarded]
@[simp] theorem commitCells_quiet (old : State) (changed : List Nat) (s : State) : (commitCells old changed s).quiet = s.quiet := by simp [commitCells]
@[simp] theorem stopRing_quiet (r : Nat) (s : State) : (stopRing r s).quiet = s.quiet := by simp [stopRing]
@[simp] theorem commitRings_quiet (old : State) (changed : List Nat) (s : State) : (commitRings old changed s).quiet = s.quiet := by simp [commitRings]
@[simp] theorem commitField_quiet (changed : List Nat) (s : State) : (commitField changed s).quiet = s.quiet := by simp [commitField]
@[simp] theorem commitNet_quiet (old : State) (changed : List Nat) (s : State) : (commitNet old changed s).quiet = s.quiet := by simp [commitNet]
@[simp] theorem commitBal_quiet (old : State) (staged : List Nat) (s : State) : (commitBal old staged s).quiet = s.quiet := by simp [commitBal]
@[simp] theorem commitIso_quiet (changed : List Nat) (s : State) : (commitIso changed s).quiet = s.quiet := by
  unfold commitIso
  repeat' first | (simp +zetaDelta; done) | extract_lets | split
@[simp] theorem commitLearn_quiet (changed : List Nat) (s : State) : (commitLearn changed s).quiet = s.quiet := by
  unfold commitLearn
  repeat' first | (simp +zetaDelta; done) | refine (foldl_quiet (fun _ _ => ?_) _ _).trans ?_ | refine (foldl_quiet_fst (fun _ _ => ?_) _ _).trans ?_ | refine (foldl_quiet_snd (fun _ _ => ?_) _ _).trans ?_ | extract_lets | split | simp +zetaDelta
@[simp] theorem commitFeed_quiet (changed : List Nat) (s : State) : (commitFeed changed s).quiet = s.quiet := by
  unfold commitFeed
  repeat' first | (simp +zetaDelta; done) | refine (foldl_quiet (fun _ _ => ?_) _ _).trans ?_ | refine (foldl_quiet_fst (fun _ _ => ?_) _ _).trans ?_ | refine (foldl_quiet_snd (fun _ _ => ?_) _ _).trans ?_ | extract_lets | split | simp +zetaDelta
@[simp] theorem commitSet_pending (a : PendingApply) (s : State) : (commitSet a s).quiet.pending = s.quiet.pending := by
  unfold commitSet
  repeat' first | assumption | (simp [pending_quiet, mem_quiet, applied_quiet, cycles_quiet, thermal_quiet, *]; done) | (extract_lets +onlyGivenNames x; (first | (have hx : x.quiet.pending = s.quiet.pending := by unfold x; (repeat' first | assumption | (simp [pending_quiet, mem_quiet, applied_quiet, cycles_quiet, thermal_quiet, *]; done) | refine (foldl_pending (fun _ _ => ?_) _ _).trans ?_ | refine (foldl_pending_snd (fun _ _ => ?_) _ _).trans ?_ | extract_lets | (simp +zetaDelta [pending_quiet, mem_quiet, applied_quiet, cycles_quiet, thermal_quiet, *]; done) | split)) | (have hx : x.1.quiet.pending = s.quiet.pending := by unfold x; (repeat' first | assumption | (simp [pending_quiet, mem_quiet, applied_quiet, cycles_quiet, thermal_quiet, *]; done) | refine (foldl_pending (fun _ _ => ?_) _ _).trans ?_ | refine (foldl_pending_snd (fun _ _ => ?_) _ _).trans ?_ | extract_lets | (simp +zetaDelta [pending_quiet, mem_quiet, applied_quiet, cycles_quiet, thermal_quiet, *]; done) | split)) | (have hx : x.2.quiet.pending = s.quiet.pending := by unfold x; (repeat' first | assumption | (simp [pending_quiet, mem_quiet, applied_quiet, cycles_quiet, thermal_quiet, *]; done) | refine (foldl_pending (fun _ _ => ?_) _ _).trans ?_ | refine (foldl_pending_snd (fun _ _ => ?_) _ _).trans ?_ | extract_lets | (simp +zetaDelta [pending_quiet, mem_quiet, applied_quiet, cycles_quiet, thermal_quiet, *]; done) | split)) | skip); clear_value x) | refine (foldl_pending (fun _ _ => ?_) _ _).trans ?_ | split
@[simp] theorem commitSet_mem (a : PendingApply) (s : State) : (commitSet a s).quiet.mem = s.quiet.mem := by
  unfold commitSet
  repeat' first | assumption | (simp [pending_quiet, mem_quiet, applied_quiet, cycles_quiet, thermal_quiet, *]; done) | (extract_lets +onlyGivenNames x; (first | (have hx : x.quiet.mem = s.quiet.mem := by unfold x; (repeat' first | assumption | (simp [pending_quiet, mem_quiet, applied_quiet, cycles_quiet, thermal_quiet, *]; done) | refine (foldl_mem (fun _ _ => ?_) _ _).trans ?_ | refine (foldl_mem_snd (fun _ _ => ?_) _ _).trans ?_ | extract_lets | (simp +zetaDelta [pending_quiet, mem_quiet, applied_quiet, cycles_quiet, thermal_quiet, *]; done) | split)) | (have hx : x.1.quiet.mem = s.quiet.mem := by unfold x; (repeat' first | assumption | (simp [pending_quiet, mem_quiet, applied_quiet, cycles_quiet, thermal_quiet, *]; done) | refine (foldl_mem (fun _ _ => ?_) _ _).trans ?_ | refine (foldl_mem_snd (fun _ _ => ?_) _ _).trans ?_ | extract_lets | (simp +zetaDelta [pending_quiet, mem_quiet, applied_quiet, cycles_quiet, thermal_quiet, *]; done) | split)) | (have hx : x.2.quiet.mem = s.quiet.mem := by unfold x; (repeat' first | assumption | (simp [pending_quiet, mem_quiet, applied_quiet, cycles_quiet, thermal_quiet, *]; done) | refine (foldl_mem (fun _ _ => ?_) _ _).trans ?_ | refine (foldl_mem_snd (fun _ _ => ?_) _ _).trans ?_ | extract_lets | (simp +zetaDelta [pending_quiet, mem_quiet, applied_quiet, cycles_quiet, thermal_quiet, *]; done) | split)) | skip); clear_value x) | refine (foldl_mem (fun _ _ => ?_) _ _).trans ?_ | split
@[simp] theorem commitSet_powerCycles (a : PendingApply) (s : State) : (commitSet a s).quiet.powerCycles = s.quiet.powerCycles := by
  unfold commitSet
  repeat' first | assumption | (simp [pending_quiet, mem_quiet, applied_quiet, cycles_quiet, thermal_quiet, *]; done) | (extract_lets +onlyGivenNames x; (first | (have hx : x.quiet.powerCycles = s.quiet.powerCycles := by unfold x; (repeat' first | assumption | (simp [pending_quiet, mem_quiet, applied_quiet, cycles_quiet, thermal_quiet, *]; done) | refine (foldl_powerCycles (fun _ _ => ?_) _ _).trans ?_ | refine (foldl_powerCycles_snd (fun _ _ => ?_) _ _).trans ?_ | extract_lets | (simp +zetaDelta [pending_quiet, mem_quiet, applied_quiet, cycles_quiet, thermal_quiet, *]; done) | split)) | (have hx : x.1.quiet.powerCycles = s.quiet.powerCycles := by unfold x; (repeat' first | assumption | (simp [pending_quiet, mem_quiet, applied_quiet, cycles_quiet, thermal_quiet, *]; done) | refine (foldl_powerCycles (fun _ _ => ?_) _ _).trans ?_ | refine (foldl_powerCycles_snd (fun _ _ => ?_) _ _).trans ?_ | extract_lets | (simp +zetaDelta [pending_quiet, mem_quiet, applied_quiet, cycles_quiet, thermal_quiet, *]; done) | split)) | (have hx : x.2.quiet.powerCycles = s.quiet.powerCycles := by unfold x; (repeat' first | assumption | (simp [pending_quiet, mem_quiet, applied_quiet, cycles_quiet, thermal_quiet, *]; done) | refine (foldl_powerCycles (fun _ _ => ?_) _ _).trans ?_ | refine (foldl_powerCycles_snd (fun _ _ => ?_) _ _).trans ?_ | extract_lets | (simp +zetaDelta [pending_quiet, mem_quiet, applied_quiet, cycles_quiet, thermal_quiet, *]; done) | split)) | skip); clear_value x) | refine (foldl_powerCycles (fun _ _ => ?_) _ _).trans ?_ | split
@[simp] theorem commitSet_thermal (a : PendingApply) (s : State) : (commitSet a s).quiet.thermal = s.quiet.thermal := by
  unfold commitSet
  repeat' first | assumption | (simp [pending_quiet, mem_quiet, applied_quiet, cycles_quiet, thermal_quiet, *]; done) | (extract_lets +onlyGivenNames x; (first | (have hx : x.quiet.thermal = s.quiet.thermal := by unfold x; (repeat' first | assumption | (simp [pending_quiet, mem_quiet, applied_quiet, cycles_quiet, thermal_quiet, *]; done) | refine (foldl_thermal (fun _ _ => ?_) _ _).trans ?_ | refine (foldl_thermal_snd (fun _ _ => ?_) _ _).trans ?_ | extract_lets | (simp +zetaDelta [pending_quiet, mem_quiet, applied_quiet, cycles_quiet, thermal_quiet, *]; done) | split)) | (have hx : x.1.quiet.thermal = s.quiet.thermal := by unfold x; (repeat' first | assumption | (simp [pending_quiet, mem_quiet, applied_quiet, cycles_quiet, thermal_quiet, *]; done) | refine (foldl_thermal (fun _ _ => ?_) _ _).trans ?_ | refine (foldl_thermal_snd (fun _ _ => ?_) _ _).trans ?_ | extract_lets | (simp +zetaDelta [pending_quiet, mem_quiet, applied_quiet, cycles_quiet, thermal_quiet, *]; done) | split)) | (have hx : x.2.quiet.thermal = s.quiet.thermal := by unfold x; (repeat' first | assumption | (simp [pending_quiet, mem_quiet, applied_quiet, cycles_quiet, thermal_quiet, *]; done) | refine (foldl_thermal (fun _ _ => ?_) _ _).trans ?_ | refine (foldl_thermal_snd (fun _ _ => ?_) _ _).trans ?_ | extract_lets | (simp +zetaDelta [pending_quiet, mem_quiet, applied_quiet, cycles_quiet, thermal_quiet, *]; done) | split)) | skip); clear_value x) | refine (foldl_thermal (fun _ _ => ?_) _ _).trans ?_ | split
@[simp] theorem commitFord_pending (s : State) : (commitFord s).1.quiet.pending = s.quiet.pending := by
  unfold commitFord
  repeat' first | assumption | (simp [pending_quiet, mem_quiet, applied_quiet, cycles_quiet, thermal_quiet, *]; done) | (extract_lets +onlyGivenNames x; (first | (have hx : x.quiet.pending = s.quiet.pending := by unfold x; (repeat' first | assumption | (simp [pending_quiet, mem_quiet, applied_quiet, cycles_quiet, thermal_quiet, *]; done) | refine (foldl_pending (fun _ _ => ?_) _ _).trans ?_ | refine (foldl_pending_snd (fun _ _ => ?_) _ _).trans ?_ | extract_lets | (simp +zetaDelta [pending_quiet, mem_quiet, applied_quiet, cycles_quiet, thermal_quiet, *]; done) | split)) | (have hx : x.1.quiet.pending = s.quiet.pending := by unfold x; (repeat' first | assumption | (simp [pending_quiet, mem_quiet, applied_quiet, cycles_quiet, thermal_quiet, *]; done) | refine (foldl_pending (fun _ _ => ?_) _ _).trans ?_ | refine (foldl_pending_snd (fun _ _ => ?_) _ _).trans ?_ | extract_lets | (simp +zetaDelta [pending_quiet, mem_quiet, applied_quiet, cycles_quiet, thermal_quiet, *]; done) | split)) | (have hx : x.2.quiet.pending = s.quiet.pending := by unfold x; (repeat' first | assumption | (simp [pending_quiet, mem_quiet, applied_quiet, cycles_quiet, thermal_quiet, *]; done) | refine (foldl_pending (fun _ _ => ?_) _ _).trans ?_ | refine (foldl_pending_snd (fun _ _ => ?_) _ _).trans ?_ | extract_lets | (simp +zetaDelta [pending_quiet, mem_quiet, applied_quiet, cycles_quiet, thermal_quiet, *]; done) | split)) | skip); clear_value x) | refine (foldl_pending (fun _ _ => ?_) _ _).trans ?_ | split
@[simp] theorem commitFord_mem (s : State) : (commitFord s).1.quiet.mem = s.quiet.mem := by
  unfold commitFord
  repeat' first | assumption | (simp [pending_quiet, mem_quiet, applied_quiet, cycles_quiet, thermal_quiet, *]; done) | (extract_lets +onlyGivenNames x; (first | (have hx : x.quiet.mem = s.quiet.mem := by unfold x; (repeat' first | assumption | (simp [pending_quiet, mem_quiet, applied_quiet, cycles_quiet, thermal_quiet, *]; done) | refine (foldl_mem (fun _ _ => ?_) _ _).trans ?_ | refine (foldl_mem_snd (fun _ _ => ?_) _ _).trans ?_ | extract_lets | (simp +zetaDelta [pending_quiet, mem_quiet, applied_quiet, cycles_quiet, thermal_quiet, *]; done) | split)) | (have hx : x.1.quiet.mem = s.quiet.mem := by unfold x; (repeat' first | assumption | (simp [pending_quiet, mem_quiet, applied_quiet, cycles_quiet, thermal_quiet, *]; done) | refine (foldl_mem (fun _ _ => ?_) _ _).trans ?_ | refine (foldl_mem_snd (fun _ _ => ?_) _ _).trans ?_ | extract_lets | (simp +zetaDelta [pending_quiet, mem_quiet, applied_quiet, cycles_quiet, thermal_quiet, *]; done) | split)) | (have hx : x.2.quiet.mem = s.quiet.mem := by unfold x; (repeat' first | assumption | (simp [pending_quiet, mem_quiet, applied_quiet, cycles_quiet, thermal_quiet, *]; done) | refine (foldl_mem (fun _ _ => ?_) _ _).trans ?_ | refine (foldl_mem_snd (fun _ _ => ?_) _ _).trans ?_ | extract_lets | (simp +zetaDelta [pending_quiet, mem_quiet, applied_quiet, cycles_quiet, thermal_quiet, *]; done) | split)) | skip); clear_value x) | refine (foldl_mem (fun _ _ => ?_) _ _).trans ?_ | split
@[simp] theorem commitFord_powerCycles (s : State) : (commitFord s).1.quiet.powerCycles = s.quiet.powerCycles := by
  unfold commitFord
  repeat' first | assumption | (simp [pending_quiet, mem_quiet, applied_quiet, cycles_quiet, thermal_quiet, *]; done) | (extract_lets +onlyGivenNames x; (first | (have hx : x.quiet.powerCycles = s.quiet.powerCycles := by unfold x; (repeat' first | assumption | (simp [pending_quiet, mem_quiet, applied_quiet, cycles_quiet, thermal_quiet, *]; done) | refine (foldl_powerCycles (fun _ _ => ?_) _ _).trans ?_ | refine (foldl_powerCycles_snd (fun _ _ => ?_) _ _).trans ?_ | extract_lets | (simp +zetaDelta [pending_quiet, mem_quiet, applied_quiet, cycles_quiet, thermal_quiet, *]; done) | split)) | (have hx : x.1.quiet.powerCycles = s.quiet.powerCycles := by unfold x; (repeat' first | assumption | (simp [pending_quiet, mem_quiet, applied_quiet, cycles_quiet, thermal_quiet, *]; done) | refine (foldl_powerCycles (fun _ _ => ?_) _ _).trans ?_ | refine (foldl_powerCycles_snd (fun _ _ => ?_) _ _).trans ?_ | extract_lets | (simp +zetaDelta [pending_quiet, mem_quiet, applied_quiet, cycles_quiet, thermal_quiet, *]; done) | split)) | (have hx : x.2.quiet.powerCycles = s.quiet.powerCycles := by unfold x; (repeat' first | assumption | (simp [pending_quiet, mem_quiet, applied_quiet, cycles_quiet, thermal_quiet, *]; done) | refine (foldl_powerCycles (fun _ _ => ?_) _ _).trans ?_ | refine (foldl_powerCycles_snd (fun _ _ => ?_) _ _).trans ?_ | extract_lets | (simp +zetaDelta [pending_quiet, mem_quiet, applied_quiet, cycles_quiet, thermal_quiet, *]; done) | split)) | skip); clear_value x) | refine (foldl_powerCycles (fun _ _ => ?_) _ _).trans ?_ | split
@[simp] theorem commitFord_thermal (s : State) : (commitFord s).1.quiet.thermal = s.quiet.thermal := by
  unfold commitFord
  repeat' first | assumption | (simp [pending_quiet, mem_quiet, applied_quiet, cycles_quiet, thermal_quiet, *]; done) | (extract_lets +onlyGivenNames x; (first | (have hx : x.quiet.thermal = s.quiet.thermal := by unfold x; (repeat' first | assumption | (simp [pending_quiet, mem_quiet, applied_quiet, cycles_quiet, thermal_quiet, *]; done) | refine (foldl_thermal (fun _ _ => ?_) _ _).trans ?_ | refine (foldl_thermal_snd (fun _ _ => ?_) _ _).trans ?_ | extract_lets | (simp +zetaDelta [pending_quiet, mem_quiet, applied_quiet, cycles_quiet, thermal_quiet, *]; done) | split)) | (have hx : x.1.quiet.thermal = s.quiet.thermal := by unfold x; (repeat' first | assumption | (simp [pending_quiet, mem_quiet, applied_quiet, cycles_quiet, thermal_quiet, *]; done) | refine (foldl_thermal (fun _ _ => ?_) _ _).trans ?_ | refine (foldl_thermal_snd (fun _ _ => ?_) _ _).trans ?_ | extract_lets | (simp +zetaDelta [pending_quiet, mem_quiet, applied_quiet, cycles_quiet, thermal_quiet, *]; done) | split)) | (have hx : x.2.quiet.thermal = s.quiet.thermal := by unfold x; (repeat' first | assumption | (simp [pending_quiet, mem_quiet, applied_quiet, cycles_quiet, thermal_quiet, *]; done) | refine (foldl_thermal (fun _ _ => ?_) _ _).trans ?_ | refine (foldl_thermal_snd (fun _ _ => ?_) _ _).trans ?_ | extract_lets | (simp +zetaDelta [pending_quiet, mem_quiet, applied_quiet, cycles_quiet, thermal_quiet, *]; done) | split)) | skip); clear_value x) | refine (foldl_thermal (fun _ _ => ?_) _ _).trans ?_ | split
theorem execReadParam_quiet (port : Port) (tag : Half) (payload : List Byte) (s : State) {t : State} : execReadParam port tag payload s = .next t → t.quiet = s.quiet := by
  intro h
  simp only [execReadParam, Host.Outcome.next.injEq] at h
  subst h
  simp; done
theorem execStageParam_quiet (port : Port) (tag : Half) (payload : List Byte) (s : State) {t : State} : execStageParam port tag payload s = .next t → t.quiet = s.quiet := by
  intro h
  simp only [execStageParam, Host.Outcome.next.injEq] at h
  subst h
  simp; done
theorem execCheckStage_quiet (port : Port) (tag : Half) (payload : List Byte) (s : State) {t : State} : execCheckStage port tag payload s = .next t → t.quiet = s.quiet := by
  intro h
  simp only [execCheckStage, Host.Outcome.next.injEq] at h
  subst h
  simp; done
theorem execFordApply_quiet (port : Port) (tag : Half) (payload : List Byte) (s : State) {t : State} : execFordApply port tag payload s = .next t → t.quiet = s.quiet := by
  intro h
  simp only [execFordApply, Host.Outcome.next.injEq] at h
  subst h
  simp; done
theorem execDiscardStage_quiet (port : Port) (tag : Half) (payload : List Byte) (s : State) {t : State} : execDiscardStage port tag payload s = .next t → t.quiet = s.quiet := by
  intro h
  simp only [execDiscardStage, Host.Outcome.next.injEq] at h
  subst h
  simp; done
theorem execUnlockSafetySet_quiet (port : Port) (tag : Half) (payload : List Byte) (s : State) {t : State} : execUnlockSafetySet port tag payload s = .next t → t.quiet = s.quiet := by
  intro h
  simp only [execUnlockSafetySet, Host.Outcome.next.injEq] at h
  subst h
  simp; done
theorem execChangeLogRead_quiet (port : Port) (tag : Half) (payload : List Byte) (s : State) {t : State} : execChangeLogRead port tag payload s = .next t → t.quiet = s.quiet := by
  intro h
  simp only [execChangeLogRead, Host.Outcome.next.injEq] at h
  subst h
  simp; done

/-! ### Thermal -/
@[simp] theorem raiseThermal_quiet (src : Nat) (at' : Option (Nat × Int)) (s : State) : (raiseThermal src at' s).quiet = s.quiet := by
  unfold raiseThermal
  repeat' first | (simp +zetaDelta; done) | extract_lets | split
@[simp] theorem takeReadings_quiet (d : Housekeeping) (s : State) : (takeReadings d s).quiet = s.quiet := by simp [takeReadings]
@[simp] theorem judgeThermal_quiet (s : State) : (judgeThermal s).quiet = s.quiet := by simp [judgeThermal]
@[simp] theorem judgeComparator_quiet (s : State) : (judgeComparator s).quiet = s.quiet := by simp [judgeComparator]
@[simp] theorem compensate_quiet (s : State) : (compensate s).quiet = s.quiet := by
  unfold compensate
  repeat' first | (simp +zetaDelta; done) | extract_lets | split
theorem execHousekeepingRound_quiet (data : Housekeeping) (s : State) {t : State} : execHousekeepingRound data s = .next t → t.quiet = s.quiet := by
  intro h
  simp only [execHousekeepingRound, Host.Outcome.next.injEq] at h
  subst h
  simp; done
@[simp] theorem followPacer_quiet (s : State) : (followPacer s).quiet = s.quiet := by simp [followPacer]
@[simp] theorem powerOffHot_quiet (s : State) : (powerOffHot s).quiet = s.quiet := by simp [powerOffHot]
@[simp] theorem thermalLock_pending (s : State) : (thermalLock s).quiet.pending = s.quiet.pending := by
  unfold thermalLock
  simp +zetaDelta [pending_quiet, mem_quiet, applied_quiet, cycles_quiet, thermal_quiet]
@[simp] theorem thermalLock_mem (s : State) : (thermalLock s).quiet.mem = s.quiet.mem := by
  unfold thermalLock
  simp +zetaDelta [pending_quiet, mem_quiet, applied_quiet, cycles_quiet, thermal_quiet]
@[simp] theorem thermalLock_applied (s : State) : (thermalLock s).quiet.applied = s.quiet.applied := by
  unfold thermalLock
  simp +zetaDelta [pending_quiet, mem_quiet, applied_quiet, cycles_quiet, thermal_quiet]
@[simp] theorem thermalLock_powerCycles (s : State) : (thermalLock s).quiet.powerCycles = s.quiet.powerCycles := by
  unfold thermalLock
  simp +zetaDelta [pending_quiet, mem_quiet, applied_quiet, cycles_quiet, thermal_quiet]
theorem execThermalShutdown_pending (s : State) {t : State} : execThermalShutdown s = .next t → t.quiet.pending = s.quiet.pending := by
  intro h
  unfold execThermalShutdown at h
  injection h with h
  subst h
  repeat' first | (simp +zetaDelta [pending_quiet, mem_quiet, applied_quiet, cycles_quiet, thermal_quiet]; done) | extract_lets | split
theorem execThermalShutdown_mem (s : State) {t : State} : execThermalShutdown s = .next t → t.quiet.mem = s.quiet.mem := by
  intro h
  unfold execThermalShutdown at h
  injection h with h
  subst h
  repeat' first | (simp +zetaDelta [pending_quiet, mem_quiet, applied_quiet, cycles_quiet, thermal_quiet]; done) | extract_lets | split
theorem execThermalShutdown_applied (s : State) {t : State} : execThermalShutdown s = .next t → t.quiet.applied = s.quiet.applied := by
  intro h
  unfold execThermalShutdown at h
  injection h with h
  subst h
  repeat' first | (simp +zetaDelta [pending_quiet, mem_quiet, applied_quiet, cycles_quiet, thermal_quiet]; done) | extract_lets | split
theorem execThermalShutdown_powerCycles (s : State) {t : State} : execThermalShutdown s = .next t → t.quiet.powerCycles = s.quiet.powerCycles := by
  intro h
  unfold execThermalShutdown at h
  injection h with h
  subst h
  repeat' first | (simp +zetaDelta [pending_quiet, mem_quiet, applied_quiet, cycles_quiet, thermal_quiet]; done) | extract_lets | split

end Sys2Proof.Machine
end

