-- ==== Sys2Proof/Laws/FramesStart.lean ====
section
/-! SUPPORT. What the operations leave alone: starts, the host port and the frame. -/
namespace Sys2Proof.Machine
open Sys2Proof
set_option linter.unusedTactic false
set_option linter.unreachableTactic false

set_option maxRecDepth 4000
set_option linter.unusedSimpArgs false

/-! ### Startup -/
@[simp] theorem modSys_quiet {f : ModeState → ModeState} (h : ∀ y, (f y).lock.thermal = y.lock.thermal) (s : State) :
    (modSys f s).quiet = s.quiet := by simp [modSys, h]
@[simp] theorem startBank_quiet (failing : List (Nat × Nat)) (b : Nat) (s : State) : (startBank failing b s).quiet = s.quiet := by simp [startBank]
/-- The start of the banks powers them on empty (R37). -/
@[simp] theorem startBanks_quiet (t : StartTests) (skip : Bool) (s : State) :
    (startBanks t skip s).1.quiet = { s.quiet with mem := [] } := by
  have hf : ∀ (l : List Nat) (x : State), (l.foldl (fun s b => startBank (if skip then [] else t.rows) b s) x).quiet = x.quiet :=
    fun l x => foldl_quiet (fun _ _ => startBank_quiet _ _ _) l x
  have hx : ((List.range 24).foldl (fun s b => startBank (if skip then [] else t.rows) b s)
      (if t.repairCopy then s else raise0 0xDF s)).quiet = s.quiet := by rw [hf]; split <;> simp
  unfold startBanks
  extract_lets x y lost b0 z first b1 w v
  have hz : z.quiet = { s.quiet with mem := [] } := by rw [← hx]; rfl
  have hv : v.quiet = w.quiet := by simp only [v]; split <;> simp
  rw [hv]
  exact hz
@[simp] theorem startLoader_quiet (s : State) : (startLoader s).quiet = s.quiet := by simp [startLoader]
@[simp] theorem startStep11_quiet (s : State) : (startStep11 s).quiet = s.quiet := by simp [startStep11]
@[simp] theorem startStep13_quiet (wake : Bool) (s : State) : (startStep13 wake s).quiet = s.quiet := by simp [startStep13]
@[simp] theorem freshFeeds_quiet (s : State) : (freshFeeds s).quiet = s.quiet := by simp [freshFeeds]
@[simp] theorem rechargeHold_quiet (s : State) : (rechargeHold s).quiet = s.quiet := by
  unfold rechargeHold
  repeat' first | (simp +zetaDelta; done) | refine (foldl_quiet (fun _ _ => ?_) _ _).trans ?_ | refine (foldl_quiet_fst (fun _ _ => ?_) _ _).trans ?_ | refine (foldl_quiet_snd (fun _ _ => ?_) _ _).trans ?_ | extract_lets | split | simp +zetaDelta
@[simp] theorem autoRun_quiet (s : State) : (autoRun s).quiet = s.quiet := by simp [autoRun]
@[simp] theorem abandonHibernate_quiet (w : WakeSource) (s : State) : (abandonHibernate w s).quiet = s.quiet := by
  unfold abandonHibernate
  repeat' first | (simp +zetaDelta; done) | refine (foldl_quiet (fun _ _ => ?_) _ _).trans ?_ | refine (foldl_quiet_fst (fun _ _ => ?_) _ _).trans ?_ | refine (foldl_quiet_snd (fun _ _ => ?_) _ _).trans ?_ | extract_lets | split
@[simp] theorem engineFault_quiet (s : State) : (engineFault s).quiet = s.quiet := by simp [engineFault]
theorem execWorkUnitTimeout_quiet (engine : Engine) (s : State) {t : State} : execWorkUnitTimeout engine s = .next t → t.quiet = s.quiet := by
  intro h
  simp only [execWorkUnitTimeout, Host.Outcome.next.injEq] at h
  subst h
  simp; done
theorem execAc1HeartbeatTimeout_quiet (s : State) {t : State} : execAc1HeartbeatTimeout s = .next t → t.quiet = s.quiet := by
  intro h
  simp only [execAc1HeartbeatTimeout, Host.Outcome.next.injEq] at h
  subst h
  simp; done
theorem execTb1DisciplineLost_quiet (s : State) {t : State} : execTb1DisciplineLost s = .next t → t.quiet = s.quiet := by
  intro h
  simp only [execTb1DisciplineLost, Host.Outcome.next.injEq] at h
  subst h
  simp; done
@[simp] theorem modParam_quiet_pending (f : ParamState → ParamState) (s : State) : (modParam f s).quiet.pending = s.quiet.pending := rfl
@[simp] theorem modParam_quiet_mem (f : ParamState → ParamState) (s : State) : (modParam f s).quiet.mem = s.quiet.mem := rfl
@[simp] theorem modParam_quiet_powerCycles (f : ParamState → ParamState) (s : State) : (modParam f s).quiet.powerCycles = s.quiet.powerCycles := rfl
@[simp] theorem modParam_quiet_thermal (f : ParamState → ParamState) (s : State) : (modParam f s).quiet.thermal = s.quiet.thermal := rfl
@[simp] theorem modSys_quiet_pending (f : ModeState → ModeState) (s : State) : (modSys f s).quiet.pending = s.quiet.pending := rfl
@[simp] theorem modSys_quiet_mem (f : ModeState → ModeState) (s : State) : (modSys f s).quiet.mem = s.quiet.mem := rfl
@[simp] theorem modSys_quiet_applied (f : ModeState → ModeState) (s : State) : (modSys f s).quiet.applied = s.quiet.applied := rfl
@[simp] theorem modSys_quiet_powerCycles (f : ModeState → ModeState) (s : State) : (modSys f s).quiet.powerCycles = s.quiet.powerCycles := rfl
@[simp] theorem startStep7_pending (code : Nat) (wake : Option WakeSource) (t : StartTests) (s : State) : (startStep7 code wake t s).1.quiet.pending = s.quiet.pending := by
  unfold startStep7
  repeat' first | assumption | (simp [pending_quiet, mem_quiet, applied_quiet, cycles_quiet, thermal_quiet, *]; done) | (extract_lets +onlyGivenNames x; (first | (have hx : x.quiet.pending = s.quiet.pending := by unfold x; (repeat' first | assumption | (simp [pending_quiet, mem_quiet, applied_quiet, cycles_quiet, thermal_quiet, *]; done) | refine (foldl_pending (fun _ _ => ?_) _ _).trans ?_ | refine (foldl_pending_snd (fun _ _ => ?_) _ _).trans ?_ | extract_lets | (simp +zetaDelta [pending_quiet, mem_quiet, applied_quiet, cycles_quiet, thermal_quiet, *]; done) | split)) | (have hx : x.1.quiet.pending = s.quiet.pending := by unfold x; (repeat' first | assumption | (simp [pending_quiet, mem_quiet, applied_quiet, cycles_quiet, thermal_quiet, *]; done) | refine (foldl_pending (fun _ _ => ?_) _ _).trans ?_ | refine (foldl_pending_snd (fun _ _ => ?_) _ _).trans ?_ | extract_lets | (simp +zetaDelta [pending_quiet, mem_quiet, applied_quiet, cycles_quiet, thermal_quiet, *]; done) | split)) | (have hx : x.2.quiet.pending = s.quiet.pending := by unfold x; (repeat' first | assumption | (simp [pending_quiet, mem_quiet, applied_quiet, cycles_quiet, thermal_quiet, *]; done) | refine (foldl_pending (fun _ _ => ?_) _ _).trans ?_ | refine (foldl_pending_snd (fun _ _ => ?_) _ _).trans ?_ | extract_lets | (simp +zetaDelta [pending_quiet, mem_quiet, applied_quiet, cycles_quiet, thermal_quiet, *]; done) | split)) | skip); clear_value x) | refine (foldl_pending (fun _ _ => ?_) _ _).trans ?_ | split
@[simp] theorem startStep7_mem (code : Nat) (wake : Option WakeSource) (t : StartTests) (s : State) : (startStep7 code wake t s).1.quiet.mem = s.quiet.mem := by
  unfold startStep7
  repeat' first | assumption | (simp [pending_quiet, mem_quiet, applied_quiet, cycles_quiet, thermal_quiet, *]; done) | (extract_lets +onlyGivenNames x; (first | (have hx : x.quiet.mem = s.quiet.mem := by unfold x; (repeat' first | assumption | (simp [pending_quiet, mem_quiet, applied_quiet, cycles_quiet, thermal_quiet, *]; done) | refine (foldl_mem (fun _ _ => ?_) _ _).trans ?_ | refine (foldl_mem_snd (fun _ _ => ?_) _ _).trans ?_ | extract_lets | (simp +zetaDelta [pending_quiet, mem_quiet, applied_quiet, cycles_quiet, thermal_quiet, *]; done) | split)) | (have hx : x.1.quiet.mem = s.quiet.mem := by unfold x; (repeat' first | assumption | (simp [pending_quiet, mem_quiet, applied_quiet, cycles_quiet, thermal_quiet, *]; done) | refine (foldl_mem (fun _ _ => ?_) _ _).trans ?_ | refine (foldl_mem_snd (fun _ _ => ?_) _ _).trans ?_ | extract_lets | (simp +zetaDelta [pending_quiet, mem_quiet, applied_quiet, cycles_quiet, thermal_quiet, *]; done) | split)) | (have hx : x.2.quiet.mem = s.quiet.mem := by unfold x; (repeat' first | assumption | (simp [pending_quiet, mem_quiet, applied_quiet, cycles_quiet, thermal_quiet, *]; done) | refine (foldl_mem (fun _ _ => ?_) _ _).trans ?_ | refine (foldl_mem_snd (fun _ _ => ?_) _ _).trans ?_ | extract_lets | (simp +zetaDelta [pending_quiet, mem_quiet, applied_quiet, cycles_quiet, thermal_quiet, *]; done) | split)) | skip); clear_value x) | refine (foldl_mem (fun _ _ => ?_) _ _).trans ?_ | split
@[simp] theorem startStep7_thermal (code : Nat) (wake : Option WakeSource) (t : StartTests) (s : State) : (startStep7 code wake t s).1.quiet.thermal = s.quiet.thermal := by
  unfold startStep7
  repeat' first | assumption | (simp [pending_quiet, mem_quiet, applied_quiet, cycles_quiet, thermal_quiet, *]; done) | (extract_lets +onlyGivenNames x; (first | (have hx : x.quiet.thermal = s.quiet.thermal := by unfold x; (repeat' first | assumption | (simp [pending_quiet, mem_quiet, applied_quiet, cycles_quiet, thermal_quiet, *]; done) | refine (foldl_thermal (fun _ _ => ?_) _ _).trans ?_ | refine (foldl_thermal_snd (fun _ _ => ?_) _ _).trans ?_ | extract_lets | (simp +zetaDelta [pending_quiet, mem_quiet, applied_quiet, cycles_quiet, thermal_quiet, *]; done) | split)) | (have hx : x.1.quiet.thermal = s.quiet.thermal := by unfold x; (repeat' first | assumption | (simp [pending_quiet, mem_quiet, applied_quiet, cycles_quiet, thermal_quiet, *]; done) | refine (foldl_thermal (fun _ _ => ?_) _ _).trans ?_ | refine (foldl_thermal_snd (fun _ _ => ?_) _ _).trans ?_ | extract_lets | (simp +zetaDelta [pending_quiet, mem_quiet, applied_quiet, cycles_quiet, thermal_quiet, *]; done) | split)) | (have hx : x.2.quiet.thermal = s.quiet.thermal := by unfold x; (repeat' first | assumption | (simp [pending_quiet, mem_quiet, applied_quiet, cycles_quiet, thermal_quiet, *]; done) | refine (foldl_thermal (fun _ _ => ?_) _ _).trans ?_ | refine (foldl_thermal_snd (fun _ _ => ?_) _ _).trans ?_ | extract_lets | (simp +zetaDelta [pending_quiet, mem_quiet, applied_quiet, cycles_quiet, thermal_quiet, *]; done) | split)) | skip); clear_value x) | refine (foldl_thermal (fun _ _ => ?_) _ _).trans ?_ | split
@[simp] theorem guardedDefaults_pending (s : State) : (guardedDefaults s).quiet.pending = s.quiet.pending := by
  unfold guardedDefaults
  repeat' first | assumption | (simp [pending_quiet, mem_quiet, applied_quiet, cycles_quiet, thermal_quiet, *]; done) | (extract_lets +onlyGivenNames x; (first | (have hx : x.quiet.pending = s.quiet.pending := by unfold x; (repeat' first | assumption | (simp [pending_quiet, mem_quiet, applied_quiet, cycles_quiet, thermal_quiet, *]; done) | refine (foldl_pending (fun _ _ => ?_) _ _).trans ?_ | refine (foldl_pending_snd (fun _ _ => ?_) _ _).trans ?_ | extract_lets | (simp +zetaDelta [pending_quiet, mem_quiet, applied_quiet, cycles_quiet, thermal_quiet, *]; done) | split)) | (have hx : x.1.quiet.pending = s.quiet.pending := by unfold x; (repeat' first | assumption | (simp [pending_quiet, mem_quiet, applied_quiet, cycles_quiet, thermal_quiet, *]; done) | refine (foldl_pending (fun _ _ => ?_) _ _).trans ?_ | refine (foldl_pending_snd (fun _ _ => ?_) _ _).trans ?_ | extract_lets | (simp +zetaDelta [pending_quiet, mem_quiet, applied_quiet, cycles_quiet, thermal_quiet, *]; done) | split)) | (have hx : x.2.quiet.pending = s.quiet.pending := by unfold x; (repeat' first | assumption | (simp [pending_quiet, mem_quiet, applied_quiet, cycles_quiet, thermal_quiet, *]; done) | refine (foldl_pending (fun _ _ => ?_) _ _).trans ?_ | refine (foldl_pending_snd (fun _ _ => ?_) _ _).trans ?_ | extract_lets | (simp +zetaDelta [pending_quiet, mem_quiet, applied_quiet, cycles_quiet, thermal_quiet, *]; done) | split)) | skip); clear_value x) | refine (foldl_pending (fun _ _ => ?_) _ _).trans ?_ | split
@[simp] theorem guardedDefaults_mem (s : State) : (guardedDefaults s).quiet.mem = s.quiet.mem := by
  unfold guardedDefaults
  repeat' first | assumption | (simp [pending_quiet, mem_quiet, applied_quiet, cycles_quiet, thermal_quiet, *]; done) | (extract_lets +onlyGivenNames x; (first | (have hx : x.quiet.mem = s.quiet.mem := by unfold x; (repeat' first | assumption | (simp [pending_quiet, mem_quiet, applied_quiet, cycles_quiet, thermal_quiet, *]; done) | refine (foldl_mem (fun _ _ => ?_) _ _).trans ?_ | refine (foldl_mem_snd (fun _ _ => ?_) _ _).trans ?_ | extract_lets | (simp +zetaDelta [pending_quiet, mem_quiet, applied_quiet, cycles_quiet, thermal_quiet, *]; done) | split)) | (have hx : x.1.quiet.mem = s.quiet.mem := by unfold x; (repeat' first | assumption | (simp [pending_quiet, mem_quiet, applied_quiet, cycles_quiet, thermal_quiet, *]; done) | refine (foldl_mem (fun _ _ => ?_) _ _).trans ?_ | refine (foldl_mem_snd (fun _ _ => ?_) _ _).trans ?_ | extract_lets | (simp +zetaDelta [pending_quiet, mem_quiet, applied_quiet, cycles_quiet, thermal_quiet, *]; done) | split)) | (have hx : x.2.quiet.mem = s.quiet.mem := by unfold x; (repeat' first | assumption | (simp [pending_quiet, mem_quiet, applied_quiet, cycles_quiet, thermal_quiet, *]; done) | refine (foldl_mem (fun _ _ => ?_) _ _).trans ?_ | refine (foldl_mem_snd (fun _ _ => ?_) _ _).trans ?_ | extract_lets | (simp +zetaDelta [pending_quiet, mem_quiet, applied_quiet, cycles_quiet, thermal_quiet, *]; done) | split)) | skip); clear_value x) | refine (foldl_mem (fun _ _ => ?_) _ _).trans ?_ | split
@[simp] theorem guardedDefaults_powerCycles (s : State) : (guardedDefaults s).quiet.powerCycles = s.quiet.powerCycles := by
  unfold guardedDefaults
  repeat' first | assumption | (simp [pending_quiet, mem_quiet, applied_quiet, cycles_quiet, thermal_quiet, *]; done) | (extract_lets +onlyGivenNames x; (first | (have hx : x.quiet.powerCycles = s.quiet.powerCycles := by unfold x; (repeat' first | assumption | (simp [pending_quiet, mem_quiet, applied_quiet, cycles_quiet, thermal_quiet, *]; done) | refine (foldl_powerCycles (fun _ _ => ?_) _ _).trans ?_ | refine (foldl_powerCycles_snd (fun _ _ => ?_) _ _).trans ?_ | extract_lets | (simp +zetaDelta [pending_quiet, mem_quiet, applied_quiet, cycles_quiet, thermal_quiet, *]; done) | split)) | (have hx : x.1.quiet.powerCycles = s.quiet.powerCycles := by unfold x; (repeat' first | assumption | (simp [pending_quiet, mem_quiet, applied_quiet, cycles_quiet, thermal_quiet, *]; done) | refine (foldl_powerCycles (fun _ _ => ?_) _ _).trans ?_ | refine (foldl_powerCycles_snd (fun _ _ => ?_) _ _).trans ?_ | extract_lets | (simp +zetaDelta [pending_quiet, mem_quiet, applied_quiet, cycles_quiet, thermal_quiet, *]; done) | split)) | (have hx : x.2.quiet.powerCycles = s.quiet.powerCycles := by unfold x; (repeat' first | assumption | (simp [pending_quiet, mem_quiet, applied_quiet, cycles_quiet, thermal_quiet, *]; done) | refine (foldl_powerCycles (fun _ _ => ?_) _ _).trans ?_ | refine (foldl_powerCycles_snd (fun _ _ => ?_) _ _).trans ?_ | extract_lets | (simp +zetaDelta [pending_quiet, mem_quiet, applied_quiet, cycles_quiet, thermal_quiet, *]; done) | split)) | skip); clear_value x) | refine (foldl_powerCycles (fun _ _ => ?_) _ _).trans ?_ | split
@[simp] theorem guardedDefaults_thermal (s : State) : (guardedDefaults s).quiet.thermal = s.quiet.thermal := by
  unfold guardedDefaults
  repeat' first | assumption | (simp [pending_quiet, mem_quiet, applied_quiet, cycles_quiet, thermal_quiet, *]; done) | (extract_lets +onlyGivenNames x; (first | (have hx : x.quiet.thermal = s.quiet.thermal := by unfold x; (repeat' first | assumption | (simp [pending_quiet, mem_quiet, applied_quiet, cycles_quiet, thermal_quiet, *]; done) | refine (foldl_thermal (fun _ _ => ?_) _ _).trans ?_ | refine (foldl_thermal_snd (fun _ _ => ?_) _ _).trans ?_ | extract_lets | (simp +zetaDelta [pending_quiet, mem_quiet, applied_quiet, cycles_quiet, thermal_quiet, *]; done) | split)) | (have hx : x.1.quiet.thermal = s.quiet.thermal := by unfold x; (repeat' first | assumption | (simp [pending_quiet, mem_quiet, applied_quiet, cycles_quiet, thermal_quiet, *]; done) | refine (foldl_thermal (fun _ _ => ?_) _ _).trans ?_ | refine (foldl_thermal_snd (fun _ _ => ?_) _ _).trans ?_ | extract_lets | (simp +zetaDelta [pending_quiet, mem_quiet, applied_quiet, cycles_quiet, thermal_quiet, *]; done) | split)) | (have hx : x.2.quiet.thermal = s.quiet.thermal := by unfold x; (repeat' first | assumption | (simp [pending_quiet, mem_quiet, applied_quiet, cycles_quiet, thermal_quiet, *]; done) | refine (foldl_thermal (fun _ _ => ?_) _ _).trans ?_ | refine (foldl_thermal_snd (fun _ _ => ?_) _ _).trans ?_ | extract_lets | (simp +zetaDelta [pending_quiet, mem_quiet, applied_quiet, cycles_quiet, thermal_quiet, *]; done) | split)) | skip); clear_value x) | refine (foldl_thermal (fun _ _ => ?_) _ _).trans ?_ | split
@[simp] theorem startStep12_pending (te : JournalSlot → Option Nat) (t : StartTests) (s : State) : (startStep12 te t s).quiet.pending = s.quiet.pending := by
  unfold startStep12
  repeat' first | assumption | (simp [pending_quiet, mem_quiet, applied_quiet, cycles_quiet, thermal_quiet, *]; done) | (extract_lets +onlyGivenNames x; (first | (have hx : x.quiet.pending = s.quiet.pending := by unfold x; (repeat' first | assumption | (simp [pending_quiet, mem_quiet, applied_quiet, cycles_quiet, thermal_quiet, *]; done) | refine (foldl_pending (fun _ _ => ?_) _ _).trans ?_ | refine (foldl_pending_snd (fun _ _ => ?_) _ _).trans ?_ | extract_lets | (simp +zetaDelta [pending_quiet, mem_quiet, applied_quiet, cycles_quiet, thermal_quiet, *]; done) | split)) | (have hx : x.1.quiet.pending = s.quiet.pending := by unfold x; (repeat' first | assumption | (simp [pending_quiet, mem_quiet, applied_quiet, cycles_quiet, thermal_quiet, *]; done) | refine (foldl_pending (fun _ _ => ?_) _ _).trans ?_ | refine (foldl_pending_snd (fun _ _ => ?_) _ _).trans ?_ | extract_lets | (simp +zetaDelta [pending_quiet, mem_quiet, applied_quiet, cycles_quiet, thermal_quiet, *]; done) | split)) | (have hx : x.2.quiet.pending = s.quiet.pending := by unfold x; (repeat' first | assumption | (simp [pending_quiet, mem_quiet, applied_quiet, cycles_quiet, thermal_quiet, *]; done) | refine (foldl_pending (fun _ _ => ?_) _ _).trans ?_ | refine (foldl_pending_snd (fun _ _ => ?_) _ _).trans ?_ | extract_lets | (simp +zetaDelta [pending_quiet, mem_quiet, applied_quiet, cycles_quiet, thermal_quiet, *]; done) | split)) | skip); clear_value x) | refine (foldl_pending (fun _ _ => ?_) _ _).trans ?_ | split
@[simp] theorem startStep12_mem (te : JournalSlot → Option Nat) (t : StartTests) (s : State) : (startStep12 te t s).quiet.mem = s.quiet.mem := by
  unfold startStep12
  repeat' first | assumption | (simp [pending_quiet, mem_quiet, applied_quiet, cycles_quiet, thermal_quiet, *]; done) | (extract_lets +onlyGivenNames x; (first | (have hx : x.quiet.mem = s.quiet.mem := by unfold x; (repeat' first | assumption | (simp [pending_quiet, mem_quiet, applied_quiet, cycles_quiet, thermal_quiet, *]; done) | refine (foldl_mem (fun _ _ => ?_) _ _).trans ?_ | refine (foldl_mem_snd (fun _ _ => ?_) _ _).trans ?_ | extract_lets | (simp +zetaDelta [pending_quiet, mem_quiet, applied_quiet, cycles_quiet, thermal_quiet, *]; done) | split)) | (have hx : x.1.quiet.mem = s.quiet.mem := by unfold x; (repeat' first | assumption | (simp [pending_quiet, mem_quiet, applied_quiet, cycles_quiet, thermal_quiet, *]; done) | refine (foldl_mem (fun _ _ => ?_) _ _).trans ?_ | refine (foldl_mem_snd (fun _ _ => ?_) _ _).trans ?_ | extract_lets | (simp +zetaDelta [pending_quiet, mem_quiet, applied_quiet, cycles_quiet, thermal_quiet, *]; done) | split)) | (have hx : x.2.quiet.mem = s.quiet.mem := by unfold x; (repeat' first | assumption | (simp [pending_quiet, mem_quiet, applied_quiet, cycles_quiet, thermal_quiet, *]; done) | refine (foldl_mem (fun _ _ => ?_) _ _).trans ?_ | refine (foldl_mem_snd (fun _ _ => ?_) _ _).trans ?_ | extract_lets | (simp +zetaDelta [pending_quiet, mem_quiet, applied_quiet, cycles_quiet, thermal_quiet, *]; done) | split)) | skip); clear_value x) | refine (foldl_mem (fun _ _ => ?_) _ _).trans ?_ | split
@[simp] theorem startStep12_powerCycles (te : JournalSlot → Option Nat) (t : StartTests) (s : State) : (startStep12 te t s).quiet.powerCycles = s.quiet.powerCycles := by
  unfold startStep12
  repeat' first | assumption | (simp [pending_quiet, mem_quiet, applied_quiet, cycles_quiet, thermal_quiet, *]; done) | (extract_lets +onlyGivenNames x; (first | (have hx : x.quiet.powerCycles = s.quiet.powerCycles := by unfold x; (repeat' first | assumption | (simp [pending_quiet, mem_quiet, applied_quiet, cycles_quiet, thermal_quiet, *]; done) | refine (foldl_powerCycles (fun _ _ => ?_) _ _).trans ?_ | refine (foldl_powerCycles_snd (fun _ _ => ?_) _ _).trans ?_ | extract_lets | (simp +zetaDelta [pending_quiet, mem_quiet, applied_quiet, cycles_quiet, thermal_quiet, *]; done) | split)) | (have hx : x.1.quiet.powerCycles = s.quiet.powerCycles := by unfold x; (repeat' first | assumption | (simp [pending_quiet, mem_quiet, applied_quiet, cycles_quiet, thermal_quiet, *]; done) | refine (foldl_powerCycles (fun _ _ => ?_) _ _).trans ?_ | refine (foldl_powerCycles_snd (fun _ _ => ?_) _ _).trans ?_ | extract_lets | (simp +zetaDelta [pending_quiet, mem_quiet, applied_quiet, cycles_quiet, thermal_quiet, *]; done) | split)) | (have hx : x.2.quiet.powerCycles = s.quiet.powerCycles := by unfold x; (repeat' first | assumption | (simp [pending_quiet, mem_quiet, applied_quiet, cycles_quiet, thermal_quiet, *]; done) | refine (foldl_powerCycles (fun _ _ => ?_) _ _).trans ?_ | refine (foldl_powerCycles_snd (fun _ _ => ?_) _ _).trans ?_ | extract_lets | (simp +zetaDelta [pending_quiet, mem_quiet, applied_quiet, cycles_quiet, thermal_quiet, *]; done) | split)) | skip); clear_value x) | refine (foldl_powerCycles (fun _ _ => ?_) _ _).trans ?_ | split
@[simp] theorem startStep12_thermal (te : JournalSlot → Option Nat) (t : StartTests) (s : State) : (startStep12 te t s).quiet.thermal = s.quiet.thermal := by
  unfold startStep12
  repeat' first | assumption | (simp [pending_quiet, mem_quiet, applied_quiet, cycles_quiet, thermal_quiet, *]; done) | (extract_lets +onlyGivenNames x; (first | (have hx : x.quiet.thermal = s.quiet.thermal := by unfold x; (repeat' first | assumption | (simp [pending_quiet, mem_quiet, applied_quiet, cycles_quiet, thermal_quiet, *]; done) | refine (foldl_thermal (fun _ _ => ?_) _ _).trans ?_ | refine (foldl_thermal_snd (fun _ _ => ?_) _ _).trans ?_ | extract_lets | (simp +zetaDelta [pending_quiet, mem_quiet, applied_quiet, cycles_quiet, thermal_quiet, *]; done) | split)) | (have hx : x.1.quiet.thermal = s.quiet.thermal := by unfold x; (repeat' first | assumption | (simp [pending_quiet, mem_quiet, applied_quiet, cycles_quiet, thermal_quiet, *]; done) | refine (foldl_thermal (fun _ _ => ?_) _ _).trans ?_ | refine (foldl_thermal_snd (fun _ _ => ?_) _ _).trans ?_ | extract_lets | (simp +zetaDelta [pending_quiet, mem_quiet, applied_quiet, cycles_quiet, thermal_quiet, *]; done) | split)) | (have hx : x.2.quiet.thermal = s.quiet.thermal := by unfold x; (repeat' first | assumption | (simp [pending_quiet, mem_quiet, applied_quiet, cycles_quiet, thermal_quiet, *]; done) | refine (foldl_thermal (fun _ _ => ?_) _ _).trans ?_ | refine (foldl_thermal_snd (fun _ _ => ?_) _ _).trans ?_ | extract_lets | (simp +zetaDelta [pending_quiet, mem_quiet, applied_quiet, cycles_quiet, thermal_quiet, *]; done) | split)) | skip); clear_value x) | refine (foldl_thermal (fun _ _ => ?_) _ _).trans ?_ | split
@[simp] theorem startCore_pending (code : Nat) (wake : Option WakeSource) (te : JournalSlot → Option Nat) (t : StartTests) (s : State) : (startCore code wake te t s).quiet.pending = s.quiet.pending := by
  unfold startCore
  repeat' first | assumption | (simp [pending_quiet, mem_quiet, applied_quiet, cycles_quiet, thermal_quiet, *]; done) | (extract_lets +onlyGivenNames x; (first | (have hx : x.quiet.pending = s.quiet.pending := by unfold x; (repeat' first | assumption | (simp [pending_quiet, mem_quiet, applied_quiet, cycles_quiet, thermal_quiet, *]; done) | refine (foldl_pending (fun _ _ => ?_) _ _).trans ?_ | refine (foldl_pending_snd (fun _ _ => ?_) _ _).trans ?_ | extract_lets | (simp +zetaDelta [pending_quiet, mem_quiet, applied_quiet, cycles_quiet, thermal_quiet, *]; done) | split)) | (have hx : x.1.quiet.pending = s.quiet.pending := by unfold x; (repeat' first | assumption | (simp [pending_quiet, mem_quiet, applied_quiet, cycles_quiet, thermal_quiet, *]; done) | refine (foldl_pending (fun _ _ => ?_) _ _).trans ?_ | refine (foldl_pending_snd (fun _ _ => ?_) _ _).trans ?_ | extract_lets | (simp +zetaDelta [pending_quiet, mem_quiet, applied_quiet, cycles_quiet, thermal_quiet, *]; done) | split)) | (have hx : x.2.quiet.pending = s.quiet.pending := by unfold x; (repeat' first | assumption | (simp [pending_quiet, mem_quiet, applied_quiet, cycles_quiet, thermal_quiet, *]; done) | refine (foldl_pending (fun _ _ => ?_) _ _).trans ?_ | refine (foldl_pending_snd (fun _ _ => ?_) _ _).trans ?_ | extract_lets | (simp +zetaDelta [pending_quiet, mem_quiet, applied_quiet, cycles_quiet, thermal_quiet, *]; done) | split)) | skip); clear_value x) | refine (foldl_pending (fun _ _ => ?_) _ _).trans ?_ | split
@[simp] theorem startCore_wf (code : Nat) (wake : Option WakeSource) (te : JournalSlot → Option Nat) (t : StartTests) (s : State) (hw : Memory.wf s.quiet.mem = true) : Memory.wf (startCore code wake te t s).quiet.mem = true := by
  unfold startCore
  repeat' first | assumption | (simp [pending_quiet, mem_quiet, applied_quiet, cycles_quiet, thermal_quiet, *]; done) | (extract_lets +onlyGivenNames x; (first | (have hx : Memory.wf x.quiet.mem = true := by unfold x; (repeat' first | assumption | (simp [pending_quiet, mem_quiet, applied_quiet, cycles_quiet, thermal_quiet, *]; done) | refine foldl_wf (fun _ _ h => ?_) _ _ ?_ | refine foldl_wf_snd (fun _ _ h => ?_) _ _ ?_ | extract_lets | (simp +zetaDelta [pending_quiet, mem_quiet, applied_quiet, cycles_quiet, thermal_quiet, *]; done) | split)) | (have hx : Memory.wf x.1.quiet.mem = true := by unfold x; (repeat' first | assumption | (simp [pending_quiet, mem_quiet, applied_quiet, cycles_quiet, thermal_quiet, *]; done) | refine foldl_wf (fun _ _ h => ?_) _ _ ?_ | refine foldl_wf_snd (fun _ _ h => ?_) _ _ ?_ | extract_lets | (simp +zetaDelta [pending_quiet, mem_quiet, applied_quiet, cycles_quiet, thermal_quiet, *]; done) | split)) | (have hx : Memory.wf x.2.quiet.mem = true := by unfold x; (repeat' first | assumption | (simp [pending_quiet, mem_quiet, applied_quiet, cycles_quiet, thermal_quiet, *]; done) | refine foldl_wf (fun _ _ h => ?_) _ _ ?_ | refine foldl_wf_snd (fun _ _ h => ?_) _ _ ?_ | extract_lets | (simp +zetaDelta [pending_quiet, mem_quiet, applied_quiet, cycles_quiet, thermal_quiet, *]; done) | split)) | skip); clear_value x) | refine foldl_wf (fun _ _ h => ?_) _ _ ?_ | split
@[simp] theorem startCore_thermal (code : Nat) (wake : Option WakeSource) (te : JournalSlot → Option Nat) (t : StartTests) (s : State) : (startCore code wake te t s).quiet.thermal = s.quiet.thermal := by
  unfold startCore
  repeat' first | assumption | (simp [pending_quiet, mem_quiet, applied_quiet, cycles_quiet, thermal_quiet, *]; done) | (extract_lets +onlyGivenNames x; (first | (have hx : x.quiet.thermal = s.quiet.thermal := by unfold x; (repeat' first | assumption | (simp [pending_quiet, mem_quiet, applied_quiet, cycles_quiet, thermal_quiet, *]; done) | refine (foldl_thermal (fun _ _ => ?_) _ _).trans ?_ | refine (foldl_thermal_snd (fun _ _ => ?_) _ _).trans ?_ | extract_lets | (simp +zetaDelta [pending_quiet, mem_quiet, applied_quiet, cycles_quiet, thermal_quiet, *]; done) | split)) | (have hx : x.1.quiet.thermal = s.quiet.thermal := by unfold x; (repeat' first | assumption | (simp [pending_quiet, mem_quiet, applied_quiet, cycles_quiet, thermal_quiet, *]; done) | refine (foldl_thermal (fun _ _ => ?_) _ _).trans ?_ | refine (foldl_thermal_snd (fun _ _ => ?_) _ _).trans ?_ | extract_lets | (simp +zetaDelta [pending_quiet, mem_quiet, applied_quiet, cycles_quiet, thermal_quiet, *]; done) | split)) | (have hx : x.2.quiet.thermal = s.quiet.thermal := by unfold x; (repeat' first | assumption | (simp [pending_quiet, mem_quiet, applied_quiet, cycles_quiet, thermal_quiet, *]; done) | refine (foldl_thermal (fun _ _ => ?_) _ _).trans ?_ | refine (foldl_thermal_snd (fun _ _ => ?_) _ _).trans ?_ | extract_lets | (simp +zetaDelta [pending_quiet, mem_quiet, applied_quiet, cycles_quiet, thermal_quiet, *]; done) | split)) | skip); clear_value x) | refine (foldl_thermal (fun _ _ => ?_) _ _).trans ?_ | split
@[simp] theorem startEnds_pending (s : State) : (startEnds s).quiet.pending = s.quiet.pending := by
  unfold startEnds
  split
  · simp
  split
  · simp
  split
  · simp
  split
  · simp
  extract_lets b x y z
  have hx : x.quiet = s.quiet := by simp [x]
  have hy : y.quiet.pending = s.quiet.pending := by simp [y, hx]
  have hz : z.quiet.pending = s.quiet.pending := by simp only [z]; split <;> simp [hy]
  rw [foldl_quiet (fun s k => by simp), hz]
@[simp] theorem startEnds_mem (s : State) : (startEnds s).quiet.mem = s.quiet.mem := by
  unfold startEnds
  split
  · simp
  split
  · simp
  split
  · simp
  split
  · simp
  extract_lets b x y z
  have hx : x.quiet = s.quiet := by simp [x]
  have hy : y.quiet.mem = s.quiet.mem := by simp [y, hx]
  have hz : z.quiet.mem = s.quiet.mem := by simp only [z]; split <;> simp [hy]
  rw [foldl_quiet (fun s k => by simp), hz]
@[simp] theorem startEnds_applied (s : State) : (startEnds s).quiet.applied = s.quiet.applied := by
  unfold startEnds
  split
  · simp
  split
  · simp
  split
  · simp
  split
  · simp
  extract_lets b x y z
  have hx : x.quiet = s.quiet := by simp [x]
  have hy : y.quiet.applied = s.quiet.applied := by simp [y, hx]
  have hz : z.quiet.applied = s.quiet.applied := by simp only [z]; split <;> simp [hy]
  rw [foldl_quiet (fun s k => by simp), hz]
@[simp] theorem startEnds_powerCycles (s : State) : (startEnds s).quiet.powerCycles = s.quiet.powerCycles := by
  unfold startEnds
  split
  · simp
  split
  · simp
  split
  · simp
  split
  · simp
  extract_lets b x y z
  have hx : x.quiet = s.quiet := by simp [x]
  have hy : y.quiet.powerCycles = s.quiet.powerCycles := by simp [y, hx]
  have hz : z.quiet.powerCycles = s.quiet.powerCycles := by simp only [z]; split <;> simp [hy]
  rw [foldl_quiet (fun s k => by simp), hz]
@[simp] theorem finishStart_pending (s : State) : (finishStart s).quiet.pending = s.quiet.pending := by
  unfold finishStart
  extract_lets b x y z
  split
  · rfl
  have hx : x.quiet = s.quiet := foldl_quiet (fun s k => by split <;> simp) _ _
  have hy : y.quiet.pending = s.quiet.pending := by simp [y, hx]
  have hz : z.quiet.pending = s.quiet.pending := by simp only [z]; split <;> simp [hy]
  simp [hz]
@[simp] theorem finishStart_mem (s : State) : (finishStart s).quiet.mem = s.quiet.mem := by
  unfold finishStart
  extract_lets b x y z
  split
  · rfl
  have hx : x.quiet = s.quiet := foldl_quiet (fun s k => by split <;> simp) _ _
  have hy : y.quiet.mem = s.quiet.mem := by simp [y, hx]
  have hz : z.quiet.mem = s.quiet.mem := by simp only [z]; split <;> simp [hy]
  simp [hz]
@[simp] theorem finishStart_applied (s : State) : (finishStart s).quiet.applied = s.quiet.applied := by
  unfold finishStart
  extract_lets b x y z
  split
  · rfl
  have hx : x.quiet = s.quiet := foldl_quiet (fun s k => by split <;> simp) _ _
  have hy : y.quiet.applied = s.quiet.applied := by simp [y, hx]
  have hz : z.quiet.applied = s.quiet.applied := by simp only [z]; split <;> simp [hy]
  simp [hz]
@[simp] theorem finishStart_powerCycles (s : State) : (finishStart s).quiet.powerCycles = s.quiet.powerCycles := by
  unfold finishStart
  extract_lets b x y z
  split
  · rfl
  have hx : x.quiet = s.quiet := foldl_quiet (fun s k => by split <;> simp) _ _
  have hy : y.quiet.powerCycles = s.quiet.powerCycles := by simp [y, hx]
  have hz : z.quiet.powerCycles = s.quiet.powerCycles := by simp only [z]; split <;> simp [hy]
  simp [hz]
theorem execPowerOn_pending (tests : PowerTests) (s : State) {t : State} : execPowerOn tests s = .next t → t.quiet.pending = s.quiet.pending := by
  intro h
  unfold execPowerOn at h
  injection h with h
  subst h
  repeat' first | assumption | (simp [pending_quiet, mem_quiet, applied_quiet, cycles_quiet, thermal_quiet, *]; done) | (extract_lets +onlyGivenNames x; (first | (have hx : x.quiet.pending = s.quiet.pending := by unfold x; (repeat' first | assumption | (simp [pending_quiet, mem_quiet, applied_quiet, cycles_quiet, thermal_quiet, *]; done) | refine (foldl_pending (fun _ _ => ?_) _ _).trans ?_ | refine (foldl_pending_snd (fun _ _ => ?_) _ _).trans ?_ | extract_lets | (simp +zetaDelta [pending_quiet, mem_quiet, applied_quiet, cycles_quiet, thermal_quiet, *]; done) | split)) | (have hx : x.1.quiet.pending = s.quiet.pending := by unfold x; (repeat' first | assumption | (simp [pending_quiet, mem_quiet, applied_quiet, cycles_quiet, thermal_quiet, *]; done) | refine (foldl_pending (fun _ _ => ?_) _ _).trans ?_ | refine (foldl_pending_snd (fun _ _ => ?_) _ _).trans ?_ | extract_lets | (simp +zetaDelta [pending_quiet, mem_quiet, applied_quiet, cycles_quiet, thermal_quiet, *]; done) | split)) | (have hx : x.2.quiet.pending = s.quiet.pending := by unfold x; (repeat' first | assumption | (simp [pending_quiet, mem_quiet, applied_quiet, cycles_quiet, thermal_quiet, *]; done) | refine (foldl_pending (fun _ _ => ?_) _ _).trans ?_ | refine (foldl_pending_snd (fun _ _ => ?_) _ _).trans ?_ | extract_lets | (simp +zetaDelta [pending_quiet, mem_quiet, applied_quiet, cycles_quiet, thermal_quiet, *]; done) | split)) | skip); clear_value x) | refine (foldl_pending (fun _ _ => ?_) _ _).trans ?_ | split
theorem execPowerOn_mem (tests : PowerTests) (s : State) {t : State} : execPowerOn tests s = .next t → t.quiet.mem = s.quiet.mem := by
  intro h
  unfold execPowerOn at h
  injection h with h
  subst h
  repeat' first | assumption | (simp [pending_quiet, mem_quiet, applied_quiet, cycles_quiet, thermal_quiet, *]; done) | (extract_lets +onlyGivenNames x; (first | (have hx : x.quiet.mem = s.quiet.mem := by unfold x; (repeat' first | assumption | (simp [pending_quiet, mem_quiet, applied_quiet, cycles_quiet, thermal_quiet, *]; done) | refine (foldl_mem (fun _ _ => ?_) _ _).trans ?_ | refine (foldl_mem_snd (fun _ _ => ?_) _ _).trans ?_ | extract_lets | (simp +zetaDelta [pending_quiet, mem_quiet, applied_quiet, cycles_quiet, thermal_quiet, *]; done) | split)) | (have hx : x.1.quiet.mem = s.quiet.mem := by unfold x; (repeat' first | assumption | (simp [pending_quiet, mem_quiet, applied_quiet, cycles_quiet, thermal_quiet, *]; done) | refine (foldl_mem (fun _ _ => ?_) _ _).trans ?_ | refine (foldl_mem_snd (fun _ _ => ?_) _ _).trans ?_ | extract_lets | (simp +zetaDelta [pending_quiet, mem_quiet, applied_quiet, cycles_quiet, thermal_quiet, *]; done) | split)) | (have hx : x.2.quiet.mem = s.quiet.mem := by unfold x; (repeat' first | assumption | (simp [pending_quiet, mem_quiet, applied_quiet, cycles_quiet, thermal_quiet, *]; done) | refine (foldl_mem (fun _ _ => ?_) _ _).trans ?_ | refine (foldl_mem_snd (fun _ _ => ?_) _ _).trans ?_ | extract_lets | (simp +zetaDelta [pending_quiet, mem_quiet, applied_quiet, cycles_quiet, thermal_quiet, *]; done) | split)) | skip); clear_value x) | refine (foldl_mem (fun _ _ => ?_) _ _).trans ?_ | split
theorem execPowerOn_applied (tests : PowerTests) (s : State) {t : State} : execPowerOn tests s = .next t → t.quiet.applied = s.quiet.applied := by
  intro h
  unfold execPowerOn at h
  injection h with h
  subst h
  repeat' first | assumption | (simp [pending_quiet, mem_quiet, applied_quiet, cycles_quiet, thermal_quiet, *]; done) | (extract_lets +onlyGivenNames x; (first | (have hx : x.quiet.applied = s.quiet.applied := by unfold x; (repeat' first | assumption | (simp [pending_quiet, mem_quiet, applied_quiet, cycles_quiet, thermal_quiet, *]; done) | refine (foldl_applied (fun _ _ => ?_) _ _).trans ?_ | refine (foldl_applied_snd (fun _ _ => ?_) _ _).trans ?_ | extract_lets | (simp +zetaDelta [pending_quiet, mem_quiet, applied_quiet, cycles_quiet, thermal_quiet, *]; done) | split)) | (have hx : x.1.quiet.applied = s.quiet.applied := by unfold x; (repeat' first | assumption | (simp [pending_quiet, mem_quiet, applied_quiet, cycles_quiet, thermal_quiet, *]; done) | refine (foldl_applied (fun _ _ => ?_) _ _).trans ?_ | refine (foldl_applied_snd (fun _ _ => ?_) _ _).trans ?_ | extract_lets | (simp +zetaDelta [pending_quiet, mem_quiet, applied_quiet, cycles_quiet, thermal_quiet, *]; done) | split)) | (have hx : x.2.quiet.applied = s.quiet.applied := by unfold x; (repeat' first | assumption | (simp [pending_quiet, mem_quiet, applied_quiet, cycles_quiet, thermal_quiet, *]; done) | refine (foldl_applied (fun _ _ => ?_) _ _).trans ?_ | refine (foldl_applied_snd (fun _ _ => ?_) _ _).trans ?_ | extract_lets | (simp +zetaDelta [pending_quiet, mem_quiet, applied_quiet, cycles_quiet, thermal_quiet, *]; done) | split)) | skip); clear_value x) | refine (foldl_applied (fun _ _ => ?_) _ _).trans ?_ | split
theorem execPowerOn_thermal (tests : PowerTests) (s : State) {t : State} : execPowerOn tests s = .next t → t.quiet.thermal = s.quiet.thermal := by
  intro h
  unfold execPowerOn at h
  injection h with h
  subst h
  repeat' first | assumption | (simp [pending_quiet, mem_quiet, applied_quiet, cycles_quiet, thermal_quiet, *]; done) | (extract_lets +onlyGivenNames x; (first | (have hx : x.quiet.thermal = s.quiet.thermal := by unfold x; (repeat' first | assumption | (simp [pending_quiet, mem_quiet, applied_quiet, cycles_quiet, thermal_quiet, *]; done) | refine (foldl_thermal (fun _ _ => ?_) _ _).trans ?_ | refine (foldl_thermal_snd (fun _ _ => ?_) _ _).trans ?_ | extract_lets | (simp +zetaDelta [pending_quiet, mem_quiet, applied_quiet, cycles_quiet, thermal_quiet, *]; done) | split)) | (have hx : x.1.quiet.thermal = s.quiet.thermal := by unfold x; (repeat' first | assumption | (simp [pending_quiet, mem_quiet, applied_quiet, cycles_quiet, thermal_quiet, *]; done) | refine (foldl_thermal (fun _ _ => ?_) _ _).trans ?_ | refine (foldl_thermal_snd (fun _ _ => ?_) _ _).trans ?_ | extract_lets | (simp +zetaDelta [pending_quiet, mem_quiet, applied_quiet, cycles_quiet, thermal_quiet, *]; done) | split)) | (have hx : x.2.quiet.thermal = s.quiet.thermal := by unfold x; (repeat' first | assumption | (simp [pending_quiet, mem_quiet, applied_quiet, cycles_quiet, thermal_quiet, *]; done) | refine (foldl_thermal (fun _ _ => ?_) _ _).trans ?_ | refine (foldl_thermal_snd (fun _ _ => ?_) _ _).trans ?_ | extract_lets | (simp +zetaDelta [pending_quiet, mem_quiet, applied_quiet, cycles_quiet, thermal_quiet, *]; done) | split)) | skip); clear_value x) | refine (foldl_thermal (fun _ _ => ?_) _ _).trans ?_ | split
theorem execHoldChargeComplete_pending (ufs : Nat) (tests : StartTests) (s : State) {t : State} : execHoldChargeComplete ufs tests s = .next t → t.quiet.pending = s.quiet.pending := by
  intro h
  unfold execHoldChargeComplete at h
  injection h with h
  subst h
  repeat' first | assumption | (simp [pending_quiet, mem_quiet, applied_quiet, cycles_quiet, thermal_quiet, *]; done) | (extract_lets +onlyGivenNames x; (first | (have hx : x.quiet.pending = s.quiet.pending := by unfold x; (repeat' first | assumption | (simp [pending_quiet, mem_quiet, applied_quiet, cycles_quiet, thermal_quiet, *]; done) | refine (foldl_pending (fun _ _ => ?_) _ _).trans ?_ | refine (foldl_pending_snd (fun _ _ => ?_) _ _).trans ?_ | extract_lets | (simp +zetaDelta [pending_quiet, mem_quiet, applied_quiet, cycles_quiet, thermal_quiet, *]; done) | split)) | (have hx : x.1.quiet.pending = s.quiet.pending := by unfold x; (repeat' first | assumption | (simp [pending_quiet, mem_quiet, applied_quiet, cycles_quiet, thermal_quiet, *]; done) | refine (foldl_pending (fun _ _ => ?_) _ _).trans ?_ | refine (foldl_pending_snd (fun _ _ => ?_) _ _).trans ?_ | extract_lets | (simp +zetaDelta [pending_quiet, mem_quiet, applied_quiet, cycles_quiet, thermal_quiet, *]; done) | split)) | (have hx : x.2.quiet.pending = s.quiet.pending := by unfold x; (repeat' first | assumption | (simp [pending_quiet, mem_quiet, applied_quiet, cycles_quiet, thermal_quiet, *]; done) | refine (foldl_pending (fun _ _ => ?_) _ _).trans ?_ | refine (foldl_pending_snd (fun _ _ => ?_) _ _).trans ?_ | extract_lets | (simp +zetaDelta [pending_quiet, mem_quiet, applied_quiet, cycles_quiet, thermal_quiet, *]; done) | split)) | skip); clear_value x) | refine (foldl_pending (fun _ _ => ?_) _ _).trans ?_ | split
theorem execHoldChargeComplete_wf (ufs : Nat) (tests : StartTests) (s : State) {t : State} : execHoldChargeComplete ufs tests s = .next t → Memory.wf s.quiet.mem = true → Memory.wf t.quiet.mem = true := by
  intro h hw
  unfold execHoldChargeComplete at h
  injection h with h
  subst h
  repeat' first | assumption | (simp [pending_quiet, mem_quiet, applied_quiet, cycles_quiet, thermal_quiet, *]; done) | (extract_lets +onlyGivenNames x; (first | (have hx : Memory.wf x.quiet.mem = true := by unfold x; (repeat' first | assumption | (simp [pending_quiet, mem_quiet, applied_quiet, cycles_quiet, thermal_quiet, *]; done) | refine foldl_wf (fun _ _ h => ?_) _ _ ?_ | refine foldl_wf_snd (fun _ _ h => ?_) _ _ ?_ | extract_lets | (simp +zetaDelta [pending_quiet, mem_quiet, applied_quiet, cycles_quiet, thermal_quiet, *]; done) | split)) | (have hx : Memory.wf x.1.quiet.mem = true := by unfold x; (repeat' first | assumption | (simp [pending_quiet, mem_quiet, applied_quiet, cycles_quiet, thermal_quiet, *]; done) | refine foldl_wf (fun _ _ h => ?_) _ _ ?_ | refine foldl_wf_snd (fun _ _ h => ?_) _ _ ?_ | extract_lets | (simp +zetaDelta [pending_quiet, mem_quiet, applied_quiet, cycles_quiet, thermal_quiet, *]; done) | split)) | (have hx : Memory.wf x.2.quiet.mem = true := by unfold x; (repeat' first | assumption | (simp [pending_quiet, mem_quiet, applied_quiet, cycles_quiet, thermal_quiet, *]; done) | refine foldl_wf (fun _ _ h => ?_) _ _ ?_ | refine foldl_wf_snd (fun _ _ h => ?_) _ _ ?_ | extract_lets | (simp +zetaDelta [pending_quiet, mem_quiet, applied_quiet, cycles_quiet, thermal_quiet, *]; done) | split)) | skip); clear_value x) | refine foldl_wf (fun _ _ h => ?_) _ _ ?_ | split

theorem execHoldChargeComplete_thermal (ufs : Nat) (tests : StartTests) (s : State) {t : State} : execHoldChargeComplete ufs tests s = .next t → t.quiet.thermal = s.quiet.thermal := by
  intro h
  unfold execHoldChargeComplete at h
  injection h with h
  subst h
  repeat' first | assumption | (simp [pending_quiet, mem_quiet, applied_quiet, cycles_quiet, thermal_quiet, *]; done) | (extract_lets +onlyGivenNames x; (first | (have hx : x.quiet.thermal = s.quiet.thermal := by unfold x; (repeat' first | assumption | (simp [pending_quiet, mem_quiet, applied_quiet, cycles_quiet, thermal_quiet, *]; done) | refine (foldl_thermal (fun _ _ => ?_) _ _).trans ?_ | refine (foldl_thermal_snd (fun _ _ => ?_) _ _).trans ?_ | extract_lets | (simp +zetaDelta [pending_quiet, mem_quiet, applied_quiet, cycles_quiet, thermal_quiet, *]; done) | split)) | (have hx : x.1.quiet.thermal = s.quiet.thermal := by unfold x; (repeat' first | assumption | (simp [pending_quiet, mem_quiet, applied_quiet, cycles_quiet, thermal_quiet, *]; done) | refine (foldl_thermal (fun _ _ => ?_) _ _).trans ?_ | refine (foldl_thermal_snd (fun _ _ => ?_) _ _).trans ?_ | extract_lets | (simp +zetaDelta [pending_quiet, mem_quiet, applied_quiet, cycles_quiet, thermal_quiet, *]; done) | split)) | (have hx : x.2.quiet.thermal = s.quiet.thermal := by unfold x; (repeat' first | assumption | (simp [pending_quiet, mem_quiet, applied_quiet, cycles_quiet, thermal_quiet, *]; done) | refine (foldl_thermal (fun _ _ => ?_) _ _).trans ?_ | refine (foldl_thermal_snd (fun _ _ => ?_) _ _).trans ?_ | extract_lets | (simp +zetaDelta [pending_quiet, mem_quiet, applied_quiet, cycles_quiet, thermal_quiet, *]; done) | split)) | skip); clear_value x) | refine (foldl_thermal (fun _ _ => ?_) _ _).trans ?_ | split
theorem execHoldChargeTimeout_pending (tests : StartTests) (s : State) {t : State} : execHoldChargeTimeout tests s = .next t → t.quiet.pending = s.quiet.pending := by
  intro h
  unfold execHoldChargeTimeout at h
  injection h with h
  subst h
  repeat' first | assumption | (simp [pending_quiet, mem_quiet, applied_quiet, cycles_quiet, thermal_quiet, *]; done) | (extract_lets +onlyGivenNames x; (first | (have hx : x.quiet.pending = s.quiet.pending := by unfold x; (repeat' first | assumption | (simp [pending_quiet, mem_quiet, applied_quiet, cycles_quiet, thermal_quiet, *]; done) | refine (foldl_pending (fun _ _ => ?_) _ _).trans ?_ | refine (foldl_pending_snd (fun _ _ => ?_) _ _).trans ?_ | extract_lets | (simp +zetaDelta [pending_quiet, mem_quiet, applied_quiet, cycles_quiet, thermal_quiet, *]; done) | split)) | (have hx : x.1.quiet.pending = s.quiet.pending := by unfold x; (repeat' first | assumption | (simp [pending_quiet, mem_quiet, applied_quiet, cycles_quiet, thermal_quiet, *]; done) | refine (foldl_pending (fun _ _ => ?_) _ _).trans ?_ | refine (foldl_pending_snd (fun _ _ => ?_) _ _).trans ?_ | extract_lets | (simp +zetaDelta [pending_quiet, mem_quiet, applied_quiet, cycles_quiet, thermal_quiet, *]; done) | split)) | (have hx : x.2.quiet.pending = s.quiet.pending := by unfold x; (repeat' first | assumption | (simp [pending_quiet, mem_quiet, applied_quiet, cycles_quiet, thermal_quiet, *]; done) | refine (foldl_pending (fun _ _ => ?_) _ _).trans ?_ | refine (foldl_pending_snd (fun _ _ => ?_) _ _).trans ?_ | extract_lets | (simp +zetaDelta [pending_quiet, mem_quiet, applied_quiet, cycles_quiet, thermal_quiet, *]; done) | split)) | skip); clear_value x) | refine (foldl_pending (fun _ _ => ?_) _ _).trans ?_ | split
theorem execHoldChargeTimeout_wf (tests : StartTests) (s : State) {t : State} : execHoldChargeTimeout tests s = .next t → Memory.wf s.quiet.mem = true → Memory.wf t.quiet.mem = true := by
  intro h hw
  unfold execHoldChargeTimeout at h
  injection h with h
  subst h
  repeat' first | assumption | (simp [pending_quiet, mem_quiet, applied_quiet, cycles_quiet, thermal_quiet, *]; done) | (extract_lets +onlyGivenNames x; (first | (have hx : Memory.wf x.quiet.mem = true := by unfold x; (repeat' first | assumption | (simp [pending_quiet, mem_quiet, applied_quiet, cycles_quiet, thermal_quiet, *]; done) | refine foldl_wf (fun _ _ h => ?_) _ _ ?_ | refine foldl_wf_snd (fun _ _ h => ?_) _ _ ?_ | extract_lets | (simp +zetaDelta [pending_quiet, mem_quiet, applied_quiet, cycles_quiet, thermal_quiet, *]; done) | split)) | (have hx : Memory.wf x.1.quiet.mem = true := by unfold x; (repeat' first | assumption | (simp [pending_quiet, mem_quiet, applied_quiet, cycles_quiet, thermal_quiet, *]; done) | refine foldl_wf (fun _ _ h => ?_) _ _ ?_ | refine foldl_wf_snd (fun _ _ h => ?_) _ _ ?_ | extract_lets | (simp +zetaDelta [pending_quiet, mem_quiet, applied_quiet, cycles_quiet, thermal_quiet, *]; done) | split)) | (have hx : Memory.wf x.2.quiet.mem = true := by unfold x; (repeat' first | assumption | (simp [pending_quiet, mem_quiet, applied_quiet, cycles_quiet, thermal_quiet, *]; done) | refine foldl_wf (fun _ _ h => ?_) _ _ ?_ | refine foldl_wf_snd (fun _ _ h => ?_) _ _ ?_ | extract_lets | (simp +zetaDelta [pending_quiet, mem_quiet, applied_quiet, cycles_quiet, thermal_quiet, *]; done) | split)) | skip); clear_value x) | refine foldl_wf (fun _ _ h => ?_) _ _ ?_ | split

theorem execHoldChargeTimeout_thermal (tests : StartTests) (s : State) {t : State} : execHoldChargeTimeout tests s = .next t → t.quiet.thermal = s.quiet.thermal := by
  intro h
  unfold execHoldChargeTimeout at h
  injection h with h
  subst h
  repeat' first | assumption | (simp [pending_quiet, mem_quiet, applied_quiet, cycles_quiet, thermal_quiet, *]; done) | (extract_lets +onlyGivenNames x; (first | (have hx : x.quiet.thermal = s.quiet.thermal := by unfold x; (repeat' first | assumption | (simp [pending_quiet, mem_quiet, applied_quiet, cycles_quiet, thermal_quiet, *]; done) | refine (foldl_thermal (fun _ _ => ?_) _ _).trans ?_ | refine (foldl_thermal_snd (fun _ _ => ?_) _ _).trans ?_ | extract_lets | (simp +zetaDelta [pending_quiet, mem_quiet, applied_quiet, cycles_quiet, thermal_quiet, *]; done) | split)) | (have hx : x.1.quiet.thermal = s.quiet.thermal := by unfold x; (repeat' first | assumption | (simp [pending_quiet, mem_quiet, applied_quiet, cycles_quiet, thermal_quiet, *]; done) | refine (foldl_thermal (fun _ _ => ?_) _ _).trans ?_ | refine (foldl_thermal_snd (fun _ _ => ?_) _ _).trans ?_ | extract_lets | (simp +zetaDelta [pending_quiet, mem_quiet, applied_quiet, cycles_quiet, thermal_quiet, *]; done) | split)) | (have hx : x.2.quiet.thermal = s.quiet.thermal := by unfold x; (repeat' first | assumption | (simp [pending_quiet, mem_quiet, applied_quiet, cycles_quiet, thermal_quiet, *]; done) | refine (foldl_thermal (fun _ _ => ?_) _ _).trans ?_ | refine (foldl_thermal_snd (fun _ _ => ?_) _ _).trans ?_ | extract_lets | (simp +zetaDelta [pending_quiet, mem_quiet, applied_quiet, cycles_quiet, thermal_quiet, *]; done) | split)) | skip); clear_value x) | refine (foldl_thermal (fun _ _ => ?_) _ _).trans ?_ | split
theorem execResetStart_pending (elapsed : Nat) (tests : StartTests) (s : State) {t : State} : execResetStart elapsed tests s = .next t → t.quiet.pending = s.quiet.pending := by
  intro h
  unfold execResetStart at h
  injection h with h
  subst h
  repeat' first | assumption | (simp [pending_quiet, mem_quiet, applied_quiet, cycles_quiet, thermal_quiet, *]; done) | (extract_lets +onlyGivenNames x; (first | (have hx : x.quiet.pending = s.quiet.pending := by unfold x; (repeat' first | assumption | (simp [pending_quiet, mem_quiet, applied_quiet, cycles_quiet, thermal_quiet, *]; done) | refine (foldl_pending (fun _ _ => ?_) _ _).trans ?_ | refine (foldl_pending_snd (fun _ _ => ?_) _ _).trans ?_ | extract_lets | (simp +zetaDelta [pending_quiet, mem_quiet, applied_quiet, cycles_quiet, thermal_quiet, *]; done) | split)) | (have hx : x.1.quiet.pending = s.quiet.pending := by unfold x; (repeat' first | assumption | (simp [pending_quiet, mem_quiet, applied_quiet, cycles_quiet, thermal_quiet, *]; done) | refine (foldl_pending (fun _ _ => ?_) _ _).trans ?_ | refine (foldl_pending_snd (fun _ _ => ?_) _ _).trans ?_ | extract_lets | (simp +zetaDelta [pending_quiet, mem_quiet, applied_quiet, cycles_quiet, thermal_quiet, *]; done) | split)) | (have hx : x.2.quiet.pending = s.quiet.pending := by unfold x; (repeat' first | assumption | (simp [pending_quiet, mem_quiet, applied_quiet, cycles_quiet, thermal_quiet, *]; done) | refine (foldl_pending (fun _ _ => ?_) _ _).trans ?_ | refine (foldl_pending_snd (fun _ _ => ?_) _ _).trans ?_ | extract_lets | (simp +zetaDelta [pending_quiet, mem_quiet, applied_quiet, cycles_quiet, thermal_quiet, *]; done) | split)) | skip); clear_value x) | refine (foldl_pending (fun _ _ => ?_) _ _).trans ?_ | split
theorem execResetStart_wf (elapsed : Nat) (tests : StartTests) (s : State) {t : State} : execResetStart elapsed tests s = .next t → Memory.wf s.quiet.mem = true → Memory.wf t.quiet.mem = true := by
  intro h hw
  unfold execResetStart at h
  injection h with h
  subst h
  repeat' first | assumption | (simp [pending_quiet, mem_quiet, applied_quiet, cycles_quiet, thermal_quiet, *]; done) | (extract_lets +onlyGivenNames x; (first | (have hx : Memory.wf x.quiet.mem = true := by unfold x; (repeat' first | assumption | (simp [pending_quiet, mem_quiet, applied_quiet, cycles_quiet, thermal_quiet, *]; done) | refine foldl_wf (fun _ _ h => ?_) _ _ ?_ | refine foldl_wf_snd (fun _ _ h => ?_) _ _ ?_ | extract_lets | (simp +zetaDelta [pending_quiet, mem_quiet, applied_quiet, cycles_quiet, thermal_quiet, *]; done) | split)) | (have hx : Memory.wf x.1.quiet.mem = true := by unfold x; (repeat' first | assumption | (simp [pending_quiet, mem_quiet, applied_quiet, cycles_quiet, thermal_quiet, *]; done) | refine foldl_wf (fun _ _ h => ?_) _ _ ?_ | refine foldl_wf_snd (fun _ _ h => ?_) _ _ ?_ | extract_lets | (simp +zetaDelta [pending_quiet, mem_quiet, applied_quiet, cycles_quiet, thermal_quiet, *]; done) | split)) | (have hx : Memory.wf x.2.quiet.mem = true := by unfold x; (repeat' first | assumption | (simp [pending_quiet, mem_quiet, applied_quiet, cycles_quiet, thermal_quiet, *]; done) | refine foldl_wf (fun _ _ h => ?_) _ _ ?_ | refine foldl_wf_snd (fun _ _ h => ?_) _ _ ?_ | extract_lets | (simp +zetaDelta [pending_quiet, mem_quiet, applied_quiet, cycles_quiet, thermal_quiet, *]; done) | split)) | skip); clear_value x) | refine foldl_wf (fun _ _ h => ?_) _ _ ?_ | split

theorem execResetStart_thermal (elapsed : Nat) (tests : StartTests) (s : State) {t : State} : execResetStart elapsed tests s = .next t → t.quiet.thermal = s.quiet.thermal := by
  intro h
  unfold execResetStart at h
  injection h with h
  subst h
  repeat' first | assumption | (simp [pending_quiet, mem_quiet, applied_quiet, cycles_quiet, thermal_quiet, *]; done) | (extract_lets +onlyGivenNames x; (first | (have hx : x.quiet.thermal = s.quiet.thermal := by unfold x; (repeat' first | assumption | (simp [pending_quiet, mem_quiet, applied_quiet, cycles_quiet, thermal_quiet, *]; done) | refine (foldl_thermal (fun _ _ => ?_) _ _).trans ?_ | refine (foldl_thermal_snd (fun _ _ => ?_) _ _).trans ?_ | extract_lets | (simp +zetaDelta [pending_quiet, mem_quiet, applied_quiet, cycles_quiet, thermal_quiet, *]; done) | split)) | (have hx : x.1.quiet.thermal = s.quiet.thermal := by unfold x; (repeat' first | assumption | (simp [pending_quiet, mem_quiet, applied_quiet, cycles_quiet, thermal_quiet, *]; done) | refine (foldl_thermal (fun _ _ => ?_) _ _).trans ?_ | refine (foldl_thermal_snd (fun _ _ => ?_) _ _).trans ?_ | extract_lets | (simp +zetaDelta [pending_quiet, mem_quiet, applied_quiet, cycles_quiet, thermal_quiet, *]; done) | split)) | (have hx : x.2.quiet.thermal = s.quiet.thermal := by unfold x; (repeat' first | assumption | (simp [pending_quiet, mem_quiet, applied_quiet, cycles_quiet, thermal_quiet, *]; done) | refine (foldl_thermal (fun _ _ => ?_) _ _).trans ?_ | refine (foldl_thermal_snd (fun _ _ => ?_) _ _).trans ?_ | extract_lets | (simp +zetaDelta [pending_quiet, mem_quiet, applied_quiet, cycles_quiet, thermal_quiet, *]; done) | split)) | skip); clear_value x) | refine (foldl_thermal (fun _ _ => ?_) _ _).trans ?_ | split
theorem execMrstN_pending (s : State) {t : State} : execMrstN s = .next t → t.quiet.pending = s.quiet.pending := by
  intro h
  unfold execMrstN at h
  injection h with h
  subst h
  repeat' first | assumption | (simp [pending_quiet, mem_quiet, applied_quiet, cycles_quiet, thermal_quiet, *]; done) | (extract_lets +onlyGivenNames x; (first | (have hx : x.quiet.pending = s.quiet.pending := by unfold x; (repeat' first | assumption | (simp [pending_quiet, mem_quiet, applied_quiet, cycles_quiet, thermal_quiet, *]; done) | refine (foldl_pending (fun _ _ => ?_) _ _).trans ?_ | refine (foldl_pending_snd (fun _ _ => ?_) _ _).trans ?_ | extract_lets | (simp +zetaDelta [pending_quiet, mem_quiet, applied_quiet, cycles_quiet, thermal_quiet, *]; done) | split)) | (have hx : x.1.quiet.pending = s.quiet.pending := by unfold x; (repeat' first | assumption | (simp [pending_quiet, mem_quiet, applied_quiet, cycles_quiet, thermal_quiet, *]; done) | refine (foldl_pending (fun _ _ => ?_) _ _).trans ?_ | refine (foldl_pending_snd (fun _ _ => ?_) _ _).trans ?_ | extract_lets | (simp +zetaDelta [pending_quiet, mem_quiet, applied_quiet, cycles_quiet, thermal_quiet, *]; done) | split)) | (have hx : x.2.quiet.pending = s.quiet.pending := by unfold x; (repeat' first | assumption | (simp [pending_quiet, mem_quiet, applied_quiet, cycles_quiet, thermal_quiet, *]; done) | refine (foldl_pending (fun _ _ => ?_) _ _).trans ?_ | refine (foldl_pending_snd (fun _ _ => ?_) _ _).trans ?_ | extract_lets | (simp +zetaDelta [pending_quiet, mem_quiet, applied_quiet, cycles_quiet, thermal_quiet, *]; done) | split)) | skip); clear_value x) | refine (foldl_pending (fun _ _ => ?_) _ _).trans ?_ | split
theorem execMrstN_applied (s : State) {t : State} : execMrstN s = .next t → t.quiet.applied = s.quiet.applied := by
  intro h
  unfold execMrstN at h
  injection h with h
  subst h
  repeat' first | assumption | (simp [pending_quiet, mem_quiet, applied_quiet, cycles_quiet, thermal_quiet, *]; done) | (extract_lets +onlyGivenNames x; (first | (have hx : x.quiet.applied = s.quiet.applied := by unfold x; (repeat' first | assumption | (simp [pending_quiet, mem_quiet, applied_quiet, cycles_quiet, thermal_quiet, *]; done) | refine (foldl_applied (fun _ _ => ?_) _ _).trans ?_ | refine (foldl_applied_snd (fun _ _ => ?_) _ _).trans ?_ | extract_lets | (simp +zetaDelta [pending_quiet, mem_quiet, applied_quiet, cycles_quiet, thermal_quiet, *]; done) | split)) | (have hx : x.1.quiet.applied = s.quiet.applied := by unfold x; (repeat' first | assumption | (simp [pending_quiet, mem_quiet, applied_quiet, cycles_quiet, thermal_quiet, *]; done) | refine (foldl_applied (fun _ _ => ?_) _ _).trans ?_ | refine (foldl_applied_snd (fun _ _ => ?_) _ _).trans ?_ | extract_lets | (simp +zetaDelta [pending_quiet, mem_quiet, applied_quiet, cycles_quiet, thermal_quiet, *]; done) | split)) | (have hx : x.2.quiet.applied = s.quiet.applied := by unfold x; (repeat' first | assumption | (simp [pending_quiet, mem_quiet, applied_quiet, cycles_quiet, thermal_quiet, *]; done) | refine (foldl_applied (fun _ _ => ?_) _ _).trans ?_ | refine (foldl_applied_snd (fun _ _ => ?_) _ _).trans ?_ | extract_lets | (simp +zetaDelta [pending_quiet, mem_quiet, applied_quiet, cycles_quiet, thermal_quiet, *]; done) | split)) | skip); clear_value x) | refine (foldl_applied (fun _ _ => ?_) _ _).trans ?_ | split
theorem execMrstN_powerCycles (s : State) {t : State} : execMrstN s = .next t → t.quiet.powerCycles = s.quiet.powerCycles := by
  intro h
  unfold execMrstN at h
  injection h with h
  subst h
  repeat' first | assumption | (simp [pending_quiet, mem_quiet, applied_quiet, cycles_quiet, thermal_quiet, *]; done) | (extract_lets +onlyGivenNames x; (first | (have hx : x.quiet.powerCycles = s.quiet.powerCycles := by unfold x; (repeat' first | assumption | (simp [pending_quiet, mem_quiet, applied_quiet, cycles_quiet, thermal_quiet, *]; done) | refine (foldl_powerCycles (fun _ _ => ?_) _ _).trans ?_ | refine (foldl_powerCycles_snd (fun _ _ => ?_) _ _).trans ?_ | extract_lets | (simp +zetaDelta [pending_quiet, mem_quiet, applied_quiet, cycles_quiet, thermal_quiet, *]; done) | split)) | (have hx : x.1.quiet.powerCycles = s.quiet.powerCycles := by unfold x; (repeat' first | assumption | (simp [pending_quiet, mem_quiet, applied_quiet, cycles_quiet, thermal_quiet, *]; done) | refine (foldl_powerCycles (fun _ _ => ?_) _ _).trans ?_ | refine (foldl_powerCycles_snd (fun _ _ => ?_) _ _).trans ?_ | extract_lets | (simp +zetaDelta [pending_quiet, mem_quiet, applied_quiet, cycles_quiet, thermal_quiet, *]; done) | split)) | (have hx : x.2.quiet.powerCycles = s.quiet.powerCycles := by unfold x; (repeat' first | assumption | (simp [pending_quiet, mem_quiet, applied_quiet, cycles_quiet, thermal_quiet, *]; done) | refine (foldl_powerCycles (fun _ _ => ?_) _ _).trans ?_ | refine (foldl_powerCycles_snd (fun _ _ => ?_) _ _).trans ?_ | extract_lets | (simp +zetaDelta [pending_quiet, mem_quiet, applied_quiet, cycles_quiet, thermal_quiet, *]; done) | split)) | skip); clear_value x) | refine (foldl_powerCycles (fun _ _ => ?_) _ _).trans ?_ | split
theorem execMrstN_thermal (s : State) {t : State} : execMrstN s = .next t → t.quiet.thermal = s.quiet.thermal := by
  intro h
  unfold execMrstN at h
  injection h with h
  subst h
  repeat' first | assumption | (simp [pending_quiet, mem_quiet, applied_quiet, cycles_quiet, thermal_quiet, *]; done) | (extract_lets +onlyGivenNames x; (first | (have hx : x.quiet.thermal = s.quiet.thermal := by unfold x; (repeat' first | assumption | (simp [pending_quiet, mem_quiet, applied_quiet, cycles_quiet, thermal_quiet, *]; done) | refine (foldl_thermal (fun _ _ => ?_) _ _).trans ?_ | refine (foldl_thermal_snd (fun _ _ => ?_) _ _).trans ?_ | extract_lets | (simp +zetaDelta [pending_quiet, mem_quiet, applied_quiet, cycles_quiet, thermal_quiet, *]; done) | split)) | (have hx : x.1.quiet.thermal = s.quiet.thermal := by unfold x; (repeat' first | assumption | (simp [pending_quiet, mem_quiet, applied_quiet, cycles_quiet, thermal_quiet, *]; done) | refine (foldl_thermal (fun _ _ => ?_) _ _).trans ?_ | refine (foldl_thermal_snd (fun _ _ => ?_) _ _).trans ?_ | extract_lets | (simp +zetaDelta [pending_quiet, mem_quiet, applied_quiet, cycles_quiet, thermal_quiet, *]; done) | split)) | (have hx : x.2.quiet.thermal = s.quiet.thermal := by unfold x; (repeat' first | assumption | (simp [pending_quiet, mem_quiet, applied_quiet, cycles_quiet, thermal_quiet, *]; done) | refine (foldl_thermal (fun _ _ => ?_) _ _).trans ?_ | refine (foldl_thermal_snd (fun _ _ => ?_) _ _).trans ?_ | extract_lets | (simp +zetaDelta [pending_quiet, mem_quiet, applied_quiet, cycles_quiet, thermal_quiet, *]; done) | split)) | skip); clear_value x) | refine (foldl_thermal (fun _ _ => ?_) _ _).trans ?_ | split
theorem execMrstN_wf (s : State) {t : State} : execMrstN s = .next t → Memory.wf s.quiet.mem = true → Memory.wf t.quiet.mem = true := by
  intro h hw
  unfold execMrstN at h
  injection h with h
  subst h
  repeat' first | assumption | (simp [pending_quiet, mem_quiet, applied_quiet, cycles_quiet, thermal_quiet, *]; done) | (extract_lets +onlyGivenNames x; (first | (have hx : Memory.wf x.quiet.mem = true := by unfold x; (repeat' first | assumption | (simp [pending_quiet, mem_quiet, applied_quiet, cycles_quiet, thermal_quiet, *]; done) | refine foldl_wf (fun _ _ h => ?_) _ _ ?_ | refine foldl_wf_snd (fun _ _ h => ?_) _ _ ?_ | extract_lets | (simp +zetaDelta [pending_quiet, mem_quiet, applied_quiet, cycles_quiet, thermal_quiet, *]; done) | split)) | (have hx : Memory.wf x.1.quiet.mem = true := by unfold x; (repeat' first | assumption | (simp [pending_quiet, mem_quiet, applied_quiet, cycles_quiet, thermal_quiet, *]; done) | refine foldl_wf (fun _ _ h => ?_) _ _ ?_ | refine foldl_wf_snd (fun _ _ h => ?_) _ _ ?_ | extract_lets | (simp +zetaDelta [pending_quiet, mem_quiet, applied_quiet, cycles_quiet, thermal_quiet, *]; done) | split)) | (have hx : Memory.wf x.2.quiet.mem = true := by unfold x; (repeat' first | assumption | (simp [pending_quiet, mem_quiet, applied_quiet, cycles_quiet, thermal_quiet, *]; done) | refine foldl_wf (fun _ _ h => ?_) _ _ ?_ | refine foldl_wf_snd (fun _ _ h => ?_) _ _ ?_ | extract_lets | (simp +zetaDelta [pending_quiet, mem_quiet, applied_quiet, cycles_quiet, thermal_quiet, *]; done) | split)) | skip); clear_value x) | refine foldl_wf (fun _ _ h => ?_) _ _ ?_ | split
theorem execCoreSupplyFault_pending (s : State) {t : State} : execCoreSupplyFault s = .next t → t.quiet.pending = s.quiet.pending := by
  intro h
  unfold execCoreSupplyFault at h
  injection h with h
  subst h
  repeat' first | assumption | (simp [pending_quiet, mem_quiet, applied_quiet, cycles_quiet, thermal_quiet, *]; done) | (extract_lets +onlyGivenNames x; (first | (have hx : x.quiet.pending = s.quiet.pending := by unfold x; (repeat' first | assumption | (simp [pending_quiet, mem_quiet, applied_quiet, cycles_quiet, thermal_quiet, *]; done) | refine (foldl_pending (fun _ _ => ?_) _ _).trans ?_ | refine (foldl_pending_snd (fun _ _ => ?_) _ _).trans ?_ | extract_lets | (simp +zetaDelta [pending_quiet, mem_quiet, applied_quiet, cycles_quiet, thermal_quiet, *]; done) | split)) | (have hx : x.1.quiet.pending = s.quiet.pending := by unfold x; (repeat' first | assumption | (simp [pending_quiet, mem_quiet, applied_quiet, cycles_quiet, thermal_quiet, *]; done) | refine (foldl_pending (fun _ _ => ?_) _ _).trans ?_ | refine (foldl_pending_snd (fun _ _ => ?_) _ _).trans ?_ | extract_lets | (simp +zetaDelta [pending_quiet, mem_quiet, applied_quiet, cycles_quiet, thermal_quiet, *]; done) | split)) | (have hx : x.2.quiet.pending = s.quiet.pending := by unfold x; (repeat' first | assumption | (simp [pending_quiet, mem_quiet, applied_quiet, cycles_quiet, thermal_quiet, *]; done) | refine (foldl_pending (fun _ _ => ?_) _ _).trans ?_ | refine (foldl_pending_snd (fun _ _ => ?_) _ _).trans ?_ | extract_lets | (simp +zetaDelta [pending_quiet, mem_quiet, applied_quiet, cycles_quiet, thermal_quiet, *]; done) | split)) | skip); clear_value x) | refine (foldl_pending (fun _ _ => ?_) _ _).trans ?_ | split
theorem execCoreSupplyFault_applied (s : State) {t : State} : execCoreSupplyFault s = .next t → t.quiet.applied = s.quiet.applied := by
  intro h
  unfold execCoreSupplyFault at h
  injection h with h
  subst h
  repeat' first | assumption | (simp [pending_quiet, mem_quiet, applied_quiet, cycles_quiet, thermal_quiet, *]; done) | (extract_lets +onlyGivenNames x; (first | (have hx : x.quiet.applied = s.quiet.applied := by unfold x; (repeat' first | assumption | (simp [pending_quiet, mem_quiet, applied_quiet, cycles_quiet, thermal_quiet, *]; done) | refine (foldl_applied (fun _ _ => ?_) _ _).trans ?_ | refine (foldl_applied_snd (fun _ _ => ?_) _ _).trans ?_ | extract_lets | (simp +zetaDelta [pending_quiet, mem_quiet, applied_quiet, cycles_quiet, thermal_quiet, *]; done) | split)) | (have hx : x.1.quiet.applied = s.quiet.applied := by unfold x; (repeat' first | assumption | (simp [pending_quiet, mem_quiet, applied_quiet, cycles_quiet, thermal_quiet, *]; done) | refine (foldl_applied (fun _ _ => ?_) _ _).trans ?_ | refine (foldl_applied_snd (fun _ _ => ?_) _ _).trans ?_ | extract_lets | (simp +zetaDelta [pending_quiet, mem_quiet, applied_quiet, cycles_quiet, thermal_quiet, *]; done) | split)) | (have hx : x.2.quiet.applied = s.quiet.applied := by unfold x; (repeat' first | assumption | (simp [pending_quiet, mem_quiet, applied_quiet, cycles_quiet, thermal_quiet, *]; done) | refine (foldl_applied (fun _ _ => ?_) _ _).trans ?_ | refine (foldl_applied_snd (fun _ _ => ?_) _ _).trans ?_ | extract_lets | (simp +zetaDelta [pending_quiet, mem_quiet, applied_quiet, cycles_quiet, thermal_quiet, *]; done) | split)) | skip); clear_value x) | refine (foldl_applied (fun _ _ => ?_) _ _).trans ?_ | split
theorem execCoreSupplyFault_powerCycles (s : State) {t : State} : execCoreSupplyFault s = .next t → t.quiet.powerCycles = s.quiet.powerCycles := by
  intro h
  unfold execCoreSupplyFault at h
  injection h with h
  subst h
  repeat' first | assumption | (simp [pending_quiet, mem_quiet, applied_quiet, cycles_quiet, thermal_quiet, *]; done) | (extract_lets +onlyGivenNames x; (first | (have hx : x.quiet.powerCycles = s.quiet.powerCycles := by unfold x; (repeat' first | assumption | (simp [pending_quiet, mem_quiet, applied_quiet, cycles_quiet, thermal_quiet, *]; done) | refine (foldl_powerCycles (fun _ _ => ?_) _ _).trans ?_ | refine (foldl_powerCycles_snd (fun _ _ => ?_) _ _).trans ?_ | extract_lets | (simp +zetaDelta [pending_quiet, mem_quiet, applied_quiet, cycles_quiet, thermal_quiet, *]; done) | split)) | (have hx : x.1.quiet.powerCycles = s.quiet.powerCycles := by unfold x; (repeat' first | assumption | (simp [pending_quiet, mem_quiet, applied_quiet, cycles_quiet, thermal_quiet, *]; done) | refine (foldl_powerCycles (fun _ _ => ?_) _ _).trans ?_ | refine (foldl_powerCycles_snd (fun _ _ => ?_) _ _).trans ?_ | extract_lets | (simp +zetaDelta [pending_quiet, mem_quiet, applied_quiet, cycles_quiet, thermal_quiet, *]; done) | split)) | (have hx : x.2.quiet.powerCycles = s.quiet.powerCycles := by unfold x; (repeat' first | assumption | (simp [pending_quiet, mem_quiet, applied_quiet, cycles_quiet, thermal_quiet, *]; done) | refine (foldl_powerCycles (fun _ _ => ?_) _ _).trans ?_ | refine (foldl_powerCycles_snd (fun _ _ => ?_) _ _).trans ?_ | extract_lets | (simp +zetaDelta [pending_quiet, mem_quiet, applied_quiet, cycles_quiet, thermal_quiet, *]; done) | split)) | skip); clear_value x) | refine (foldl_powerCycles (fun _ _ => ?_) _ _).trans ?_ | split
theorem execCoreSupplyFault_thermal (s : State) {t : State} : execCoreSupplyFault s = .next t → t.quiet.thermal = s.quiet.thermal := by
  intro h
  unfold execCoreSupplyFault at h
  injection h with h
  subst h
  repeat' first | assumption | (simp [pending_quiet, mem_quiet, applied_quiet, cycles_quiet, thermal_quiet, *]; done) | (extract_lets +onlyGivenNames x; (first | (have hx : x.quiet.thermal = s.quiet.thermal := by unfold x; (repeat' first | assumption | (simp [pending_quiet, mem_quiet, applied_quiet, cycles_quiet, thermal_quiet, *]; done) | refine (foldl_thermal (fun _ _ => ?_) _ _).trans ?_ | refine (foldl_thermal_snd (fun _ _ => ?_) _ _).trans ?_ | extract_lets | (simp +zetaDelta [pending_quiet, mem_quiet, applied_quiet, cycles_quiet, thermal_quiet, *]; done) | split)) | (have hx : x.1.quiet.thermal = s.quiet.thermal := by unfold x; (repeat' first | assumption | (simp [pending_quiet, mem_quiet, applied_quiet, cycles_quiet, thermal_quiet, *]; done) | refine (foldl_thermal (fun _ _ => ?_) _ _).trans ?_ | refine (foldl_thermal_snd (fun _ _ => ?_) _ _).trans ?_ | extract_lets | (simp +zetaDelta [pending_quiet, mem_quiet, applied_quiet, cycles_quiet, thermal_quiet, *]; done) | split)) | (have hx : x.2.quiet.thermal = s.quiet.thermal := by unfold x; (repeat' first | assumption | (simp [pending_quiet, mem_quiet, applied_quiet, cycles_quiet, thermal_quiet, *]; done) | refine (foldl_thermal (fun _ _ => ?_) _ _).trans ?_ | refine (foldl_thermal_snd (fun _ _ => ?_) _ _).trans ?_ | extract_lets | (simp +zetaDelta [pending_quiet, mem_quiet, applied_quiet, cycles_quiet, thermal_quiet, *]; done) | split)) | skip); clear_value x) | refine (foldl_thermal (fun _ _ => ?_) _ _).trans ?_ | split
theorem execCoreSupplyFault_wf (s : State) {t : State} : execCoreSupplyFault s = .next t → Memory.wf s.quiet.mem = true → Memory.wf t.quiet.mem = true := by
  intro h hw
  unfold execCoreSupplyFault at h
  injection h with h
  subst h
  repeat' first | assumption | (simp [pending_quiet, mem_quiet, applied_quiet, cycles_quiet, thermal_quiet, *]; done) | (extract_lets +onlyGivenNames x; (first | (have hx : Memory.wf x.quiet.mem = true := by unfold x; (repeat' first | assumption | (simp [pending_quiet, mem_quiet, applied_quiet, cycles_quiet, thermal_quiet, *]; done) | refine foldl_wf (fun _ _ h => ?_) _ _ ?_ | refine foldl_wf_snd (fun _ _ h => ?_) _ _ ?_ | extract_lets | (simp +zetaDelta [pending_quiet, mem_quiet, applied_quiet, cycles_quiet, thermal_quiet, *]; done) | split)) | (have hx : Memory.wf x.1.quiet.mem = true := by unfold x; (repeat' first | assumption | (simp [pending_quiet, mem_quiet, applied_quiet, cycles_quiet, thermal_quiet, *]; done) | refine foldl_wf (fun _ _ h => ?_) _ _ ?_ | refine foldl_wf_snd (fun _ _ h => ?_) _ _ ?_ | extract_lets | (simp +zetaDelta [pending_quiet, mem_quiet, applied_quiet, cycles_quiet, thermal_quiet, *]; done) | split)) | (have hx : Memory.wf x.2.quiet.mem = true := by unfold x; (repeat' first | assumption | (simp [pending_quiet, mem_quiet, applied_quiet, cycles_quiet, thermal_quiet, *]; done) | refine foldl_wf (fun _ _ h => ?_) _ _ ?_ | refine foldl_wf_snd (fun _ _ h => ?_) _ _ ?_ | extract_lets | (simp +zetaDelta [pending_quiet, mem_quiet, applied_quiet, cycles_quiet, thermal_quiet, *]; done) | split)) | skip); clear_value x) | refine foldl_wf (fun _ _ h => ?_) _ _ ?_ | split
theorem execFatalFault_pending (s : State) {t : State} : execFatalFault s = .next t → t.quiet.pending = s.quiet.pending := by
  intro h
  unfold execFatalFault at h
  injection h with h
  subst h
  repeat' first | assumption | (simp [pending_quiet, mem_quiet, applied_quiet, cycles_quiet, thermal_quiet, *]; done) | (extract_lets +onlyGivenNames x; (first | (have hx : x.quiet.pending = s.quiet.pending := by unfold x; (repeat' first | assumption | (simp [pending_quiet, mem_quiet, applied_quiet, cycles_quiet, thermal_quiet, *]; done) | refine (foldl_pending (fun _ _ => ?_) _ _).trans ?_ | refine (foldl_pending_snd (fun _ _ => ?_) _ _).trans ?_ | extract_lets | (simp +zetaDelta [pending_quiet, mem_quiet, applied_quiet, cycles_quiet, thermal_quiet, *]; done) | split)) | (have hx : x.1.quiet.pending = s.quiet.pending := by unfold x; (repeat' first | assumption | (simp [pending_quiet, mem_quiet, applied_quiet, cycles_quiet, thermal_quiet, *]; done) | refine (foldl_pending (fun _ _ => ?_) _ _).trans ?_ | refine (foldl_pending_snd (fun _ _ => ?_) _ _).trans ?_ | extract_lets | (simp +zetaDelta [pending_quiet, mem_quiet, applied_quiet, cycles_quiet, thermal_quiet, *]; done) | split)) | (have hx : x.2.quiet.pending = s.quiet.pending := by unfold x; (repeat' first | assumption | (simp [pending_quiet, mem_quiet, applied_quiet, cycles_quiet, thermal_quiet, *]; done) | refine (foldl_pending (fun _ _ => ?_) _ _).trans ?_ | refine (foldl_pending_snd (fun _ _ => ?_) _ _).trans ?_ | extract_lets | (simp +zetaDelta [pending_quiet, mem_quiet, applied_quiet, cycles_quiet, thermal_quiet, *]; done) | split)) | skip); clear_value x) | refine (foldl_pending (fun _ _ => ?_) _ _).trans ?_ | split
theorem execFatalFault_applied (s : State) {t : State} : execFatalFault s = .next t → t.quiet.applied = s.quiet.applied := by
  intro h
  unfold execFatalFault at h
  injection h with h
  subst h
  repeat' first | assumption | (simp [pending_quiet, mem_quiet, applied_quiet, cycles_quiet, thermal_quiet, *]; done) | (extract_lets +onlyGivenNames x; (first | (have hx : x.quiet.applied = s.quiet.applied := by unfold x; (repeat' first | assumption | (simp [pending_quiet, mem_quiet, applied_quiet, cycles_quiet, thermal_quiet, *]; done) | refine (foldl_applied (fun _ _ => ?_) _ _).trans ?_ | refine (foldl_applied_snd (fun _ _ => ?_) _ _).trans ?_ | extract_lets | (simp +zetaDelta [pending_quiet, mem_quiet, applied_quiet, cycles_quiet, thermal_quiet, *]; done) | split)) | (have hx : x.1.quiet.applied = s.quiet.applied := by unfold x; (repeat' first | assumption | (simp [pending_quiet, mem_quiet, applied_quiet, cycles_quiet, thermal_quiet, *]; done) | refine (foldl_applied (fun _ _ => ?_) _ _).trans ?_ | refine (foldl_applied_snd (fun _ _ => ?_) _ _).trans ?_ | extract_lets | (simp +zetaDelta [pending_quiet, mem_quiet, applied_quiet, cycles_quiet, thermal_quiet, *]; done) | split)) | (have hx : x.2.quiet.applied = s.quiet.applied := by unfold x; (repeat' first | assumption | (simp [pending_quiet, mem_quiet, applied_quiet, cycles_quiet, thermal_quiet, *]; done) | refine (foldl_applied (fun _ _ => ?_) _ _).trans ?_ | refine (foldl_applied_snd (fun _ _ => ?_) _ _).trans ?_ | extract_lets | (simp +zetaDelta [pending_quiet, mem_quiet, applied_quiet, cycles_quiet, thermal_quiet, *]; done) | split)) | skip); clear_value x) | refine (foldl_applied (fun _ _ => ?_) _ _).trans ?_ | split
theorem execFatalFault_powerCycles (s : State) {t : State} : execFatalFault s = .next t → t.quiet.powerCycles = s.quiet.powerCycles := by
  intro h
  unfold execFatalFault at h
  injection h with h
  subst h
  repeat' first | assumption | (simp [pending_quiet, mem_quiet, applied_quiet, cycles_quiet, thermal_quiet, *]; done) | (extract_lets +onlyGivenNames x; (first | (have hx : x.quiet.powerCycles = s.quiet.powerCycles := by unfold x; (repeat' first | assumption | (simp [pending_quiet, mem_quiet, applied_quiet, cycles_quiet, thermal_quiet, *]; done) | refine (foldl_powerCycles (fun _ _ => ?_) _ _).trans ?_ | refine (foldl_powerCycles_snd (fun _ _ => ?_) _ _).trans ?_ | extract_lets | (simp +zetaDelta [pending_quiet, mem_quiet, applied_quiet, cycles_quiet, thermal_quiet, *]; done) | split)) | (have hx : x.1.quiet.powerCycles = s.quiet.powerCycles := by unfold x; (repeat' first | assumption | (simp [pending_quiet, mem_quiet, applied_quiet, cycles_quiet, thermal_quiet, *]; done) | refine (foldl_powerCycles (fun _ _ => ?_) _ _).trans ?_ | refine (foldl_powerCycles_snd (fun _ _ => ?_) _ _).trans ?_ | extract_lets | (simp +zetaDelta [pending_quiet, mem_quiet, applied_quiet, cycles_quiet, thermal_quiet, *]; done) | split)) | (have hx : x.2.quiet.powerCycles = s.quiet.powerCycles := by unfold x; (repeat' first | assumption | (simp [pending_quiet, mem_quiet, applied_quiet, cycles_quiet, thermal_quiet, *]; done) | refine (foldl_powerCycles (fun _ _ => ?_) _ _).trans ?_ | refine (foldl_powerCycles_snd (fun _ _ => ?_) _ _).trans ?_ | extract_lets | (simp +zetaDelta [pending_quiet, mem_quiet, applied_quiet, cycles_quiet, thermal_quiet, *]; done) | split)) | skip); clear_value x) | refine (foldl_powerCycles (fun _ _ => ?_) _ _).trans ?_ | split
theorem execFatalFault_thermal (s : State) {t : State} : execFatalFault s = .next t → t.quiet.thermal = s.quiet.thermal := by
  intro h
  unfold execFatalFault at h
  injection h with h
  subst h
  repeat' first | assumption | (simp [pending_quiet, mem_quiet, applied_quiet, cycles_quiet, thermal_quiet, *]; done) | (extract_lets +onlyGivenNames x; (first | (have hx : x.quiet.thermal = s.quiet.thermal := by unfold x; (repeat' first | assumption | (simp [pending_quiet, mem_quiet, applied_quiet, cycles_quiet, thermal_quiet, *]; done) | refine (foldl_thermal (fun _ _ => ?_) _ _).trans ?_ | refine (foldl_thermal_snd (fun _ _ => ?_) _ _).trans ?_ | extract_lets | (simp +zetaDelta [pending_quiet, mem_quiet, applied_quiet, cycles_quiet, thermal_quiet, *]; done) | split)) | (have hx : x.1.quiet.thermal = s.quiet.thermal := by unfold x; (repeat' first | assumption | (simp [pending_quiet, mem_quiet, applied_quiet, cycles_quiet, thermal_quiet, *]; done) | refine (foldl_thermal (fun _ _ => ?_) _ _).trans ?_ | refine (foldl_thermal_snd (fun _ _ => ?_) _ _).trans ?_ | extract_lets | (simp +zetaDelta [pending_quiet, mem_quiet, applied_quiet, cycles_quiet, thermal_quiet, *]; done) | split)) | (have hx : x.2.quiet.thermal = s.quiet.thermal := by unfold x; (repeat' first | assumption | (simp [pending_quiet, mem_quiet, applied_quiet, cycles_quiet, thermal_quiet, *]; done) | refine (foldl_thermal (fun _ _ => ?_) _ _).trans ?_ | refine (foldl_thermal_snd (fun _ _ => ?_) _ _).trans ?_ | extract_lets | (simp +zetaDelta [pending_quiet, mem_quiet, applied_quiet, cycles_quiet, thermal_quiet, *]; done) | split)) | skip); clear_value x) | refine (foldl_thermal (fun _ _ => ?_) _ _).trans ?_ | split
theorem execFatalFault_wf (s : State) {t : State} : execFatalFault s = .next t → Memory.wf s.quiet.mem = true → Memory.wf t.quiet.mem = true := by
  intro h hw
  unfold execFatalFault at h
  injection h with h
  subst h
  repeat' first | assumption | (simp [pending_quiet, mem_quiet, applied_quiet, cycles_quiet, thermal_quiet, *]; done) | (extract_lets +onlyGivenNames x; (first | (have hx : Memory.wf x.quiet.mem = true := by unfold x; (repeat' first | assumption | (simp [pending_quiet, mem_quiet, applied_quiet, cycles_quiet, thermal_quiet, *]; done) | refine foldl_wf (fun _ _ h => ?_) _ _ ?_ | refine foldl_wf_snd (fun _ _ h => ?_) _ _ ?_ | extract_lets | (simp +zetaDelta [pending_quiet, mem_quiet, applied_quiet, cycles_quiet, thermal_quiet, *]; done) | split)) | (have hx : Memory.wf x.1.quiet.mem = true := by unfold x; (repeat' first | assumption | (simp [pending_quiet, mem_quiet, applied_quiet, cycles_quiet, thermal_quiet, *]; done) | refine foldl_wf (fun _ _ h => ?_) _ _ ?_ | refine foldl_wf_snd (fun _ _ h => ?_) _ _ ?_ | extract_lets | (simp +zetaDelta [pending_quiet, mem_quiet, applied_quiet, cycles_quiet, thermal_quiet, *]; done) | split)) | (have hx : Memory.wf x.2.quiet.mem = true := by unfold x; (repeat' first | assumption | (simp [pending_quiet, mem_quiet, applied_quiet, cycles_quiet, thermal_quiet, *]; done) | refine foldl_wf (fun _ _ h => ?_) _ _ ?_ | refine foldl_wf_snd (fun _ _ h => ?_) _ _ ?_ | extract_lets | (simp +zetaDelta [pending_quiet, mem_quiet, applied_quiet, cycles_quiet, thermal_quiet, *]; done) | split)) | skip); clear_value x) | refine foldl_wf (fun _ _ h => ?_) _ _ ?_ | split
@[simp] theorem wakeBy_pending (w : WakeSource) (elapsed : Nat) (t : StartTests) (s : State) : (wakeBy w elapsed t s).quiet.pending = s.quiet.pending := by
  unfold wakeBy
  repeat' first | assumption | (simp [pending_quiet, mem_quiet, applied_quiet, cycles_quiet, thermal_quiet, *]; done) | (extract_lets +onlyGivenNames x; (first | (have hx : x.quiet.pending = s.quiet.pending := by unfold x; (repeat' first | assumption | (simp [pending_quiet, mem_quiet, applied_quiet, cycles_quiet, thermal_quiet, *]; done) | refine (foldl_pending (fun _ _ => ?_) _ _).trans ?_ | refine (foldl_pending_snd (fun _ _ => ?_) _ _).trans ?_ | extract_lets | (simp +zetaDelta [pending_quiet, mem_quiet, applied_quiet, cycles_quiet, thermal_quiet, *]; done) | split)) | (have hx : x.1.quiet.pending = s.quiet.pending := by unfold x; (repeat' first | assumption | (simp [pending_quiet, mem_quiet, applied_quiet, cycles_quiet, thermal_quiet, *]; done) | refine (foldl_pending (fun _ _ => ?_) _ _).trans ?_ | refine (foldl_pending_snd (fun _ _ => ?_) _ _).trans ?_ | extract_lets | (simp +zetaDelta [pending_quiet, mem_quiet, applied_quiet, cycles_quiet, thermal_quiet, *]; done) | split)) | (have hx : x.2.quiet.pending = s.quiet.pending := by unfold x; (repeat' first | assumption | (simp [pending_quiet, mem_quiet, applied_quiet, cycles_quiet, thermal_quiet, *]; done) | refine (foldl_pending (fun _ _ => ?_) _ _).trans ?_ | refine (foldl_pending_snd (fun _ _ => ?_) _ _).trans ?_ | extract_lets | (simp +zetaDelta [pending_quiet, mem_quiet, applied_quiet, cycles_quiet, thermal_quiet, *]; done) | split)) | skip); clear_value x) | refine (foldl_pending (fun _ _ => ?_) _ _).trans ?_ | split
@[simp] theorem wakeBy_wf (w : WakeSource) (elapsed : Nat) (t : StartTests) (s : State) (hw : Memory.wf s.quiet.mem = true) : Memory.wf (wakeBy w elapsed t s).quiet.mem = true := by
  unfold wakeBy
  repeat' first | assumption | (simp [pending_quiet, mem_quiet, applied_quiet, cycles_quiet, thermal_quiet, *]; done) | (extract_lets +onlyGivenNames x; (first | (have hx : Memory.wf x.quiet.mem = true := by unfold x; (repeat' first | assumption | (simp [pending_quiet, mem_quiet, applied_quiet, cycles_quiet, thermal_quiet, *]; done) | refine foldl_wf (fun _ _ h => ?_) _ _ ?_ | refine foldl_wf_snd (fun _ _ h => ?_) _ _ ?_ | extract_lets | (simp +zetaDelta [pending_quiet, mem_quiet, applied_quiet, cycles_quiet, thermal_quiet, *]; done) | split)) | (have hx : Memory.wf x.1.quiet.mem = true := by unfold x; (repeat' first | assumption | (simp [pending_quiet, mem_quiet, applied_quiet, cycles_quiet, thermal_quiet, *]; done) | refine foldl_wf (fun _ _ h => ?_) _ _ ?_ | refine foldl_wf_snd (fun _ _ h => ?_) _ _ ?_ | extract_lets | (simp +zetaDelta [pending_quiet, mem_quiet, applied_quiet, cycles_quiet, thermal_quiet, *]; done) | split)) | (have hx : Memory.wf x.2.quiet.mem = true := by unfold x; (repeat' first | assumption | (simp [pending_quiet, mem_quiet, applied_quiet, cycles_quiet, thermal_quiet, *]; done) | refine foldl_wf (fun _ _ h => ?_) _ _ ?_ | refine foldl_wf_snd (fun _ _ h => ?_) _ _ ?_ | extract_lets | (simp +zetaDelta [pending_quiet, mem_quiet, applied_quiet, cycles_quiet, thermal_quiet, *]; done) | split)) | skip); clear_value x) | refine foldl_wf (fun _ _ h => ?_) _ _ ?_ | split
@[simp] theorem wakeBy_thermal (w : WakeSource) (elapsed : Nat) (t : StartTests) (s : State) : (wakeBy w elapsed t s).quiet.thermal = s.quiet.thermal := by
  unfold wakeBy
  repeat' first | assumption | (simp [pending_quiet, mem_quiet, applied_quiet, cycles_quiet, thermal_quiet, *]; done) | (extract_lets +onlyGivenNames x; (first | (have hx : x.quiet.thermal = s.quiet.thermal := by unfold x; (repeat' first | assumption | (simp [pending_quiet, mem_quiet, applied_quiet, cycles_quiet, thermal_quiet, *]; done) | refine (foldl_thermal (fun _ _ => ?_) _ _).trans ?_ | refine (foldl_thermal_snd (fun _ _ => ?_) _ _).trans ?_ | extract_lets | (simp +zetaDelta [pending_quiet, mem_quiet, applied_quiet, cycles_quiet, thermal_quiet, *]; done) | split)) | (have hx : x.1.quiet.thermal = s.quiet.thermal := by unfold x; (repeat' first | assumption | (simp [pending_quiet, mem_quiet, applied_quiet, cycles_quiet, thermal_quiet, *]; done) | refine (foldl_thermal (fun _ _ => ?_) _ _).trans ?_ | refine (foldl_thermal_snd (fun _ _ => ?_) _ _).trans ?_ | extract_lets | (simp +zetaDelta [pending_quiet, mem_quiet, applied_quiet, cycles_quiet, thermal_quiet, *]; done) | split)) | (have hx : x.2.quiet.thermal = s.quiet.thermal := by unfold x; (repeat' first | assumption | (simp [pending_quiet, mem_quiet, applied_quiet, cycles_quiet, thermal_quiet, *]; done) | refine (foldl_thermal (fun _ _ => ?_) _ _).trans ?_ | refine (foldl_thermal_snd (fun _ _ => ?_) _ _).trans ?_ | extract_lets | (simp +zetaDelta [pending_quiet, mem_quiet, applied_quiet, cycles_quiet, thermal_quiet, *]; done) | split)) | skip); clear_value x) | refine (foldl_thermal (fun _ _ => ?_) _ _).trans ?_ | split
theorem execWakeSource_pending (source : WakeSource) (elapsed : Nat) (tests : StartTests) (s : State) {t : State} : execWakeSource source elapsed tests s = .next t → t.quiet.pending = s.quiet.pending := by
  intro h
  unfold execWakeSource at h
  injection h with h
  subst h
  repeat' first | assumption | (simp [pending_quiet, mem_quiet, applied_quiet, cycles_quiet, thermal_quiet, *]; done) | (extract_lets +onlyGivenNames x; (first | (have hx : x.quiet.pending = s.quiet.pending := by unfold x; (repeat' first | assumption | (simp [pending_quiet, mem_quiet, applied_quiet, cycles_quiet, thermal_quiet, *]; done) | refine (foldl_pending (fun _ _ => ?_) _ _).trans ?_ | refine (foldl_pending_snd (fun _ _ => ?_) _ _).trans ?_ | extract_lets | (simp +zetaDelta [pending_quiet, mem_quiet, applied_quiet, cycles_quiet, thermal_quiet, *]; done) | split)) | (have hx : x.1.quiet.pending = s.quiet.pending := by unfold x; (repeat' first | assumption | (simp [pending_quiet, mem_quiet, applied_quiet, cycles_quiet, thermal_quiet, *]; done) | refine (foldl_pending (fun _ _ => ?_) _ _).trans ?_ | refine (foldl_pending_snd (fun _ _ => ?_) _ _).trans ?_ | extract_lets | (simp +zetaDelta [pending_quiet, mem_quiet, applied_quiet, cycles_quiet, thermal_quiet, *]; done) | split)) | (have hx : x.2.quiet.pending = s.quiet.pending := by unfold x; (repeat' first | assumption | (simp [pending_quiet, mem_quiet, applied_quiet, cycles_quiet, thermal_quiet, *]; done) | refine (foldl_pending (fun _ _ => ?_) _ _).trans ?_ | refine (foldl_pending_snd (fun _ _ => ?_) _ _).trans ?_ | extract_lets | (simp +zetaDelta [pending_quiet, mem_quiet, applied_quiet, cycles_quiet, thermal_quiet, *]; done) | split)) | skip); clear_value x) | refine (foldl_pending (fun _ _ => ?_) _ _).trans ?_ | split
theorem execWakeSource_wf (source : WakeSource) (elapsed : Nat) (tests : StartTests) (s : State) {t : State} : execWakeSource source elapsed tests s = .next t → Memory.wf s.quiet.mem = true → Memory.wf t.quiet.mem = true := by
  intro h hw
  unfold execWakeSource at h
  injection h with h
  subst h
  repeat' first | assumption | (simp [pending_quiet, mem_quiet, applied_quiet, cycles_quiet, thermal_quiet, *]; done) | (extract_lets +onlyGivenNames x; (first | (have hx : Memory.wf x.quiet.mem = true := by unfold x; (repeat' first | assumption | (simp [pending_quiet, mem_quiet, applied_quiet, cycles_quiet, thermal_quiet, *]; done) | refine foldl_wf (fun _ _ h => ?_) _ _ ?_ | refine foldl_wf_snd (fun _ _ h => ?_) _ _ ?_ | extract_lets | (simp +zetaDelta [pending_quiet, mem_quiet, applied_quiet, cycles_quiet, thermal_quiet, *]; done) | split)) | (have hx : Memory.wf x.1.quiet.mem = true := by unfold x; (repeat' first | assumption | (simp [pending_quiet, mem_quiet, applied_quiet, cycles_quiet, thermal_quiet, *]; done) | refine foldl_wf (fun _ _ h => ?_) _ _ ?_ | refine foldl_wf_snd (fun _ _ h => ?_) _ _ ?_ | extract_lets | (simp +zetaDelta [pending_quiet, mem_quiet, applied_quiet, cycles_quiet, thermal_quiet, *]; done) | split)) | (have hx : Memory.wf x.2.quiet.mem = true := by unfold x; (repeat' first | assumption | (simp [pending_quiet, mem_quiet, applied_quiet, cycles_quiet, thermal_quiet, *]; done) | refine foldl_wf (fun _ _ h => ?_) _ _ ?_ | refine foldl_wf_snd (fun _ _ h => ?_) _ _ ?_ | extract_lets | (simp +zetaDelta [pending_quiet, mem_quiet, applied_quiet, cycles_quiet, thermal_quiet, *]; done) | split)) | skip); clear_value x) | refine foldl_wf (fun _ _ h => ?_) _ _ ?_ | split

theorem execWakeSource_thermal (source : WakeSource) (elapsed : Nat) (tests : StartTests) (s : State) {t : State} : execWakeSource source elapsed tests s = .next t → t.quiet.thermal = s.quiet.thermal := by
  intro h
  unfold execWakeSource at h
  injection h with h
  subst h
  repeat' first | assumption | (simp [pending_quiet, mem_quiet, applied_quiet, cycles_quiet, thermal_quiet, *]; done) | (extract_lets +onlyGivenNames x; (first | (have hx : x.quiet.thermal = s.quiet.thermal := by unfold x; (repeat' first | assumption | (simp [pending_quiet, mem_quiet, applied_quiet, cycles_quiet, thermal_quiet, *]; done) | refine (foldl_thermal (fun _ _ => ?_) _ _).trans ?_ | refine (foldl_thermal_snd (fun _ _ => ?_) _ _).trans ?_ | extract_lets | (simp +zetaDelta [pending_quiet, mem_quiet, applied_quiet, cycles_quiet, thermal_quiet, *]; done) | split)) | (have hx : x.1.quiet.thermal = s.quiet.thermal := by unfold x; (repeat' first | assumption | (simp [pending_quiet, mem_quiet, applied_quiet, cycles_quiet, thermal_quiet, *]; done) | refine (foldl_thermal (fun _ _ => ?_) _ _).trans ?_ | refine (foldl_thermal_snd (fun _ _ => ?_) _ _).trans ?_ | extract_lets | (simp +zetaDelta [pending_quiet, mem_quiet, applied_quiet, cycles_quiet, thermal_quiet, *]; done) | split)) | (have hx : x.2.quiet.thermal = s.quiet.thermal := by unfold x; (repeat' first | assumption | (simp [pending_quiet, mem_quiet, applied_quiet, cycles_quiet, thermal_quiet, *]; done) | refine (foldl_thermal (fun _ _ => ?_) _ _).trans ?_ | refine (foldl_thermal_snd (fun _ _ => ?_) _ _).trans ?_ | extract_lets | (simp +zetaDelta [pending_quiet, mem_quiet, applied_quiet, cycles_quiet, thermal_quiet, *]; done) | split)) | skip); clear_value x) | refine (foldl_thermal (fun _ _ => ?_) _ _).trans ?_ | split
theorem execRtAlarm_pending (elapsed : Nat) (tests : StartTests) (s : State) {t : State} : execRtAlarm elapsed tests s = .next t → t.quiet.pending = s.quiet.pending := by
  intro h
  unfold execRtAlarm at h
  injection h with h
  subst h
  repeat' first | assumption | (simp [pending_quiet, mem_quiet, applied_quiet, cycles_quiet, thermal_quiet, *]; done) | (extract_lets +onlyGivenNames x; (first | (have hx : x.quiet.pending = s.quiet.pending := by unfold x; (repeat' first | assumption | (simp [pending_quiet, mem_quiet, applied_quiet, cycles_quiet, thermal_quiet, *]; done) | refine (foldl_pending (fun _ _ => ?_) _ _).trans ?_ | refine (foldl_pending_snd (fun _ _ => ?_) _ _).trans ?_ | extract_lets | (simp +zetaDelta [pending_quiet, mem_quiet, applied_quiet, cycles_quiet, thermal_quiet, *]; done) | split)) | (have hx : x.1.quiet.pending = s.quiet.pending := by unfold x; (repeat' first | assumption | (simp [pending_quiet, mem_quiet, applied_quiet, cycles_quiet, thermal_quiet, *]; done) | refine (foldl_pending (fun _ _ => ?_) _ _).trans ?_ | refine (foldl_pending_snd (fun _ _ => ?_) _ _).trans ?_ | extract_lets | (simp +zetaDelta [pending_quiet, mem_quiet, applied_quiet, cycles_quiet, thermal_quiet, *]; done) | split)) | (have hx : x.2.quiet.pending = s.quiet.pending := by unfold x; (repeat' first | assumption | (simp [pending_quiet, mem_quiet, applied_quiet, cycles_quiet, thermal_quiet, *]; done) | refine (foldl_pending (fun _ _ => ?_) _ _).trans ?_ | refine (foldl_pending_snd (fun _ _ => ?_) _ _).trans ?_ | extract_lets | (simp +zetaDelta [pending_quiet, mem_quiet, applied_quiet, cycles_quiet, thermal_quiet, *]; done) | split)) | skip); clear_value x) | refine (foldl_pending (fun _ _ => ?_) _ _).trans ?_ | split
theorem execRtAlarm_wf (elapsed : Nat) (tests : StartTests) (s : State) {t : State} : execRtAlarm elapsed tests s = .next t → Memory.wf s.quiet.mem = true → Memory.wf t.quiet.mem = true := by
  intro h hw
  unfold execRtAlarm at h
  injection h with h
  subst h
  repeat' first | assumption | (simp [pending_quiet, mem_quiet, applied_quiet, cycles_quiet, thermal_quiet, *]; done) | (extract_lets +onlyGivenNames x; (first | (have hx : Memory.wf x.quiet.mem = true := by unfold x; (repeat' first | assumption | (simp [pending_quiet, mem_quiet, applied_quiet, cycles_quiet, thermal_quiet, *]; done) | refine foldl_wf (fun _ _ h => ?_) _ _ ?_ | refine foldl_wf_snd (fun _ _ h => ?_) _ _ ?_ | extract_lets | (simp +zetaDelta [pending_quiet, mem_quiet, applied_quiet, cycles_quiet, thermal_quiet, *]; done) | split)) | (have hx : Memory.wf x.1.quiet.mem = true := by unfold x; (repeat' first | assumption | (simp [pending_quiet, mem_quiet, applied_quiet, cycles_quiet, thermal_quiet, *]; done) | refine foldl_wf (fun _ _ h => ?_) _ _ ?_ | refine foldl_wf_snd (fun _ _ h => ?_) _ _ ?_ | extract_lets | (simp +zetaDelta [pending_quiet, mem_quiet, applied_quiet, cycles_quiet, thermal_quiet, *]; done) | split)) | (have hx : Memory.wf x.2.quiet.mem = true := by unfold x; (repeat' first | assumption | (simp [pending_quiet, mem_quiet, applied_quiet, cycles_quiet, thermal_quiet, *]; done) | refine foldl_wf (fun _ _ h => ?_) _ _ ?_ | refine foldl_wf_snd (fun _ _ h => ?_) _ _ ?_ | extract_lets | (simp +zetaDelta [pending_quiet, mem_quiet, applied_quiet, cycles_quiet, thermal_quiet, *]; done) | split)) | skip); clear_value x) | refine foldl_wf (fun _ _ h => ?_) _ _ ?_ | split

theorem execRtAlarm_thermal (elapsed : Nat) (tests : StartTests) (s : State) {t : State} : execRtAlarm elapsed tests s = .next t → t.quiet.thermal = s.quiet.thermal := by
  intro h
  unfold execRtAlarm at h
  injection h with h
  subst h
  repeat' first | assumption | (simp [pending_quiet, mem_quiet, applied_quiet, cycles_quiet, thermal_quiet, *]; done) | (extract_lets +onlyGivenNames x; (first | (have hx : x.quiet.thermal = s.quiet.thermal := by unfold x; (repeat' first | assumption | (simp [pending_quiet, mem_quiet, applied_quiet, cycles_quiet, thermal_quiet, *]; done) | refine (foldl_thermal (fun _ _ => ?_) _ _).trans ?_ | refine (foldl_thermal_snd (fun _ _ => ?_) _ _).trans ?_ | extract_lets | (simp +zetaDelta [pending_quiet, mem_quiet, applied_quiet, cycles_quiet, thermal_quiet, *]; done) | split)) | (have hx : x.1.quiet.thermal = s.quiet.thermal := by unfold x; (repeat' first | assumption | (simp [pending_quiet, mem_quiet, applied_quiet, cycles_quiet, thermal_quiet, *]; done) | refine (foldl_thermal (fun _ _ => ?_) _ _).trans ?_ | refine (foldl_thermal_snd (fun _ _ => ?_) _ _).trans ?_ | extract_lets | (simp +zetaDelta [pending_quiet, mem_quiet, applied_quiet, cycles_quiet, thermal_quiet, *]; done) | split)) | (have hx : x.2.quiet.thermal = s.quiet.thermal := by unfold x; (repeat' first | assumption | (simp [pending_quiet, mem_quiet, applied_quiet, cycles_quiet, thermal_quiet, *]; done) | refine (foldl_thermal (fun _ _ => ?_) _ _).trans ?_ | refine (foldl_thermal_snd (fun _ _ => ?_) _ _).trans ?_ | extract_lets | (simp +zetaDelta [pending_quiet, mem_quiet, applied_quiet, cycles_quiet, thermal_quiet, *]; done) | split)) | skip); clear_value x) | refine (foldl_thermal (fun _ _ => ?_) _ _).trans ?_ | split

/-! ### HostPort -/
@[simp] theorem beginSpi_quiet (s : State) : (beginSpi s).quiet = s.quiet := by simp [beginSpi]
@[simp] theorem storePacket_quiet (b : List Byte) (s : State) : (storePacket b s).quiet = s.quiet := by simp [storePacket]
@[simp] theorem writePacket_quiet (b : List Byte) (s : State) : (writePacket b s).quiet = s.quiet := by simp [writePacket]
theorem execPacketWrite_quiet (bytes : List Byte) (s : State) {t : State} : execPacketWrite bytes s = .next t → t.quiet = s.quiet := by
  intro h
  simp only [execPacketWrite, Host.Outcome.next.injEq] at h
  subst h
  simp; done
@[simp] theorem consumePacket_quiet (k : OutPacket) (s : State) : (consumePacket k s).quiet = s.quiet := by simp [consumePacket]
theorem execPacketRead_quiet (clocked : Nat) (s : State) {t : State} : execPacketRead clocked s = .next t → t.quiet = s.quiet := by
  intro h
  unfold execPacketRead at h
  injection h with h
  subst h
  repeat' first | (simp +zetaDelta; done) | extract_lets | split
theorem execMbxRead_quiet (offset length : Nat) (s : State) {t : State} : execMbxRead offset length s = .next t → t.quiet = s.quiet := by
  intro h
  simp only [execMbxRead, Host.Outcome.next.injEq] at h
  subst h
  simp; done
theorem execSpiUnknownInstruction_quiet (code : Byte) (s : State) {t : State} : execSpiUnknownInstruction code s = .next t → t.quiet = s.quiet := by
  intro h
  simp only [execSpiUnknownInstruction, Host.Outcome.next.injEq] at h
  subst h
  simp; done
@[simp] theorem clearIrq_quiet (data : Word) (s : State) : (clearIrq data s).quiet = s.quiet := by simp [clearIrq]
@[simp] theorem writeReg_quiet (addr : Nat) (data : Word) (s : State) : (writeReg addr data s).quiet = s.quiet := by simp [writeReg]
theorem execRegWrite_quiet (addr : Nat) (data : Word) (s : State) {t : State} : execRegWrite addr data s = .next t → t.quiet = s.quiet := by
  intro h
  simp only [execRegWrite, Host.Outcome.next.injEq] at h
  subst h
  simp; done
theorem execHpIrqPendWrite_quiet (data : Word) (s : State) {t : State} : execHpIrqPendWrite data s = .next t → t.quiet = s.quiet := by
  intro h
  simp only [execHpIrqPendWrite, Host.Outcome.next.injEq] at h
  subst h
  simp; done
@[simp] theorem shiftReg_quiet (v : Nat) (s : State) : (shiftReg v s).quiet = s.quiet := by simp [shiftReg]
theorem execHpEventRead_quiet (s : State) {t : State} : execHpEventRead s = .next t → t.quiet = s.quiet := by
  intro h
  unfold execHpEventRead at h
  injection h with h
  subst h
  repeat' first | (simp +zetaDelta; done) | extract_lets | split
theorem execHpTimeLoRead_quiet (s : State) {t : State} : execHpTimeLoRead s = .next t → t.quiet = s.quiet := by
  intro h
  simp only [execHpTimeLoRead, Host.Outcome.next.injEq] at h
  subst h
  simp; done
theorem execEventTaken_quiet (dest : CoreDest) (s : State) {t : State} : execEventTaken dest s = .next t → t.quiet = s.quiet := by
  intro h
  unfold execEventTaken at h
  injection h with h
  subst h
  repeat' first | (simp +zetaDelta; done) | extract_lets | split

/-! ### Sched -/
theorem opTable_quiet : ∀ e ∈ opTable, ∀ p h pl s, (e.2 p h pl s).quiet = s.quiet := by
  simp [opTable]
@[simp] theorem startCmd_quiet (c : Cmd) (s : State) : (startCmd c s).quiet = s.quiet := by
  unfold startCmd
  extract_lets
  repeat' first | (simp +zetaDelta; done) | split
  rename_i e h
  exact opTable_quiet e (List.mem_of_find?_eq_some h) _ _ _ _
@[simp] theorem startAt_quiet (q i : Nat) (s : State) : (startAt q i s).quiet = s.quiet := by
  unfold startAt
  repeat' first | (simp +zetaDelta; done) | extract_lets | split
@[simp] theorem startNext_quiet (s : State) : (startNext s).quiet = s.quiet := by
  unfold startNext
  repeat' first | (simp +zetaDelta; done) | extract_lets | split
@[simp] theorem startCommands_quiet (n : Nat) (s : State) : (startCommands n s).quiet = s.quiet := by
  induction n generalizing s with
  | zero => rfl
  | succ n ih => unfold startCommands; split <;> simp [ih]
@[simp] theorem drain_quiet (s : State) : (drain s).quiet = s.quiet := by
  unfold drain
  repeat' first | (simp +zetaDelta; done) | refine (foldl_quiet (fun _ _ => ?_) _ _).trans ?_ | refine (foldl_quiet_fst (fun _ _ => ?_) _ _).trans ?_ | refine (foldl_quiet_snd (fun _ _ => ?_) _ _).trans ?_ | extract_lets | split | simp +zetaDelta
theorem execCanCmdSegment_quiet (bytes : List Byte) (s : State) {t : State} : execCanCmdSegment bytes s = .next t → t.quiet = s.quiet := by
  intro h
  unfold execCanCmdSegment at h
  injection h with h
  subst h
  repeat' first | (simp +zetaDelta; done) | refine (foldl_quiet (fun _ _ => ?_) _ _).trans ?_ | refine (foldl_quiet_fst (fun _ _ => ?_) _ _).trans ?_ | refine (foldl_quiet_snd (fun _ _ => ?_) _ _).trans ?_ | extract_lets | split | simp +zetaDelta
@[simp] theorem twWrite_quiet (code arg : Nat) (s : State) : (twWrite code arg s).quiet = s.quiet := by
  unfold twWrite
  repeat' first | (simp +zetaDelta; done) | refine (foldl_quiet (fun _ _ => ?_) _ _).trans ?_ | refine (foldl_quiet_fst (fun _ _ => ?_) _ _).trans ?_ | refine (foldl_quiet_snd (fun _ _ => ?_) _ _).trans ?_ | extract_lets | split | simp +zetaDelta
theorem execNop_quiet (arg : Nat) (s : State) {t : State} : execNop arg s = .next t → t.quiet = s.quiet := by
  intro h
  unfold execNop at h
  injection h with h
  subst h
  repeat' first | (simp +zetaDelta; done) | refine (foldl_quiet (fun _ _ => ?_) _ _).trans ?_ | refine (foldl_quiet_fst (fun _ _ => ?_) _ _).trans ?_ | refine (foldl_quiet_snd (fun _ _ => ?_) _ _).trans ?_ | extract_lets | split | simp +zetaDelta
theorem execStatus_quiet (arg : Nat) (s : State) {t : State} : execStatus arg s = .next t → t.quiet = s.quiet := by
  intro h
  unfold execStatus at h
  injection h with h
  subst h
  repeat' first | (simp +zetaDelta; done) | refine (foldl_quiet (fun _ _ => ?_) _ _).trans ?_ | refine (foldl_quiet_fst (fun _ _ => ?_) _ _).trans ?_ | refine (foldl_quiet_snd (fun _ _ => ?_) _ _).trans ?_ | extract_lets | split | simp +zetaDelta
theorem execWatchLo_quiet (arg : Nat) (s : State) {t : State} : execWatchLo arg s = .next t → t.quiet = s.quiet := by
  intro h
  unfold execWatchLo at h
  injection h with h
  subst h
  repeat' first | (simp +zetaDelta; done) | refine (foldl_quiet (fun _ _ => ?_) _ _).trans ?_ | refine (foldl_quiet_fst (fun _ _ => ?_) _ _).trans ?_ | refine (foldl_quiet_snd (fun _ _ => ?_) _ _).trans ?_ | extract_lets | split | simp +zetaDelta
theorem execWatchHi_quiet (arg : Nat) (s : State) {t : State} : execWatchHi arg s = .next t → t.quiet = s.quiet := by
  intro h
  unfold execWatchHi at h
  injection h with h
  subst h
  repeat' first | (simp +zetaDelta; done) | refine (foldl_quiet (fun _ _ => ?_) _ _).trans ?_ | refine (foldl_quiet_fst (fun _ _ => ?_) _ _).trans ?_ | refine (foldl_quiet_snd (fun _ _ => ?_) _ _).trans ?_ | extract_lets | split | simp +zetaDelta
theorem execMode_quiet (arg : Nat) (s : State) {t : State} : execMode arg s = .next t → t.quiet = s.quiet := by
  intro h
  unfold execMode at h
  injection h with h
  subst h
  repeat' first | (simp +zetaDelta; done) | refine (foldl_quiet (fun _ _ => ?_) _ _).trans ?_ | refine (foldl_quiet_fst (fun _ _ => ?_) _ _).trans ?_ | refine (foldl_quiet_snd (fun _ _ => ?_) _ _).trans ?_ | extract_lets | split | simp +zetaDelta
theorem execDisconnect_quiet (arg : Nat) (s : State) {t : State} : execDisconnect arg s = .next t → t.quiet = s.quiet := by
  intro h
  unfold execDisconnect at h
  injection h with h
  subst h
  repeat' first | (simp +zetaDelta; done) | refine (foldl_quiet (fun _ _ => ?_) _ _).trans ?_ | refine (foldl_quiet_fst (fun _ _ => ?_) _ _).trans ?_ | refine (foldl_quiet_snd (fun _ _ => ?_) _ _).trans ?_ | extract_lets | split | simp +zetaDelta
theorem execTwReservedCode_quiet (code arg : Nat) (s : State) {t : State} : execTwReservedCode code arg s = .next t → t.quiet = s.quiet := by
  intro h
  unfold execTwReservedCode at h
  injection h with h
  subst h
  repeat' first | (simp +zetaDelta; done) | refine (foldl_quiet (fun _ _ => ?_) _ _).trans ?_ | refine (foldl_quiet_fst (fun _ _ => ?_) _ _).trans ?_ | refine (foldl_quiet_snd (fun _ _ => ?_) _ _).trans ?_ | extract_lets | split | simp +zetaDelta
@[simp] theorem beginHibernate_quiet (by' : Requester) (s : State) : (beginHibernate by' s).quiet = s.quiet := by simp [beginHibernate]
@[simp] theorem settleMode_quiet (m : ModeRequest) (s : State) : (settleMode m s).quiet = s.quiet := by simp [settleMode]
@[simp] theorem settleModes_quiet (l : List ModeRequest) (s : State) : (settleModes l s).quiet = s.quiet := by
  induction l generalizing s with
  | nil => unfold settleModes; simp
  | cons m l ih => unfold settleModes; split <;> simp [ih]
@[simp] theorem showTw_quiet (s : State) : (showTw s).quiet = s.quiet := by simp [showTw]
@[simp] theorem noSaddlePoint_quiet (s : State) : (noSaddlePoint s).quiet = s.quiet := by simp [noSaddlePoint]
@[simp] theorem journalDue_quiet (s : State) : (journalDue s).quiet = s.quiet := by simp [journalDue]
@[simp] theorem restingRings_quiet (s : State) : (restingRings s).quiet = s.quiet := by simp [restingRings]
@[simp] theorem boundaryRoles_quiet (before : Nat) (s : State) : (boundaryRoles before s).quiet = s.quiet := by simp [boundaryRoles]
theorem execQuiesceMark_quiet (running : List Engine) (s : State) {t : State} : execQuiesceMark running s = .next t → t.quiet = s.quiet := by
  intro h
  simp only [execQuiesceMark, Host.Outcome.next.injEq] at h
  subst h
  simp; done
theorem execWorkUnitComplete_quiet (engine : Engine) (s : State) {t : State} : execWorkUnitComplete engine s = .next t → t.quiet = s.quiet := by
  intro h
  simp only [execWorkUnitComplete, Host.Outcome.next.injEq] at h
  subst h
  simp; done
@[simp] theorem endHibernate_pending (s : State) : (endHibernate s).quiet.pending = s.quiet.pending := by
  unfold endHibernate
  repeat' first | assumption | (simp [pending_quiet, mem_quiet, applied_quiet, cycles_quiet, thermal_quiet, *]; done) | (extract_lets +onlyGivenNames x; (first | (have hx : x.quiet.pending = s.quiet.pending := by unfold x; (repeat' first | assumption | (simp [pending_quiet, mem_quiet, applied_quiet, cycles_quiet, thermal_quiet, *]; done) | refine (foldl_pending (fun _ _ => ?_) _ _).trans ?_ | refine (foldl_pending_snd (fun _ _ => ?_) _ _).trans ?_ | extract_lets | (simp +zetaDelta [pending_quiet, mem_quiet, applied_quiet, cycles_quiet, thermal_quiet, *]; done) | split)) | (have hx : x.1.quiet.pending = s.quiet.pending := by unfold x; (repeat' first | assumption | (simp [pending_quiet, mem_quiet, applied_quiet, cycles_quiet, thermal_quiet, *]; done) | refine (foldl_pending (fun _ _ => ?_) _ _).trans ?_ | refine (foldl_pending_snd (fun _ _ => ?_) _ _).trans ?_ | extract_lets | (simp +zetaDelta [pending_quiet, mem_quiet, applied_quiet, cycles_quiet, thermal_quiet, *]; done) | split)) | (have hx : x.2.quiet.pending = s.quiet.pending := by unfold x; (repeat' first | assumption | (simp [pending_quiet, mem_quiet, applied_quiet, cycles_quiet, thermal_quiet, *]; done) | refine (foldl_pending (fun _ _ => ?_) _ _).trans ?_ | refine (foldl_pending_snd (fun _ _ => ?_) _ _).trans ?_ | extract_lets | (simp +zetaDelta [pending_quiet, mem_quiet, applied_quiet, cycles_quiet, thermal_quiet, *]; done) | split)) | skip); clear_value x) | refine (foldl_pending (fun _ _ => ?_) _ _).trans ?_ | split
@[simp] theorem endHibernate_applied (s : State) : (endHibernate s).quiet.applied = s.quiet.applied := by
  unfold endHibernate
  repeat' first | assumption | (simp [pending_quiet, mem_quiet, applied_quiet, cycles_quiet, thermal_quiet, *]; done) | (extract_lets +onlyGivenNames x; (first | (have hx : x.quiet.applied = s.quiet.applied := by unfold x; (repeat' first | assumption | (simp [pending_quiet, mem_quiet, applied_quiet, cycles_quiet, thermal_quiet, *]; done) | refine (foldl_applied (fun _ _ => ?_) _ _).trans ?_ | refine (foldl_applied_snd (fun _ _ => ?_) _ _).trans ?_ | extract_lets | (simp +zetaDelta [pending_quiet, mem_quiet, applied_quiet, cycles_quiet, thermal_quiet, *]; done) | split)) | (have hx : x.1.quiet.applied = s.quiet.applied := by unfold x; (repeat' first | assumption | (simp [pending_quiet, mem_quiet, applied_quiet, cycles_quiet, thermal_quiet, *]; done) | refine (foldl_applied (fun _ _ => ?_) _ _).trans ?_ | refine (foldl_applied_snd (fun _ _ => ?_) _ _).trans ?_ | extract_lets | (simp +zetaDelta [pending_quiet, mem_quiet, applied_quiet, cycles_quiet, thermal_quiet, *]; done) | split)) | (have hx : x.2.quiet.applied = s.quiet.applied := by unfold x; (repeat' first | assumption | (simp [pending_quiet, mem_quiet, applied_quiet, cycles_quiet, thermal_quiet, *]; done) | refine (foldl_applied (fun _ _ => ?_) _ _).trans ?_ | refine (foldl_applied_snd (fun _ _ => ?_) _ _).trans ?_ | extract_lets | (simp +zetaDelta [pending_quiet, mem_quiet, applied_quiet, cycles_quiet, thermal_quiet, *]; done) | split)) | skip); clear_value x) | refine (foldl_applied (fun _ _ => ?_) _ _).trans ?_ | split
@[simp] theorem endHibernate_powerCycles (s : State) : (endHibernate s).quiet.powerCycles = s.quiet.powerCycles := by
  unfold endHibernate
  repeat' first | assumption | (simp [pending_quiet, mem_quiet, applied_quiet, cycles_quiet, thermal_quiet, *]; done) | (extract_lets +onlyGivenNames x; (first | (have hx : x.quiet.powerCycles = s.quiet.powerCycles := by unfold x; (repeat' first | assumption | (simp [pending_quiet, mem_quiet, applied_quiet, cycles_quiet, thermal_quiet, *]; done) | refine (foldl_powerCycles (fun _ _ => ?_) _ _).trans ?_ | refine (foldl_powerCycles_snd (fun _ _ => ?_) _ _).trans ?_ | extract_lets | (simp +zetaDelta [pending_quiet, mem_quiet, applied_quiet, cycles_quiet, thermal_quiet, *]; done) | split)) | (have hx : x.1.quiet.powerCycles = s.quiet.powerCycles := by unfold x; (repeat' first | assumption | (simp [pending_quiet, mem_quiet, applied_quiet, cycles_quiet, thermal_quiet, *]; done) | refine (foldl_powerCycles (fun _ _ => ?_) _ _).trans ?_ | refine (foldl_powerCycles_snd (fun _ _ => ?_) _ _).trans ?_ | extract_lets | (simp +zetaDelta [pending_quiet, mem_quiet, applied_quiet, cycles_quiet, thermal_quiet, *]; done) | split)) | (have hx : x.2.quiet.powerCycles = s.quiet.powerCycles := by unfold x; (repeat' first | assumption | (simp [pending_quiet, mem_quiet, applied_quiet, cycles_quiet, thermal_quiet, *]; done) | refine (foldl_powerCycles (fun _ _ => ?_) _ _).trans ?_ | refine (foldl_powerCycles_snd (fun _ _ => ?_) _ _).trans ?_ | extract_lets | (simp +zetaDelta [pending_quiet, mem_quiet, applied_quiet, cycles_quiet, thermal_quiet, *]; done) | split)) | skip); clear_value x) | refine (foldl_powerCycles (fun _ _ => ?_) _ _).trans ?_ | split
@[simp] theorem endHibernate_thermal (s : State) : (endHibernate s).quiet.thermal = s.quiet.thermal := by
  unfold endHibernate
  repeat' first | assumption | (simp [pending_quiet, mem_quiet, applied_quiet, cycles_quiet, thermal_quiet, *]; done) | (extract_lets +onlyGivenNames x; (first | (have hx : x.quiet.thermal = s.quiet.thermal := by unfold x; (repeat' first | assumption | (simp [pending_quiet, mem_quiet, applied_quiet, cycles_quiet, thermal_quiet, *]; done) | refine (foldl_thermal (fun _ _ => ?_) _ _).trans ?_ | refine (foldl_thermal_snd (fun _ _ => ?_) _ _).trans ?_ | extract_lets | (simp +zetaDelta [pending_quiet, mem_quiet, applied_quiet, cycles_quiet, thermal_quiet, *]; done) | split)) | (have hx : x.1.quiet.thermal = s.quiet.thermal := by unfold x; (repeat' first | assumption | (simp [pending_quiet, mem_quiet, applied_quiet, cycles_quiet, thermal_quiet, *]; done) | refine (foldl_thermal (fun _ _ => ?_) _ _).trans ?_ | refine (foldl_thermal_snd (fun _ _ => ?_) _ _).trans ?_ | extract_lets | (simp +zetaDelta [pending_quiet, mem_quiet, applied_quiet, cycles_quiet, thermal_quiet, *]; done) | split)) | (have hx : x.2.quiet.thermal = s.quiet.thermal := by unfold x; (repeat' first | assumption | (simp [pending_quiet, mem_quiet, applied_quiet, cycles_quiet, thermal_quiet, *]; done) | refine (foldl_thermal (fun _ _ => ?_) _ _).trans ?_ | refine (foldl_thermal_snd (fun _ _ => ?_) _ _).trans ?_ | extract_lets | (simp +zetaDelta [pending_quiet, mem_quiet, applied_quiet, cycles_quiet, thermal_quiet, *]; done) | split)) | skip); clear_value x) | refine (foldl_thermal (fun _ _ => ?_) _ _).trans ?_ | split
@[simp] theorem endHibernate_wf (s : State) (hw : Memory.wf s.quiet.mem = true) : Memory.wf (endHibernate s).quiet.mem = true := by
  unfold endHibernate
  repeat' first | assumption | (simp [pending_quiet, mem_quiet, applied_quiet, cycles_quiet, thermal_quiet, *]; done) | (extract_lets +onlyGivenNames x; (first | (have hx : Memory.wf x.quiet.mem = true := by unfold x; (repeat' first | assumption | (simp [pending_quiet, mem_quiet, applied_quiet, cycles_quiet, thermal_quiet, *]; done) | refine foldl_wf (fun _ _ h => ?_) _ _ ?_ | refine foldl_wf_snd (fun _ _ h => ?_) _ _ ?_ | extract_lets | (simp +zetaDelta [pending_quiet, mem_quiet, applied_quiet, cycles_quiet, thermal_quiet, *]; done) | split)) | (have hx : Memory.wf x.1.quiet.mem = true := by unfold x; (repeat' first | assumption | (simp [pending_quiet, mem_quiet, applied_quiet, cycles_quiet, thermal_quiet, *]; done) | refine foldl_wf (fun _ _ h => ?_) _ _ ?_ | refine foldl_wf_snd (fun _ _ h => ?_) _ _ ?_ | extract_lets | (simp +zetaDelta [pending_quiet, mem_quiet, applied_quiet, cycles_quiet, thermal_quiet, *]; done) | split)) | (have hx : Memory.wf x.2.quiet.mem = true := by unfold x; (repeat' first | assumption | (simp [pending_quiet, mem_quiet, applied_quiet, cycles_quiet, thermal_quiet, *]; done) | refine foldl_wf (fun _ _ h => ?_) _ _ ?_ | refine foldl_wf_snd (fun _ _ h => ?_) _ _ ?_ | extract_lets | (simp +zetaDelta [pending_quiet, mem_quiet, applied_quiet, cycles_quiet, thermal_quiet, *]; done) | split)) | skip); clear_value x) | refine foldl_wf (fun _ _ h => ?_) _ _ ?_ | split
@[simp] theorem settleHibernate_pending (s : State) : (settleHibernate s).quiet.pending = s.quiet.pending := by
  unfold settleHibernate; split <;> simp
@[simp] theorem settleHibernate_applied (s : State) : (settleHibernate s).quiet.applied = s.quiet.applied := by
  unfold settleHibernate; split <;> simp
@[simp] theorem settleHibernate_powerCycles (s : State) : (settleHibernate s).quiet.powerCycles = s.quiet.powerCycles := by
  unfold settleHibernate; split <;> simp
@[simp] theorem settleHibernate_thermal (s : State) : (settleHibernate s).quiet.thermal = s.quiet.thermal := by
  unfold settleHibernate; split <;> simp
@[simp] theorem settleHibernate_wf (s : State) (hw : Memory.wf s.quiet.mem = true) : Memory.wf (settleHibernate s).quiet.mem = true := by
  unfold settleHibernate; split <;> simp [hw]
@[simp] theorem saddlePoint_pending (s : State) : (saddlePoint s).quiet.pending = s.quiet.pending := by
  unfold saddlePoint
  repeat' first | assumption | (simp [pending_quiet, mem_quiet, applied_quiet, cycles_quiet, thermal_quiet, *]; done) | (extract_lets +onlyGivenNames x; (first | (have hx : x.quiet.pending = s.quiet.pending := by unfold x; (repeat' first | assumption | (simp [pending_quiet, mem_quiet, applied_quiet, cycles_quiet, thermal_quiet, *]; done) | refine (foldl_pending (fun _ _ => ?_) _ _).trans ?_ | refine (foldl_pending_snd (fun _ _ => ?_) _ _).trans ?_ | extract_lets | (simp +zetaDelta [pending_quiet, mem_quiet, applied_quiet, cycles_quiet, thermal_quiet, *]; done) | split)) | (have hx : x.1.quiet.pending = s.quiet.pending := by unfold x; (repeat' first | assumption | (simp [pending_quiet, mem_quiet, applied_quiet, cycles_quiet, thermal_quiet, *]; done) | refine (foldl_pending (fun _ _ => ?_) _ _).trans ?_ | refine (foldl_pending_snd (fun _ _ => ?_) _ _).trans ?_ | extract_lets | (simp +zetaDelta [pending_quiet, mem_quiet, applied_quiet, cycles_quiet, thermal_quiet, *]; done) | split)) | (have hx : x.2.quiet.pending = s.quiet.pending := by unfold x; (repeat' first | assumption | (simp [pending_quiet, mem_quiet, applied_quiet, cycles_quiet, thermal_quiet, *]; done) | refine (foldl_pending (fun _ _ => ?_) _ _).trans ?_ | refine (foldl_pending_snd (fun _ _ => ?_) _ _).trans ?_ | extract_lets | (simp +zetaDelta [pending_quiet, mem_quiet, applied_quiet, cycles_quiet, thermal_quiet, *]; done) | split)) | skip); clear_value x) | refine (foldl_pending (fun _ _ => ?_) _ _).trans ?_ | split
@[simp] theorem saddlePoint_wf (s : State) (hw : Memory.wf s.quiet.mem = true) : Memory.wf (saddlePoint s).quiet.mem = true := by
  unfold saddlePoint
  repeat' first | assumption | (simp [pending_quiet, mem_quiet, applied_quiet, cycles_quiet, thermal_quiet, *]; done) | (extract_lets +onlyGivenNames x; (first | (have hx : Memory.wf x.quiet.mem = true := by unfold x; (repeat' first | assumption | (simp [pending_quiet, mem_quiet, applied_quiet, cycles_quiet, thermal_quiet, *]; done) | refine foldl_wf (fun _ _ h => ?_) _ _ ?_ | refine foldl_wf_snd (fun _ _ h => ?_) _ _ ?_ | extract_lets | (simp +zetaDelta [pending_quiet, mem_quiet, applied_quiet, cycles_quiet, thermal_quiet, *]; done) | split)) | (have hx : Memory.wf x.1.quiet.mem = true := by unfold x; (repeat' first | assumption | (simp [pending_quiet, mem_quiet, applied_quiet, cycles_quiet, thermal_quiet, *]; done) | refine foldl_wf (fun _ _ h => ?_) _ _ ?_ | refine foldl_wf_snd (fun _ _ h => ?_) _ _ ?_ | extract_lets | (simp +zetaDelta [pending_quiet, mem_quiet, applied_quiet, cycles_quiet, thermal_quiet, *]; done) | split)) | (have hx : Memory.wf x.2.quiet.mem = true := by unfold x; (repeat' first | assumption | (simp [pending_quiet, mem_quiet, applied_quiet, cycles_quiet, thermal_quiet, *]; done) | refine foldl_wf (fun _ _ h => ?_) _ _ ?_ | refine foldl_wf_snd (fun _ _ h => ?_) _ _ ?_ | extract_lets | (simp +zetaDelta [pending_quiet, mem_quiet, applied_quiet, cycles_quiet, thermal_quiet, *]; done) | split)) | skip); clear_value x) | refine foldl_wf (fun _ _ h => ?_) _ _ ?_ | split
@[simp] theorem saddlePoint_powerCycles (s : State) : (saddlePoint s).quiet.powerCycles = s.quiet.powerCycles := by
  unfold saddlePoint
  repeat' first | assumption | (simp [pending_quiet, mem_quiet, applied_quiet, cycles_quiet, thermal_quiet, *]; done) | (extract_lets +onlyGivenNames x; (first | (have hx : x.quiet.powerCycles = s.quiet.powerCycles := by unfold x; (repeat' first | assumption | (simp [pending_quiet, mem_quiet, applied_quiet, cycles_quiet, thermal_quiet, *]; done) | refine (foldl_powerCycles (fun _ _ => ?_) _ _).trans ?_ | refine (foldl_powerCycles_snd (fun _ _ => ?_) _ _).trans ?_ | extract_lets | (simp +zetaDelta [pending_quiet, mem_quiet, applied_quiet, cycles_quiet, thermal_quiet, *]; done) | split)) | (have hx : x.1.quiet.powerCycles = s.quiet.powerCycles := by unfold x; (repeat' first | assumption | (simp [pending_quiet, mem_quiet, applied_quiet, cycles_quiet, thermal_quiet, *]; done) | refine (foldl_powerCycles (fun _ _ => ?_) _ _).trans ?_ | refine (foldl_powerCycles_snd (fun _ _ => ?_) _ _).trans ?_ | extract_lets | (simp +zetaDelta [pending_quiet, mem_quiet, applied_quiet, cycles_quiet, thermal_quiet, *]; done) | split)) | (have hx : x.2.quiet.powerCycles = s.quiet.powerCycles := by unfold x; (repeat' first | assumption | (simp [pending_quiet, mem_quiet, applied_quiet, cycles_quiet, thermal_quiet, *]; done) | refine (foldl_powerCycles (fun _ _ => ?_) _ _).trans ?_ | refine (foldl_powerCycles_snd (fun _ _ => ?_) _ _).trans ?_ | extract_lets | (simp +zetaDelta [pending_quiet, mem_quiet, applied_quiet, cycles_quiet, thermal_quiet, *]; done) | split)) | skip); clear_value x) | refine (foldl_powerCycles (fun _ _ => ?_) _ _).trans ?_ | split
@[simp] theorem saddlePoint_thermal (s : State) : (saddlePoint s).quiet.thermal = s.quiet.thermal := by
  unfold saddlePoint
  repeat' first | assumption | (simp [pending_quiet, mem_quiet, applied_quiet, cycles_quiet, thermal_quiet, *]; done) | (extract_lets +onlyGivenNames x; (first | (have hx : x.quiet.thermal = s.quiet.thermal := by unfold x; (repeat' first | assumption | (simp [pending_quiet, mem_quiet, applied_quiet, cycles_quiet, thermal_quiet, *]; done) | refine (foldl_thermal (fun _ _ => ?_) _ _).trans ?_ | refine (foldl_thermal_snd (fun _ _ => ?_) _ _).trans ?_ | extract_lets | (simp +zetaDelta [pending_quiet, mem_quiet, applied_quiet, cycles_quiet, thermal_quiet, *]; done) | split)) | (have hx : x.1.quiet.thermal = s.quiet.thermal := by unfold x; (repeat' first | assumption | (simp [pending_quiet, mem_quiet, applied_quiet, cycles_quiet, thermal_quiet, *]; done) | refine (foldl_thermal (fun _ _ => ?_) _ _).trans ?_ | refine (foldl_thermal_snd (fun _ _ => ?_) _ _).trans ?_ | extract_lets | (simp +zetaDelta [pending_quiet, mem_quiet, applied_quiet, cycles_quiet, thermal_quiet, *]; done) | split)) | (have hx : x.2.quiet.thermal = s.quiet.thermal := by unfold x; (repeat' first | assumption | (simp [pending_quiet, mem_quiet, applied_quiet, cycles_quiet, thermal_quiet, *]; done) | refine (foldl_thermal (fun _ _ => ?_) _ _).trans ?_ | refine (foldl_thermal_snd (fun _ _ => ?_) _ _).trans ?_ | extract_lets | (simp +zetaDelta [pending_quiet, mem_quiet, applied_quiet, cycles_quiet, thermal_quiet, *]; done) | split)) | skip); clear_value x) | refine (foldl_thermal (fun _ _ => ?_) _ _).trans ?_ | split
@[simp] theorem beginFrame_pending (before starts : Nat) (s : State) : (beginFrame before starts s).quiet.pending = s.quiet.pending := by
  unfold beginFrame
  extract_lets p x y z u a b w
  have hx : x.quiet.pending = s.quiet.pending := by simp [x, pending_quiet, cycles_quiet]
  have hy : y.quiet.pending = s.quiet.pending := by simp only [y]; split <;> simp [hx]
  split
  · exact hy
  have hb : b.quiet = z.quiet := rfl
  simp [w, hb, z, hy]
@[simp] theorem beginFrame_wf (before starts : Nat) (s : State) (hw : Memory.wf s.quiet.mem = true) : Memory.wf (beginFrame before starts s).quiet.mem = true := by
  unfold beginFrame
  extract_lets p x y z u a b w
  have hx : Memory.wf x.quiet.mem = true := by simpa [x, mem_quiet] using hw
  have hy : Memory.wf y.quiet.mem = true := by
    simp only [y]; split
    · exact saddlePoint_wf _ hx
    · simpa using hx
  split
  · exact hy
  have hb : b.quiet = z.quiet := rfl
  simpa [w, hb, z] using hy
@[simp] theorem beginFrame_powerCycles (before starts : Nat) (s : State) : (beginFrame before starts s).quiet.powerCycles = s.quiet.powerCycles := by
  unfold beginFrame
  extract_lets p x y z u a b w
  have hx : x.quiet.powerCycles = s.quiet.powerCycles := by simp [x, pending_quiet, cycles_quiet]
  have hy : y.quiet.powerCycles = s.quiet.powerCycles := by simp only [y]; split <;> simp [hx]
  split
  · exact hy
  have hb : b.quiet = z.quiet := rfl
  simp [w, hb, z, hy]
theorem execFrameBoundary_pending (starts : Nat) (s : State) {t : State} : execFrameBoundary starts s = .next t → t.quiet.pending = s.quiet.pending := by
  intro h
  unfold execFrameBoundary at h
  injection h with h
  subst h
  repeat' first | assumption | (simp [pending_quiet, mem_quiet, applied_quiet, cycles_quiet, thermal_quiet, *]; done) | (extract_lets +onlyGivenNames x; (first | (have hx : x.quiet.pending = s.quiet.pending := by unfold x; (repeat' first | assumption | (simp [pending_quiet, mem_quiet, applied_quiet, cycles_quiet, thermal_quiet, *]; done) | refine (foldl_pending (fun _ _ => ?_) _ _).trans ?_ | refine (foldl_pending_snd (fun _ _ => ?_) _ _).trans ?_ | extract_lets | (simp +zetaDelta [pending_quiet, mem_quiet, applied_quiet, cycles_quiet, thermal_quiet, *]; done) | split)) | (have hx : x.1.quiet.pending = s.quiet.pending := by unfold x; (repeat' first | assumption | (simp [pending_quiet, mem_quiet, applied_quiet, cycles_quiet, thermal_quiet, *]; done) | refine (foldl_pending (fun _ _ => ?_) _ _).trans ?_ | refine (foldl_pending_snd (fun _ _ => ?_) _ _).trans ?_ | extract_lets | (simp +zetaDelta [pending_quiet, mem_quiet, applied_quiet, cycles_quiet, thermal_quiet, *]; done) | split)) | (have hx : x.2.quiet.pending = s.quiet.pending := by unfold x; (repeat' first | assumption | (simp [pending_quiet, mem_quiet, applied_quiet, cycles_quiet, thermal_quiet, *]; done) | refine (foldl_pending (fun _ _ => ?_) _ _).trans ?_ | refine (foldl_pending_snd (fun _ _ => ?_) _ _).trans ?_ | extract_lets | (simp +zetaDelta [pending_quiet, mem_quiet, applied_quiet, cycles_quiet, thermal_quiet, *]; done) | split)) | skip); clear_value x) | refine (foldl_pending (fun _ _ => ?_) _ _).trans ?_ | split
theorem execFrameBoundary_powerCycles (starts : Nat) (s : State) {t : State} : execFrameBoundary starts s = .next t → t.quiet.powerCycles = s.quiet.powerCycles := by
  intro h
  unfold execFrameBoundary at h
  injection h with h
  subst h
  repeat' first | assumption | (simp [pending_quiet, mem_quiet, applied_quiet, cycles_quiet, thermal_quiet, *]; done) | (extract_lets +onlyGivenNames x; (first | (have hx : x.quiet.powerCycles = s.quiet.powerCycles := by unfold x; (repeat' first | assumption | (simp [pending_quiet, mem_quiet, applied_quiet, cycles_quiet, thermal_quiet, *]; done) | refine (foldl_powerCycles (fun _ _ => ?_) _ _).trans ?_ | refine (foldl_powerCycles_snd (fun _ _ => ?_) _ _).trans ?_ | extract_lets | (simp +zetaDelta [pending_quiet, mem_quiet, applied_quiet, cycles_quiet, thermal_quiet, *]; done) | split)) | (have hx : x.1.quiet.powerCycles = s.quiet.powerCycles := by unfold x; (repeat' first | assumption | (simp [pending_quiet, mem_quiet, applied_quiet, cycles_quiet, thermal_quiet, *]; done) | refine (foldl_powerCycles (fun _ _ => ?_) _ _).trans ?_ | refine (foldl_powerCycles_snd (fun _ _ => ?_) _ _).trans ?_ | extract_lets | (simp +zetaDelta [pending_quiet, mem_quiet, applied_quiet, cycles_quiet, thermal_quiet, *]; done) | split)) | (have hx : x.2.quiet.powerCycles = s.quiet.powerCycles := by unfold x; (repeat' first | assumption | (simp [pending_quiet, mem_quiet, applied_quiet, cycles_quiet, thermal_quiet, *]; done) | refine (foldl_powerCycles (fun _ _ => ?_) _ _).trans ?_ | refine (foldl_powerCycles_snd (fun _ _ => ?_) _ _).trans ?_ | extract_lets | (simp +zetaDelta [pending_quiet, mem_quiet, applied_quiet, cycles_quiet, thermal_quiet, *]; done) | split)) | skip); clear_value x) | refine (foldl_powerCycles (fun _ _ => ?_) _ _).trans ?_ | split
theorem execFrameBoundary_wf (starts : Nat) (s : State) {t : State} : execFrameBoundary starts s = .next t → Memory.wf s.quiet.mem = true → Memory.wf t.quiet.mem = true := by
  intro h hw
  unfold execFrameBoundary at h
  injection h with h
  subst h
  repeat' first | assumption | (simp [pending_quiet, mem_quiet, applied_quiet, cycles_quiet, thermal_quiet, *]; done) | (extract_lets +onlyGivenNames x; (first | (have hx : Memory.wf x.quiet.mem = true := by unfold x; (repeat' first | assumption | (simp [pending_quiet, mem_quiet, applied_quiet, cycles_quiet, thermal_quiet, *]; done) | refine foldl_wf (fun _ _ h => ?_) _ _ ?_ | refine foldl_wf_snd (fun _ _ h => ?_) _ _ ?_ | extract_lets | (simp +zetaDelta [pending_quiet, mem_quiet, applied_quiet, cycles_quiet, thermal_quiet, *]; done) | split)) | (have hx : Memory.wf x.1.quiet.mem = true := by unfold x; (repeat' first | assumption | (simp [pending_quiet, mem_quiet, applied_quiet, cycles_quiet, thermal_quiet, *]; done) | refine foldl_wf (fun _ _ h => ?_) _ _ ?_ | refine foldl_wf_snd (fun _ _ h => ?_) _ _ ?_ | extract_lets | (simp +zetaDelta [pending_quiet, mem_quiet, applied_quiet, cycles_quiet, thermal_quiet, *]; done) | split)) | (have hx : Memory.wf x.2.quiet.mem = true := by unfold x; (repeat' first | assumption | (simp [pending_quiet, mem_quiet, applied_quiet, cycles_quiet, thermal_quiet, *]; done) | refine foldl_wf (fun _ _ h => ?_) _ _ ?_ | refine foldl_wf_snd (fun _ _ h => ?_) _ _ ?_ | extract_lets | (simp +zetaDelta [pending_quiet, mem_quiet, applied_quiet, cycles_quiet, thermal_quiet, *]; done) | split)) | skip); clear_value x) | refine foldl_wf (fun _ _ h => ?_) _ _ ?_ | split

/-! ### THERMAL_LOCK once set stays set, and a power-on alone counts a power cycle. -/
@[simp] theorem thermalLock_locks (s : State) : (thermalLock s).quiet.thermal = true := by
  unfold thermalLock
  extract_lets a b x c d y z w
  have hx : x.quiet.thermal = true := rfl
  have hy : y.quiet.thermal = true := by simp only [y]; split <;> simp [hx, thermal_quiet]
  have hz : z.quiet.thermal = true := by simp [z, hy]
  have hw : w.quiet.thermal = true := by simp [w, hz]
  simp [hw]
theorem execThermalShutdown_locked {s t : State} (h : execThermalShutdown s = .next t) (hl : s.quiet.thermal = true) :
    t.quiet.thermal = true := by
  unfold execThermalShutdown at h
  injection h with h
  subst h
  split
  · exact hl
  · extract_lets a x
    split
    · exact hl
    · simp
theorem startEnds_locked (s : State) (h : s.quiet.thermal = true) : (startEnds s).quiet.thermal = true := by
  unfold startEnds
  rw [if_pos (show s.sys.lock.thermal = true from h)]
  simp [h]
theorem finishStart_locked (s : State) (h : s.quiet.thermal = true) : (finishStart s).quiet.thermal = true := by
  unfold finishStart
  extract_lets b x y z
  split
  · exact h
  have hx : x.quiet = s.quiet := foldl_quiet (fun s k => by split <;> simp) _ _
  have hy : y.quiet.thermal = true := by simp [y, modSys, thermal_quiet, hx, h]
  have hz : z.quiet.thermal = true := by simp only [z]; split <;> simp [hy]
  exact startEnds_locked _ (by simp [modSys, thermal_quiet, hz])
theorem beginFrame_locked (before starts : Nat) (s : State) (h : s.quiet.thermal = true) :
    (beginFrame before starts s).quiet.thermal = true := by
  unfold beginFrame
  extract_lets p x y z u a b w
  have hx : x.quiet.thermal = true := by simp [x, thermal_quiet, h]
  have hy : y.quiet.thermal = true := by simp only [y]; split <;> simp [hx]
  split
  · exact hy
  have hz : z.quiet.thermal = true := by simp [z, hy]
  have hb : b.quiet = z.quiet := rfl
  have hw : w.quiet.thermal = true := by
    simp only [w, restingRings_quiet, autoRun_quiet]
    exact finishStart_locked _ (by simp [hb, hz])
  simp [hw]
theorem execFrameBoundary_locked {starts : Nat} {s t : State} (h : execFrameBoundary starts s = .next t)
    (hl : s.quiet.thermal = true) : t.quiet.thermal = true := by
  unfold execFrameBoundary at h
  injection h with h
  subst h
  split
  · exact hl
  · exact beginFrame_locked _ _ _ (by simp [hl])
theorem startStep7_cycles {code : Nat} (h : code ≠ 1) (wake : Option WakeSource) (t : StartTests) (s : State) :
    (startStep7 code wake t s).1.quiet.powerCycles = s.quiet.powerCycles := by
  unfold startStep7
  extract_lets x a y b z n w v kept q u
  have hx : x.quiet.powerCycles = s.quiet.powerCycles := rfl
  have hy : y.quiet.powerCycles = s.quiet.powerCycles := rfl
  have hz : z.quiet.powerCycles = s.quiet.powerCycles := by simp only [z]; rw [if_neg h]; exact hy
  have hw : w.quiet.powerCycles = s.quiet.powerCycles := by simp [w, hz]
  have hv : v.quiet.powerCycles = s.quiet.powerCycles := by simp only [v]; split <;> simp [hw]
  have hq : q.quiet.powerCycles = s.quiet.powerCycles := by simp only [q]; split <;> simp [hv]
  have hu : u.1.quiet.powerCycles = s.quiet.powerCycles := by simp [u, hq]
  split <;> simp [hu]
theorem startCore_cycles {code : Nat} (h : code ≠ 1) (wake : Option WakeSource) (te : JournalSlot → Option Nat) (t : StartTests)
    (s : State) : (startCore code wake te t s).quiet.powerCycles = s.quiet.powerCycles := by
  unfold startCore
  extract_lets skip a b
  have ha : a.1.quiet.powerCycles = s.quiet.powerCycles := startStep7_cycles h _ _ _
  have hb : b.1.quiet.powerCycles = s.quiet.powerCycles := by simp [b, ha]
  split
  · simp [ha]
  · split
    · simp [ha]
    · split <;> simp [hb]
theorem wakeBy_cycles (w : WakeSource) (elapsed : Nat) (t : StartTests) (s : State) :
    (wakeBy w elapsed t s).quiet.powerCycles = s.quiet.powerCycles := by
  unfold wakeBy
  split
  · rfl
  · split
    · rw [startCore_cycles (by decide)]; simp
    · split <;> simp

end Sys2Proof.Machine
end

