-- ==== Sys2Proof/Laws/State.lean ====
section
/-! SUPPORT. List entries, and every named update of the state, field by field. -/
namespace Sys2Proof.Machine
open Sys2Proof

/-! ## Entries of lists -/

@[simp] theorem modAt_length {α : Type} (l : List α) (i : Nat) (f : α → α) : (modAt l i f).length = l.length := by
  induction l generalizing i with
  | nil => rfl
  | cons a l ih => cases i <;> simp [modAt, ih]

@[simp] theorem modAt_get_self {α : Type} (l : List α) (i : Nat) (f : α → α) : (modAt l i f)[i]? = l[i]?.map f := by
  induction l generalizing i with
  | nil => rfl
  | cons a l ih => cases i <;> simp [modAt, ih]

theorem modAt_get_ne {α : Type} (l : List α) {i j : Nat} (f : α → α) (h : i ≠ j) : (modAt l i f)[j]? = l[j]? := by
  induction l generalizing i j with
  | nil => rfl
  | cons a l ih =>
    cases i <;> cases j <;> simp_all [modAt]

/-- Changing an entry that is there is replacing it. -/
theorem modAt_eq_setAt {α : Type} {l : List α} {i : Nat} {a : α} (f : α → α) (h : l[i]? = some a) : modAt l i f = setAt l i (f a) := by
  induction l generalizing i with
  | nil => simp at h
  | cons b l ih =>
    cases i with
    | zero => simp_all [modAt, setAt]
    | succ i =>
      have h' : l[i]? = some a := by simpa using h
      simpa [modAt, setAt] using ih h'

/-- Changing an entry that is not there changes nothing. -/
theorem modAt_none {α : Type} {l : List α} {i : Nat} (f : α → α) (h : l[i]? = none) : modAt l i f = l := by
  induction l generalizing i with
  | nil => rfl
  | cons b l ih =>
    cases i with
    | zero => simp at h
    | succ i => simp [modAt, ih (by simpa using h)]

@[simp] theorem setAt_length {α : Type} (l : List α) (i : Nat) (a : α) : (setAt l i a).length = l.length := modAt_length l i _

theorem setAt_get_self {α : Type} {l : List α} {i : Nat} {b : α} (a : α) (h : l[i]? = some b) : (setAt l i a)[i]? = some a := by
  simp [setAt, h]

theorem setAt_get_ne {α : Type} (l : List α) {i j : Nat} (a : α) (h : i ≠ j) : (setAt l i a)[j]? = l[j]? := modAt_get_ne l _ h

/-! ## The banks' bytes -/

theorem read_write_self (m : List Host.Cell) (a : Nat) (b : Byte) (h : Memory.wf m = true) : Memory.read (Memory.write m a b) a = b := by
  suffices ∀ lo, Memory.sortedFrom lo m = true → Memory.read (Memory.write m a b) a = b from this 0 h
  clear h
  induction m with
  | nil => intro lo _; unfold Memory.write; split <;> simp_all [Memory.read]
  | cons c m ih =>
    intro lo hm
    simp only [Memory.sortedFrom, Bool.and_eq_true, decide_eq_true_eq] at hm
    have below : ∀ (l : List Host.Cell) (lo : Nat), a < lo → Memory.sortedFrom lo l = true → Memory.read l a = Memory.blank := by
      intro l
      induction l with
      | nil => intros; rfl
      | cons d l ihl =>
        intro lo hlo hl
        simp only [Memory.sortedFrom, Bool.and_eq_true, decide_eq_true_eq] at hl
        rw [Memory.read, if_neg (by omega)]
        exact ihl _ (by omega) hl.2
    unfold Memory.write
    split
    · split
      · next hb => subst hb; exact (below (c :: m) c.1 (by omega) (by simp [Memory.sortedFrom, hm])).trans rfl
      · simp [Memory.read]
    · split
      · next h1 h2 =>
        split
        · next hb => subst hb; exact below m (c.1 + 1) (by omega) hm.2
        · simp [Memory.read]
      · next h1 h2 => rw [Memory.read, if_neg (by omega)]; exact ih _ hm.2

theorem read_write_ne (m : List Host.Cell) {a a' : Nat} (b : Byte) (h : a ≠ a') :
    Memory.read (Memory.write m a b) a' = Memory.read m a' := by
  induction m with
  | nil => unfold Memory.write; split <;> simp [Memory.read, h]
  | cons c m ih =>
    unfold Memory.write
    split
    · split
      · rfl
      · simp [Memory.read, h]
    · split
      · next h1 h2 =>
        subst h2
        split
        · simp [Memory.read, h]
        · simp [Memory.read, h]
      · simp only [Memory.read, ih]

/-! ## Updates, field by field -/

@[simp] theorem State.modRing_time (s : State) (r : Nat) (f : RingState → RingState) : (s.modRing r f).time = s.time := rfl
@[simp] theorem State.modRing_pins (s : State) (r : Nat) (f : RingState → RingState) : (s.modRing r f).pins = s.pins := rfl
@[simp] theorem State.modRing_sys (s : State) (r : Nat) (f : RingState → RingState) : (s.modRing r f).sys = s.sys := rfl
@[simp] theorem State.modRing_feed (s : State) (r : Nat) (f : RingState → RingState) : (s.modRing r f).feed = s.feed := rfl
@[simp] theorem State.modRing_router (s : State) (r : Nat) (f : RingState → RingState) : (s.modRing r f).router = s.router := rfl
@[simp] theorem State.modRing_silt (s : State) (r : Nat) (f : RingState → RingState) : (s.modRing r f).silt = s.silt := rfl
@[simp] theorem State.modRing_port (s : State) (r : Nat) (f : RingState → RingState) : (s.modRing r f).port = s.port := rfl
@[simp] theorem State.modRing_param (s : State) (r : Nat) (f : RingState → RingState) : (s.modRing r f).param = s.param := rfl
@[simp] theorem State.modRing_meas (s : State) (r : Nat) (f : RingState → RingState) : (s.modRing r f).meas = s.meas := rfl
@[simp] theorem State.modRing_hv (s : State) (r : Nat) (f : RingState → RingState) : (s.modRing r f).hv = s.hv := rfl
@[simp] theorem State.modRing_bal (s : State) (r : Nat) (f : RingState → RingState) : (s.modRing r f).bal = s.bal := rfl
@[simp] theorem State.modRing_guard (s : State) (r : Nat) (f : RingState → RingState) : (s.modRing r f).guard = s.guard := rfl
@[simp] theorem State.modRing_field (s : State) (r : Nat) (f : RingState → RingState) : (s.modRing r f).field = s.field := rfl
@[simp] theorem State.modRing_est (s : State) (r : Nat) (f : RingState → RingState) : (s.modRing r f).est = s.est := rfl
@[simp] theorem State.modRing_mem (s : State) (r : Nat) (f : RingState → RingState) : (s.modRing r f).mem = s.mem := rfl
@[simp] theorem State.modRing_loop (s : State) (r : Nat) (f : RingState → RingState) : (s.modRing r f).loop = s.loop := rfl
@[simp] theorem State.modRing_thermal (s : State) (r : Nat) (f : RingState → RingState) : (s.modRing r f).thermal = s.thermal := rfl
@[simp] theorem State.modRing_can (s : State) (r : Nat) (f : RingState → RingState) : (s.modRing r f).can = s.can := rfl
@[simp] theorem State.modRing_clock (s : State) (r : Nat) (f : RingState → RingState) : (s.modRing r f).clock = s.clock := rfl
@[simp] theorem State.modRing_disp (s : State) (r : Nat) (f : RingState → RingState) : (s.modRing r f).disp = s.disp := rfl
@[simp] theorem State.modRing_tw (s : State) (r : Nat) (f : RingState → RingState) : (s.modRing r f).tw = s.tw := rfl
@[simp] theorem State.modRing_twc (s : State) (r : Nat) (f : RingState → RingState) : (s.modRing r f).twc = s.twc := rfl
@[simp] theorem State.modRing_banks (s : State) (r : Nat) (f : RingState → RingState) : (s.modRing r f).banks = s.banks := rfl
@[simp] theorem State.modRing_upd (s : State) (r : Nat) (f : RingState → RingState) : (s.modRing r f).upd = s.upd := rfl
@[simp] theorem State.modRing_ident (s : State) (r : Nat) (f : RingState → RingState) : (s.modRing r f).ident = s.ident := rfl
@[simp] theorem State.modRing_free (s : State) (r : Nat) (f : RingState → RingState) : (s.modRing r f).free = s.free := rfl
@[simp] theorem State.modRing_pending (s : State) (r : Nat) (f : RingState → RingState) : (s.modRing r f).pending = s.pending := rfl

@[simp] theorem State.modSat_time (s : State) (r n : Nat) (f : SatState → SatState) : (s.modSat r n f).time = s.time := rfl
@[simp] theorem State.modSat_pins (s : State) (r n : Nat) (f : SatState → SatState) : (s.modSat r n f).pins = s.pins := rfl
@[simp] theorem State.modSat_sys (s : State) (r n : Nat) (f : SatState → SatState) : (s.modSat r n f).sys = s.sys := rfl
@[simp] theorem State.modSat_feed (s : State) (r n : Nat) (f : SatState → SatState) : (s.modSat r n f).feed = s.feed := rfl
@[simp] theorem State.modSat_router (s : State) (r n : Nat) (f : SatState → SatState) : (s.modSat r n f).router = s.router := rfl
@[simp] theorem State.modSat_silt (s : State) (r n : Nat) (f : SatState → SatState) : (s.modSat r n f).silt = s.silt := rfl
@[simp] theorem State.modSat_port (s : State) (r n : Nat) (f : SatState → SatState) : (s.modSat r n f).port = s.port := rfl
@[simp] theorem State.modSat_param (s : State) (r n : Nat) (f : SatState → SatState) : (s.modSat r n f).param = s.param := rfl
@[simp] theorem State.modSat_meas (s : State) (r n : Nat) (f : SatState → SatState) : (s.modSat r n f).meas = s.meas := rfl
@[simp] theorem State.modSat_hv (s : State) (r n : Nat) (f : SatState → SatState) : (s.modSat r n f).hv = s.hv := rfl
@[simp] theorem State.modSat_bal (s : State) (r n : Nat) (f : SatState → SatState) : (s.modSat r n f).bal = s.bal := rfl
@[simp] theorem State.modSat_guard (s : State) (r n : Nat) (f : SatState → SatState) : (s.modSat r n f).guard = s.guard := rfl
@[simp] theorem State.modSat_field (s : State) (r n : Nat) (f : SatState → SatState) : (s.modSat r n f).field = s.field := rfl
@[simp] theorem State.modSat_est (s : State) (r n : Nat) (f : SatState → SatState) : (s.modSat r n f).est = s.est := rfl
@[simp] theorem State.modSat_mem (s : State) (r n : Nat) (f : SatState → SatState) : (s.modSat r n f).mem = s.mem := rfl
@[simp] theorem State.modSat_loop (s : State) (r n : Nat) (f : SatState → SatState) : (s.modSat r n f).loop = s.loop := rfl
@[simp] theorem State.modSat_thermal (s : State) (r n : Nat) (f : SatState → SatState) : (s.modSat r n f).thermal = s.thermal := rfl
@[simp] theorem State.modSat_can (s : State) (r n : Nat) (f : SatState → SatState) : (s.modSat r n f).can = s.can := rfl
@[simp] theorem State.modSat_clock (s : State) (r n : Nat) (f : SatState → SatState) : (s.modSat r n f).clock = s.clock := rfl
@[simp] theorem State.modSat_disp (s : State) (r n : Nat) (f : SatState → SatState) : (s.modSat r n f).disp = s.disp := rfl
@[simp] theorem State.modSat_tw (s : State) (r n : Nat) (f : SatState → SatState) : (s.modSat r n f).tw = s.tw := rfl
@[simp] theorem State.modSat_twc (s : State) (r n : Nat) (f : SatState → SatState) : (s.modSat r n f).twc = s.twc := rfl
@[simp] theorem State.modSat_banks (s : State) (r n : Nat) (f : SatState → SatState) : (s.modSat r n f).banks = s.banks := rfl
@[simp] theorem State.modSat_upd (s : State) (r n : Nat) (f : SatState → SatState) : (s.modSat r n f).upd = s.upd := rfl
@[simp] theorem State.modSat_ident (s : State) (r n : Nat) (f : SatState → SatState) : (s.modSat r n f).ident = s.ident := rfl
@[simp] theorem State.modSat_free (s : State) (r n : Nat) (f : SatState → SatState) : (s.modSat r n f).free = s.free := rfl
@[simp] theorem State.modSat_pending (s : State) (r n : Nat) (f : SatState → SatState) : (s.modSat r n f).pending = s.pending := rfl

@[simp] theorem State.modMeas_time (s : State) (k : Nat) (f : MeasState → MeasState) : (s.modMeas k f).time = s.time := rfl
@[simp] theorem State.modMeas_pins (s : State) (k : Nat) (f : MeasState → MeasState) : (s.modMeas k f).pins = s.pins := rfl
@[simp] theorem State.modMeas_sys (s : State) (k : Nat) (f : MeasState → MeasState) : (s.modMeas k f).sys = s.sys := rfl
@[simp] theorem State.modMeas_feed (s : State) (k : Nat) (f : MeasState → MeasState) : (s.modMeas k f).feed = s.feed := rfl
@[simp] theorem State.modMeas_router (s : State) (k : Nat) (f : MeasState → MeasState) : (s.modMeas k f).router = s.router := rfl
@[simp] theorem State.modMeas_silt (s : State) (k : Nat) (f : MeasState → MeasState) : (s.modMeas k f).silt = s.silt := rfl
@[simp] theorem State.modMeas_port (s : State) (k : Nat) (f : MeasState → MeasState) : (s.modMeas k f).port = s.port := rfl
@[simp] theorem State.modMeas_param (s : State) (k : Nat) (f : MeasState → MeasState) : (s.modMeas k f).param = s.param := rfl
@[simp] theorem State.modMeas_rings (s : State) (k : Nat) (f : MeasState → MeasState) : (s.modMeas k f).rings = s.rings := rfl
@[simp] theorem State.modMeas_hv (s : State) (k : Nat) (f : MeasState → MeasState) : (s.modMeas k f).hv = s.hv := rfl
@[simp] theorem State.modMeas_bal (s : State) (k : Nat) (f : MeasState → MeasState) : (s.modMeas k f).bal = s.bal := rfl
@[simp] theorem State.modMeas_guard (s : State) (k : Nat) (f : MeasState → MeasState) : (s.modMeas k f).guard = s.guard := rfl
@[simp] theorem State.modMeas_field (s : State) (k : Nat) (f : MeasState → MeasState) : (s.modMeas k f).field = s.field := rfl
@[simp] theorem State.modMeas_est (s : State) (k : Nat) (f : MeasState → MeasState) : (s.modMeas k f).est = s.est := rfl
@[simp] theorem State.modMeas_mem (s : State) (k : Nat) (f : MeasState → MeasState) : (s.modMeas k f).mem = s.mem := rfl
@[simp] theorem State.modMeas_loop (s : State) (k : Nat) (f : MeasState → MeasState) : (s.modMeas k f).loop = s.loop := rfl
@[simp] theorem State.modMeas_thermal (s : State) (k : Nat) (f : MeasState → MeasState) : (s.modMeas k f).thermal = s.thermal := rfl
@[simp] theorem State.modMeas_can (s : State) (k : Nat) (f : MeasState → MeasState) : (s.modMeas k f).can = s.can := rfl
@[simp] theorem State.modMeas_clock (s : State) (k : Nat) (f : MeasState → MeasState) : (s.modMeas k f).clock = s.clock := rfl
@[simp] theorem State.modMeas_disp (s : State) (k : Nat) (f : MeasState → MeasState) : (s.modMeas k f).disp = s.disp := rfl
@[simp] theorem State.modMeas_tw (s : State) (k : Nat) (f : MeasState → MeasState) : (s.modMeas k f).tw = s.tw := rfl
@[simp] theorem State.modMeas_twc (s : State) (k : Nat) (f : MeasState → MeasState) : (s.modMeas k f).twc = s.twc := rfl
@[simp] theorem State.modMeas_banks (s : State) (k : Nat) (f : MeasState → MeasState) : (s.modMeas k f).banks = s.banks := rfl
@[simp] theorem State.modMeas_upd (s : State) (k : Nat) (f : MeasState → MeasState) : (s.modMeas k f).upd = s.upd := rfl
@[simp] theorem State.modMeas_ident (s : State) (k : Nat) (f : MeasState → MeasState) : (s.modMeas k f).ident = s.ident := rfl
@[simp] theorem State.modMeas_free (s : State) (k : Nat) (f : MeasState → MeasState) : (s.modMeas k f).free = s.free := rfl
@[simp] theorem State.modMeas_pending (s : State) (k : Nat) (f : MeasState → MeasState) : (s.modMeas k f).pending = s.pending := rfl

@[simp] theorem State.modCell_time (s : State) (k c : Nat) (f : CellState → CellState) : (s.modCell k c f).time = s.time := rfl
@[simp] theorem State.modCell_pins (s : State) (k c : Nat) (f : CellState → CellState) : (s.modCell k c f).pins = s.pins := rfl
@[simp] theorem State.modCell_sys (s : State) (k c : Nat) (f : CellState → CellState) : (s.modCell k c f).sys = s.sys := rfl
@[simp] theorem State.modCell_feed (s : State) (k c : Nat) (f : CellState → CellState) : (s.modCell k c f).feed = s.feed := rfl
@[simp] theorem State.modCell_router (s : State) (k c : Nat) (f : CellState → CellState) : (s.modCell k c f).router = s.router := rfl
@[simp] theorem State.modCell_silt (s : State) (k c : Nat) (f : CellState → CellState) : (s.modCell k c f).silt = s.silt := rfl
@[simp] theorem State.modCell_port (s : State) (k c : Nat) (f : CellState → CellState) : (s.modCell k c f).port = s.port := rfl
@[simp] theorem State.modCell_param (s : State) (k c : Nat) (f : CellState → CellState) : (s.modCell k c f).param = s.param := rfl
@[simp] theorem State.modCell_rings (s : State) (k c : Nat) (f : CellState → CellState) : (s.modCell k c f).rings = s.rings := rfl
@[simp] theorem State.modCell_hv (s : State) (k c : Nat) (f : CellState → CellState) : (s.modCell k c f).hv = s.hv := rfl
@[simp] theorem State.modCell_bal (s : State) (k c : Nat) (f : CellState → CellState) : (s.modCell k c f).bal = s.bal := rfl
@[simp] theorem State.modCell_guard (s : State) (k c : Nat) (f : CellState → CellState) : (s.modCell k c f).guard = s.guard := rfl
@[simp] theorem State.modCell_field (s : State) (k c : Nat) (f : CellState → CellState) : (s.modCell k c f).field = s.field := rfl
@[simp] theorem State.modCell_est (s : State) (k c : Nat) (f : CellState → CellState) : (s.modCell k c f).est = s.est := rfl
@[simp] theorem State.modCell_mem (s : State) (k c : Nat) (f : CellState → CellState) : (s.modCell k c f).mem = s.mem := rfl
@[simp] theorem State.modCell_loop (s : State) (k c : Nat) (f : CellState → CellState) : (s.modCell k c f).loop = s.loop := rfl
@[simp] theorem State.modCell_thermal (s : State) (k c : Nat) (f : CellState → CellState) : (s.modCell k c f).thermal = s.thermal := rfl
@[simp] theorem State.modCell_can (s : State) (k c : Nat) (f : CellState → CellState) : (s.modCell k c f).can = s.can := rfl
@[simp] theorem State.modCell_clock (s : State) (k c : Nat) (f : CellState → CellState) : (s.modCell k c f).clock = s.clock := rfl
@[simp] theorem State.modCell_disp (s : State) (k c : Nat) (f : CellState → CellState) : (s.modCell k c f).disp = s.disp := rfl
@[simp] theorem State.modCell_tw (s : State) (k c : Nat) (f : CellState → CellState) : (s.modCell k c f).tw = s.tw := rfl
@[simp] theorem State.modCell_twc (s : State) (k c : Nat) (f : CellState → CellState) : (s.modCell k c f).twc = s.twc := rfl
@[simp] theorem State.modCell_banks (s : State) (k c : Nat) (f : CellState → CellState) : (s.modCell k c f).banks = s.banks := rfl
@[simp] theorem State.modCell_upd (s : State) (k c : Nat) (f : CellState → CellState) : (s.modCell k c f).upd = s.upd := rfl
@[simp] theorem State.modCell_ident (s : State) (k c : Nat) (f : CellState → CellState) : (s.modCell k c f).ident = s.ident := rfl
@[simp] theorem State.modCell_free (s : State) (k c : Nat) (f : CellState → CellState) : (s.modCell k c f).free = s.free := rfl
@[simp] theorem State.modCell_pending (s : State) (k c : Nat) (f : CellState → CellState) : (s.modCell k c f).pending = s.pending := rfl

@[simp] theorem State.modHv_time (s : State) (k : Nat) (f : StrandHv → StrandHv) : (s.modHv k f).time = s.time := rfl
@[simp] theorem State.modHv_pins (s : State) (k : Nat) (f : StrandHv → StrandHv) : (s.modHv k f).pins = s.pins := rfl
@[simp] theorem State.modHv_sys (s : State) (k : Nat) (f : StrandHv → StrandHv) : (s.modHv k f).sys = s.sys := rfl
@[simp] theorem State.modHv_feed (s : State) (k : Nat) (f : StrandHv → StrandHv) : (s.modHv k f).feed = s.feed := rfl
@[simp] theorem State.modHv_router (s : State) (k : Nat) (f : StrandHv → StrandHv) : (s.modHv k f).router = s.router := rfl
@[simp] theorem State.modHv_silt (s : State) (k : Nat) (f : StrandHv → StrandHv) : (s.modHv k f).silt = s.silt := rfl
@[simp] theorem State.modHv_port (s : State) (k : Nat) (f : StrandHv → StrandHv) : (s.modHv k f).port = s.port := rfl
@[simp] theorem State.modHv_param (s : State) (k : Nat) (f : StrandHv → StrandHv) : (s.modHv k f).param = s.param := rfl
@[simp] theorem State.modHv_rings (s : State) (k : Nat) (f : StrandHv → StrandHv) : (s.modHv k f).rings = s.rings := rfl
@[simp] theorem State.modHv_meas (s : State) (k : Nat) (f : StrandHv → StrandHv) : (s.modHv k f).meas = s.meas := rfl
@[simp] theorem State.modHv_bal (s : State) (k : Nat) (f : StrandHv → StrandHv) : (s.modHv k f).bal = s.bal := rfl
@[simp] theorem State.modHv_guard (s : State) (k : Nat) (f : StrandHv → StrandHv) : (s.modHv k f).guard = s.guard := rfl
@[simp] theorem State.modHv_field (s : State) (k : Nat) (f : StrandHv → StrandHv) : (s.modHv k f).field = s.field := rfl
@[simp] theorem State.modHv_est (s : State) (k : Nat) (f : StrandHv → StrandHv) : (s.modHv k f).est = s.est := rfl
@[simp] theorem State.modHv_mem (s : State) (k : Nat) (f : StrandHv → StrandHv) : (s.modHv k f).mem = s.mem := rfl
@[simp] theorem State.modHv_loop (s : State) (k : Nat) (f : StrandHv → StrandHv) : (s.modHv k f).loop = s.loop := rfl
@[simp] theorem State.modHv_thermal (s : State) (k : Nat) (f : StrandHv → StrandHv) : (s.modHv k f).thermal = s.thermal := rfl
@[simp] theorem State.modHv_can (s : State) (k : Nat) (f : StrandHv → StrandHv) : (s.modHv k f).can = s.can := rfl
@[simp] theorem State.modHv_clock (s : State) (k : Nat) (f : StrandHv → StrandHv) : (s.modHv k f).clock = s.clock := rfl
@[simp] theorem State.modHv_disp (s : State) (k : Nat) (f : StrandHv → StrandHv) : (s.modHv k f).disp = s.disp := rfl
@[simp] theorem State.modHv_tw (s : State) (k : Nat) (f : StrandHv → StrandHv) : (s.modHv k f).tw = s.tw := rfl
@[simp] theorem State.modHv_twc (s : State) (k : Nat) (f : StrandHv → StrandHv) : (s.modHv k f).twc = s.twc := rfl
@[simp] theorem State.modHv_banks (s : State) (k : Nat) (f : StrandHv → StrandHv) : (s.modHv k f).banks = s.banks := rfl
@[simp] theorem State.modHv_upd (s : State) (k : Nat) (f : StrandHv → StrandHv) : (s.modHv k f).upd = s.upd := rfl
@[simp] theorem State.modHv_ident (s : State) (k : Nat) (f : StrandHv → StrandHv) : (s.modHv k f).ident = s.ident := rfl
@[simp] theorem State.modHv_free (s : State) (k : Nat) (f : StrandHv → StrandHv) : (s.modHv k f).free = s.free := rfl
@[simp] theorem State.modHv_pending (s : State) (k : Nat) (f : StrandHv → StrandHv) : (s.modHv k f).pending = s.pending := rfl

@[simp] theorem State.modBal_time (s : State) (k : Nat) (f : BalState → BalState) : (s.modBal k f).time = s.time := rfl
@[simp] theorem State.modBal_pins (s : State) (k : Nat) (f : BalState → BalState) : (s.modBal k f).pins = s.pins := rfl
@[simp] theorem State.modBal_sys (s : State) (k : Nat) (f : BalState → BalState) : (s.modBal k f).sys = s.sys := rfl
@[simp] theorem State.modBal_feed (s : State) (k : Nat) (f : BalState → BalState) : (s.modBal k f).feed = s.feed := rfl
@[simp] theorem State.modBal_router (s : State) (k : Nat) (f : BalState → BalState) : (s.modBal k f).router = s.router := rfl
@[simp] theorem State.modBal_silt (s : State) (k : Nat) (f : BalState → BalState) : (s.modBal k f).silt = s.silt := rfl
@[simp] theorem State.modBal_port (s : State) (k : Nat) (f : BalState → BalState) : (s.modBal k f).port = s.port := rfl
@[simp] theorem State.modBal_param (s : State) (k : Nat) (f : BalState → BalState) : (s.modBal k f).param = s.param := rfl
@[simp] theorem State.modBal_rings (s : State) (k : Nat) (f : BalState → BalState) : (s.modBal k f).rings = s.rings := rfl
@[simp] theorem State.modBal_meas (s : State) (k : Nat) (f : BalState → BalState) : (s.modBal k f).meas = s.meas := rfl
@[simp] theorem State.modBal_hv (s : State) (k : Nat) (f : BalState → BalState) : (s.modBal k f).hv = s.hv := rfl
@[simp] theorem State.modBal_guard (s : State) (k : Nat) (f : BalState → BalState) : (s.modBal k f).guard = s.guard := rfl
@[simp] theorem State.modBal_field (s : State) (k : Nat) (f : BalState → BalState) : (s.modBal k f).field = s.field := rfl
@[simp] theorem State.modBal_est (s : State) (k : Nat) (f : BalState → BalState) : (s.modBal k f).est = s.est := rfl
@[simp] theorem State.modBal_mem (s : State) (k : Nat) (f : BalState → BalState) : (s.modBal k f).mem = s.mem := rfl
@[simp] theorem State.modBal_loop (s : State) (k : Nat) (f : BalState → BalState) : (s.modBal k f).loop = s.loop := rfl
@[simp] theorem State.modBal_thermal (s : State) (k : Nat) (f : BalState → BalState) : (s.modBal k f).thermal = s.thermal := rfl
@[simp] theorem State.modBal_can (s : State) (k : Nat) (f : BalState → BalState) : (s.modBal k f).can = s.can := rfl
@[simp] theorem State.modBal_clock (s : State) (k : Nat) (f : BalState → BalState) : (s.modBal k f).clock = s.clock := rfl
@[simp] theorem State.modBal_disp (s : State) (k : Nat) (f : BalState → BalState) : (s.modBal k f).disp = s.disp := rfl
@[simp] theorem State.modBal_tw (s : State) (k : Nat) (f : BalState → BalState) : (s.modBal k f).tw = s.tw := rfl
@[simp] theorem State.modBal_twc (s : State) (k : Nat) (f : BalState → BalState) : (s.modBal k f).twc = s.twc := rfl
@[simp] theorem State.modBal_banks (s : State) (k : Nat) (f : BalState → BalState) : (s.modBal k f).banks = s.banks := rfl
@[simp] theorem State.modBal_upd (s : State) (k : Nat) (f : BalState → BalState) : (s.modBal k f).upd = s.upd := rfl
@[simp] theorem State.modBal_ident (s : State) (k : Nat) (f : BalState → BalState) : (s.modBal k f).ident = s.ident := rfl
@[simp] theorem State.modBal_free (s : State) (k : Nat) (f : BalState → BalState) : (s.modBal k f).free = s.free := rfl
@[simp] theorem State.modBal_pending (s : State) (k : Nat) (f : BalState → BalState) : (s.modBal k f).pending = s.pending := rfl

@[simp] theorem State.modTrip_time (s : State) (k : Nat) (f : TripState → TripState) : (s.modTrip k f).time = s.time := rfl
@[simp] theorem State.modTrip_pins (s : State) (k : Nat) (f : TripState → TripState) : (s.modTrip k f).pins = s.pins := rfl
@[simp] theorem State.modTrip_sys (s : State) (k : Nat) (f : TripState → TripState) : (s.modTrip k f).sys = s.sys := rfl
@[simp] theorem State.modTrip_feed (s : State) (k : Nat) (f : TripState → TripState) : (s.modTrip k f).feed = s.feed := rfl
@[simp] theorem State.modTrip_router (s : State) (k : Nat) (f : TripState → TripState) : (s.modTrip k f).router = s.router := rfl
@[simp] theorem State.modTrip_silt (s : State) (k : Nat) (f : TripState → TripState) : (s.modTrip k f).silt = s.silt := rfl
@[simp] theorem State.modTrip_port (s : State) (k : Nat) (f : TripState → TripState) : (s.modTrip k f).port = s.port := rfl
@[simp] theorem State.modTrip_param (s : State) (k : Nat) (f : TripState → TripState) : (s.modTrip k f).param = s.param := rfl
@[simp] theorem State.modTrip_rings (s : State) (k : Nat) (f : TripState → TripState) : (s.modTrip k f).rings = s.rings := rfl
@[simp] theorem State.modTrip_meas (s : State) (k : Nat) (f : TripState → TripState) : (s.modTrip k f).meas = s.meas := rfl
@[simp] theorem State.modTrip_hv (s : State) (k : Nat) (f : TripState → TripState) : (s.modTrip k f).hv = s.hv := rfl
@[simp] theorem State.modTrip_bal (s : State) (k : Nat) (f : TripState → TripState) : (s.modTrip k f).bal = s.bal := rfl
@[simp] theorem State.modTrip_field (s : State) (k : Nat) (f : TripState → TripState) : (s.modTrip k f).field = s.field := rfl
@[simp] theorem State.modTrip_est (s : State) (k : Nat) (f : TripState → TripState) : (s.modTrip k f).est = s.est := rfl
@[simp] theorem State.modTrip_mem (s : State) (k : Nat) (f : TripState → TripState) : (s.modTrip k f).mem = s.mem := rfl
@[simp] theorem State.modTrip_loop (s : State) (k : Nat) (f : TripState → TripState) : (s.modTrip k f).loop = s.loop := rfl
@[simp] theorem State.modTrip_thermal (s : State) (k : Nat) (f : TripState → TripState) : (s.modTrip k f).thermal = s.thermal := rfl
@[simp] theorem State.modTrip_can (s : State) (k : Nat) (f : TripState → TripState) : (s.modTrip k f).can = s.can := rfl
@[simp] theorem State.modTrip_clock (s : State) (k : Nat) (f : TripState → TripState) : (s.modTrip k f).clock = s.clock := rfl
@[simp] theorem State.modTrip_disp (s : State) (k : Nat) (f : TripState → TripState) : (s.modTrip k f).disp = s.disp := rfl
@[simp] theorem State.modTrip_tw (s : State) (k : Nat) (f : TripState → TripState) : (s.modTrip k f).tw = s.tw := rfl
@[simp] theorem State.modTrip_twc (s : State) (k : Nat) (f : TripState → TripState) : (s.modTrip k f).twc = s.twc := rfl
@[simp] theorem State.modTrip_banks (s : State) (k : Nat) (f : TripState → TripState) : (s.modTrip k f).banks = s.banks := rfl
@[simp] theorem State.modTrip_upd (s : State) (k : Nat) (f : TripState → TripState) : (s.modTrip k f).upd = s.upd := rfl
@[simp] theorem State.modTrip_ident (s : State) (k : Nat) (f : TripState → TripState) : (s.modTrip k f).ident = s.ident := rfl
@[simp] theorem State.modTrip_free (s : State) (k : Nat) (f : TripState → TripState) : (s.modTrip k f).free = s.free := rfl
@[simp] theorem State.modTrip_pending (s : State) (k : Nat) (f : TripState → TripState) : (s.modTrip k f).pending = s.pending := rfl

@[simp] theorem State.modEst_time (s : State) (k : Nat) (f : StrandEst → StrandEst) : (s.modEst k f).time = s.time := rfl
@[simp] theorem State.modEst_pins (s : State) (k : Nat) (f : StrandEst → StrandEst) : (s.modEst k f).pins = s.pins := rfl
@[simp] theorem State.modEst_sys (s : State) (k : Nat) (f : StrandEst → StrandEst) : (s.modEst k f).sys = s.sys := rfl
@[simp] theorem State.modEst_feed (s : State) (k : Nat) (f : StrandEst → StrandEst) : (s.modEst k f).feed = s.feed := rfl
@[simp] theorem State.modEst_router (s : State) (k : Nat) (f : StrandEst → StrandEst) : (s.modEst k f).router = s.router := rfl
@[simp] theorem State.modEst_silt (s : State) (k : Nat) (f : StrandEst → StrandEst) : (s.modEst k f).silt = s.silt := rfl
@[simp] theorem State.modEst_port (s : State) (k : Nat) (f : StrandEst → StrandEst) : (s.modEst k f).port = s.port := rfl
@[simp] theorem State.modEst_param (s : State) (k : Nat) (f : StrandEst → StrandEst) : (s.modEst k f).param = s.param := rfl
@[simp] theorem State.modEst_rings (s : State) (k : Nat) (f : StrandEst → StrandEst) : (s.modEst k f).rings = s.rings := rfl
@[simp] theorem State.modEst_meas (s : State) (k : Nat) (f : StrandEst → StrandEst) : (s.modEst k f).meas = s.meas := rfl
@[simp] theorem State.modEst_hv (s : State) (k : Nat) (f : StrandEst → StrandEst) : (s.modEst k f).hv = s.hv := rfl
@[simp] theorem State.modEst_bal (s : State) (k : Nat) (f : StrandEst → StrandEst) : (s.modEst k f).bal = s.bal := rfl
@[simp] theorem State.modEst_guard (s : State) (k : Nat) (f : StrandEst → StrandEst) : (s.modEst k f).guard = s.guard := rfl
@[simp] theorem State.modEst_field (s : State) (k : Nat) (f : StrandEst → StrandEst) : (s.modEst k f).field = s.field := rfl
@[simp] theorem State.modEst_mem (s : State) (k : Nat) (f : StrandEst → StrandEst) : (s.modEst k f).mem = s.mem := rfl
@[simp] theorem State.modEst_loop (s : State) (k : Nat) (f : StrandEst → StrandEst) : (s.modEst k f).loop = s.loop := rfl
@[simp] theorem State.modEst_thermal (s : State) (k : Nat) (f : StrandEst → StrandEst) : (s.modEst k f).thermal = s.thermal := rfl
@[simp] theorem State.modEst_can (s : State) (k : Nat) (f : StrandEst → StrandEst) : (s.modEst k f).can = s.can := rfl
@[simp] theorem State.modEst_clock (s : State) (k : Nat) (f : StrandEst → StrandEst) : (s.modEst k f).clock = s.clock := rfl
@[simp] theorem State.modEst_disp (s : State) (k : Nat) (f : StrandEst → StrandEst) : (s.modEst k f).disp = s.disp := rfl
@[simp] theorem State.modEst_tw (s : State) (k : Nat) (f : StrandEst → StrandEst) : (s.modEst k f).tw = s.tw := rfl
@[simp] theorem State.modEst_twc (s : State) (k : Nat) (f : StrandEst → StrandEst) : (s.modEst k f).twc = s.twc := rfl
@[simp] theorem State.modEst_banks (s : State) (k : Nat) (f : StrandEst → StrandEst) : (s.modEst k f).banks = s.banks := rfl
@[simp] theorem State.modEst_upd (s : State) (k : Nat) (f : StrandEst → StrandEst) : (s.modEst k f).upd = s.upd := rfl
@[simp] theorem State.modEst_ident (s : State) (k : Nat) (f : StrandEst → StrandEst) : (s.modEst k f).ident = s.ident := rfl
@[simp] theorem State.modEst_free (s : State) (k : Nat) (f : StrandEst → StrandEst) : (s.modEst k f).free = s.free := rfl
@[simp] theorem State.modEst_pending (s : State) (k : Nat) (f : StrandEst → StrandEst) : (s.modEst k f).pending = s.pending := rfl

@[simp] theorem State.modCan_time (s : State) (c : Nat) (f : CanState → CanState) : (s.modCan c f).time = s.time := rfl
@[simp] theorem State.modCan_pins (s : State) (c : Nat) (f : CanState → CanState) : (s.modCan c f).pins = s.pins := rfl
@[simp] theorem State.modCan_sys (s : State) (c : Nat) (f : CanState → CanState) : (s.modCan c f).sys = s.sys := rfl
@[simp] theorem State.modCan_feed (s : State) (c : Nat) (f : CanState → CanState) : (s.modCan c f).feed = s.feed := rfl
@[simp] theorem State.modCan_router (s : State) (c : Nat) (f : CanState → CanState) : (s.modCan c f).router = s.router := rfl
@[simp] theorem State.modCan_silt (s : State) (c : Nat) (f : CanState → CanState) : (s.modCan c f).silt = s.silt := rfl
@[simp] theorem State.modCan_port (s : State) (c : Nat) (f : CanState → CanState) : (s.modCan c f).port = s.port := rfl
@[simp] theorem State.modCan_param (s : State) (c : Nat) (f : CanState → CanState) : (s.modCan c f).param = s.param := rfl
@[simp] theorem State.modCan_rings (s : State) (c : Nat) (f : CanState → CanState) : (s.modCan c f).rings = s.rings := rfl
@[simp] theorem State.modCan_meas (s : State) (c : Nat) (f : CanState → CanState) : (s.modCan c f).meas = s.meas := rfl
@[simp] theorem State.modCan_hv (s : State) (c : Nat) (f : CanState → CanState) : (s.modCan c f).hv = s.hv := rfl
@[simp] theorem State.modCan_bal (s : State) (c : Nat) (f : CanState → CanState) : (s.modCan c f).bal = s.bal := rfl
@[simp] theorem State.modCan_guard (s : State) (c : Nat) (f : CanState → CanState) : (s.modCan c f).guard = s.guard := rfl
@[simp] theorem State.modCan_field (s : State) (c : Nat) (f : CanState → CanState) : (s.modCan c f).field = s.field := rfl
@[simp] theorem State.modCan_est (s : State) (c : Nat) (f : CanState → CanState) : (s.modCan c f).est = s.est := rfl
@[simp] theorem State.modCan_mem (s : State) (c : Nat) (f : CanState → CanState) : (s.modCan c f).mem = s.mem := rfl
@[simp] theorem State.modCan_loop (s : State) (c : Nat) (f : CanState → CanState) : (s.modCan c f).loop = s.loop := rfl
@[simp] theorem State.modCan_thermal (s : State) (c : Nat) (f : CanState → CanState) : (s.modCan c f).thermal = s.thermal := rfl
@[simp] theorem State.modCan_clock (s : State) (c : Nat) (f : CanState → CanState) : (s.modCan c f).clock = s.clock := rfl
@[simp] theorem State.modCan_disp (s : State) (c : Nat) (f : CanState → CanState) : (s.modCan c f).disp = s.disp := rfl
@[simp] theorem State.modCan_tw (s : State) (c : Nat) (f : CanState → CanState) : (s.modCan c f).tw = s.tw := rfl
@[simp] theorem State.modCan_twc (s : State) (c : Nat) (f : CanState → CanState) : (s.modCan c f).twc = s.twc := rfl
@[simp] theorem State.modCan_banks (s : State) (c : Nat) (f : CanState → CanState) : (s.modCan c f).banks = s.banks := rfl
@[simp] theorem State.modCan_upd (s : State) (c : Nat) (f : CanState → CanState) : (s.modCan c f).upd = s.upd := rfl
@[simp] theorem State.modCan_ident (s : State) (c : Nat) (f : CanState → CanState) : (s.modCan c f).ident = s.ident := rfl
@[simp] theorem State.modCan_free (s : State) (c : Nat) (f : CanState → CanState) : (s.modCan c f).free = s.free := rfl
@[simp] theorem State.modCan_pending (s : State) (c : Nat) (f : CanState → CanState) : (s.modCan c f).pending = s.pending := rfl

@[simp] theorem modBank_time (s : State) (b : Nat) (f : BankState → BankState) : (modBank b f s).time = s.time := rfl
@[simp] theorem modBank_pins (s : State) (b : Nat) (f : BankState → BankState) : (modBank b f s).pins = s.pins := rfl
@[simp] theorem modBank_sys (s : State) (b : Nat) (f : BankState → BankState) : (modBank b f s).sys = s.sys := rfl
@[simp] theorem modBank_feed (s : State) (b : Nat) (f : BankState → BankState) : (modBank b f s).feed = s.feed := rfl
@[simp] theorem modBank_router (s : State) (b : Nat) (f : BankState → BankState) : (modBank b f s).router = s.router := rfl
@[simp] theorem modBank_silt (s : State) (b : Nat) (f : BankState → BankState) : (modBank b f s).silt = s.silt := rfl
@[simp] theorem modBank_port (s : State) (b : Nat) (f : BankState → BankState) : (modBank b f s).port = s.port := rfl
@[simp] theorem modBank_param (s : State) (b : Nat) (f : BankState → BankState) : (modBank b f s).param = s.param := rfl
@[simp] theorem modBank_rings (s : State) (b : Nat) (f : BankState → BankState) : (modBank b f s).rings = s.rings := rfl
@[simp] theorem modBank_meas (s : State) (b : Nat) (f : BankState → BankState) : (modBank b f s).meas = s.meas := rfl
@[simp] theorem modBank_hv (s : State) (b : Nat) (f : BankState → BankState) : (modBank b f s).hv = s.hv := rfl
@[simp] theorem modBank_bal (s : State) (b : Nat) (f : BankState → BankState) : (modBank b f s).bal = s.bal := rfl
@[simp] theorem modBank_guard (s : State) (b : Nat) (f : BankState → BankState) : (modBank b f s).guard = s.guard := rfl
@[simp] theorem modBank_field (s : State) (b : Nat) (f : BankState → BankState) : (modBank b f s).field = s.field := rfl
@[simp] theorem modBank_est (s : State) (b : Nat) (f : BankState → BankState) : (modBank b f s).est = s.est := rfl
@[simp] theorem modBank_mem (s : State) (b : Nat) (f : BankState → BankState) : (modBank b f s).mem = s.mem := rfl
@[simp] theorem modBank_loop (s : State) (b : Nat) (f : BankState → BankState) : (modBank b f s).loop = s.loop := rfl
@[simp] theorem modBank_thermal (s : State) (b : Nat) (f : BankState → BankState) : (modBank b f s).thermal = s.thermal := rfl
@[simp] theorem modBank_can (s : State) (b : Nat) (f : BankState → BankState) : (modBank b f s).can = s.can := rfl
@[simp] theorem modBank_clock (s : State) (b : Nat) (f : BankState → BankState) : (modBank b f s).clock = s.clock := rfl
@[simp] theorem modBank_disp (s : State) (b : Nat) (f : BankState → BankState) : (modBank b f s).disp = s.disp := rfl
@[simp] theorem modBank_tw (s : State) (b : Nat) (f : BankState → BankState) : (modBank b f s).tw = s.tw := rfl
@[simp] theorem modBank_twc (s : State) (b : Nat) (f : BankState → BankState) : (modBank b f s).twc = s.twc := rfl
@[simp] theorem modBank_upd (s : State) (b : Nat) (f : BankState → BankState) : (modBank b f s).upd = s.upd := rfl
@[simp] theorem modBank_ident (s : State) (b : Nat) (f : BankState → BankState) : (modBank b f s).ident = s.ident := rfl
@[simp] theorem modBank_free (s : State) (b : Nat) (f : BankState → BankState) : (modBank b f s).free = s.free := rfl
@[simp] theorem modBank_pending (s : State) (b : Nat) (f : BankState → BankState) : (modBank b f s).pending = s.pending := rfl

@[simp] theorem modDisp_time (s : State) (f : DispState → DispState) : (modDisp f s).time = s.time := rfl
@[simp] theorem modDisp_pins (s : State) (f : DispState → DispState) : (modDisp f s).pins = s.pins := rfl
@[simp] theorem modDisp_sys (s : State) (f : DispState → DispState) : (modDisp f s).sys = s.sys := rfl
@[simp] theorem modDisp_feed (s : State) (f : DispState → DispState) : (modDisp f s).feed = s.feed := rfl
@[simp] theorem modDisp_router (s : State) (f : DispState → DispState) : (modDisp f s).router = s.router := rfl
@[simp] theorem modDisp_silt (s : State) (f : DispState → DispState) : (modDisp f s).silt = s.silt := rfl
@[simp] theorem modDisp_port (s : State) (f : DispState → DispState) : (modDisp f s).port = s.port := rfl
@[simp] theorem modDisp_param (s : State) (f : DispState → DispState) : (modDisp f s).param = s.param := rfl
@[simp] theorem modDisp_rings (s : State) (f : DispState → DispState) : (modDisp f s).rings = s.rings := rfl
@[simp] theorem modDisp_meas (s : State) (f : DispState → DispState) : (modDisp f s).meas = s.meas := rfl
@[simp] theorem modDisp_hv (s : State) (f : DispState → DispState) : (modDisp f s).hv = s.hv := rfl
@[simp] theorem modDisp_bal (s : State) (f : DispState → DispState) : (modDisp f s).bal = s.bal := rfl
@[simp] theorem modDisp_guard (s : State) (f : DispState → DispState) : (modDisp f s).guard = s.guard := rfl
@[simp] theorem modDisp_field (s : State) (f : DispState → DispState) : (modDisp f s).field = s.field := rfl
@[simp] theorem modDisp_est (s : State) (f : DispState → DispState) : (modDisp f s).est = s.est := rfl
@[simp] theorem modDisp_mem (s : State) (f : DispState → DispState) : (modDisp f s).mem = s.mem := rfl
@[simp] theorem modDisp_loop (s : State) (f : DispState → DispState) : (modDisp f s).loop = s.loop := rfl
@[simp] theorem modDisp_thermal (s : State) (f : DispState → DispState) : (modDisp f s).thermal = s.thermal := rfl
@[simp] theorem modDisp_can (s : State) (f : DispState → DispState) : (modDisp f s).can = s.can := rfl
@[simp] theorem modDisp_clock (s : State) (f : DispState → DispState) : (modDisp f s).clock = s.clock := rfl
@[simp] theorem modDisp_tw (s : State) (f : DispState → DispState) : (modDisp f s).tw = s.tw := rfl
@[simp] theorem modDisp_twc (s : State) (f : DispState → DispState) : (modDisp f s).twc = s.twc := rfl
@[simp] theorem modDisp_banks (s : State) (f : DispState → DispState) : (modDisp f s).banks = s.banks := rfl
@[simp] theorem modDisp_upd (s : State) (f : DispState → DispState) : (modDisp f s).upd = s.upd := rfl
@[simp] theorem modDisp_ident (s : State) (f : DispState → DispState) : (modDisp f s).ident = s.ident := rfl
@[simp] theorem modDisp_free (s : State) (f : DispState → DispState) : (modDisp f s).free = s.free := rfl
@[simp] theorem modDisp_pending (s : State) (f : DispState → DispState) : (modDisp f s).pending = s.pending := rfl

@[simp] theorem modOut_time (s : State) (i : Nat) (f : OutputState → OutputState) : (modOut i f s).time = s.time := rfl
@[simp] theorem modOut_pins (s : State) (i : Nat) (f : OutputState → OutputState) : (modOut i f s).pins = s.pins := rfl
@[simp] theorem modOut_sys (s : State) (i : Nat) (f : OutputState → OutputState) : (modOut i f s).sys = s.sys := rfl
@[simp] theorem modOut_feed (s : State) (i : Nat) (f : OutputState → OutputState) : (modOut i f s).feed = s.feed := rfl
@[simp] theorem modOut_router (s : State) (i : Nat) (f : OutputState → OutputState) : (modOut i f s).router = s.router := rfl
@[simp] theorem modOut_silt (s : State) (i : Nat) (f : OutputState → OutputState) : (modOut i f s).silt = s.silt := rfl
@[simp] theorem modOut_port (s : State) (i : Nat) (f : OutputState → OutputState) : (modOut i f s).port = s.port := rfl
@[simp] theorem modOut_param (s : State) (i : Nat) (f : OutputState → OutputState) : (modOut i f s).param = s.param := rfl
@[simp] theorem modOut_rings (s : State) (i : Nat) (f : OutputState → OutputState) : (modOut i f s).rings = s.rings := rfl
@[simp] theorem modOut_meas (s : State) (i : Nat) (f : OutputState → OutputState) : (modOut i f s).meas = s.meas := rfl
@[simp] theorem modOut_hv (s : State) (i : Nat) (f : OutputState → OutputState) : (modOut i f s).hv = s.hv := rfl
@[simp] theorem modOut_bal (s : State) (i : Nat) (f : OutputState → OutputState) : (modOut i f s).bal = s.bal := rfl
@[simp] theorem modOut_guard (s : State) (i : Nat) (f : OutputState → OutputState) : (modOut i f s).guard = s.guard := rfl
@[simp] theorem modOut_est (s : State) (i : Nat) (f : OutputState → OutputState) : (modOut i f s).est = s.est := rfl
@[simp] theorem modOut_mem (s : State) (i : Nat) (f : OutputState → OutputState) : (modOut i f s).mem = s.mem := rfl
@[simp] theorem modOut_loop (s : State) (i : Nat) (f : OutputState → OutputState) : (modOut i f s).loop = s.loop := rfl
@[simp] theorem modOut_thermal (s : State) (i : Nat) (f : OutputState → OutputState) : (modOut i f s).thermal = s.thermal := rfl
@[simp] theorem modOut_can (s : State) (i : Nat) (f : OutputState → OutputState) : (modOut i f s).can = s.can := rfl
@[simp] theorem modOut_clock (s : State) (i : Nat) (f : OutputState → OutputState) : (modOut i f s).clock = s.clock := rfl
@[simp] theorem modOut_disp (s : State) (i : Nat) (f : OutputState → OutputState) : (modOut i f s).disp = s.disp := rfl
@[simp] theorem modOut_tw (s : State) (i : Nat) (f : OutputState → OutputState) : (modOut i f s).tw = s.tw := rfl
@[simp] theorem modOut_twc (s : State) (i : Nat) (f : OutputState → OutputState) : (modOut i f s).twc = s.twc := rfl
@[simp] theorem modOut_banks (s : State) (i : Nat) (f : OutputState → OutputState) : (modOut i f s).banks = s.banks := rfl
@[simp] theorem modOut_upd (s : State) (i : Nat) (f : OutputState → OutputState) : (modOut i f s).upd = s.upd := rfl
@[simp] theorem modOut_ident (s : State) (i : Nat) (f : OutputState → OutputState) : (modOut i f s).ident = s.ident := rfl
@[simp] theorem modOut_free (s : State) (i : Nat) (f : OutputState → OutputState) : (modOut i f s).free = s.free := rfl
@[simp] theorem modOut_pending (s : State) (i : Nat) (f : OutputState → OutputState) : (modOut i f s).pending = s.pending := rfl

@[simp] theorem modLplus_time (s : State) (x : Nat) (f : LPlus → LPlus) : (modLplus x f s).time = s.time := rfl
@[simp] theorem modLplus_pins (s : State) (x : Nat) (f : LPlus → LPlus) : (modLplus x f s).pins = s.pins := rfl
@[simp] theorem modLplus_sys (s : State) (x : Nat) (f : LPlus → LPlus) : (modLplus x f s).sys = s.sys := rfl
@[simp] theorem modLplus_feed (s : State) (x : Nat) (f : LPlus → LPlus) : (modLplus x f s).feed = s.feed := rfl
@[simp] theorem modLplus_router (s : State) (x : Nat) (f : LPlus → LPlus) : (modLplus x f s).router = s.router := rfl
@[simp] theorem modLplus_silt (s : State) (x : Nat) (f : LPlus → LPlus) : (modLplus x f s).silt = s.silt := rfl
@[simp] theorem modLplus_port (s : State) (x : Nat) (f : LPlus → LPlus) : (modLplus x f s).port = s.port := rfl
@[simp] theorem modLplus_param (s : State) (x : Nat) (f : LPlus → LPlus) : (modLplus x f s).param = s.param := rfl
@[simp] theorem modLplus_rings (s : State) (x : Nat) (f : LPlus → LPlus) : (modLplus x f s).rings = s.rings := rfl
@[simp] theorem modLplus_meas (s : State) (x : Nat) (f : LPlus → LPlus) : (modLplus x f s).meas = s.meas := rfl
@[simp] theorem modLplus_hv (s : State) (x : Nat) (f : LPlus → LPlus) : (modLplus x f s).hv = s.hv := rfl
@[simp] theorem modLplus_bal (s : State) (x : Nat) (f : LPlus → LPlus) : (modLplus x f s).bal = s.bal := rfl
@[simp] theorem modLplus_guard (s : State) (x : Nat) (f : LPlus → LPlus) : (modLplus x f s).guard = s.guard := rfl
@[simp] theorem modLplus_est (s : State) (x : Nat) (f : LPlus → LPlus) : (modLplus x f s).est = s.est := rfl
@[simp] theorem modLplus_mem (s : State) (x : Nat) (f : LPlus → LPlus) : (modLplus x f s).mem = s.mem := rfl
@[simp] theorem modLplus_loop (s : State) (x : Nat) (f : LPlus → LPlus) : (modLplus x f s).loop = s.loop := rfl
@[simp] theorem modLplus_thermal (s : State) (x : Nat) (f : LPlus → LPlus) : (modLplus x f s).thermal = s.thermal := rfl
@[simp] theorem modLplus_can (s : State) (x : Nat) (f : LPlus → LPlus) : (modLplus x f s).can = s.can := rfl
@[simp] theorem modLplus_clock (s : State) (x : Nat) (f : LPlus → LPlus) : (modLplus x f s).clock = s.clock := rfl
@[simp] theorem modLplus_disp (s : State) (x : Nat) (f : LPlus → LPlus) : (modLplus x f s).disp = s.disp := rfl
@[simp] theorem modLplus_tw (s : State) (x : Nat) (f : LPlus → LPlus) : (modLplus x f s).tw = s.tw := rfl
@[simp] theorem modLplus_twc (s : State) (x : Nat) (f : LPlus → LPlus) : (modLplus x f s).twc = s.twc := rfl
@[simp] theorem modLplus_banks (s : State) (x : Nat) (f : LPlus → LPlus) : (modLplus x f s).banks = s.banks := rfl
@[simp] theorem modLplus_upd (s : State) (x : Nat) (f : LPlus → LPlus) : (modLplus x f s).upd = s.upd := rfl
@[simp] theorem modLplus_ident (s : State) (x : Nat) (f : LPlus → LPlus) : (modLplus x f s).ident = s.ident := rfl
@[simp] theorem modLplus_free (s : State) (x : Nat) (f : LPlus → LPlus) : (modLplus x f s).free = s.free := rfl
@[simp] theorem modLplus_pending (s : State) (x : Nat) (f : LPlus → LPlus) : (modLplus x f s).pending = s.pending := rfl

@[simp] theorem modAi_time (s : State) (i : Nat) (f : AiState → AiState) : (modAi i f s).time = s.time := rfl
@[simp] theorem modAi_pins (s : State) (i : Nat) (f : AiState → AiState) : (modAi i f s).pins = s.pins := rfl
@[simp] theorem modAi_sys (s : State) (i : Nat) (f : AiState → AiState) : (modAi i f s).sys = s.sys := rfl
@[simp] theorem modAi_feed (s : State) (i : Nat) (f : AiState → AiState) : (modAi i f s).feed = s.feed := rfl
@[simp] theorem modAi_router (s : State) (i : Nat) (f : AiState → AiState) : (modAi i f s).router = s.router := rfl
@[simp] theorem modAi_silt (s : State) (i : Nat) (f : AiState → AiState) : (modAi i f s).silt = s.silt := rfl
@[simp] theorem modAi_port (s : State) (i : Nat) (f : AiState → AiState) : (modAi i f s).port = s.port := rfl
@[simp] theorem modAi_param (s : State) (i : Nat) (f : AiState → AiState) : (modAi i f s).param = s.param := rfl
@[simp] theorem modAi_rings (s : State) (i : Nat) (f : AiState → AiState) : (modAi i f s).rings = s.rings := rfl
@[simp] theorem modAi_meas (s : State) (i : Nat) (f : AiState → AiState) : (modAi i f s).meas = s.meas := rfl
@[simp] theorem modAi_hv (s : State) (i : Nat) (f : AiState → AiState) : (modAi i f s).hv = s.hv := rfl
@[simp] theorem modAi_bal (s : State) (i : Nat) (f : AiState → AiState) : (modAi i f s).bal = s.bal := rfl
@[simp] theorem modAi_guard (s : State) (i : Nat) (f : AiState → AiState) : (modAi i f s).guard = s.guard := rfl
@[simp] theorem modAi_est (s : State) (i : Nat) (f : AiState → AiState) : (modAi i f s).est = s.est := rfl
@[simp] theorem modAi_mem (s : State) (i : Nat) (f : AiState → AiState) : (modAi i f s).mem = s.mem := rfl
@[simp] theorem modAi_loop (s : State) (i : Nat) (f : AiState → AiState) : (modAi i f s).loop = s.loop := rfl
@[simp] theorem modAi_thermal (s : State) (i : Nat) (f : AiState → AiState) : (modAi i f s).thermal = s.thermal := rfl
@[simp] theorem modAi_can (s : State) (i : Nat) (f : AiState → AiState) : (modAi i f s).can = s.can := rfl
@[simp] theorem modAi_clock (s : State) (i : Nat) (f : AiState → AiState) : (modAi i f s).clock = s.clock := rfl
@[simp] theorem modAi_disp (s : State) (i : Nat) (f : AiState → AiState) : (modAi i f s).disp = s.disp := rfl
@[simp] theorem modAi_tw (s : State) (i : Nat) (f : AiState → AiState) : (modAi i f s).tw = s.tw := rfl
@[simp] theorem modAi_twc (s : State) (i : Nat) (f : AiState → AiState) : (modAi i f s).twc = s.twc := rfl
@[simp] theorem modAi_banks (s : State) (i : Nat) (f : AiState → AiState) : (modAi i f s).banks = s.banks := rfl
@[simp] theorem modAi_upd (s : State) (i : Nat) (f : AiState → AiState) : (modAi i f s).upd = s.upd := rfl
@[simp] theorem modAi_ident (s : State) (i : Nat) (f : AiState → AiState) : (modAi i f s).ident = s.ident := rfl
@[simp] theorem modAi_free (s : State) (i : Nat) (f : AiState → AiState) : (modAi i f s).free = s.free := rfl
@[simp] theorem modAi_pending (s : State) (i : Nat) (f : AiState → AiState) : (modAi i f s).pending = s.pending := rfl

@[simp] theorem modPi_time (s : State) (i : Nat) (f : PiState → PiState) : (modPi i f s).time = s.time := rfl
@[simp] theorem modPi_pins (s : State) (i : Nat) (f : PiState → PiState) : (modPi i f s).pins = s.pins := rfl
@[simp] theorem modPi_sys (s : State) (i : Nat) (f : PiState → PiState) : (modPi i f s).sys = s.sys := rfl
@[simp] theorem modPi_feed (s : State) (i : Nat) (f : PiState → PiState) : (modPi i f s).feed = s.feed := rfl
@[simp] theorem modPi_router (s : State) (i : Nat) (f : PiState → PiState) : (modPi i f s).router = s.router := rfl
@[simp] theorem modPi_silt (s : State) (i : Nat) (f : PiState → PiState) : (modPi i f s).silt = s.silt := rfl
@[simp] theorem modPi_port (s : State) (i : Nat) (f : PiState → PiState) : (modPi i f s).port = s.port := rfl
@[simp] theorem modPi_param (s : State) (i : Nat) (f : PiState → PiState) : (modPi i f s).param = s.param := rfl
@[simp] theorem modPi_rings (s : State) (i : Nat) (f : PiState → PiState) : (modPi i f s).rings = s.rings := rfl
@[simp] theorem modPi_meas (s : State) (i : Nat) (f : PiState → PiState) : (modPi i f s).meas = s.meas := rfl
@[simp] theorem modPi_hv (s : State) (i : Nat) (f : PiState → PiState) : (modPi i f s).hv = s.hv := rfl
@[simp] theorem modPi_bal (s : State) (i : Nat) (f : PiState → PiState) : (modPi i f s).bal = s.bal := rfl
@[simp] theorem modPi_guard (s : State) (i : Nat) (f : PiState → PiState) : (modPi i f s).guard = s.guard := rfl
@[simp] theorem modPi_est (s : State) (i : Nat) (f : PiState → PiState) : (modPi i f s).est = s.est := rfl
@[simp] theorem modPi_mem (s : State) (i : Nat) (f : PiState → PiState) : (modPi i f s).mem = s.mem := rfl
@[simp] theorem modPi_loop (s : State) (i : Nat) (f : PiState → PiState) : (modPi i f s).loop = s.loop := rfl
@[simp] theorem modPi_thermal (s : State) (i : Nat) (f : PiState → PiState) : (modPi i f s).thermal = s.thermal := rfl
@[simp] theorem modPi_can (s : State) (i : Nat) (f : PiState → PiState) : (modPi i f s).can = s.can := rfl
@[simp] theorem modPi_clock (s : State) (i : Nat) (f : PiState → PiState) : (modPi i f s).clock = s.clock := rfl
@[simp] theorem modPi_disp (s : State) (i : Nat) (f : PiState → PiState) : (modPi i f s).disp = s.disp := rfl
@[simp] theorem modPi_tw (s : State) (i : Nat) (f : PiState → PiState) : (modPi i f s).tw = s.tw := rfl
@[simp] theorem modPi_twc (s : State) (i : Nat) (f : PiState → PiState) : (modPi i f s).twc = s.twc := rfl
@[simp] theorem modPi_banks (s : State) (i : Nat) (f : PiState → PiState) : (modPi i f s).banks = s.banks := rfl
@[simp] theorem modPi_upd (s : State) (i : Nat) (f : PiState → PiState) : (modPi i f s).upd = s.upd := rfl
@[simp] theorem modPi_ident (s : State) (i : Nat) (f : PiState → PiState) : (modPi i f s).ident = s.ident := rfl
@[simp] theorem modPi_free (s : State) (i : Nat) (f : PiState → PiState) : (modPi i f s).free = s.free := rfl
@[simp] theorem modPi_pending (s : State) (i : Nat) (f : PiState → PiState) : (modPi i f s).pending = s.pending := rfl

@[simp] theorem modLane_time (s : State) (r n : Nat) (f : GuardLane → GuardLane) : (modLane r n f s).time = s.time := rfl
@[simp] theorem modLane_pins (s : State) (r n : Nat) (f : GuardLane → GuardLane) : (modLane r n f s).pins = s.pins := rfl
@[simp] theorem modLane_sys (s : State) (r n : Nat) (f : GuardLane → GuardLane) : (modLane r n f s).sys = s.sys := rfl
@[simp] theorem modLane_feed (s : State) (r n : Nat) (f : GuardLane → GuardLane) : (modLane r n f s).feed = s.feed := rfl
@[simp] theorem modLane_router (s : State) (r n : Nat) (f : GuardLane → GuardLane) : (modLane r n f s).router = s.router := rfl
@[simp] theorem modLane_silt (s : State) (r n : Nat) (f : GuardLane → GuardLane) : (modLane r n f s).silt = s.silt := rfl
@[simp] theorem modLane_port (s : State) (r n : Nat) (f : GuardLane → GuardLane) : (modLane r n f s).port = s.port := rfl
@[simp] theorem modLane_param (s : State) (r n : Nat) (f : GuardLane → GuardLane) : (modLane r n f s).param = s.param := rfl
@[simp] theorem modLane_rings (s : State) (r n : Nat) (f : GuardLane → GuardLane) : (modLane r n f s).rings = s.rings := rfl
@[simp] theorem modLane_meas (s : State) (r n : Nat) (f : GuardLane → GuardLane) : (modLane r n f s).meas = s.meas := rfl
@[simp] theorem modLane_hv (s : State) (r n : Nat) (f : GuardLane → GuardLane) : (modLane r n f s).hv = s.hv := rfl
@[simp] theorem modLane_bal (s : State) (r n : Nat) (f : GuardLane → GuardLane) : (modLane r n f s).bal = s.bal := rfl
@[simp] theorem modLane_field (s : State) (r n : Nat) (f : GuardLane → GuardLane) : (modLane r n f s).field = s.field := rfl
@[simp] theorem modLane_est (s : State) (r n : Nat) (f : GuardLane → GuardLane) : (modLane r n f s).est = s.est := rfl
@[simp] theorem modLane_mem (s : State) (r n : Nat) (f : GuardLane → GuardLane) : (modLane r n f s).mem = s.mem := rfl
@[simp] theorem modLane_loop (s : State) (r n : Nat) (f : GuardLane → GuardLane) : (modLane r n f s).loop = s.loop := rfl
@[simp] theorem modLane_thermal (s : State) (r n : Nat) (f : GuardLane → GuardLane) : (modLane r n f s).thermal = s.thermal := rfl
@[simp] theorem modLane_can (s : State) (r n : Nat) (f : GuardLane → GuardLane) : (modLane r n f s).can = s.can := rfl
@[simp] theorem modLane_clock (s : State) (r n : Nat) (f : GuardLane → GuardLane) : (modLane r n f s).clock = s.clock := rfl
@[simp] theorem modLane_disp (s : State) (r n : Nat) (f : GuardLane → GuardLane) : (modLane r n f s).disp = s.disp := rfl
@[simp] theorem modLane_tw (s : State) (r n : Nat) (f : GuardLane → GuardLane) : (modLane r n f s).tw = s.tw := rfl
@[simp] theorem modLane_twc (s : State) (r n : Nat) (f : GuardLane → GuardLane) : (modLane r n f s).twc = s.twc := rfl
@[simp] theorem modLane_banks (s : State) (r n : Nat) (f : GuardLane → GuardLane) : (modLane r n f s).banks = s.banks := rfl
@[simp] theorem modLane_upd (s : State) (r n : Nat) (f : GuardLane → GuardLane) : (modLane r n f s).upd = s.upd := rfl
@[simp] theorem modLane_ident (s : State) (r n : Nat) (f : GuardLane → GuardLane) : (modLane r n f s).ident = s.ident := rfl
@[simp] theorem modLane_free (s : State) (r n : Nat) (f : GuardLane → GuardLane) : (modLane r n f s).free = s.free := rfl
@[simp] theorem modLane_pending (s : State) (r n : Nat) (f : GuardLane → GuardLane) : (modLane r n f s).pending = s.pending := rfl

@[simp] theorem modWatchdog_time (s : State) (f : Watchdog → Watchdog) : (modWatchdog f s).time = s.time := rfl
@[simp] theorem modWatchdog_pins (s : State) (f : Watchdog → Watchdog) : (modWatchdog f s).pins = s.pins := rfl
@[simp] theorem modWatchdog_sys (s : State) (f : Watchdog → Watchdog) : (modWatchdog f s).sys = s.sys := rfl
@[simp] theorem modWatchdog_feed (s : State) (f : Watchdog → Watchdog) : (modWatchdog f s).feed = s.feed := rfl
@[simp] theorem modWatchdog_router (s : State) (f : Watchdog → Watchdog) : (modWatchdog f s).router = s.router := rfl
@[simp] theorem modWatchdog_silt (s : State) (f : Watchdog → Watchdog) : (modWatchdog f s).silt = s.silt := rfl
@[simp] theorem modWatchdog_port (s : State) (f : Watchdog → Watchdog) : (modWatchdog f s).port = s.port := rfl
@[simp] theorem modWatchdog_param (s : State) (f : Watchdog → Watchdog) : (modWatchdog f s).param = s.param := rfl
@[simp] theorem modWatchdog_rings (s : State) (f : Watchdog → Watchdog) : (modWatchdog f s).rings = s.rings := rfl
@[simp] theorem modWatchdog_meas (s : State) (f : Watchdog → Watchdog) : (modWatchdog f s).meas = s.meas := rfl
@[simp] theorem modWatchdog_hv (s : State) (f : Watchdog → Watchdog) : (modWatchdog f s).hv = s.hv := rfl
@[simp] theorem modWatchdog_bal (s : State) (f : Watchdog → Watchdog) : (modWatchdog f s).bal = s.bal := rfl
@[simp] theorem modWatchdog_field (s : State) (f : Watchdog → Watchdog) : (modWatchdog f s).field = s.field := rfl
@[simp] theorem modWatchdog_est (s : State) (f : Watchdog → Watchdog) : (modWatchdog f s).est = s.est := rfl
@[simp] theorem modWatchdog_mem (s : State) (f : Watchdog → Watchdog) : (modWatchdog f s).mem = s.mem := rfl
@[simp] theorem modWatchdog_loop (s : State) (f : Watchdog → Watchdog) : (modWatchdog f s).loop = s.loop := rfl
@[simp] theorem modWatchdog_thermal (s : State) (f : Watchdog → Watchdog) : (modWatchdog f s).thermal = s.thermal := rfl
@[simp] theorem modWatchdog_can (s : State) (f : Watchdog → Watchdog) : (modWatchdog f s).can = s.can := rfl
@[simp] theorem modWatchdog_clock (s : State) (f : Watchdog → Watchdog) : (modWatchdog f s).clock = s.clock := rfl
@[simp] theorem modWatchdog_disp (s : State) (f : Watchdog → Watchdog) : (modWatchdog f s).disp = s.disp := rfl
@[simp] theorem modWatchdog_tw (s : State) (f : Watchdog → Watchdog) : (modWatchdog f s).tw = s.tw := rfl
@[simp] theorem modWatchdog_twc (s : State) (f : Watchdog → Watchdog) : (modWatchdog f s).twc = s.twc := rfl
@[simp] theorem modWatchdog_banks (s : State) (f : Watchdog → Watchdog) : (modWatchdog f s).banks = s.banks := rfl
@[simp] theorem modWatchdog_upd (s : State) (f : Watchdog → Watchdog) : (modWatchdog f s).upd = s.upd := rfl
@[simp] theorem modWatchdog_ident (s : State) (f : Watchdog → Watchdog) : (modWatchdog f s).ident = s.ident := rfl
@[simp] theorem modWatchdog_free (s : State) (f : Watchdog → Watchdog) : (modWatchdog f s).free = s.free := rfl
@[simp] theorem modWatchdog_pending (s : State) (f : Watchdog → Watchdog) : (modWatchdog f s).pending = s.pending := rfl

@[simp] theorem modPort_time (s : State) (f : PortState → PortState) : (modPort f s).time = s.time := rfl
@[simp] theorem modPort_pins (s : State) (f : PortState → PortState) : (modPort f s).pins = s.pins := rfl
@[simp] theorem modPort_sys (s : State) (f : PortState → PortState) : (modPort f s).sys = s.sys := rfl
@[simp] theorem modPort_feed (s : State) (f : PortState → PortState) : (modPort f s).feed = s.feed := rfl
@[simp] theorem modPort_router (s : State) (f : PortState → PortState) : (modPort f s).router = s.router := rfl
@[simp] theorem modPort_silt (s : State) (f : PortState → PortState) : (modPort f s).silt = s.silt := rfl
@[simp] theorem modPort_param (s : State) (f : PortState → PortState) : (modPort f s).param = s.param := rfl
@[simp] theorem modPort_rings (s : State) (f : PortState → PortState) : (modPort f s).rings = s.rings := rfl
@[simp] theorem modPort_meas (s : State) (f : PortState → PortState) : (modPort f s).meas = s.meas := rfl
@[simp] theorem modPort_hv (s : State) (f : PortState → PortState) : (modPort f s).hv = s.hv := rfl
@[simp] theorem modPort_bal (s : State) (f : PortState → PortState) : (modPort f s).bal = s.bal := rfl
@[simp] theorem modPort_guard (s : State) (f : PortState → PortState) : (modPort f s).guard = s.guard := rfl
@[simp] theorem modPort_field (s : State) (f : PortState → PortState) : (modPort f s).field = s.field := rfl
@[simp] theorem modPort_est (s : State) (f : PortState → PortState) : (modPort f s).est = s.est := rfl
@[simp] theorem modPort_mem (s : State) (f : PortState → PortState) : (modPort f s).mem = s.mem := rfl
@[simp] theorem modPort_loop (s : State) (f : PortState → PortState) : (modPort f s).loop = s.loop := rfl
@[simp] theorem modPort_thermal (s : State) (f : PortState → PortState) : (modPort f s).thermal = s.thermal := rfl
@[simp] theorem modPort_can (s : State) (f : PortState → PortState) : (modPort f s).can = s.can := rfl
@[simp] theorem modPort_clock (s : State) (f : PortState → PortState) : (modPort f s).clock = s.clock := rfl
@[simp] theorem modPort_disp (s : State) (f : PortState → PortState) : (modPort f s).disp = s.disp := rfl
@[simp] theorem modPort_tw (s : State) (f : PortState → PortState) : (modPort f s).tw = s.tw := rfl
@[simp] theorem modPort_twc (s : State) (f : PortState → PortState) : (modPort f s).twc = s.twc := rfl
@[simp] theorem modPort_banks (s : State) (f : PortState → PortState) : (modPort f s).banks = s.banks := rfl
@[simp] theorem modPort_upd (s : State) (f : PortState → PortState) : (modPort f s).upd = s.upd := rfl
@[simp] theorem modPort_ident (s : State) (f : PortState → PortState) : (modPort f s).ident = s.ident := rfl
@[simp] theorem modPort_free (s : State) (f : PortState → PortState) : (modPort f s).free = s.free := rfl
@[simp] theorem modPort_pending (s : State) (f : PortState → PortState) : (modPort f s).pending = s.pending := rfl

@[simp] theorem modCellMem_time (s : State) (k c : Nat) (f : CellMem → CellMem) : (modCellMem k c f s).time = s.time := rfl
@[simp] theorem modCellMem_pins (s : State) (k c : Nat) (f : CellMem → CellMem) : (modCellMem k c f s).pins = s.pins := rfl
@[simp] theorem modCellMem_sys (s : State) (k c : Nat) (f : CellMem → CellMem) : (modCellMem k c f s).sys = s.sys := rfl
@[simp] theorem modCellMem_feed (s : State) (k c : Nat) (f : CellMem → CellMem) : (modCellMem k c f s).feed = s.feed := rfl
@[simp] theorem modCellMem_router (s : State) (k c : Nat) (f : CellMem → CellMem) : (modCellMem k c f s).router = s.router := rfl
@[simp] theorem modCellMem_silt (s : State) (k c : Nat) (f : CellMem → CellMem) : (modCellMem k c f s).silt = s.silt := rfl
@[simp] theorem modCellMem_port (s : State) (k c : Nat) (f : CellMem → CellMem) : (modCellMem k c f s).port = s.port := rfl
@[simp] theorem modCellMem_param (s : State) (k c : Nat) (f : CellMem → CellMem) : (modCellMem k c f s).param = s.param := rfl
@[simp] theorem modCellMem_rings (s : State) (k c : Nat) (f : CellMem → CellMem) : (modCellMem k c f s).rings = s.rings := rfl
@[simp] theorem modCellMem_meas (s : State) (k c : Nat) (f : CellMem → CellMem) : (modCellMem k c f s).meas = s.meas := rfl
@[simp] theorem modCellMem_hv (s : State) (k c : Nat) (f : CellMem → CellMem) : (modCellMem k c f s).hv = s.hv := rfl
@[simp] theorem modCellMem_bal (s : State) (k c : Nat) (f : CellMem → CellMem) : (modCellMem k c f s).bal = s.bal := rfl
@[simp] theorem modCellMem_guard (s : State) (k c : Nat) (f : CellMem → CellMem) : (modCellMem k c f s).guard = s.guard := rfl
@[simp] theorem modCellMem_field (s : State) (k c : Nat) (f : CellMem → CellMem) : (modCellMem k c f s).field = s.field := rfl
@[simp] theorem modCellMem_est (s : State) (k c : Nat) (f : CellMem → CellMem) : (modCellMem k c f s).est = s.est := rfl
@[simp] theorem modCellMem_loop (s : State) (k c : Nat) (f : CellMem → CellMem) : (modCellMem k c f s).loop = s.loop := rfl
@[simp] theorem modCellMem_thermal (s : State) (k c : Nat) (f : CellMem → CellMem) : (modCellMem k c f s).thermal = s.thermal := rfl
@[simp] theorem modCellMem_can (s : State) (k c : Nat) (f : CellMem → CellMem) : (modCellMem k c f s).can = s.can := rfl
@[simp] theorem modCellMem_clock (s : State) (k c : Nat) (f : CellMem → CellMem) : (modCellMem k c f s).clock = s.clock := rfl
@[simp] theorem modCellMem_disp (s : State) (k c : Nat) (f : CellMem → CellMem) : (modCellMem k c f s).disp = s.disp := rfl
@[simp] theorem modCellMem_tw (s : State) (k c : Nat) (f : CellMem → CellMem) : (modCellMem k c f s).tw = s.tw := rfl
@[simp] theorem modCellMem_twc (s : State) (k c : Nat) (f : CellMem → CellMem) : (modCellMem k c f s).twc = s.twc := rfl
@[simp] theorem modCellMem_banks (s : State) (k c : Nat) (f : CellMem → CellMem) : (modCellMem k c f s).banks = s.banks := rfl
@[simp] theorem modCellMem_upd (s : State) (k c : Nat) (f : CellMem → CellMem) : (modCellMem k c f s).upd = s.upd := rfl
@[simp] theorem modCellMem_ident (s : State) (k c : Nat) (f : CellMem → CellMem) : (modCellMem k c f s).ident = s.ident := rfl
@[simp] theorem modCellMem_free (s : State) (k c : Nat) (f : CellMem → CellMem) : (modCellMem k c f s).free = s.free := rfl
@[simp] theorem modCellMem_pending (s : State) (k c : Nat) (f : CellMem → CellMem) : (modCellMem k c f s).pending = s.pending := rfl

@[simp] theorem modStrandMem_time (s : State) (k : Nat) (f : StrandMem → StrandMem) : (modStrandMem k f s).time = s.time := rfl
@[simp] theorem modStrandMem_pins (s : State) (k : Nat) (f : StrandMem → StrandMem) : (modStrandMem k f s).pins = s.pins := rfl
@[simp] theorem modStrandMem_sys (s : State) (k : Nat) (f : StrandMem → StrandMem) : (modStrandMem k f s).sys = s.sys := rfl
@[simp] theorem modStrandMem_feed (s : State) (k : Nat) (f : StrandMem → StrandMem) : (modStrandMem k f s).feed = s.feed := rfl
@[simp] theorem modStrandMem_router (s : State) (k : Nat) (f : StrandMem → StrandMem) : (modStrandMem k f s).router = s.router := rfl
@[simp] theorem modStrandMem_silt (s : State) (k : Nat) (f : StrandMem → StrandMem) : (modStrandMem k f s).silt = s.silt := rfl
@[simp] theorem modStrandMem_port (s : State) (k : Nat) (f : StrandMem → StrandMem) : (modStrandMem k f s).port = s.port := rfl
@[simp] theorem modStrandMem_param (s : State) (k : Nat) (f : StrandMem → StrandMem) : (modStrandMem k f s).param = s.param := rfl
@[simp] theorem modStrandMem_rings (s : State) (k : Nat) (f : StrandMem → StrandMem) : (modStrandMem k f s).rings = s.rings := rfl
@[simp] theorem modStrandMem_meas (s : State) (k : Nat) (f : StrandMem → StrandMem) : (modStrandMem k f s).meas = s.meas := rfl
@[simp] theorem modStrandMem_hv (s : State) (k : Nat) (f : StrandMem → StrandMem) : (modStrandMem k f s).hv = s.hv := rfl
@[simp] theorem modStrandMem_bal (s : State) (k : Nat) (f : StrandMem → StrandMem) : (modStrandMem k f s).bal = s.bal := rfl
@[simp] theorem modStrandMem_guard (s : State) (k : Nat) (f : StrandMem → StrandMem) : (modStrandMem k f s).guard = s.guard := rfl
@[simp] theorem modStrandMem_field (s : State) (k : Nat) (f : StrandMem → StrandMem) : (modStrandMem k f s).field = s.field := rfl
@[simp] theorem modStrandMem_est (s : State) (k : Nat) (f : StrandMem → StrandMem) : (modStrandMem k f s).est = s.est := rfl
@[simp] theorem modStrandMem_loop (s : State) (k : Nat) (f : StrandMem → StrandMem) : (modStrandMem k f s).loop = s.loop := rfl
@[simp] theorem modStrandMem_thermal (s : State) (k : Nat) (f : StrandMem → StrandMem) : (modStrandMem k f s).thermal = s.thermal := rfl
@[simp] theorem modStrandMem_can (s : State) (k : Nat) (f : StrandMem → StrandMem) : (modStrandMem k f s).can = s.can := rfl
@[simp] theorem modStrandMem_clock (s : State) (k : Nat) (f : StrandMem → StrandMem) : (modStrandMem k f s).clock = s.clock := rfl
@[simp] theorem modStrandMem_disp (s : State) (k : Nat) (f : StrandMem → StrandMem) : (modStrandMem k f s).disp = s.disp := rfl
@[simp] theorem modStrandMem_tw (s : State) (k : Nat) (f : StrandMem → StrandMem) : (modStrandMem k f s).tw = s.tw := rfl
@[simp] theorem modStrandMem_twc (s : State) (k : Nat) (f : StrandMem → StrandMem) : (modStrandMem k f s).twc = s.twc := rfl
@[simp] theorem modStrandMem_banks (s : State) (k : Nat) (f : StrandMem → StrandMem) : (modStrandMem k f s).banks = s.banks := rfl
@[simp] theorem modStrandMem_upd (s : State) (k : Nat) (f : StrandMem → StrandMem) : (modStrandMem k f s).upd = s.upd := rfl
@[simp] theorem modStrandMem_ident (s : State) (k : Nat) (f : StrandMem → StrandMem) : (modStrandMem k f s).ident = s.ident := rfl
@[simp] theorem modStrandMem_free (s : State) (k : Nat) (f : StrandMem → StrandMem) : (modStrandMem k f s).free = s.free := rfl
@[simp] theorem modStrandMem_pending (s : State) (k : Nat) (f : StrandMem → StrandMem) : (modStrandMem k f s).pending = s.pending := rfl

@[simp] theorem modLoop_time (s : State) (n : Nat) (f : LoopState → LoopState) : (modLoop n f s).time = s.time := rfl
@[simp] theorem modLoop_pins (s : State) (n : Nat) (f : LoopState → LoopState) : (modLoop n f s).pins = s.pins := rfl
@[simp] theorem modLoop_sys (s : State) (n : Nat) (f : LoopState → LoopState) : (modLoop n f s).sys = s.sys := rfl
@[simp] theorem modLoop_feed (s : State) (n : Nat) (f : LoopState → LoopState) : (modLoop n f s).feed = s.feed := rfl
@[simp] theorem modLoop_router (s : State) (n : Nat) (f : LoopState → LoopState) : (modLoop n f s).router = s.router := rfl
@[simp] theorem modLoop_silt (s : State) (n : Nat) (f : LoopState → LoopState) : (modLoop n f s).silt = s.silt := rfl
@[simp] theorem modLoop_port (s : State) (n : Nat) (f : LoopState → LoopState) : (modLoop n f s).port = s.port := rfl
@[simp] theorem modLoop_param (s : State) (n : Nat) (f : LoopState → LoopState) : (modLoop n f s).param = s.param := rfl
@[simp] theorem modLoop_rings (s : State) (n : Nat) (f : LoopState → LoopState) : (modLoop n f s).rings = s.rings := rfl
@[simp] theorem modLoop_meas (s : State) (n : Nat) (f : LoopState → LoopState) : (modLoop n f s).meas = s.meas := rfl
@[simp] theorem modLoop_hv (s : State) (n : Nat) (f : LoopState → LoopState) : (modLoop n f s).hv = s.hv := rfl
@[simp] theorem modLoop_bal (s : State) (n : Nat) (f : LoopState → LoopState) : (modLoop n f s).bal = s.bal := rfl
@[simp] theorem modLoop_guard (s : State) (n : Nat) (f : LoopState → LoopState) : (modLoop n f s).guard = s.guard := rfl
@[simp] theorem modLoop_field (s : State) (n : Nat) (f : LoopState → LoopState) : (modLoop n f s).field = s.field := rfl
@[simp] theorem modLoop_est (s : State) (n : Nat) (f : LoopState → LoopState) : (modLoop n f s).est = s.est := rfl
@[simp] theorem modLoop_mem (s : State) (n : Nat) (f : LoopState → LoopState) : (modLoop n f s).mem = s.mem := rfl
@[simp] theorem modLoop_thermal (s : State) (n : Nat) (f : LoopState → LoopState) : (modLoop n f s).thermal = s.thermal := rfl
@[simp] theorem modLoop_can (s : State) (n : Nat) (f : LoopState → LoopState) : (modLoop n f s).can = s.can := rfl
@[simp] theorem modLoop_clock (s : State) (n : Nat) (f : LoopState → LoopState) : (modLoop n f s).clock = s.clock := rfl
@[simp] theorem modLoop_disp (s : State) (n : Nat) (f : LoopState → LoopState) : (modLoop n f s).disp = s.disp := rfl
@[simp] theorem modLoop_tw (s : State) (n : Nat) (f : LoopState → LoopState) : (modLoop n f s).tw = s.tw := rfl
@[simp] theorem modLoop_twc (s : State) (n : Nat) (f : LoopState → LoopState) : (modLoop n f s).twc = s.twc := rfl
@[simp] theorem modLoop_banks (s : State) (n : Nat) (f : LoopState → LoopState) : (modLoop n f s).banks = s.banks := rfl
@[simp] theorem modLoop_upd (s : State) (n : Nat) (f : LoopState → LoopState) : (modLoop n f s).upd = s.upd := rfl
@[simp] theorem modLoop_ident (s : State) (n : Nat) (f : LoopState → LoopState) : (modLoop n f s).ident = s.ident := rfl
@[simp] theorem modLoop_free (s : State) (n : Nat) (f : LoopState → LoopState) : (modLoop n f s).free = s.free := rfl
@[simp] theorem modLoop_pending (s : State) (n : Nat) (f : LoopState → LoopState) : (modLoop n f s).pending = s.pending := rfl

@[simp] theorem modTrace_time (s : State) (f : TraceState → TraceState) : (modTrace f s).time = s.time := rfl
@[simp] theorem modTrace_pins (s : State) (f : TraceState → TraceState) : (modTrace f s).pins = s.pins := rfl
@[simp] theorem modTrace_sys (s : State) (f : TraceState → TraceState) : (modTrace f s).sys = s.sys := rfl
@[simp] theorem modTrace_feed (s : State) (f : TraceState → TraceState) : (modTrace f s).feed = s.feed := rfl
@[simp] theorem modTrace_router (s : State) (f : TraceState → TraceState) : (modTrace f s).router = s.router := rfl
@[simp] theorem modTrace_silt (s : State) (f : TraceState → TraceState) : (modTrace f s).silt = s.silt := rfl
@[simp] theorem modTrace_port (s : State) (f : TraceState → TraceState) : (modTrace f s).port = s.port := rfl
@[simp] theorem modTrace_param (s : State) (f : TraceState → TraceState) : (modTrace f s).param = s.param := rfl
@[simp] theorem modTrace_rings (s : State) (f : TraceState → TraceState) : (modTrace f s).rings = s.rings := rfl
@[simp] theorem modTrace_meas (s : State) (f : TraceState → TraceState) : (modTrace f s).meas = s.meas := rfl
@[simp] theorem modTrace_hv (s : State) (f : TraceState → TraceState) : (modTrace f s).hv = s.hv := rfl
@[simp] theorem modTrace_bal (s : State) (f : TraceState → TraceState) : (modTrace f s).bal = s.bal := rfl
@[simp] theorem modTrace_guard (s : State) (f : TraceState → TraceState) : (modTrace f s).guard = s.guard := rfl
@[simp] theorem modTrace_field (s : State) (f : TraceState → TraceState) : (modTrace f s).field = s.field := rfl
@[simp] theorem modTrace_est (s : State) (f : TraceState → TraceState) : (modTrace f s).est = s.est := rfl
@[simp] theorem modTrace_mem (s : State) (f : TraceState → TraceState) : (modTrace f s).mem = s.mem := rfl
@[simp] theorem modTrace_thermal (s : State) (f : TraceState → TraceState) : (modTrace f s).thermal = s.thermal := rfl
@[simp] theorem modTrace_can (s : State) (f : TraceState → TraceState) : (modTrace f s).can = s.can := rfl
@[simp] theorem modTrace_clock (s : State) (f : TraceState → TraceState) : (modTrace f s).clock = s.clock := rfl
@[simp] theorem modTrace_disp (s : State) (f : TraceState → TraceState) : (modTrace f s).disp = s.disp := rfl
@[simp] theorem modTrace_tw (s : State) (f : TraceState → TraceState) : (modTrace f s).tw = s.tw := rfl
@[simp] theorem modTrace_twc (s : State) (f : TraceState → TraceState) : (modTrace f s).twc = s.twc := rfl
@[simp] theorem modTrace_banks (s : State) (f : TraceState → TraceState) : (modTrace f s).banks = s.banks := rfl
@[simp] theorem modTrace_upd (s : State) (f : TraceState → TraceState) : (modTrace f s).upd = s.upd := rfl
@[simp] theorem modTrace_ident (s : State) (f : TraceState → TraceState) : (modTrace f s).ident = s.ident := rfl
@[simp] theorem modTrace_free (s : State) (f : TraceState → TraceState) : (modTrace f s).free = s.free := rfl
@[simp] theorem modTrace_pending (s : State) (f : TraceState → TraceState) : (modTrace f s).pending = s.pending := rfl

@[simp] theorem modClock_time (s : State) (f : ClockState → ClockState) : (modClock f s).time = s.time := rfl
@[simp] theorem modClock_pins (s : State) (f : ClockState → ClockState) : (modClock f s).pins = s.pins := rfl
@[simp] theorem modClock_sys (s : State) (f : ClockState → ClockState) : (modClock f s).sys = s.sys := rfl
@[simp] theorem modClock_feed (s : State) (f : ClockState → ClockState) : (modClock f s).feed = s.feed := rfl
@[simp] theorem modClock_router (s : State) (f : ClockState → ClockState) : (modClock f s).router = s.router := rfl
@[simp] theorem modClock_silt (s : State) (f : ClockState → ClockState) : (modClock f s).silt = s.silt := rfl
@[simp] theorem modClock_port (s : State) (f : ClockState → ClockState) : (modClock f s).port = s.port := rfl
@[simp] theorem modClock_param (s : State) (f : ClockState → ClockState) : (modClock f s).param = s.param := rfl
@[simp] theorem modClock_rings (s : State) (f : ClockState → ClockState) : (modClock f s).rings = s.rings := rfl
@[simp] theorem modClock_meas (s : State) (f : ClockState → ClockState) : (modClock f s).meas = s.meas := rfl
@[simp] theorem modClock_hv (s : State) (f : ClockState → ClockState) : (modClock f s).hv = s.hv := rfl
@[simp] theorem modClock_bal (s : State) (f : ClockState → ClockState) : (modClock f s).bal = s.bal := rfl
@[simp] theorem modClock_guard (s : State) (f : ClockState → ClockState) : (modClock f s).guard = s.guard := rfl
@[simp] theorem modClock_field (s : State) (f : ClockState → ClockState) : (modClock f s).field = s.field := rfl
@[simp] theorem modClock_est (s : State) (f : ClockState → ClockState) : (modClock f s).est = s.est := rfl
@[simp] theorem modClock_mem (s : State) (f : ClockState → ClockState) : (modClock f s).mem = s.mem := rfl
@[simp] theorem modClock_loop (s : State) (f : ClockState → ClockState) : (modClock f s).loop = s.loop := rfl
@[simp] theorem modClock_thermal (s : State) (f : ClockState → ClockState) : (modClock f s).thermal = s.thermal := rfl
@[simp] theorem modClock_can (s : State) (f : ClockState → ClockState) : (modClock f s).can = s.can := rfl
@[simp] theorem modClock_disp (s : State) (f : ClockState → ClockState) : (modClock f s).disp = s.disp := rfl
@[simp] theorem modClock_tw (s : State) (f : ClockState → ClockState) : (modClock f s).tw = s.tw := rfl
@[simp] theorem modClock_twc (s : State) (f : ClockState → ClockState) : (modClock f s).twc = s.twc := rfl
@[simp] theorem modClock_banks (s : State) (f : ClockState → ClockState) : (modClock f s).banks = s.banks := rfl
@[simp] theorem modClock_upd (s : State) (f : ClockState → ClockState) : (modClock f s).upd = s.upd := rfl
@[simp] theorem modClock_ident (s : State) (f : ClockState → ClockState) : (modClock f s).ident = s.ident := rfl
@[simp] theorem modClock_free (s : State) (f : ClockState → ClockState) : (modClock f s).free = s.free := rfl
@[simp] theorem modClock_pending (s : State) (f : ClockState → ClockState) : (modClock f s).pending = s.pending := rfl

@[simp] theorem modParam_time (s : State) (f : ParamState → ParamState) : (modParam f s).time = s.time := rfl
@[simp] theorem modParam_pins (s : State) (f : ParamState → ParamState) : (modParam f s).pins = s.pins := rfl
@[simp] theorem modParam_sys (s : State) (f : ParamState → ParamState) : (modParam f s).sys = s.sys := rfl
@[simp] theorem modParam_feed (s : State) (f : ParamState → ParamState) : (modParam f s).feed = s.feed := rfl
@[simp] theorem modParam_router (s : State) (f : ParamState → ParamState) : (modParam f s).router = s.router := rfl
@[simp] theorem modParam_silt (s : State) (f : ParamState → ParamState) : (modParam f s).silt = s.silt := rfl
@[simp] theorem modParam_port (s : State) (f : ParamState → ParamState) : (modParam f s).port = s.port := rfl
@[simp] theorem modParam_rings (s : State) (f : ParamState → ParamState) : (modParam f s).rings = s.rings := rfl
@[simp] theorem modParam_meas (s : State) (f : ParamState → ParamState) : (modParam f s).meas = s.meas := rfl
@[simp] theorem modParam_hv (s : State) (f : ParamState → ParamState) : (modParam f s).hv = s.hv := rfl
@[simp] theorem modParam_bal (s : State) (f : ParamState → ParamState) : (modParam f s).bal = s.bal := rfl
@[simp] theorem modParam_guard (s : State) (f : ParamState → ParamState) : (modParam f s).guard = s.guard := rfl
@[simp] theorem modParam_field (s : State) (f : ParamState → ParamState) : (modParam f s).field = s.field := rfl
@[simp] theorem modParam_est (s : State) (f : ParamState → ParamState) : (modParam f s).est = s.est := rfl
@[simp] theorem modParam_mem (s : State) (f : ParamState → ParamState) : (modParam f s).mem = s.mem := rfl
@[simp] theorem modParam_loop (s : State) (f : ParamState → ParamState) : (modParam f s).loop = s.loop := rfl
@[simp] theorem modParam_thermal (s : State) (f : ParamState → ParamState) : (modParam f s).thermal = s.thermal := rfl
@[simp] theorem modParam_can (s : State) (f : ParamState → ParamState) : (modParam f s).can = s.can := rfl
@[simp] theorem modParam_clock (s : State) (f : ParamState → ParamState) : (modParam f s).clock = s.clock := rfl
@[simp] theorem modParam_disp (s : State) (f : ParamState → ParamState) : (modParam f s).disp = s.disp := rfl
@[simp] theorem modParam_tw (s : State) (f : ParamState → ParamState) : (modParam f s).tw = s.tw := rfl
@[simp] theorem modParam_twc (s : State) (f : ParamState → ParamState) : (modParam f s).twc = s.twc := rfl
@[simp] theorem modParam_banks (s : State) (f : ParamState → ParamState) : (modParam f s).banks = s.banks := rfl
@[simp] theorem modParam_upd (s : State) (f : ParamState → ParamState) : (modParam f s).upd = s.upd := rfl
@[simp] theorem modParam_ident (s : State) (f : ParamState → ParamState) : (modParam f s).ident = s.ident := rfl
@[simp] theorem modParam_free (s : State) (f : ParamState → ParamState) : (modParam f s).free = s.free := rfl
@[simp] theorem modParam_pending (s : State) (f : ParamState → ParamState) : (modParam f s).pending = s.pending := rfl

@[simp] theorem modSys_time (s : State) (f : ModeState → ModeState) : (modSys f s).time = s.time := rfl
@[simp] theorem modSys_pins (s : State) (f : ModeState → ModeState) : (modSys f s).pins = s.pins := rfl
@[simp] theorem modSys_feed (s : State) (f : ModeState → ModeState) : (modSys f s).feed = s.feed := rfl
@[simp] theorem modSys_router (s : State) (f : ModeState → ModeState) : (modSys f s).router = s.router := rfl
@[simp] theorem modSys_silt (s : State) (f : ModeState → ModeState) : (modSys f s).silt = s.silt := rfl
@[simp] theorem modSys_port (s : State) (f : ModeState → ModeState) : (modSys f s).port = s.port := rfl
@[simp] theorem modSys_param (s : State) (f : ModeState → ModeState) : (modSys f s).param = s.param := rfl
@[simp] theorem modSys_rings (s : State) (f : ModeState → ModeState) : (modSys f s).rings = s.rings := rfl
@[simp] theorem modSys_meas (s : State) (f : ModeState → ModeState) : (modSys f s).meas = s.meas := rfl
@[simp] theorem modSys_hv (s : State) (f : ModeState → ModeState) : (modSys f s).hv = s.hv := rfl
@[simp] theorem modSys_bal (s : State) (f : ModeState → ModeState) : (modSys f s).bal = s.bal := rfl
@[simp] theorem modSys_guard (s : State) (f : ModeState → ModeState) : (modSys f s).guard = s.guard := rfl
@[simp] theorem modSys_field (s : State) (f : ModeState → ModeState) : (modSys f s).field = s.field := rfl
@[simp] theorem modSys_est (s : State) (f : ModeState → ModeState) : (modSys f s).est = s.est := rfl
@[simp] theorem modSys_mem (s : State) (f : ModeState → ModeState) : (modSys f s).mem = s.mem := rfl
@[simp] theorem modSys_loop (s : State) (f : ModeState → ModeState) : (modSys f s).loop = s.loop := rfl
@[simp] theorem modSys_thermal (s : State) (f : ModeState → ModeState) : (modSys f s).thermal = s.thermal := rfl
@[simp] theorem modSys_can (s : State) (f : ModeState → ModeState) : (modSys f s).can = s.can := rfl
@[simp] theorem modSys_clock (s : State) (f : ModeState → ModeState) : (modSys f s).clock = s.clock := rfl
@[simp] theorem modSys_disp (s : State) (f : ModeState → ModeState) : (modSys f s).disp = s.disp := rfl
@[simp] theorem modSys_tw (s : State) (f : ModeState → ModeState) : (modSys f s).tw = s.tw := rfl
@[simp] theorem modSys_twc (s : State) (f : ModeState → ModeState) : (modSys f s).twc = s.twc := rfl
@[simp] theorem modSys_banks (s : State) (f : ModeState → ModeState) : (modSys f s).banks = s.banks := rfl
@[simp] theorem modSys_upd (s : State) (f : ModeState → ModeState) : (modSys f s).upd = s.upd := rfl
@[simp] theorem modSys_ident (s : State) (f : ModeState → ModeState) : (modSys f s).ident = s.ident := rfl
@[simp] theorem modSys_free (s : State) (f : ModeState → ModeState) : (modSys f s).free = s.free := rfl
@[simp] theorem modSys_pending (s : State) (f : ModeState → ModeState) : (modSys f s).pending = s.pending := rfl

@[simp] theorem modTw_time (s : State) (f : TwTarget → TwTarget) : (modTw f s).time = s.time := rfl
@[simp] theorem modTw_pins (s : State) (f : TwTarget → TwTarget) : (modTw f s).pins = s.pins := rfl
@[simp] theorem modTw_sys (s : State) (f : TwTarget → TwTarget) : (modTw f s).sys = s.sys := rfl
@[simp] theorem modTw_feed (s : State) (f : TwTarget → TwTarget) : (modTw f s).feed = s.feed := rfl
@[simp] theorem modTw_router (s : State) (f : TwTarget → TwTarget) : (modTw f s).router = s.router := rfl
@[simp] theorem modTw_silt (s : State) (f : TwTarget → TwTarget) : (modTw f s).silt = s.silt := rfl
@[simp] theorem modTw_port (s : State) (f : TwTarget → TwTarget) : (modTw f s).port = s.port := rfl
@[simp] theorem modTw_param (s : State) (f : TwTarget → TwTarget) : (modTw f s).param = s.param := rfl
@[simp] theorem modTw_rings (s : State) (f : TwTarget → TwTarget) : (modTw f s).rings = s.rings := rfl
@[simp] theorem modTw_meas (s : State) (f : TwTarget → TwTarget) : (modTw f s).meas = s.meas := rfl
@[simp] theorem modTw_hv (s : State) (f : TwTarget → TwTarget) : (modTw f s).hv = s.hv := rfl
@[simp] theorem modTw_bal (s : State) (f : TwTarget → TwTarget) : (modTw f s).bal = s.bal := rfl
@[simp] theorem modTw_guard (s : State) (f : TwTarget → TwTarget) : (modTw f s).guard = s.guard := rfl
@[simp] theorem modTw_field (s : State) (f : TwTarget → TwTarget) : (modTw f s).field = s.field := rfl
@[simp] theorem modTw_est (s : State) (f : TwTarget → TwTarget) : (modTw f s).est = s.est := rfl
@[simp] theorem modTw_mem (s : State) (f : TwTarget → TwTarget) : (modTw f s).mem = s.mem := rfl
@[simp] theorem modTw_loop (s : State) (f : TwTarget → TwTarget) : (modTw f s).loop = s.loop := rfl
@[simp] theorem modTw_thermal (s : State) (f : TwTarget → TwTarget) : (modTw f s).thermal = s.thermal := rfl
@[simp] theorem modTw_can (s : State) (f : TwTarget → TwTarget) : (modTw f s).can = s.can := rfl
@[simp] theorem modTw_clock (s : State) (f : TwTarget → TwTarget) : (modTw f s).clock = s.clock := rfl
@[simp] theorem modTw_disp (s : State) (f : TwTarget → TwTarget) : (modTw f s).disp = s.disp := rfl
@[simp] theorem modTw_twc (s : State) (f : TwTarget → TwTarget) : (modTw f s).twc = s.twc := rfl
@[simp] theorem modTw_banks (s : State) (f : TwTarget → TwTarget) : (modTw f s).banks = s.banks := rfl
@[simp] theorem modTw_upd (s : State) (f : TwTarget → TwTarget) : (modTw f s).upd = s.upd := rfl
@[simp] theorem modTw_ident (s : State) (f : TwTarget → TwTarget) : (modTw f s).ident = s.ident := rfl
@[simp] theorem modTw_free (s : State) (f : TwTarget → TwTarget) : (modTw f s).free = s.free := rfl
@[simp] theorem modTw_pending (s : State) (f : TwTarget → TwTarget) : (modTw f s).pending = s.pending := rfl

@[simp] theorem modTwc_time (s : State) (f : TwController → TwController) : (modTwc f s).time = s.time := rfl
@[simp] theorem modTwc_pins (s : State) (f : TwController → TwController) : (modTwc f s).pins = s.pins := rfl
@[simp] theorem modTwc_sys (s : State) (f : TwController → TwController) : (modTwc f s).sys = s.sys := rfl
@[simp] theorem modTwc_feed (s : State) (f : TwController → TwController) : (modTwc f s).feed = s.feed := rfl
@[simp] theorem modTwc_router (s : State) (f : TwController → TwController) : (modTwc f s).router = s.router := rfl
@[simp] theorem modTwc_silt (s : State) (f : TwController → TwController) : (modTwc f s).silt = s.silt := rfl
@[simp] theorem modTwc_port (s : State) (f : TwController → TwController) : (modTwc f s).port = s.port := rfl
@[simp] theorem modTwc_param (s : State) (f : TwController → TwController) : (modTwc f s).param = s.param := rfl
@[simp] theorem modTwc_rings (s : State) (f : TwController → TwController) : (modTwc f s).rings = s.rings := rfl
@[simp] theorem modTwc_meas (s : State) (f : TwController → TwController) : (modTwc f s).meas = s.meas := rfl
@[simp] theorem modTwc_hv (s : State) (f : TwController → TwController) : (modTwc f s).hv = s.hv := rfl
@[simp] theorem modTwc_bal (s : State) (f : TwController → TwController) : (modTwc f s).bal = s.bal := rfl
@[simp] theorem modTwc_guard (s : State) (f : TwController → TwController) : (modTwc f s).guard = s.guard := rfl
@[simp] theorem modTwc_field (s : State) (f : TwController → TwController) : (modTwc f s).field = s.field := rfl
@[simp] theorem modTwc_est (s : State) (f : TwController → TwController) : (modTwc f s).est = s.est := rfl
@[simp] theorem modTwc_mem (s : State) (f : TwController → TwController) : (modTwc f s).mem = s.mem := rfl
@[simp] theorem modTwc_loop (s : State) (f : TwController → TwController) : (modTwc f s).loop = s.loop := rfl
@[simp] theorem modTwc_thermal (s : State) (f : TwController → TwController) : (modTwc f s).thermal = s.thermal := rfl
@[simp] theorem modTwc_can (s : State) (f : TwController → TwController) : (modTwc f s).can = s.can := rfl
@[simp] theorem modTwc_clock (s : State) (f : TwController → TwController) : (modTwc f s).clock = s.clock := rfl
@[simp] theorem modTwc_disp (s : State) (f : TwController → TwController) : (modTwc f s).disp = s.disp := rfl
@[simp] theorem modTwc_tw (s : State) (f : TwController → TwController) : (modTwc f s).tw = s.tw := rfl
@[simp] theorem modTwc_banks (s : State) (f : TwController → TwController) : (modTwc f s).banks = s.banks := rfl
@[simp] theorem modTwc_upd (s : State) (f : TwController → TwController) : (modTwc f s).upd = s.upd := rfl
@[simp] theorem modTwc_ident (s : State) (f : TwController → TwController) : (modTwc f s).ident = s.ident := rfl
@[simp] theorem modTwc_free (s : State) (f : TwController → TwController) : (modTwc f s).free = s.free := rfl
@[simp] theorem modTwc_pending (s : State) (f : TwController → TwController) : (modTwc f s).pending = s.pending := rfl

end Sys2Proof.Machine
end

