-- ==== Sys2Proof/Tests/Slice0.lean ====
section
/-! SUPPORT. Tests: ill-formed commands are refused by WellFormed, and for every statement states and operands that meet its
hypotheses. -/
namespace Sys2Proof.Tests
set_option Elab.async false
open Sys2Proof Sys2Proof.Machine

/-! ## Small states -/

/-- A served module in a mode. -/
def inMode (m : Mode) : State := { State.reset with sys := { powered := true, mode := m, ready := true, step := 15 } }

/-- A module in RUN. -/
def run : State := inMode .run

/-- The same with applied parameters, by rising ID. -/
def par (l : List (Nat × Int)) (s : State) : State :=
  { s with param := { s.param with applied := l.map (fun e => (e.1, .num e.2)) } }

/-- `n` zero bytes. -/
def zs (n : Nat) : List Byte := List.replicate n 0

/-! ## Hypotheses of the statements about the whole machine -/

theorem witness_StepRunsFront : State.reset.pending = [] := rfl

theorem witness_StepKeepsMemoryForm : Memory.wf State.reset.banks.mem = true ∧ step State.reset = .next State.reset :=
  ⟨by decide, rfl⟩

/-- The lock is set and stays; THERMAL_SHUTDOWN sets it. -/
theorem witness_ThermalLockHeld :
    (∃ s t, exec .lockoutArmExpiry s = .next t ∧ s.sys.lock.thermal = true ∧ Instr.lockoutArmExpiry ≠ .orderedShutdown) ∧
    (∃ s t, exec .thermalShutdown s = .next t ∧ s.sys.lock.thermal = false ∧ t.sys.lock.thermal = true) :=
  ⟨⟨{ run with sys := { run.sys with lock := { thermal := true } } }, _, rfl, by decide, by decide⟩,
   ⟨{ run with thermal := { asserted := true } }, _, rfl, by decide +kernel, by decide +kernel⟩⟩

/-- A staged set is committed at a boundary. -/
theorem witness_AppliedChangesAtSaddle :
    ∃ s t, exec (.frameBoundary 0) s = .next t ∧ t.param.applied ≠ s.param.applied :=
  let q : ParamState := { shadow := [(0x0501, .num 20)], owner := some .spi, pendingApply := some ⟨0, .spi, 0, false, false⟩ }
  ⟨{ inMode .standby with param := q }, _, rfl, by decide +kernel⟩

theorem witness_PowerCyclesCounted :
    ∃ s t, exec (.powerOn { mvA := 24000, mvB := 24000 }) s = .next t ∧ t.time.powerCycles ≠ s.time.powerCycles :=
  ⟨{ State.reset with feed := { nvm := { powerCycles := 5 } } }, _, rfl, by decide +kernel⟩

theorem witness_EventRaised :
    run.router[2]? = some { mask := 0 } ∧ run.router[0xA0]? = some { mask := 0x83 } ∧ run.silt.tailOn = false := by decide +kernel

/-- Nothing pending, and source 5 the only one pending for the supervisor. -/
theorem witness_EventsTakenInOrder :
    run.alive = true ∧ run.ac0On = true ∧ run.router.length = 256 ∧ (run.router.all (fun r => !r.pending.getLsbD 0)) = true ∧
    (let l := setAt run.router 5 { mask := 1, pending := 1 }
     l.length = 256 ∧ (l[5]?).map (fun r => r.pending.getLsbD 0) = some true ∧
       ∀ j, j < 256 → j ≠ 5 → (l[j]?).map (fun r => r.pending.getLsbD 0) = some false) := by decide +kernel

theorem witness_HostRefusalsInOrder :
    (hostRows.any (fun r => r.op == 0x0110)) = true ∧ State.reset.sys.ready = false ∧ run.sys.ready = true ∧
    within 4 4 (zs 3) = false ∧ within 4 4 (zs 4) = true ∧ (inMode .standby).opAllowed 0x0110 [.run] = false ∧
    run.time.quiesced = false ∧ ({ run.time with quiesced := true } : TimeState).quiesced = true ∧
    run.port.out.slots.length < 32 ∧ run.port.out.waiting = [] ∧
    (List.replicate 32 ({ opcode := 1, tag := 0, isReply := true, payload := [] } : OutPacket)).length = 32 := by decide +kernel

/-! ## Hypotheses of the statements about the host's commands -/

/-- Ring 0's strand enabled: the factory setting of `RING.STRAND_ENABLE` is replaced. -/
def strands (m : Nat) (s : State) : State := par [(0x0502, m)] s

theorem witness_ReportCommands :
    run.serves 0x0001 modesAll = true ∧ run.serves 0x0002 modesAll = true ∧ run.serves 0x0003 modesAll = true ∧
    (zs 4092).length ≤ 4092 ∧ run.serves 0x0501 modesAll = true ∧ run.serves 0x0801 modesAll = true ∧
    run.serves 0x0603 modesAll = true ∧ run.serves 0x0902 modesWork = true ∧ (strands 8 run).enabled 3 = true ∧
    run.serves 0x0311 modesAll = true ∧ run.foreign .can = false := by decide +kernel

theorem witness_ReadCommands :
    (let pl : List Byte := [1, 0, 0, 0, 0x00, 0x00, 0x50, 0x00]
     run.serves 0x0201 modesAll = true ∧ 8 ≤ pl.length ∧ pl.length ≤ 4084 ∧ pl.length = 4 + 4 * field pl 0 2 ∧ field pl 2 2 = 0 ∧
       ∀ id ∈ idList pl 4 (field pl 0 2), pointFault id = none) ∧
    (let pl : List Byte := [0, 0x10, 0xFF, 1, 1, 0, 0, 0]
     let h : SnapHeader := { seq := 1, at' := 0, net := 0, corner := 0, ratio := 0, owt := false, blanking := false, model := false }
     let s : State := { strands 1 run with meas := [{ newest := some h }, {}, {}, {}] }
     run.serves 0x0203 modesAll = true ∧ pl.length = 8 ∧ s.enabled (field pl 0 1) = true ∧ 1 ≤ field pl 4 2 ∧ field pl 4 2 ≤ 512 ∧
       field pl 2 2 + field pl 4 2 ≤ snapRange (field pl 1 1) ∧ field pl 6 2 = 0 ∧
       s.snapHead (field pl 0 1) (field pl 1 1) = some (1, 0, 0) ∧ run.snapHead 0 0x10 = none) ∧
    (let pl : List Byte := [0, 0, 1, 0, 0x02, 0x05]
     run.serves 0x0301 modesAll = true ∧ pl.length = 4 + 2 * field pl 2 2 ∧ field pl 0 1 ≤ 2 ∧ field pl 1 1 = 0 ∧
       1 ≤ field pl 2 2 ∧ field pl 2 2 ≤ 1023 ∧ ∀ i, i < field pl 2 2 → (paramSpec (field pl (4 + 2 * i) 2)).isSome = true) ∧
    (let pl : List Byte := [0, 0, 0, 0, 127, 0, 3, 0]
     run.serves 0x0502 modesAll = true ∧ pl.length = 8 ∧ 1 ≤ field pl 4 2 ∧ field pl 4 2 ≤ 127 ∧ 1 ≤ field pl 6 1 ∧
       field pl 6 1 ≤ 3 ∧ field pl 7 1 = 0 ∧ run.silt.readers < 4 ∧
       ¬ ({ run.silt with readers := 4 } : SiltState).readers < 4) := by decide +kernel

theorem witness_ReadStores :
    (let pl : List Byte := [0, 0, 0, 0, 127, 0, 0, 0]
     run.serves 0x0510 modesAll = true ∧ pl.length = 8 ∧ 1 ≤ field pl 4 2 ∧ field pl 4 2 ≤ 127 ∧ field pl 6 2 = 0 ∧ field pl 0 4 ≠ 0xFFFFFFFF) ∧
    (let pl : List Byte := [23, 0, 1, 0, 0xFF, 0xFF, 3, 0]
     let t := fun (keep : Bool) => ({ run with banks := { march := some { mask := 2 ^ 23, preserving := keep, by' := .twoWire } } } : State)
     run.serves 0x0802 modesAll = true ∧ pl.length = 8 ∧ field pl 0 1 < 24 ∧ field pl 1 1 = 0 ∧ 1 ≤ field pl 2 2 ∧ field pl 2 2 ≤ 4084 ∧
       field pl 4 4 + field pl 2 2 = bankBytes ∧ run.testing 23 = false ∧
       ((t true).banks.march.map (·.preserving)) = some true ∧ (t false).testing (field pl 0 1) = true ∧
       ((t false).banks.march.map (·.preserving)) = some false) ∧
    (let pl : List Byte := [7, 0, 0, 0, 1, 0, 0, 0]
     let s := fun (n : Nat) => ({ run with loop := { trace := { state := n, channels := List.replicate 8 0x500000 } } } : State)
     ∀ n ∈ [1, 2, 3, 4], (s n).serves 0x0411 modesWork = true ∧ pl.length = 8 ∧ field pl 0 1 < 8 ∧ field pl 1 1 = 0 ∧
       (s n).loop.trace.channels.getD (field pl 0 1) 0 ≠ 0 ∧ (s n).loop.trace.state = n ∧
       field pl 2 2 ≠ 0xFFFF ∧ field ([7, 0, 0xFF, 0xFF, 1, 0, 0, 0] : List Byte) 2 2 = 0xFFFF ∧
       1 ≤ field pl 4 2 ∧ field pl 4 2 ≤ 1021 ∧ field pl 6 2 = 0) := by decide +kernel

/-- A guard die without a fault, in LOCKOUT. -/
def calmLock : State :=
  let s := inMode .lockout
  { s with guard := { s.guard with valid := true } }

/-- A reset waits for its reply. -/
def resetWaits (read : Bool) (now : Nat) : State :=
  let r : PendingReset := { code := 4, port := .spi, opcode := 0x0130, tag := 7, isReply := true, stamp := 1000, read := read }
  { run with sys := { run.sys with pendingReset := some r }, time := { run.time with now := now } }

theorem witness_ModeRequests :
    (run.serves 0x0101 modesFive = true ∧ modeOfCode 4 = some .service ∧ run.modeStatus .service ≠ stAccepted) ∧
    (modeOfCode 4 = some .service ∧ (inMode .standby).serves 0x0101 modesFive = true ∧
      (inMode .standby).modeStatus .service = stAccepted) ∧
    (modeOfCode 2 = some .standby ∧ run.sys.mode = .run ∧ run.modeStatus .standby = stAccepted) ∧
    (calmLock.serves 0x0120 [.lockout] = true ∧ calmLock.faultsPresent = [] ∧
      ((inMode .lockout).faultsPresent.head?).isSome = true) ∧
    (inMode .standby).serves 0x0130 modesAll = true ∧
    ((resetWaits true 1000).alive = true ∧ ((resetWaits true 1000).sys.pendingReset.map (·.read)) = some true ∧
      ((resetWaits false 21000).sys.pendingReset.map (fun r => decide (r.stamp + 20000 ≤ (resetWaits false 21000).time.now))) = some true ∧
      ((resetWaits false 20999).sys.pendingReset.map (fun r => decide ((resetWaits false 20999).time.now < r.stamp + 20000))) =
        some true) := by decide +kernel
theorem witness_StrandRequests :
    (let s := strands 15 run
     (zs 3).length = 3 ∧ ([15, 0, 0, 0] : List Byte).length = 4 ∧ s.strandMask [15, 0, 0, 0] = some 15 ∧ s.serves 0x0110 [.run] = true ∧
       s.serves 0x0111 modesFive = true ∧ s.toDisconnect 15 = [] ∧
       ({ s with hv := { s.hv with strands := [{}, { connected := true }, {}, {}] } } : State).toDisconnect 15 = [1]) := by decide +kernel

/-- Strand 0's contactors and the precharge contactor mapped to SO0 to SO2, as the checks ask. -/
def mapped : List (Nat × Int) :=
  [(0x0730, 0), (0x0734, 1), (0x0738, 2), (0x0C30, 1), (0x0C31, 1), (0x0C32, 1), (0x0D10, 2 ^ 31), (0x0D11, 2 ^ 31), (0x0D12, 2 ^ 31)]

theorem witness_StagingRequests :
    (let pl : List Byte := [0x02, 0x05, 1, 4, 1, 0, 0, 0]
     run.serves 0x0310 modesAll = true ∧ 4 ≤ pl.length ∧ run.param.pendingApply = none ∧ run.foreign .can = false ∧
       (parseRecords 1024 pl).length = 1 ∧ ∀ r ∈ parseRecords 1024 pl, r.id / 256 ≠ 0x0C ∧ run.stageFault r = none) ∧
    (let q := (par mapped run).param
     let s : State := { run with param := { q with shadow := [(0x0402, .num 1000)], owner := some .spi } }
     s.serves 0x0312 modesAll = true ∧ s.foreign .spi = false ∧ s.param.shadow ≠ [] ∧ s.param.pendingApply = none ∧
       s.stageViolations = [] ∧ s.r15 (s.param.stages isService) (s.param.stages (fun id => id / 256 == 0x0C)) = none ∧
       s.serves 0x0313 modesAll = true) ∧
    (let s := inMode .service
     let pl : List Byte := [6, 0, 0, 0, 1, 2, 3, 4] ++ [0x21, 0x7E, 0x30, 0x31, 0x32, 0x33]
     s.serves 0x0320 [.service] = true ∧ 14 ≤ pl.length ∧ pl.length ≤ 24 ∧ pl.length = 8 + field pl 0 1 ∧ field pl 1 3 = 0 ∧
       (∀ b ∈ pl.drop 8, 0x21 ≤ b.toNat ∧ b.toNat ≤ 0x7E) ∧ s.param.blockEnd ≤ s.time.opSec ∧
       ({ s.param with applied := [(passwordId, .str (pl.drop 8))] } : ParamState).get passwordId = .str (pl.drop 8) ∧
       ({ s.param with applied := [(passwordId, .str (zs 6))] } : ParamState).get passwordId ≠ .str (pl.drop 8)) ∧
    (let pl : List Byte := [15, 0, 0x60, 0xEA, 1, 0, 0, 0, 0x00, 0x00, 0x50, 0x00]
     run.serves 0x0202 modesAll = true ∧ pl.length = 8 + 4 * field pl 4 2 ∧ field pl 0 1 = 15 ∧ field pl 1 1 = 0 ∧
       field pl 6 2 = 0 ∧ field pl 2 2 = 60000 ∧ ∀ id ∈ idList pl 8 (field pl 4 2), pointFault id = none) := by decide +kernel

/-- Loop 31 enabled, driving no output, its set-point fixed and its process value AI0's point. -/
def loopOn : State :=
  let s := par [(0x0BF9, 2 ^ 31), (0x0BFA, 0x520000), (0x0D30, 2 ^ 31)] run
  { s with loop := { loops := setAt s.loop.loops 31 { mode := .manual, words := s.loopWords 31 } } }

theorem witness_LoopRequests :
    loopOn.serves 0x0401 modesWork = true ∧ loopOn.loopTakes 31 = true ∧ (loopOn.pvSource (loopOn.loopWords 31)).isSome = true ∧
    (loopOn.spSource (loopOn.loopWords 31)).isSome = true ∧ loopOn.serves 0x0402 modesWork = true ∧
    (loopOn.loopOf 31).mode = .manual ∧
    (let pl : List Byte := [1, 31, 0, 0, 0, 0, 1, 0, 0, 0, 0, 0] ++ zs 32
     loopOn.serves 0x0410 modesWork = true ∧ pl.length = 44 ∧ field pl 0 1 = 1 ∧ traceArmOk pl = true ∧ field pl 2 1 ≠ 1 ∧
       (word (loopOn.loopWords (field pl 1 1)) 0).testBit 31 = true ∧ loopOn.loop.trace.state = 0) := by decide +kernel

/-- Ring 3 with one admitted satellite, in SERVICE. -/
def ringUp : State :=
  let s := strands 8 (inMode .service)
  { s with rings := setAt s.rings 3 { sats := setAt (List.replicate 32 {}) 31 { ident := some { address := 31 }, admitted := true } } }

theorem witness_TestRequests :
    ringUp.serves 0x0701 [.service] = true ∧ ringUp.banks.march = none ∧ (2 ^ 24 - 1 < 2 ^ 24) ∧ ringUp.enabled 3 = true ∧
    (ringUp.measOf 3).owt = none ∧ ringUp.serves 0x0703 [.standby, .run, .service] = true ∧ ringUp.evaluates = true ∧
    (par [(0x0502, 8), (0x060D, 1)] ringUp).pn 0x060D ≠ 0 ∧ ringUp.serves 0x0901 [.service] = true ∧
    (ringUp.ring 3).admittedSet.contains (31 : Byte).toNat = true ∧ (zs 8).length = 8 ∧ satReserved 0x01 (field (zs 8) 0 2) = false ∧
    (ringUp.ring 3).queue.length < ringUp.qDepth (8 + 3) := by decide +kernel

/-- A manifest of the HV die's image of one byte, 0. -/
def manifest : List Byte :=
  leBytes 4 0x46485550 ++ [2, 0, 0, 0] ++ leBytes 4 0x01010000 ++ leBytes 4 1 ++ leBytes 2 1 ++ zs 238

/-- A session open for it. -/
def session : State := { run with upd := { session := 1, manifest := manifest } }

theorem witness_UpdateTransfer :
    (let pl := zs 4 ++ manifest
     run.serves 0x0601 modesAll = true ∧ pl.length = 260 ∧ field pl 0 1 = 0 ∧ field pl 1 3 = 0 ∧ manifestOk (pl.drop 4) = true ∧
       mComp (pl.drop 4) ≠ 4 ∧ run.upd.session ≠ 1 ∧ run.inWindow = false) ∧
    (session.serves 0x0602 modesAll = true ∧ session.upd.session = 1 ∧ 0 < mCount session.upd.manifest ∧
      (zs 1).length = pieceLength session.upd.manifest 0 ∧ assocGet 0 session.upd.pieces = none ∧
      ((sha256 [0]).take 8).length = 8 ∧ (sha256 [0]).take 8 ≠ zs 8) ∧
    (let s := { session with upd := { session.upd with pieces := [(0, { check := zs 8, data := [0] })] } }
     s.serves 0x0604 modesAll = true ∧ s.upd.session = 1 ∧ s.upd.verify = none ∧ s.upd.firstMissing = 0xFFFF) ∧
    (let s := { session with upd := { session.upd with verify := some (.packet .can 7) } }
     s.upd.verify = some (.packet .can 7) ∧ s.sys.mode ≠ .loader ∧ s.upd.comps.length = 5 ∧ mComp s.upd.manifest < 5 ∧
       s.verdict false ≠ 0) := by decide +kernel

/-- A component of the update service in a state. -/
def withComp (c : Nat) (x : CompState) (u : UpdState) : State := { run with upd := { u with comps := setAt u.comps c x } }

/-- A handover of a component. -/
def hand (c strands : Nat) : Handover := { comp := c, flags := 0, strands := strands, by' := .twoWire }

theorem witness_UpdateHandover :
    (let s := withComp 4 { state := 2 } {}
     s.upd.comps.length = 5 ∧ s.serves 0x0605 [.standby, .run, .service] = true ∧ s.verified 4 = true ∧ s.incompatible 4 = false ∧
       s.upd.handover = none) ∧
    ((hand 3 0).ready = false ∧ (hand 3 0).comp = 3 ∧ ringUp.switchList (hand 1 8) ≠ []) ∧
    ((3, 30) ∉ [((3, 31) : Nat × Nat)]) ∧
    (let s := withComp 3 { window := some 10 } {}
     (s.comp 3).window ≠ none ∧ s.upd.fallback = none ∧ s.healthy 3 = true ∧ s.serves 0x0606 modesAll = true ∧
       s.upd.comps.findIdx? (fun x => x.window.isSome) = some 3 ∧ (par [(0x1402, 1)] s).pn 0x1402 = 1 ∧ (par [(0x1402, 0)] s).pn 0x1402 ≠ 1) ∧
    (let s := withComp 2 { state := 1 } { session := 1, manifest := manifest }
     s.serves 0x0607 modesAll = true ∧ (s.comp 2).window = none ∧ (s.comp 2).state = 1 ∧ s.upd.handover = none ∧
       s.upd.session = 1 ∧ mComp s.upd.manifest = 2) ∧
    (let s : State := { run with upd := { restoring := true } }
     s.upd.restoring = true ∧ s.upd.abortBy = [] ∧ s.upd.hibernateAfter = none) := by decide +kernel

/-! ## Hypotheses of the statements about the two-wire bus, the host port and CAN -/

/-- The two-wire target with both addresses. -/
def twOn (m : Mode) : State :=
  let s := par [(0x1203, 0x30), (0x1204, 0x31), (0x1205, 0)] (inMode m)
  { s with time := { s.time with starts := 1 } }

/-- The same with stretching, and a command in execution. -/
def twBusy : State :=
  let s := par [(0x1203, 0x30), (0x1204, 0x31), (0x1205, 1)] run
  { s with tw := { s.tw with busy := true } }

theorem witness_TwoWireWords :
    (∀ m ∈ [Mode.run, Mode.start, Mode.loader], (twOn m).twCmdUp = true ∧ (twOn m).tw.busy = false ∧ (twOn m).time.quiesced = false ∧
      0 < (twOn m).time.starts ∧ (twOn m).port.q0 = [] ∧ (twOn m).port.q1 = [] ∧ (twOn m).port.q2 = [] ∧
      (twOn m).port.q3 = [] ∧ 0 < (twOn m).qDepth 3) ∧
    modeOfCode 2 = some .standby ∧ (twOn .run).modeStatus .standby = stAccepted ∧
    (modeOfCode 3 = some .run ∧ (twOn .run).modeStatus .run = stAccepted ∧ (twOn .run).sys.autoRunBarred = false) ∧
    (twOn .run).opAllowed opDisconnect modesFive = true ∧ (∀ k, k < 4 → (par [(0x0502, 15)] run).enabled k = true) := by decide +kernel

theorem witness_TwoWireReads :
    (twOn .run).twBus = true ∧ (twOn .run).pn 0x1204 ≠ 0 ∧ (twOn .run).twCmdUp = true ∧ (twOn .run).tw.busy = false ∧
    twBusy.twCmdUp = true ∧ twBusy.tw.busy = true ∧ twBusy.pn 0x1205 ≠ 0 ∧ twBusy.twUp = true ∧
    twBusy.port.q3.length < twBusy.qDepth 3 ∧
    ({ twOn .run with time := { quiesced := true } } : State).time.quiesced = true := by decide +kernel

/-- Controller slot 7 polled, on the bus, after `n` retries. -/
def twPolling (n : Nat) : State :=
  { run with twc := { slots := setAt (List.replicate 8 {}) 7 { pending := true }, queue := [(7, 5)], retries := n } }

theorem witness_ArbitrationRetried :
    (twPolling 0).twServes = true ∧ (twPolling 0).twc.queue = (7, 5) :: [] ∧
    (par [(0x1206, 1)] (twPolling 0)).twc.retries < (par [(0x1206, 1)] (twPolling 0)).pn 0x1206 ∧
    (par [(0x1206, 1)] (twPolling 1)).pn 0x1206 ≤ (par [(0x1206, 1)] (twPolling 1)).twc.retries := by decide +kernel

theorem witness_ControllerSlots :
    (let s := par [(0x1235, 2 ^ 31)] run
     7 < 8 ∧ s.pn (0x1220 + 3 * 7) = 2 ^ 31 ∧ s.twc.slots[7]? = some ({} : TwSlot) ∧ s.twServes = true ∧ (2 ^ 31).testBit 31 = true ∧
       (2 ^ 31).testBit 30 = false ∧ s.twTurn 7 = true ∧ s.twTurn 8 = true ∧
       ({ s with twc := { s.twc with due := some (s.time.now / 1000, 7) } } : State).twTurn 7 = false ∧ s.twc.queue.length < s.qDepth 56 ∧
       s.qDepth 56 ≤ (List.replicate 16 ((0, 0) : Nat × Nat)).length) ∧
    ((twPolling 0).twc.queue = (7, 5) :: [] ∧ (zs 1).length = 2 ^ bits (2 ^ 31) 27 26) := by decide +kernel

/-- A packet's header with its CRC. -/
def header (op tag flags len : Nat) : List Byte :=
  let h := leBytes 2 op ++ leBytes 2 tag ++ [BitVec.ofNat 8 flags, 1] ++ leBytes 2 len ++ [0, 0]
  h ++ leBytes 2 (crc16 h)

/-- A packet being stored. -/
def stored (flags : Nat) : Cmd := { port := .spi, opcode := 1, tag := 1, flags := flags, payload := [] }

theorem witness_PacketsWritten :
    run.portUp = true ∧ (zs 11).length < 12 ∧ field ([1] ++ zs 11) 10 2 ≠ crc16 (([1] ++ zs 11 : List Byte).take 10) ∧
    (let b := header 1 1 0 4097
     12 ≤ b.length ∧ field b 10 2 = crc16 (b.take 10) ∧ 4096 < field b 6 2) ∧
    (let b := header 1 1 0 0 ++ zs 4
     field b 10 2 = crc16 (b.take 10) ∧ field b 6 2 ≤ 4096 ∧ b.length = 16 + field b 6 2 ∧ (parseCmd .spi b).crcOk = true ∧
       run.port.storing = none ∧ run.port.slotsUsed < 32 ∧ run.port.refusals < 8 ∧
       ({ run.port with storing := some (stored 0) } : PortState).storing ≠ none ∧
       32 ≤ ({ run.port with slotsUsed := 32 } : PortState).slotsUsed) ∧
    (stored 1).port = .spi ∧ (stored 1).flags % 2 = 1 ∧ run.port.q0.length < run.qDepth 0 ∧ run.qDepth 0 ≤ (List.replicate 32 (stored 1)).length ∧
    (stored 0).flags % 2 = 0 ∧ run.port.q1.length < run.qDepth 1 ∧
    (let t : State := { run with time := { run.time with starts := 1 }, port := { run.port with q0 := [stored 1] } }
     t.time.quiesced = false ∧ t.time.starts = 1 ∧ t.port.q0 = [stored 1] ∧ t.port.q1 = [] ∧ t.port.q2 = [] ∧ t.port.q3 = []) ∧
    ({ run.time with quiesced := true } : TimeState).quiesced = true := by decide +kernel

/-- A packet that leaves. -/
def leaving : OutPacket := { opcode := 1, tag := 1, isReply := true, payload := [] }

theorem witness_PacketsRead :
    run.portUp = true ∧ run.port.out.slots = [] ∧ 15 < leaving.bytes.length ∧ leaving.bytes.length ≤ 16 ∧
    ([] : List OutPacket).length < 32 ∧ run.port.out.waiting = [] ∧ 2 ^ 24 - 1 < 2 ^ 24 ∧
    Memory.read [(bankAddr 20 (2 * 262144 - 1), 5)] (bankAddr 20 (2 * 262144 - 1)) ≠ Memory.blank ∧
    (0x02 : Byte).toNat % 128 ∉ [0x01, 0x05, 0x0A, 0x0B, 0x0C] := by decide +kernel

theorem witness_HostRegisters :
    run.portUp = true ∧ (∀ r ∈ run.router, r.pending &&& 0x60 = 0) ∧
    (let l := setAt run.router 255 { pending := 0x40 }
     l[255]? = some { pending := 0x40 } ∧ ((0x40 : Byte) &&& 0x60 ≠ 0) ∧
       ∀ j, j < 255 → (l[j]?).all (fun q => q.pending &&& 0x60 == 0) = true) := by decide +kernel

/-- CAN channel 2 in FD mode with the command channel on it. -/
def canOn : State :=
  let s := par [(0x0F04, 2 ^ 31), (0x0F10, 2), (0x0F11, 0x123)] run
  { s with can := setAt s.can 2 { state := 0 } }

/-- A first packet's reassembly. -/
def halfway : Reassembly := { bytes := header 1 1 0 0, next := 1, active := true }

theorem witness_CanCommandSegments :
    canOn.transport .can = true ∧ canOn.canUp canOn.cmdCh = true ∧ canOn.port.q2.length < canOn.qDepth 2 ∧
    canOn.port.reasm.active = false ∧
    (let d := header 1 1 0 0 ++ zs 4
     12 ≤ d.length ∧ field d 10 2 = crc16 (d.take 10) ∧ field d 6 2 ≤ 4096) ∧
    halfway.active = true ∧ 12 ≤ halfway.bytes.length ∧ (0x41 : Byte).getLsbD 7 = false ∧ (0x41 : Byte).toNat % 64 = halfway.next ∧
    (0x41 : Byte).getLsbD 6 = true ∧ (0x01 : Byte).getLsbD 6 = false ∧ canOn.canMode canOn.cmdCh = 2 ∧ 64 ≤ (zs 63).length + 1 ∧
    (zs 62).length + 1 < 64 ∧ (0x02 : Byte).toNat % 64 ≠ halfway.next := by decide +kernel

theorem witness_CanReception :
    lengthOk true 9 = false ∧ lengthOk true 64 = true ∧ canOn.canUp 2 = true ∧ canOn.canMode 2 = 2 ∧
    canOn.can[2]? = some { state := 0 } ∧
    (canOn.rxClass 2 { id := 0x7FF, data := [] } = none ∧ canOn.sys.mode ≠ .loader ∧
      canOn.rxClass 2 { id := 0x123, data := [] } = some 0) ∧
    ((List.replicate 4 ([] : List RxDesc)).getD 0 []).length < canOn.qDepth (20 + 8 * 2 + 0) ∧
    canOn.qDepth (20 + 8 * 2 + 0) ≤ (List.replicate 64 ({ frame := { id := 0, data := [] }, stamp := 0 } : RxDesc)).length := by
  decide +kernel

/-- A segment to transmit. -/
def txd (dl : Option Nat) : TxDesc := { frame := { id := 0x124, data := [] }, kind := .segment, deadline := dl }

theorem witness_CanTransmission :
    canOn.canUp 2 = true ∧ canOn.feed.commit = none ∧ ({ canOn.feed with commit := some 2 } : FeedState).commit ≠ none ∧
    (let k : CanState := { state := 0, tec := 128, rec' := 127, tx := setAt (List.replicate 4 []) 3 [txd none] }
     k.offered 0 = some 3 ∧ k.tx[3]? = some (txd none :: []) ∧ k.state = 0 ∧ k.tec ≤ 128 ∧ k.rec' ≤ 127) ∧
    (let q := [txd none, txd (some 9)]
     q[1]? = some (txd (some 9)) ∧ (txd (some 9)).deadline = some 9) := by decide +kernel

theorem witness_CanErrorStates :
    canOn.canRuns 2 = true ∧ canOn.can[2]? = some { state := 0 } ∧
    (let k : CanState := { state := 0, tec := 127, rec' := 119 }
     k.tec ≤ 127 ∧ k.rec' + 8 ≤ 127 ∧ k.offered (1000 * canOn.time.now) = none ∧ k.tec + 0 ≤ 127 ∧ k.rec' ≤ 127) ∧
    (let k : CanState := { state := 0, tec := 248, rec' := 127 }
     127 < k.rec' + 1 ∧ k.rec' + 8 ≤ 255 ∧ k.offered (1000 * canOn.time.now) = none ∧ 255 < k.tec + 8) ∧
    (let k : CanState := { state := 0, tx := [[txd none], [], [], []] }
     k.offered (1000 * canOn.time.now) = some 0 ∧ k.tx[0]? = some (txd none :: []) ∧ k.tec + 8 ≤ 127 ∧ k.rec' ≤ 127) ∧
    canOn.pn 0x0F01 ≠ 65535 ∧
    (let k : CanState := { state := 2, recovering := true, tx := [[txd (some 0)], [], [], []] }
     k.recovering = true ∧ ∀ q ∈ k.tx, ∀ d ∈ q, d.deadline = some 0 ∧ canOn.time.now ≤ 0) ∧
    (({} : CanState).heard = false ∧ ({} : CanState).swapped = false) := by decide +kernel
/-! ## Hypotheses of the statements about network time, dispatch and the feeds -/

/-- Channel 2 is the segment channel; the module is its master or follower. -/
def netOn (r : NtRole) (st : Nat) : State :=
  let s := par [(0x0F04, 2 ^ 31), (0x1001, 2), (0x1002, 2), (0x1003, 3), (0x1004, 100), (0x1009, 60), (0x1101, 2), (0x1102, 1), (0x1103, 5)] run
  { s with can := setAt s.can 2 { state := 0 }, clock := { segment := r, state := st } }

/-- A SYNC heard on it. -/
def heard (e : Nat) : SyncHeard := { channel := 2, seq := 9, flags := 0, epoch := e, master := 0x101, high := 0, capture := 0 }

theorem witness_NetworkTimePairs :
    (let s := netOn .master 0
     s.sys.mode ≠ .loader ∧ s.canRuns 2 = true ∧ s.masterOn 2 = true ∧ s.feed.commit = none ∧ 2 < s.can.length ∧
       ((s.canOf 2).tx.getD 0 []).length < s.qDepth (16 + 8 * 2) ∧ (s.canOf 2).tx.length = 4 ∧
       s.qDepth (16 + 8 * 2) ≤ (List.replicate 32 (txd none)).length) ∧
    (let s := netOn .follower 0
     s.canUp 2 = true ∧ s.pn 0x1001 ≠ 0 ∧ s.followCh = some 2 ∧ (zs 8).length = 8 ∧
       field (zs 8) 0 1 ≠ (heard 0).seq ∧ field ([9] ++ zs 7) 0 1 = (heard 0).seq ∧ s.masterFits (heard 0) = true ∧ s.clock.state = 0 ∧
       (heard 0).channel = 2 ∧ 1000 * s.time.now ≤ (heard 0).capture + 500000 * s.pn 0x1004 ∧
       ¬ 1000 * (10 ^ 9) ≤ (heard 0).capture + 500000 * s.pn 0x1004) ∧
    (let s := { netOn .follower 2 with clock := { (netOn .follower 2).clock with masterEpoch := some 3 } }
     s.clock.state ≠ 0 ∧ (s.pairResidual (heard 3) 100000).natAbs ≤ 100000 + s.pn 0x1007 ∧ s.clock.masterEpoch = some (heard 3).epoch) := by
  decide +kernel

theorem witness_NetworkTimeStates :
    (∀ st ∈ [0, 1, 2, 3], (netOn .follower st).alive = true ∧ (netOn .follower st).ntOwn = false ∧ (netOn .follower st).clock.state = st) ∧
    (let s := { netOn .follower 3 with time := { now := 60000000, opSec := 86400 } }
     s.clock.lastPair + 3000 * s.pn 0x1004 ≤ s.time.now ∧ s.clock.lastPair + 1000000 * s.pn 0x1009 ≤ s.time.now ∧
       s.silt.corrAt + 86400 ≤ s.time.opSec) := by decide +kernel

/-- A module of tier 2 in cycle 7 with strand 0 connected at 800 V. -/
def disp (d : DispState) : State :=
  let s := netOn .follower 2
  { s with disp := { d with cycle := 7 }, hv := { s.hv with strands := setAt s.hv.strands 0 { voltage := some 800000, connected := true } } }

theorem witness_DispatchCycle :
    (disp {}).dispatches = true ∧ (disp {}).feed.commit = none ∧ ({ (disp {}).feed with commit := some 2 } : FeedState).commit ≠ none ∧
    (disp { pendingAlloc := some ((disp {}).cycleNumber, [1, 2, 3, 4]) }).disp.pendingAlloc =
      some ((disp {}).cycleNumber, [1, 2, 3, 4]) ∧ (disp {}).disp.pendingAlloc ≠ some ((disp {}).cycleNumber, [1, 2, 3, 4]) ∧
    (disp {}).connected 1 = false ∧ (disp {}).connected 0 = true ∧ (disp {}).strandPoint 0x20 0 = some 800000 ∧
    (par [(0x1101, 2), (0x1110, 3)] (disp { staleRun := 3 })).pn 0x1110 ≤ 3 ∧ (disp {}).disp.allocStale = false ∧
    (par [(0x1101, 1), (0x1110, 3)] (disp { holderRun := 3 })).topLead = true ∧ (disp {}).disp.noSetpoint = false := by decide +kernel

/-- 64 bytes with a cycle, a first byte of count, a tag and the rest. -/
def fed (cycle count : Nat) (rest : List Byte) : List Byte := padTo 64 (leBytes 2 cycle ++ [BitVec.ofNat 8 count, 0] ++ rest)

theorem witness_DispatchFrames :
    (let s := disp { segLead := some 0x101, trunkLead := some 0x101 }
     s.dispatches = true ∧ (fed 7 0 []).length = 64 ∧ 2 ≤ s.tier ∧ s.canUp s.segCh = true ∧
       field (fed 7 0 (leBytes 4 (s.pn 0x1104))) 4 4 = s.pn 0x1104 ∧ field (fed 7 0 []) 0 2 = s.disp.cycle ∧ (0x102 ≠ s.moduleId) ∧
       field (fed 7 0 (leBytes 4 (s.pn 0x1104 + 1))) 4 4 ≠ s.pn 0x1104 ∧ s.disp.segLead = some 0x101 ∧
       field (fed 8 6 []) 0 2 = (s.disp.cycle + 1) % 65536 ∧ s.disp.duplicate = false ∧
       (let b := fed 8 6 (zs 50 ++ leBytes 2 0x105)
        5 < min 6 (field b 2 1) ∧ field b (4 + 10 * 5) 2 = s.moduleId ∧ ∀ j, j < 5 → field b (4 + 10 * j) 2 ≠ s.moduleId) ∧
       s.disp.segLead ≠ some 0x102) ∧
    (let q := par [(0x0F03, 2 ^ 31), (0x0F04, 2 ^ 31), (0x1002, 2), (0x1003, 1), (0x1101, 3), (0x1102, 1), (0x1103, 5)]
       (disp { trunkLead := some 0x101 })
     let s : State := { q with can := List.replicate 3 { state := 0 } }
     s.dispatches = true ∧ s.tier = 3 ∧ s.canUp s.trunkCh = true ∧ s.disp.trunkLead = some 0x101 ∧
       (let b := fed 8 7 (zs 48 ++ [1])
        6 < min 7 (field b 2 1) ∧ field b (4 + 8 * 6) 1 = s.pn 0x1102 ∧ ∀ j, j < 6 → field b (4 + 8 * j) 1 ≠ s.pn 0x1102) ∧
       s.leadsTrunk = false) := by decide +kernel

theorem witness_ElectionAndAllocation :
    (disp {}).dispatches = true ∧ (disp {}).feed.commit = none ∧ 2 ≤ (disp {}).tier ∧
    (let s := par [(0x1101, 3), (0x1102, 1), (0x1103, 5)] (disp {})
     s.dispatches = true ∧ s.tier = 3 ∧ s.leadsTrunk = false ∧ s.leadsSegment = false) ∧
    (let s := par [(0x1101, 1), (0x1108, 5)] (disp {})
     s.dispatches = true ∧ s.tier = 1 ∧ s.disp.duplicate = false ∧ s.ownSetpoint = some 0) := by decide +kernel

/-- The module on feed A with feed B standing by. -/
def onFeed (f : FeedState) : State := { run with feed := f }

theorem witness_FeedHandover :
    (let f : FeedState := { active := some .a, code := .aActive, standbyOk := true }
     let s := onFeed f
     let u := setFeedMv .b (s.pn 0x0201) (setFeedMv .a (s.pn 0x0201 - 1) s)
     s.sys.powered = true ∧ s.feed.commit = none ∧ u.feed.mv .a < s.pn 0x0201 ∧ s.pn 0x0201 ≤ u.feed.mv (otherFeed .a) ∧
       (setFeedMv .b (s.pn 0x0201 - 1) u).feed.mv (otherFeed .a) < s.pn 0x0201 ∧ s.feed.identical = false) ∧
    ((onFeed { active := some .b, code := .single }).feed.code = .single) ∧
    ((onFeed { code := .toA }).feed.code = .toA ∧ (onFeed { code := .toB }).feed.code = .toB) ∧
    (let s := onFeed { code := .holdOnly, barredA := true }
     s.feed.code = .holdOnly ∧ s.feed.starting = none ∧ s.feed.barred .b = false ∧ s.feed.barred .a = true ∧
       s.pn 0x0201 + 1000 ≤ 30000) := by decide +kernel

theorem witness_FeedJudgement :
    (onFeed { active := some .b, code := .bActive }).sys.powered = true ∧ (onFeed { active := some .b }).feed.commit = none ∧
    (onFeed { active := some .b }).feed.judged = false ∧ (onFeed { judged := true }).feed.judged = true ∧
    FeedCode.bActive ≠ .toA ∧ FeedCode.bActive ≠ .toB ∧
    (let f : FeedState := { active := some (otherFeed .a), judged := true, code := .bActive }
     f.active = some (otherFeed .a) ∧ f.code = activeCode (otherFeed .a) false) := by decide +kernel

/-- The same with an hour as the period of the proof test, at an instant. -/
def proofHour (f : FeedState) (now : Nat) : State :=
  let s := par [(0x0204, 1)] (onFeed f)
  { s with time := { s.time with now := now } }

theorem witness_FeedProofTest :
    (let f : FeedState := { active := some .a, code := .aActive, standbyOk := true, holdMv := 30000 }
     let s := proofHour f 3600000000
     s.sys.ready = true ∧ s.opAllowed opProofTest modesFive = true ∧ s.proofStatus = stAccepted ∧ s.time.quiesced = false ∧
       s.pn 0x0204 ≠ 0 ∧ s.feed.proofRetry = false ∧ s.feed.proofAt + s.pn 0x0204 * 3600 * 1000000 ≤ s.time.now ∧
       ¬ s.feed.proofAt + s.pn 0x0204 * 3600 * 1000000 ≤ (proofHour f 3599999999).time.now) ∧
    (let s := proofHour { code := .holdOnly, proofRetry := true, proofTried := 5 } 60000005
     s.proofStatus ≠ stAccepted ∧ s.feed.proofRetry = true ∧ s.feed.proofTried + 60 * 1000000 ≤ s.time.now) ∧
    (let job : ProofTest := { by' := some .twoWire, since := 10 }
     (onFeed { code := .proof, proof := some job }).feed.proof = some job ∧ job.since + 3000 ≤ 3010 ∧ 3009 < job.since + 3000 ∧
       ¬ (29700 + 300 < (onFeed {}).pn 0x0203 ∧ (onFeed {}).pn 0x0203 ≤ 30000)) := by decide +kernel

theorem witness_PowerFailCommit :
    run.alive = true ∧ run.feed.commit = none ∧ 10999 < 11000 ∧
    ((onFeed { commit := some 5 }).feed.commit = some 5 ∧ (onFeed { commit := some 5 }).feed.recovered = false) ∧
    (onFeed { commit := some 6 }).feed.commit = some 6 ∧ run.sys.powered = true ∧
    ((inMode .hibernate).sys.powered = true ∧ (inMode .hibernate).sys.mode = .hibernate) ∧
    (run.opAllowed opProofTest modesFive = true ∧ run.sys.mode ≠ .hollow ∧ run.time.quiesced = false ∧ run.feed.journalBusy = none ∧
      ({ run.time with quiesced := true } : TimeState).quiesced = true) ∧
    ({ run with est := { summary := [{}] } } : State).est.summary ≠ [] := by decide +kernel
/-! ## Hypotheses of the statements about protection, frames, starts, temperatures and rings -/

/-- Ring 3's satellite 31 admitted by the guard die, its last counter 7. -/
def lanes (seen : Bool) : State :=
  let g : GuardLane := { admitted := true, counter := some 7, seen := seen }
  { run with guard := { lanes := setAt run.guard.lanes 3 (setAt (List.replicate 32 {}) 31 g) } }

/-- A lane of address 31 without a flag, its check right. -/
def laneOf (counter : Nat) : Half := BitVec.ofNat 16 (0x0F00 + 8 * 31 + counter)

theorem witness_FlagLanes :
    (lanes false).alive = true ∧ (lanes false).evaluates = true ∧ (decodeLane (laneOf 0)).addr = 31 ∧
    (let g : GuardLane := { admitted := true, counter := some 7 }
     (lanes false).guard.lanes[3]? = some (setAt (List.replicate 32 {}) 31 g) ∧
       (setAt (List.replicate 32 ({} : GuardLane)) 31 g)[31]? = some g ∧ g.accepts (decodeLane (laneOf 0)) = true ∧
       g.accepts (decodeLane (laneOf 1)) = true ∧ g.accepts (decodeLane (laneOf 2)) = false ∧
       g.accepts (decodeLane 0x0EF8) = false ∧ g.lost = false) := by decide +kernel

/-- The watchdog in the middle of a window. -/
def dog (w : Watchdog) : State := { run with guard := { watchdog := w } }

theorem witness_WatchdogDialogue :
    run.alive = true ∧ (dog { armed := true }).guard.watchdog.armed = true ∧
    (let w : Watchdog := { challenge := some 65535, good := true, responses := 1 }
     (dog w).guard.watchdog.challenge = some 65535 ∧ (dog w).guard.watchdog.good = true ∧ (dog w).guard.watchdog.responses = 1) ∧
    (dog { challenge := some 0, misses := 1 }).guard.watchdog.misses < 2 ∧
    2 ≤ (dog { challenge := some 0, misses := 2 }).guard.watchdog.misses := by decide +kernel

/-- A lock-out ready to be reset. -/
def locked : State :=
  let l : LockState := { latch := true, record := true, causes := [0xB2], ac0Fault := false, ac0Silent := false, armed := true }
  { inMode .lockout with guard := { valid := true }, sys := { powered := true, mode := .lockout, ready := true, lock := l },
                         pins := { lockRst := some true } }

theorem witness_LockoutReset :
    locked.pins.lockRst = some true ∧ locked.alive = true ∧ locked.sys.mode = .lockout ∧ locked.sys.lock.latch = true ∧
    locked.pins.lockFault = false ∧ locked.guardFaults = false ∧ locked.sys.lock.armed = true ∧ locked.gn 0x0C02 = 0 ∧
    ({ locked.pins with lockFault := true } : PinState).lockFault = true ∧ (inMode .lockout).guardFaults = true ∧ run.ac0On = true ∧
    run.sys.ready = true := by decide +kernel

/-- Pair 7 enabled on SO0, its channels apart. -/
def pairOpen : State :=
  let c : List (Nat × PVal) := [(0x0C27, .num (2 ^ 31 + 2 ^ 29 + 1))]
  { run with guard := { config := c, pairs := setAt (List.replicate 8 {}) 7 { aClosed := true, timing := true } } }

theorem witness_DualChannelInputs :
    pairOpen.sys.powered = true ∧ pairOpen.evaluates = true ∧ pairOpen.guard.pairs.length = 8 ∧ pairOpen.pairOn 7 = true ∧
    (pairOpen.pairOf 7).timing = true ∧ (pairOpen.pairOf 7).aClosed ≠ (pairOpen.pairOf 7).bClosed ∧
    (∀ i, i < 16 → run.pulseChecked i = true → run.supplyOf i = 0) ∧ 15 < run.guard.ownFails.length := by decide +kernel

/-- SO11 on, its tests failed once. -/
def outOn : State :=
  { run with guard := { valid := true, commands := 2 ^ 11, admitWritten := List.replicate 4 true, oscFails := 1,
                        enableFails := setAt (List.replicate 12 0) 11 1, commandFails := setAt (List.replicate 12 0) 11 1 } }

theorem witness_GuardPathTests :
    outOn.evaluates = true ∧ outOn.outputOn 11 = true ∧ outOn.guard.enableFails.getD 11 0 = 1 ∧
    outOn.guard.commandFails.getD 11 0 = 1 ∧ outOn.guard.oscFails = 1 ∧ outOn.guard.valid = true := by decide +kernel

/-- Strand 3's trip. -/
def trip (t : TripState) : State := { run with guard := { trips := setAt (List.replicate 4 {}) 3 t } }

theorem witness_StrandTrips :
    run.sys.powered = true ∧ run.evaluates = true ∧ ((trip {}).tripOf 3).ocNow = false ∧ (trip {}).alive = true ∧
    (∀ v ∈ [0, 1], ({ run with guard := { config := [(0x0C08, .num v)] } } : State).gn 0x0C08 = v.toNat) ∧
    ((trip {}).tripOf 3).active = 0 ∧ ((trip { guardLatch := true }).tripOf 3).guardLatch = true ∧
    0 < ((trip { ac0Latch := true, active := 255 }).tripOf 3).active ∧
    ((trip { ac0Latch := true, active := 255 }).tripOf 3).active < 256 ∧
    (let s := par [(0x0C0E, 5)] (trip { guardLatch := true, endedAt := 1000 })
     ({ s with time := { now := 5999 } } : State).time.now < (s.tripOf 3).endedAt + 1000 * s.pn 0x0C0E ∧
       (s.tripOf 3).endedAt + 1000 * s.pn 0x0C0E ≤ ({ s with time := { now := 6000 } } : State).time.now) := by decide +kernel

theorem witness_FrameBoundary :
    run.alive = true ∧ 11 ≤ run.sys.step ∧ run.sys.hibernating = none ∧ run.sys.mode ≠ .start ∧ run.sys.autoRunDue = false ∧
    ({ run with time := { inFlight := [.array] } } : State).time.inFlight ≠ [] ∧ run.time.inFlight = [] ∧ run.upd.handover = none ∧
    run.upd.fallback = none ∧ run.param.immediate = [] ∧ run.sys.pendingMode = [] ∧ run.param.pendingApply = none ∧
    (let a : PendingApply := { instant := 0, port := .spi, tag := 0 }
     a.instant = 0 ∧ run.r15 a.service a.guarded = none) ∧
    run.time.quiesced = false ∧ ({ run with time := { now := 900 } } : State).time.now % 1000 ≤ 900 ∧
    ({ run with time := { quiesced := true } } : State).time.quiesced = true ∧
    ({ run with time := { tb1Disciplined := true } } : State).time.tb1Disciplined = true := by decide +kernel

theorem witness_Starts :
    State.reset.sys.powered = false ∧ (∃ x : PowerTests, x.reversedA = false ∧ 9000 ≤ x.mvA ∧ ¬ 9000 ≤ x.mvB) ∧
    (∃ x : PowerTests, ¬ 9000 ≤ x.mvA ∧ x.reversedB = false ∧ 9000 ≤ x.mvB) ∧
    ({ State.reset with sys := { powered := true, step := 2 } } : State).charging = true ∧
    (let s : State := { State.reset with sys := { powered := true, held := some 3 } }
     s.sys.powered = true ∧ s.sys.held = some 3 ∧ 3 ≠ 1) :=
  ⟨by decide, ⟨⟨9000, 8999, false, false⟩, by decide⟩, ⟨⟨8999, 9000, false, false⟩, by decide⟩, by decide +kernel, by decide⟩

theorem witness_ResetsAndWakes :
    run.resettable = true ∧ run.alive = true ∧ 7 ≤ run.sys.step ∧
    ({ run with sys := { run.sys with held := some 3 } } : State).sys.held ≠ none ∧
    (let s := par [(0x0103, 0x7F), (0x0104, 1), (0x0502, 8), (0x0F04, 2 ^ 31 + 2 ^ 27)] (inMode .hibernate)
     s.sys.powered = true ∧ s.sys.held = none ∧ (∀ w ∈ [WakeSource.can 2, .wakeTone 3, .alarm], s.wakeEnabled w = true) ∧
       s.sys.mode = .hibernate ∧ 32767 < 32768 * s.pn 0x0104 ∧ 32768 * s.pn 0x0104 ≤ 32768) ∧
    (let m : ModeState := { powered := true, mode := .standby, ready := true, pendingMode := [⟨.hibernate, .twoWire, false⟩] }
     let s := par [(0x0103, 0x7F), (0x1203, 1)] { run with sys := m }
     s.sys.mode ≠ .hibernate ∧ s.hibernatePending = true ∧ s.wakeEnabled .twoWire = true) ∧
    (inMode .standby).hibernatePending = false ∧ Engine.ac0 ≠ .array := by decide +kernel

theorem witness_ThermalStates :
    (run.alive = true ∧ run.sys.mode ≠ .loader ∧ run.sys.ready = true ∧ run.time.quiesced = false ∧
      ({ run.time with quiesced := true } : TimeState).quiesced = true) ∧
    ((500 : Int) ≤ 1000 ∧ (1000 : Int) ≤ 1000 ∧ (499 : Int) < 500 ∧ (500 : Int) ≤ 999 ∧ (999 : Int) < 1000) ∧
    (run.evaluates = true ∧ run.sys.mode ≠ .start ∧ run.sys.lock.thermal = false) ∧
    (State.reset.alive = false ∧ (inMode .start).sys.mode = .start ∧ (inMode .loader).evaluates = false) := by decide +kernel


/-! ## Rings, measurements and estimation -/

/-- Satellite 31, admitted and confirmed. -/
def sat31 : SatState := { ident := some { address := 31 }, admitted := true, confirmed := true }

/-- Ring 3 of the module in RUN, in loop operation with satellite 31 admitted, changed by `f`. -/
def ring3 (f : RingState → RingState) : State :=
  let s := par [(0x0502, 8), (0x0503, 2 ^ 29), (0x0602, 1)] run
  { s with rings := setAt s.rings 3 (f { op := .loop, sats := setAt (List.replicate 32 {}) 31 sat31 }) }

/-- A trigger header. -/
def head : SnapHeader :=
  { seq := 1, at' := 5000, net := 0, corner := 3, ratio := 1, owt := false, blanking := false, model := false }

/-- The 80 bytes of a block of satellite 31 with the primary code 200,000 in every place: 4 bytes of header, 36 of primary codes,
24 of secondary codes and 12 of temperatures, all 0, and the CRC-32 (R196). -/
def blockBytes : List Byte :=
  [0, 1, 0, 248] ++ (List.replicate 4 [64, 13, 3, 53, 12, 212, 48, 80, 195]).flatten ++ zs 36 ++ [17, 222, 60, 20]

/-- A block of satellite 31 with one code. -/
def block (code : Nat) : SatBlock := 
  { addr := 31, echo := 1, primary := List.replicate 16 code, secondary := List.replicate 16 0, temps := List.replicate 8 0 }

def slot : Slot := { block := block 200000, lane := decodeLane (laneOf 7) }

theorem blockCrc0 : (blockBytes.take 22).foldl crc32Byte 0xFFFFFFFF#32 = 0x31A914B3#32 := by decide +kernel
theorem blockCrc1 : ((blockBytes.drop 22).take 18).foldl crc32Byte 0x31A914B3#32 = 0xA26F3EC6#32 := by decide +kernel
theorem blockCrc2 : ((blockBytes.drop 40).take 18).foldl crc32Byte 0xA26F3EC6#32 = 0xBB23EC7C#32 := by decide +kernel
theorem blockCrc3 : ((blockBytes.drop 58).take 18).foldl crc32Byte 0xBB23EC7C#32 = 0xEBC321EE#32 := by decide +kernel

/-- The CRC-32 of R196 of the block is that of R133. -/
theorem test_blockCrc : (decodeBlock 1 blockBytes).crcOk = true := by
  have h : blockBytes.take 76 = blockBytes.take 22 ++ (blockBytes.drop 22).take 18 ++ (blockBytes.drop 40).take 18 ++
      (blockBytes.drop 58).take 18 := by decide +kernel
  have hc : crc32 (blockBytes.take 76) = field blockBytes 76 4 := by
    unfold crc32
    rw [h, List.foldl_append, List.foldl_append, List.foldl_append, blockCrc0, blockCrc1, blockCrc2, blockCrc3]
    decide +kernel
  have hl : blockBytes.length = 80 := by decide +kernel
  simp [decodeBlock, hl, hc]

/-- The block's fields (R196). -/
theorem test_block : decodeBlock 1 blockBytes = block 200000 := by
  have h : ∀ b : SatBlock, b.crcOk = true → { b with crcOk := true } = b := by rintro ⟨⟩ h; simp_all
  rw [← h _ test_blockCrc]
  decide +kernel

/-- A COLLECT frame that comes back with a block of satellite 31. -/
def collected (count : Nat) : CollectFrame :=
  { header := frameHeader 0x02 1 0xFF count, slots := [{ block := blockBytes, lane := laneOf 7 }] }

theorem witness_SnapshotCycle :
    (let s := ring3 id
     s.ringRuns 3 = true ∧ s.rings[3]? ≠ none ∧ s.blanking 3 (s.pn 0x0602) = true ∧ (s.ring 3).awaiting = none ∧
       (s.ring 3).stopAll = false ∧ (s.ring 3).sleepReq = false ∧
       (s.ring 3).lostRun = 0 ∧ s.triggerDue 3 0 = true ∧ s.triggerDue 3 999 = false ∧
       ({ s with time := { now := 9999 }, clock := { state := 2, offset := 1000 } } : State).triggerDue 3 999 = true ∧ 999 ≠ 0) ∧
    ((ring3 (fun g => { g with stopAll := true })).ringRuns 3 = true) ∧
    (let s := ring3 (fun g => { g with op := .split, awaiting := some head, collectSent := true, lostRun := 1 })
     s.ringRuns 3 = true ∧ (s.ring 3).awaiting = some head ∧ 1 ≤ (s.ring 3).lostRun ∧ s.triggerDue 3 0 = true ∧ (s.ring 3).op = .split ∧
       (s.ring 3).roster ≠ [] ∧ ({ op := .loop } : RingState).roster = [] ∧ (s.ring 3).collectSent = true ∧
       (s.ring 3).pairs.length ≠ [collected 1, collected 1, collected 1].length) ∧
    headerGood { collected 1 with header := zs 6 } = false := by decide +kernel

theorem test_slots : (slotsOf head.ratio { frames := [collected 1] }).flatten = [slot] := by
  simp [slotsOf, collected, decodeSlot, slot, head, test_block]

theorem witness_CollectReturn :
    strayBlocks ((ring3 id).ring 3).admittedSet (slotsOf head.ratio { frames := [collected 1] }).flatten = false ∧
    (∀ f ∈ [collected 1], headerGood f = true ∧ miscounted f = false) ∧ miscounted (collected 2) = true ∧
    (∀ n ∈ [1, 2], let s := ring3 (fun g => { g with awaiting := some head, collectSent := true, bufs := List.replicate n ⟨head, [], 0⟩ })
     s.ringRuns 3 = true ∧ (s.ring 3).awaiting = some head ∧ (s.ring 3).collectSent = true ∧
       [collected 1].length = (s.ring 3).pairs.length ∧ (s.ring 3).op = .loop ∧
       (s.ring 3).admittedSet = ((ring3 id).ring 3).admittedSet ∧ (s.ring 3).bufs.length = n) := by
  rw [test_slots]; decide +kernel

theorem witness_RingCommands :
    (let s := par [(0x0503, 2 ^ 29)] run
     let g : RingState := { phase := .enumerating }
     let es : List SatIdentity := [{ address := 31 }]
     s.ac0On = true ∧ (∀ i, i < 32 → (g.sat i).admitted = false) ∧ (31 < s.satCount 3 ∧
       ∃ e, es.find? (fun e => e.address == 31) = some e ∧ e.device = 0xE6) ∧
       ∀ i, i < 31 → es.find? (fun e => e.address == i) = none) ∧
    (∀ b : Bool, ({ phase := .enumerating, broken := b } : RingState).phase = .enumerating) ∧
    (({ phase := .enumerating, op := .enumerating } : RingState).op = .enumerating) ∧
    (let g : RingState := { phase := .probing 0 true, sats := setAt (List.replicate 32 {}) 31 { admitted := true } }
     g.phase = .probing 0 true ∧ 0 < 32 ∧ g.sats.length = 32 ∧ (g.sat 31).usable = true ∧
       ∀ j, j < 31 → 0 < j → (g.sat j).usable = false) ∧
    (let g : RingState := { phase := .searching true 0 0 32 }
     g.phase = .searching true 0 0 32 ∧ (0 + 32) / 2 + 1 < 32 ∧ 0 < (0 + 32) / 2) ∧
    (let d : RingDesc := ⟨.config, List.replicate 16 ⟨31, 0x01, [], 0, 0⟩, 0⟩
     let s := ring3 (fun g => { g with queue := [d] })
     s.ringRuns 3 = true ∧ (s.ring 3).awaiting = none ∧ (s.ring 3).inFlight = none ∧ (s.ring 3).reAddr = none ∧
       (s.ring 3).stopAll = false ∧ (s.ring 3).sleepReq = false ∧ (s.ring 3).queue = d :: [] ∧ 0 < d.entries.length ∧
       (s.ring 3).oneHalf d.entries = d.entries ∧
       d.entries.length ≤ entriesThatFit (s.windowLength 3) (s.ring 3).loopLatency) ∧
    ((ring3 id).ringRuns 3 = true ∧ ((ring3 id).ring 3).queue = [] ∧ ((ring3 id).ring 3).kept = [] ∧
      ((ring3 id).ring 3).reAddr = none) ∧
    (∀ n ∈ [2, 3], let e : RingEntry := ⟨31, 0x01, [], 65535, n⟩
     findReply e [] = none ∧ e.tries = n ∧ ({} : RingState).phase = .idle ∧
       findReply e [⟨31, 0x81, 65535, 0, []⟩] = some ⟨31, 0x81, 65535, 0, []⟩) := by decide +kernel

theorem witness_SnapshotValues :
    (let h : SnapHeader := { head with par := [(0x0502, .num 8), (0x0503, .num (2 ^ 29))] }
     let b : SnapBuffer := ⟨h, [slot], 0⟩
     let s := ring3 (fun g => { g with bufs := [b] })
     s.ac0On = true ∧ s.time.quiesced = false ∧ s.rings.length = 4 ∧ s.meas.length = 4 ∧ s.hv.strands.length = 4 ∧
       (s.ring 3).bufs = b :: [] ∧ h.set.masked 3 511 = false ∧ h.set.masked 2 0 = true ∧ (blockFor (s.ring 3) b 31).isSome = true ∧
       blockFor (s.ring 3) b 30 = none ∧ h.set.masked 3 480 = false ∧ h.set.masked 3 479 = false ∧
       (block 252000).primary.getD 15 0x3FFFF < 0x3FFFF ∧ ((25 * 252001 : Int) - 1000000 > 5300000) ∧
       ((25 * 252000 : Int) - 1000000 = 5300000) ∧ ((25 * 32000 : Int) - 1000000 = -200000) ∧ ((25 * 31999 : Int) - 1000000 < -200000)) ∧
    ({ run.time with quiesced := true } : TimeState).quiesced = true ∧
    (let s : State := { ring3 id with time := { now := 65535000 } }
     s.evaluates = true ∧ s.sys.mode ≠ .thermalLock ∧ s.enabled 3 = true ∧ s.masked 3 511 = false ∧ (s.cell 3 511).stale = false ∧
       (s.cell 3 511).lastAt + 1000 * s.pn 0x0607 ≤ s.time.now) ∧
    (let r := par [(0x0502, 8), (0x0503, 2 ^ 29), (0x060B, 0)] run
     let q := r.modCell 3 (16 * 31 + 15) (fun x => { x with signsSince := some 7, refused := true, wireSuspect := true })
     let s : State := { q with time := { q.time with now := 60000007 } }
     s.evaluates = true ∧ s.sys.mode ≠ .hollow ∧ s.meas.length = 4 ∧ (s.cell 3 (16 * 31 + 15)).signsSince = some 7 ∧
       7 + 60000000 ≤ s.time.now ∧ (s.cell 3 (16 * 31 + 15)).refused = true ∧
       (s.cell 3 (16 * 31 + 15)).wireSuspect = true ∧ (s.strandHv 3).sumFlag = false ∧ s.pn 0x060B = 0 ∧
       (s.measOf 3).broken.contains (31, 15) = false ∧ s.masked 3 (16 * 31 + 15) = false ∧ s.masked 3 (16 * 31 + 14) = false) := by
  decide +kernel

theorem witness_HvMeasurements :
    (run.ac0On = true ∧ run.hv.connect = none ∧ run.hv.welds = [] ∧ run.hv.strands.length = 4) ∧
    (let h : StrandHv := { weldPassed := true }
     let s := par [(0x0502, 15)] { run with hv := { strands := setAt (List.replicate 4 {}) 3 h } }
     s.hv.strands[3]? = some h ∧ s.enabled 3 = true ∧ h.weldPassed = true ∧ h.connected = false ∧ s.commanded (s.soPos 3) = false ∧
       s.commanded (s.soNeg 3) = false ∧ (-50 : Int).natAbs ≤ 50 ∧ 50 < (51 : Int).natAbs) ∧
    (let h : StrandHv := { connected := true, highRun := 2000, quarterRun := 199 }
     h.connected = true ∧ 2000 ≤ h.highRun ∧ h.contactorHigh = false ∧ h.quarterRun < 200) ∧
    (∀ b : Bool, let s := par [(0x070D, 1)] { run with hv := { strands := setAt (List.replicate 4 {}) 3 { connected := true }, isoSkip := b } }
     s.ac0On = true ∧ s.pn 0x070D = 1 ∧ s.hv.earthFault = false ∧ s.connMask ≠ 0 ∧ s.isoTurn = some 0 ∧ s.isoTurn ≠ some 4 ∧
       s.hv.isoRef = 0 ∧ s.hv.isoSkip = b ∧ 9999 < s.pn 0x0C09) ∧
    (let s := par [(0x0502, 15), (0x070D, 1)] { run with hv := { isoRef := 4, isoTurns := 3, isoSkip := false } }
     s.ac0On = true ∧ s.pn 0x070D = 1 ∧ 4 = 1 + 3 ∧ s.isoTurn = some 4 ∧ s.hv.isoRef = 4 ∧ s.hv.isoSkip = false ∧
       s.hv.strands[3]? = some ({} : StrandHv) ∧ ¬ 5 * s.pn 0x0C09 < 4 * s.pn 0x0C09) ∧
    (let s := par [(0x0502, 15), (0x070D, 1)] { run with hv := { isoRef := 4, isoTurns := 4 } }
     s.isoTurn = some 1 ∧ s.hv.isoRef ≠ 1) ∧
    (run.pn 0x070D ≠ 0 ∧ ({ run with hv := { earthBad := 1 } } : State).hv.earthFault = false) := by decide +kernel

/-- A snapshot handed over. -/
def hand0 : HandOff := { head := head, cells := [], temps := [], current := none, posted := 0 }

/-- Strand 3 with a waiting snapshot, update and report. -/
def due (m : Mode) : State :=
  let e : StrandEst := { toInfer := [hand0], updating := some hand0, updateIk := some (some 2), updated := some (head, 0), toReport := true,
                         toPlan := true, updateI := -1, cells := setAt (List.replicate 512 {}) 511 { present := true, cap := 1 } }
  { inMode m with est := { strands := setAt (List.replicate 4 {}) 3 e } }

theorem witness_Estimation :
    ((run.estOf 3).toInfer = [] ∧ (run.estOf 3).updating = none ∧ (run.estOf 3).updateIk = none ∧ (run.estOf 3).toReport = false) ∧
    (let s : State := { run with time := { quiesced := true } }
     s.arrayStarts = false ∧ s.ac1Starts = false) ∧
    (∀ m ∈ [Mode.run, .hollow], ((due m).estOf 3).toInfer = hand0 :: []) ∧ (due .run).arrayStarts = true ∧
    (((due .run).estOf 3).updating = some hand0 ∧ ((due .run).estOf 3).updateIk = some (some 2) ∧ (due .run).est.strands.length = 4 ∧
      hand0.head.set.nat 0x0902 ≠ 1 ∧ (run.estOf 3).toReport = false) ∧ (((due .run).estOf 3).cell 510).present = false ∧
    (((due .run).estOf 3).toReport = true ∧ ((due .run).estOf 3).updated = some (head, 0) ∧ (due .run).ac1Starts = true ∧
      (due .run).sys.mode ≠ .hollow ∧
      511 < ((due .run).estOf 3).cells.length ∧ (((due .run).estOf 3).cell 511).present = true) ∧
    ((1 / 1000 : Rat) < 1 ∧ ((due .run).estOf 3).updateI < -(1 / 1000) ∧ (0 : Rat) ≤ 1 / 1000) := by decide +kernel

/-- Strand 3 of a module in RUN with these estimator values. -/
def strand3 (e : StrandEst) : State := { run with est := { strands := setAt (List.replicate 4 {}) 3 e } }

theorem witness_EstimatorVerdicts :
    (run.alive = true ∧ run.sys.mode ≠ .hollow) ∧
    (let s := strand3 { disagreeMs := 1000 * 3600, agreeMs := 1000 * 3600 }
     (s.estOf 3).disagree = false ∧ (s.estOf 3).reversed = false ∧ 1000 * s.pn 0x090C ≤ (s.estOf 3).disagreeMs) ∧
    (let s := strand3 { disagree := true, agreeMs := 1000 * 3600 }
     (s.estOf 3).disagree = true ∧ 1000 * s.pn 0x090C ≤ (s.estOf 3).agreeMs) ∧
    (let xs : List (Option (Rat × Rat)) := (List.range 600).map (fun i => some (if i % 2 = 0 then (100, -100) else (-100, 100)))
     let s := strand3 { increments := xs }
     (s.estOf 3).reversed = false ∧ reversedPairs (s.estOf 3).increments = true ∧ reversedPairs (run.estOf 3).increments = false) ∧
    (let s := strand3 { cells := setAt (List.replicate 512 {}) 511 { present := true, anchorMs := 3600000 * 65535 } }
     (s.estOf 3).anchorStale = false ∧ ((s.estOf 3).cell 511).present = true ∧ 3600000 * s.pn 0x0904 ≤ ((s.estOf 3).cell 511).ageAt s.time.now) ∧
    (let y : LearnCycle := { s0 := 0, var0 := 1, w0 := 1, openedMs := 0 }
     let q := strand3 { cells := setAt (List.replicate 512 {}) 511 { cycle := some y } }
     let s : State := { q with time := { opSec := 3600 * 65535 } }
     s.ac0On = true ∧ ((s.estOf 3).cell 511).cycle = some y ∧ y.openedMs + 3600000 * s.pn 0x0A07 ≤ s.opMs ∧
       run.opMs < y.openedMs + 3600000 * run.pn 0x0A07) ∧
    (run.mem.writing = none ∧ ({ run.mem with writing := some (.strand 0) } : BatteryMem).writing ≠ none ∧ run.mayWrite = false ∧
      ({ run.time with quiesced := true } : TimeState).quiesced = true) ∧
    (let s : State := { run with feed := { holdMv := 24000, capUf := 1000000, active := some .a } }
     s.mem.writing = none ∧ s.mayWrite = true ∧ s.time.quiesced = false ∧ (startRound s).mem.nextTarget (s.time.now / 1000) = none) ∧
    (let l := setAt (List.replicate 4 ⟨{}, some {}, some {}, false, false⟩) 3 ⟨{}, some {}, some {}, true, true⟩
     let s : State := { run with mem := { strands := l }, feed := { holdMv := 24000, capUf := 1000000 } }
     s.mem.writing = none ∧ s.mayWrite = true ∧ (startRound s).mem.nextTarget (s.time.now / 1000) = some (.strand 3)) ∧
    (let l := setAt (List.replicate 128 ⟨{}, some {}, some {}, false, false⟩) 127 ⟨{}, some {}, some {}, true, true⟩
     let s : State := { run with mem := { sats := l }, feed := { holdMv := 24000, capUf := 1000000 } }
     s.mem.writing = none ∧ s.mayWrite = true ∧ (startRound s).mem.nextTarget (s.time.now / 1000) = some (.satellite 3 31)) ∧
    (∀ c ∈ [(none, none), (some ({} : StrandMem), none), (some { seq := 1 }, some { seq := 2 }), (some { seq := 2 }, some { seq := 1 })],
      let l := setAt (List.replicate 4 ⟨{}, some {}, some {}, false, false⟩) 3 ⟨{}, c.1, c.2, false, false⟩
      let s : State := { run with mem := { writing := some (.strand 3), strands := l } }
      s.mem.writing = some (.strand 3) ∧ s.mem.strands[3]? = some ⟨{}, c.1, c.2, false, false⟩) := by decide +kernel

theorem witness_Balancing :
    (run.ac0On = true ∧ run.meas.length = 4 ∧ run.bal.length = 4 ∧ run.rings.length = 4 ∧ run.est.strands.length = 4 ∧
      (run.estOf 3).toPlan = false ∧ run.ac1Starts = true ∧
      ({ run with time := { quiesced := true } } : State).ac1Starts = false) ∧
    (((due .run).estOf 3).toPlan = true ∧ (due .run).ac1Starts = true ∧ (due .run).exclusion 3 511 ≠ 0) ∧
    (∀ b : Bool, let s : State := { due .run with bal := setAt (List.replicate 4 {}) 3 { stopped := b } }
      s.planBarred 3 = true ∧ (s.balOf 3).stopped = b) ∧
    (let s := ring3 id
     (s.ring 3).lineIdle = true ∧ s.ringDriven 3 = true ∧ (s.ring 3).sleepReq = false ∧
       ((ring3 (fun g => { g with collectSent := true })).ring 3).lineIdle = false) ∧
    (let b : BalState := { railStart := true }
     let s : State := { run with bal := setAt (List.replicate 4 {}) 3 b }
     let recent := b.railFaults.filter (fun x => s.opMs < x + 600000) ++ [s.opMs]
     s.bal[3]? = some b ∧ b.railStart = true ∧ b.latchedOff = false ∧ recent.length < s.pn 0x080C ∧
       (par [(0x080C, 1)] s).pn 0x080C ≤ recent.length) ∧
    (∀ b : Bool, let l : SatLease := { faultBit := b, barredFrom := 5 }
      (setAt (List.replicate 32 ({} : SatLease)) 31 l)[31]? = some l ∧ l.faultBit = b ∧ l.barredFrom + 60000000 ≤ 60000005 ∧
        60000004 < l.barredFrom + 60000000) := by decide +kernel

/-- Strand 3 may plan: its current is known, the flags are clear. -/
def mayPlan (b : BalState) : State :=
  let s := due .run
  let q := par [(0x0502, 8), (0x0503, 2 ^ 29), (0x0801, 8)] s
  { q with bal := setAt (List.replicate 4 {}) 3 b, hv := { strands := setAt (List.replicate 4 {}) 3 { current := some 0 } },
           rings := setAt (List.replicate 4 {}) 3 { op := .loop, sats := setAt (List.replicate 32 {}) 31 sat31 } }

theorem witness_BalancingPlans :
    ∀ b : Bool, let s := mayPlan { hold := b, rail := some 9999 }
      (s.estOf 3).toPlan = true ∧ s.ac1Starts = true ∧ s.planBarred 3 = false ∧ (s.balOf 3).hold = b ∧ (s.balOf 3).rail = some 9999 := by
  decide +kernel

/-! ## Loops, field die, banks and silt log -/

/-- Loop 31 enabled with a 1,000-tick period in a mode, driving no output. -/
def loop31 (m : LoopMode) (w1 : Nat) (l : LoopState) : State :=
  let s := par [(0x0BF9, 2 ^ 31), (0x0BFA, w1), (0x0D30, 2 ^ 31)] run
  { s with loop := { loops := setAt s.loop.loops 31 { l with mode := m, words := s.loopWords 31 } } }

theorem witness_LoopSamples :
    (let s := loop31 .auto 0 {}
     s.loopsRun = true ∧ (s.loop.loops[31]?).isSome = true ∧ (word (s.loopWords 31) 0).testBit 31 = true ∧
       (s.time.now - s.time.now % 1000) % wPeriod (s.loopWords 31) = 0 ∧ (1 % wPeriod (s.loopWords 31) ≠ 0) ∧
       s.loopTurn 31 (s.time.now - s.time.now % 1000) = true ∧
       ({ s with loop := { s.loop with last := some (s.time.now, 31) } } : State).loopTurn 31 (s.time.now - s.time.now % 1000) = false) ∧
    (∀ n ∈ [0, 255], let s := loop31 .auto 0 { overruns := n }
     let w := s.loopWords 31
     let limit := if bits (word w 0) 3 0 = 0 then s.pn 0x0B01 else bits (word w 0) 3 0
     (n = 255 → limit ≤ min 255 (n + 1)) ∧ (n = 0 → min 255 (n + 1) < limit)) ∧
    (∀ m ∈ [LoopMode.auto, .manual, .hold], ∀ w1 ∈ [0xFF0000, 0x520000], ∀ n ∈ [0, 255],
      let s := loop31 m w1 { invalids := n }
      let w := s.loopWords 31
      let l := s.loopOf 31
      l.words = w ∧ l.commanded = none ∧ l.adopt = none ∧ l.noTrack = false ∧ s.trackChild 31 = none ∧
        s.targetFails (word w 0) = l.targetFault ∧ l.mode ≠ .track ∧ (w1 = 0xFF0000 → s.pvSource w = none) ∧
        (w1 = 0x520000 → s.pvSource w ≠ none ∧ (s.spSource w).isSome = true) ∧ bits (word w 0) 10 8 ≠ 4 ∧
        (n = 255 → s.pn 0x0B02 ≤ min 255 (n + 1)) ∧ (n = 0 → min 255 (n + 1) < s.pn 0x0B02)) ∧
    (∀ b : Bool, let s := loop31 .auto 0 { targetFault := b }
      (s.loopOf 31).enabled = true ∧ (s.targetFails (s.loopOf 31).config = (s.loopOf 31).targetFault ↔ b = false)) := by decide +kernel

/-- A module with every output in use and these field die values. -/
def outputsOn (f : FieldState) : State :=
  let s := par ((List.range 24).map (fun i => (0x0D10 + i, 2 ^ 31 + 2 ^ 30))) run
  { s with field := f, guard := { valid := true, commands := 2 ^ 11, admitWritten := List.replicate 4 true } }

/-- SO11 with these values. -/
def so11 (x : OutputState) : FieldState := { so := setAt (List.replicate 12 {}) 11 x }

theorem witness_OutputVerdicts :
    (run.ac0On = true ∧ run.field.so.length = 12 ∧ run.field.go.length = 8 ∧ run.field.ts.length = 4) ∧
    (∀ v ∈ [0, 1, 3], let s := outputsOn (so11 { verdict := v })
      s.outUsed 11 = true ∧ (s.field.lplus.getD (outSupply 11) {}).missing = false ∧ s.outCommanded 11 = true ∧ s.outCommanded 10 = false ∧
        (outNo (.so 11) = 11) ∧ (10 : Nat) < 11 ∧ (s.field.out 10).verdict ≤ 3 ∧ s.outUsed 10 = true ∧ s.outUsed 19 = true ∧ s.outCommanded 19 = false ∧ s.supplyHeld 11 = false ∧ s.openCheck 11 = true ∧
        (s.field.out 11).verdict = v) ∧
    (par [(0x0D1B, 2 ^ 31)] run).openCheck 11 = false ∧
    (∀ n ∈ [2, 3], let s := outputsOn (so11 { cutoffs := n })
      s.outUsed 11 = true ∧ s.supplyHeld 11 = false ∧ s.outCommanded 11 = true ∧ (s.field.out 11).verdict < 2 ∧ (s.field.out 11).cutoffs = n) ∧
    (let q := outputsOn (so11 { verdict := 2, retry := true, retryAt := 1000007, cutAt := 7 })
     let s : State := { q with time := { q.time with now := 60000007 } }
     (s.field.out 11).retry = true ∧ (s.field.out 11).verdict = 2 ∧ s.supplyHeld 11 = false ∧
       (s.field.out 11).retryAt ≤ s.time.now ∧ q.time.now < (q.field.out 11).retryAt ∧
       (s.field.out 11).cutAt + 60000000 ≤ s.time.now ∧ q.time.now < (q.field.out 11).cutAt + 60000000) ∧
    (let s := outputsOn {}
     s.outUsed 0 = true ∧ s.supplyHeld 0 = false ∧ s.outCommanded 0 = false ∧ (s.field.out 0).verdict < 4) ∧
    (∀ b : Bool, let l : LPlus := { warning := b, held := b }
      let s := outputsOn { lplus := [{}, l] }
      s.ac0On = true ∧ s.field.lplus[1]? = some l ∧ l.held = b ∧ s.field.lplus.length = 2 ∧ outSupply 19 = 1 ∧ outSupply 0 = 0) ∧
    (19199 < 19200 ∧ 19700 < 19701 ∧ (13999 < 14000) ∧ (4999 < 5000) ∧ 18000 < 18001) ∧
    (∀ m ∈ [1, 2], let s := par [(0x0D33, (m : Int) * 2 ^ 30)] run
      (s.field.ao[1]?).isSome = true ∧ s.pn (0x0D32 + 1) / 2 ^ 30 ≠ 0 ∧ m = s.pn (0x0D32 + 1) / 2 ^ 30) := by decide +kernel

theorem witness_FieldInputs :
    (run.ac0On = true) ∧
    (∀ m ∈ [0, 1, 2], ∀ b : Bool, let a : AiState := { burdenOpen := b, wireBreak := b, value := 21000 }
      let s := par [(0x0D31, (m : Int) * 2 ^ 30)] { run with field := { ai := [{}, a] } }
      s.field.ai[1]? = some a ∧ s.pn (0x0D30 + 1) / 2 ^ 30 = m ∧ a.value ≤ 21000 ∧ a.burdenOpen = b ∧
        a.openAt + 1000000 ≤ 1000000 ∧ 999999 < a.openAt + 1000000) ∧
    (∀ n ∈ [0, 1, 2, 3], let q : PiState := { edges := 2 ^ 31 - 1 + n, count := n, last := 160 + n, first := 0, period := some 127 }
      let s := par [(0x0D37, 2 ^ 31)] { run with field := { pi' := [{}, q] } }
      s.field.pi'[1]? = some q ∧ (s.pn (0x0D36 + 1)).testBit 31 = true ∧ q.edges ≠ 0 ∧ q.last < 1000) ∧
    (({} : PiState).edges = 0 ∧ milliHertz 1 127 > 100000000 ∧ milliHertz 1 160 ≤ 100000000) := by decide +kernel

/-- Bank 11 with these values. -/
def bank11 (k : BankState) : State := { run with banks := { banks := setAt State.reset.banks.banks 11 k } }

theorem witness_BankAccesses :
    (run.alive = true ∧ run.masterPowered .ac1 = true ∧ run.masterPowered .port = true ∧ Master.ac1 ≠ .port ∧ State.reset.masterPowered .ac1 = false ∧ run.arrayOn = true ∧
      run.banks.banks.length = 24 ∧ Memory.wf run.banks.mem = true ∧ masterNo .supervisor < 7) ∧
    (∀ o ∈ [0xF, masterNo .ac1], let s := bank11 { owner := o }
      s.banks.banks[11]? = some { owner := o } ∧ 262142 + (zs 2).length ≤ bankBytes ∧ bankBytes < 262143 + (zs 2).length) ∧
    (bank11 { owner := 3 }).banks.banks[11]? = some { owner := 3 } ∧ (masterNo .ac1 ≠ 3 ∧ (3 : Nat) ≠ 0xF) ∧
    (0x46 : Word).toNat % 16 < 7 ∧ (0x46 : Word).toNat % 16 ≠ 3 ∧ (0x0F : Word).toNat % 16 = 15 ∧
    (let k : BankState := { owner := 3, running := true, readOnly := true, handover := some 15 }
     (bank11 k).banks.banks[11]? = some k ∧ k.waiting = [] ∧ k.handover = some 15) ∧
    (∀ n ∈ [14, 15], let k : BankState := { owner := 0, rows := [(511, n)] }
      (bank11 k).banks.banks[11]? = some k ∧ (assocGet 511 k.rows).getD 0 + 1 = n + 1 ∧ k.marked.contains 511 = false ∧
        (bank11 k).testing 11 = false) ∧
    (let s : State := { run with banks := { banks := State.reset.banks.banks, march := some { mask := 2 ^ 11, preserving := true, by' := .twoWire } } }
     s.testing 11 = true ∧ s.loop.loops.length = 32 ∧ ∀ b, b < 24 → s.beyondRepair [(11, 510), (11, 511)] b = false) ∧
    524287 < 524288 ∧ run.banks.march = none := by decide +kernel

theorem witness_SiltWriter :
    (run.alive = true ∧ run.time.quiesced = false ∧ run.silt.tailOn = false ∧ run.silt.drained < 32 ∧ run.silt.lost = 0 ∧ run.silt.intake = [] ∧
      run.silt.rateSec = run.time.opSec) ∧
    (∀ b : Bool, let r : SiltRecord := { source := 4, pinned := b }
      let s : State := { run with silt := { intake := [r], rates := [⟨4, 1, 0, []⟩] }, time := { opSec := 1 } }
      s.silt.intake = [r] ∧ s.silt.rateSec ≠ s.time.opSec ∧ ∀ e ∈ s.silt.rates, e.refused = 0) ∧
    (let s : State := { run with silt := { pinned := List.replicate 1024 {}, ordinary := List.replicate 16384 {} } }
     s.silt.pinned.length = 1024 ∧ s.silt.ordinary.length = 16384) ∧
    ({ run with time := { quiesced := true } } : State).time.quiesced = true := by decide +kernel

/-! ## Ill-formed commands, one for each check of WellFormed, and well-formed ones at the limits -/

theorem test_wf_test_rows : ([.marchTestComplete [(24, 0)], .marchTestComplete [(0, 512)], .resetStart 0 { rows := [(24, 0)] },
    .resetStart 0 { rows := [(0, 512)] }, .resetStart 0 { output := some 12 }, .holdChargeComplete 0 { output := some 12 },
    .holdChargeTimeout { output := some 12 }, .wakeSource .alarm 0 { output := some 12 }, .rtAlarm 0 { output := some 12 },
    .wakeSource (.can 3) 0 {}, .wakeSource (.wakeTone 4) 0 {}] : List Instr).all (fun i => !i.wellFormed) = true := by decide +kernel

theorem test_wf_two_wire : ([.nop 4096, .status 4096, .watchLo 4096, .watchHi 4096, .mode 4096, .disconnect 4096,
    .twReservedCode 5 0, .twReservedCode 16 0, .twReservedCode 6 4096, .twSlotDue 8, .arbLost 0 8] : List Instr).all
    (fun i => !i.wellFormed) = true := by decide +kernel

theorem test_wf_port : ([.packetWrite (zs 65537), .mbxRead (2 ^ 24) 0, .regWrite 256 0, .pointData .spi 16,
    .powerFailCommit 11000 2, .powerFailCommit 0 1, .powerFailCommit 0 6, .proofTestWindowEnd 3 0 0] : List Instr).all
    (fun i => !i.wellFormed) = true := by decide +kernel

theorem test_wf_rings : ([.ringTrigger 4 0, .ringTrigger 0 1000, .blank 4, .collect 4, .collectReturn 4 { frames := [] },
    .collectReturn 0 { frames := [{ header := zs 5, slots := [] }] },
    .collectReturn 0 { frames := [{ header := zs 6, slots := List.replicate 33 ⟨[], 0⟩ }] }, .collectTimeout 4, .lossOfCarrier 4 true, .commandWindow 4,
    .commandResponse 4 [], .commandResponse 0 [⟨32, 0, 0, 0, []⟩], .commandResponse 0 [⟨0, 0, 0, 5, []⟩], .enumerateReturn 4 none,
    .probeReturn 4 none, .satelliteSwitch 4 0 true, .satelliteSwitch 0 32 true] : List Instr).all (fun i => !i.wellFormed) = true := by
  decide +kernel

theorem test_wf_guard : ([.flagLane 4 0, .laneTimeout 4 0, .laneTimeout 0 32, .ocComparator 4 true, .watchdogChallenge 65536,
    .watchdogResponse 65536 true, .safetyInputChange 16 true, .tsDarkWindow 4 0 0, .discrepancyTimeout 8, .enableTestGap 12 true,
    .ac0CommandTest 12 true, .strandTripClear 4] : List Instr).all (fun i => !i.wellFormed) = true := by decide +kernel

theorem test_wf_measurement : ([.snapshotIntake 4 {}, .snapshotIntake 0 { after := 501 }, .snapshotIntake 0 { shuntAfter := 126 }, .cellStale 2048, .wireVerdictTimeout 4 0 0, .wireVerdictTimeout 0 32 0,
    .wireVerdictTimeout 0 0 17, .owPeriod 4, .hvRound { strands := [] }, .hvRound { strands := List.replicate 4 {}, openPins := 1024 },
    .shuntOffset 4 0, .insulationResult 5 0, .contactorVoltageHigh 4] : List Instr).all (fun i => !i.wellFormed) = true := by
  decide +kernel

theorem test_wf_estimation : ([.currentInference 4, .modelUpdate 4, .reportedValues 4, .currentDisagree 4 true, .reversedShunt 4,
    .anchorStale 4, .learningCycleTimeout 2048, .balancingPlan 4, .railStartFailed 4, .railFaultHoldEnd 4,
    .satelliteExclusionEnd 4 0, .satelliteExclusionEnd 0 32, .loopSample 32 {}, .loopSample 0 { offset := 1000 },
    .loopTargetFault 32] : List Instr).all (fun i => !i.wellFormed) = true := by decide +kernel

theorem test_wf_field : ([.fieldReadback (.so 12) {}, .overloadCutoff (.go 8), .overloadRetry (.ts 4), .overloadSequenceEnd (.so 12),
    .shortSearch (.go 8) none, .lplusWarning 2 0 true, .lplusLow 2 0, .lplusRelease 2 0, .diFilter 24 true, .aiSample 2 0,
    .aiWireBreak 2 true, .aiBurdenReopen 2, .aoFault 2 0 0, .piEdge 2 0 true, .piGate 2, .piNoInput 2, .housekeepingRound {},
    .housekeepingRound { temps := List.replicate 24 none }] : List Instr).all (fun i => !i.wellFormed) = true := by decide +kernel

theorem test_wf_can : ([.canFrameReceived 3 { id := 0, data := [] }, .canFrameReceived 0 { id := 2 ^ 11, data := [] },
    .canFrameReceived 0 { id := 2 ^ 29, extended := true, data := [] }, .canFrameReceived 0 { id := 0, data := zs 9 },
    .canFrameReceived 0 { id := 0, fd := false, data := zs 12 }, .canTxComplete 3 .transmitted 0 0, .canTxDeadline 3 0 0,
    .canTxDeadline 0 4 0, .canBusError 3 true 1, .canBusError 0 true 9, .canBusoffHoldoff 3, .canRecoveryComplete 3,
    .canLinesSwapped 3, .txdTimeout 3, .sync 3, .syncReceived 3 [] 0, .followUpReceived 3 [] true] : List Instr).all
    (fun i => !i.wellFormed) = true := by decide +kernel

theorem test_wf_network : ([.statusReceived 65536 [] true, .segStatusReceived 65536 [] true, .segAllocReceived 65536 [] true,
    .allocReceived 65536 [] true, .segDetailReceived 65536 [] true] : List Instr).all (fun i => !i.wellFormed) = true := by
  decide +kernel

theorem test_wf_banks : ([.bankOwnerWrite .ac0 24 0, .ownerHandoverEffect 24, .bankWrite .ac0 24 0 [], .bankWrite .ac0 0 262143 (zs 2),
    .eccCorrected 24 0, .eccCorrected 0 512, .eccUncorrectable 25 0, .eccUncorrectable 0 512, .scrub 24 0 0, .scrub 0 512 0] :
    List Instr).all (fun i => !i.wellFormed) = true := by decide +kernel

/-- Every request with a payload past 4,096 bytes is ill-formed. -/
theorem test_wf_payloads : (hostRows.all (fun r => !(r.make .spi 0 (zs 4097)).wellFormed && (r.make .can 1 (zs 4096)).wellFormed) &&
    !(Instr.updPiece .spi 0 (zs 4097)).wellFormed) = true := by decide +kernel

theorem test_wf_accepts : ([.marchTestComplete [(23, 511)], .resetStart 0 { rows := [(23, 511)], output := some 11 },
    .wakeSource (.can 2) 0 {}, .wakeSource (.wakeTone 3) 0 {}, .nop 4095, .twReservedCode 15 4095, .packetWrite (zs 65536),
    .mbxRead (2 ^ 24 - 1) 0, .regWrite 255 0, .pointData .spi 15, .powerFailCommit 10999 5, .ringTrigger 3 999,
    .collectReturn 3 { frames := List.replicate 2 { header := zs 6, slots := List.replicate 32 ⟨[], 0⟩ } }, .commandResponse 3 [⟨31, 0, 0, 4, []⟩],
    .flagLane 3 0xFFFF, .snapshotIntake 3 { after := 500, shuntAfter := 125 }, .watchdogResponse 65535 true, .safetyInputChange 15 true, .cellStale 2047,
    .wireVerdictTimeout 3 31 16, .hvRound { strands := List.replicate 4 {}, openPins := 1023 }, .insulationResult 4 0,
    .loopSample 31 { offset := 999 }, .fieldReadback (.ts 3) {}, .housekeepingRound ⟨List.replicate 24 none, List.replicate 8 0, false⟩,
    .canFrameReceived 2 { id := 2 ^ 29 - 1, extended := true, data := zs 64 },
    .canBusError 2 true 8, .statusReceived 65535 [] true, .bankWrite .ac0 23 262142 (zs 2), .scrub 23 511 9, .eccUncorrectable 24 511] : List Instr).all
    (fun i => i.wellFormed) = true := by decide +kernel

/-! ## The spec's own figures -/

/-- R133: the check values over "123456789". -/
theorem test_packet_crcs :
    (let l : List Byte := [0x31, 0x32, 0x33, 0x34, 0x35, 0x36, 0x37, 0x38, 0x39]
     crc16 l = 0x29B1 ∧ crc32 l = 0xCBF43926) := by decide +kernel

/-- Chapter 07's thermistor: code 1,540 reads 38.71 °C. -/
theorem test_thermistor : ntcCentiDeg 1540 3435 10000 = 3871 := by decide +kernel

/-- Chapter 07's compensation: satellite 5 discharging cell 9 at 2.000 A, R9 = 800 µΩ and R10 = 600 µΩ. -/
theorem test_compensation :
    (let m : SatMem := { surveyed := 2 ^ 17 - 1, connections := setAt (setAt (List.replicate 17 0) 9 800) 10 600 }
     let s : State := { run with mem := { sats := setAt (List.replicate 128 ⟨{}, some {}, some {}, false, false⟩) 5 ⟨m, none, none, false, false⟩ } }
     let h : SnapHeader := { head with at' := 100000, corner := 4 }
     let l : SatLease := { held := true, run := some { cell := 9, direction := 0, current := 2000, since := 0, until' := 200000 } }
     [8, 9, 10].map (fun j => s.compensation 0 5 j h l) = [-1600, 2800, -1200]) := by decide +kernel

/-- Chapter 09's plan: donors at 3,000 mA, recipients at 2,330 mA, satellite 27 the trim, and its XFER_START bytes. -/
theorem test_plan :
    (let d : List Leg := [⟨3, 5, true, 700, 3702 / 1000, 0⟩, ⟨11, 2, true, 100, 3695 / 1000, 0⟩]
     let r : List Leg := [⟨27, 9, false, 600, 3671 / 1000, 0⟩, ⟨30, 14, false, 150, 3674 / 1000, 0⟩]
     let q := balanceLoop 3000 60 1 96 d r
     q.1.map (·.cur) = [3000, 3000] ∧ q.2.1.map (·.cur) = [2330, 2330] ∧ q.2.2 = some 27) ∧
    (xferStart 27 9 2 2330 300).args = [0x09, 0x02, 0x1A, 0x09, 0x2C, 0x01, 0x00, 0x00] := by decide +kernel

/-- Chapter 11's candidate at a closing rest of 9 min: 97,828 mAh. -/
theorem test_blend :
    (blend {} { capacity := 98000, sigma := 1 / 100, learned := true } (3 / 10) 96900 (9156 / 100000000)).capacity = 97828 := by
  decide +kernel

/-- Chapter 12's cooling loop: strand 0's coolant at `t`, the fan at `u`, AUTO commanded. -/
def cooling (t : Int) (u : Rat) : State :=
  let m : MeasState := { temps := setAt (List.replicate 256 {}) 115 { value := some t }, newest := some head }
  let w : List (Nat × Int) := [(0x0502, 1), (0x0503, 32), (0x0B2E, 0xE0880160), (0x0B2F, 0x28120073), (0x0B30, 0xC8000000), (0x0B31, 3200), (0x0B32, 0),
    (0x0B33, 0x48324940), (0x0B34, 0x48C8), (0x0D23, 2 ^ 31)]
  let g : RingState := { op := .loop, sats := setAt (List.replicate 32 {}) 14 { ident := some { address := 14 }, admitted := true } }
  let s := par w { run with meas := setAt run.meas 0 m, rings := setAt run.rings 0 g }
  let l : LoopState := { mode := .manual, commanded := some .auto, manual := u, uPrev := u, spLast := 3200, pvLast := t, words := s.loopWords 2 }
  { s with loop := { loops := setAt s.loop.loops 2 l } }

/-- A field of the state a command leads to. -/
def afterward {α : Type} (c : Instr) (f : State → α) (s : State) : Option α :=
  match exec c s with
  | .next t => some (f t)
  | _ => none

/-- From manual 45.00 % at 33.10 °C the first AUTO sample gives 45.00 %; from 15.00 % the fan rises at the slew to 17.00 %. -/
theorem test_loop_transfer :
    afterward (.loopSample 2 {}) (fun t => t.field.goDuty) (cooling 3310 4500) = some [0, 0, 0, 4500, 0, 0, 0, 0] ∧
    afterward (.loopSample 2 {}) (fun t => t.field.goDuty) (cooling 3310 1500) = some [0, 0, 0, 1700, 0, 0, 0, 0] := by
  decide +kernel

/-- Chapter 15: from a count of 2, a third round at 150.9 °C sets step 1, in force from the next frame boundary. -/
theorem test_throttle :
    (let d : Housekeeping := { temps := List.replicate 3 (some 2500) ++ [some 15090] ++ List.replicate 20 (some 2500),
                               supplies := List.replicate 8 0 }
     let s : State := { run with thermal := { steps := [{ above := 2 }, {}, {}] } }
     afterward (.housekeepingRound d) (fun t => (t.thermal.step, t.thermal.nextStep)) s = some (0, 1)) := by decide +kernel

/-- Chapter 20: satellite 12 of strand 1 at operating second 1,204,800.37 opens record 48,211 with fraction 92 and index 44. -/
theorem test_silt_record :
    (let s : State := { run with time := { opSec := 1204800, opSub := 370000 }, silt := { nextSeq := 48211, rateSec := 1204800 } }
     afterward .siltWrite (fun t => t.silt.ordinary.map (fun r => [r.seq, r.source, r.kind, r.index, r.fraction, r.opSec]))
       (raise 0x29 0 3 44 [] s) = some [[48211, 0x29, 3, 44, 92, 1204800]]) := by decide +kernel

/-- Chapter 05's record 01 05 02 04 FA 00 00 00 stages RING.FRAME_RATE at 250. -/
theorem test_stage_record :
    afterward (.stageParam .spi 7 [0x01, 0x05, 0x02, 0x04, 0xFA, 0x00, 0x00, 0x00]) (fun t => t.param.shadow) (inMode .service) =
      some [(0x0501, .num 250)] := by decide +kernel

/-- R135 and R159: the reply to ECHO carries the same payload behind its status block. -/
theorem test_echo :
    afterward (.echo .spi 7 [0xA5, 0x5A]) (fun t => t.port.out.slots.map (fun p => (p.opcode, p.isReply, p.payload))) run =
      some [(0x0003, true, [0x00, 0x00, 0xFF, 0xFF, 0xA5, 0x5A])] := by decide +kernel

/-- R98 and R114: step 2 of a start from unpowered does not yet count the power cycle. -/
theorem test_power_on :
    afterward (.powerOn { mvA := 24000, mvB := 24000 }) (fun t => (t.time.powerCycles, t.sys.mode, t.sys.step)) State.reset =
      some (0, .start, 2) := by decide +kernel

end Sys2Proof.Tests
end

section
/-! SUPPORT. What a command leaves alone, and when the applied parameters change (O5). -/
namespace Sys2Proof.Machine
open Sys2Proof

theorem execPacketStored_quiet (s : State) {t : State} (h : execPacketStored s = .next t) : t.quiet = s.quiet := by
  unfold execPacketStored at h
  injection h with h
  subst h
  split
  · rfl
  · simp

/-- The commands that may change something of `State.quiet`: starts, resets, the frame boundary, losses of power, the thermal
shutdown, and what writes to the banks or wipes them. -/
def stirs : Instr → Bool
  | .moduleResetAfterReply | .marchTestComplete .. | .frameBoundary .. | .powerOn .. | .holdChargeComplete ..
  | .holdChargeTimeout .. | .resetStart .. | .wakeSource .. | .rtAlarm .. | .mrstN | .coreSupplyFault | .fatalFault
  | .lockRstRelease .. | .orderedShutdown | .watchdogWindowClose | .thermalShutdown | .ownerHandoverEffect ..
  | .eccUncorrectable .. | .bankOwnerWrite .. | .bankWrite .. => true
  | _ => false

/-- Every other command leaves the quiet part alone: one law of `Sys2Proof/Laws` per command. -/
theorem exec_quiet {c : Instr} {s t : State} (hc : stirs c = false) (h : exec c s = .next t) : t.quiet = s.quiet := by
  cases c with
  | getIdentity => exact execGetIdentity_quiet _ _ _ s h | getStatus => exact execGetStatus_quiet _ _ _ s h
  | echo => exact execEcho_quiet _ _ _ s h | requestMode => exact execRequestMode_quiet _ _ _ s h
  | connectStrands => exact execConnectStrands_quiet _ _ _ s h
  | disconnectStrands => exact execDisconnectStrands_quiet _ _ _ s h
  | lockoutResetArm => exact execLockoutResetArm_quiet _ _ _ s h | resetModule => exact execResetModule_quiet _ _ _ s h
  | readPoints => exact execReadPoints_quiet _ _ _ s h | subscribePoints => exact execSubscribePoints_quiet _ _ _ s h
  | readSnapshot => exact execReadSnapshot_quiet _ _ _ s h | readParam => exact execReadParam_quiet _ _ _ s h
  | stageParam => exact execStageParam_quiet _ _ _ s h | checkStage => exact execCheckStage_quiet _ _ _ s h
  | fordApply => exact execFordApply_quiet _ _ _ s h | discardStage => exact execDiscardStage_quiet _ _ _ s h
  | unlockSafetySet => exact execUnlockSafetySet_quiet _ _ _ s h | loopSetMode => exact execLoopSetMode_quiet _ _ _ s h
  | loopSetManual => exact execLoopSetManual_quiet _ _ _ s h | traceArm => exact execTraceArm_quiet _ _ _ s h
  | traceRead => exact execTraceRead_quiet _ _ _ s h | siltInfo => exact execSiltInfo_quiet _ _ _ s h
  | siltRead => exact execSiltRead_quiet _ _ _ s h | changeLogRead => exact execChangeLogRead_quiet _ _ _ s h
  | updBegin => exact execUpdBegin_quiet _ _ _ s h | updPiece => exact execUpdPiece_quiet _ _ _ s h
  | updProgress => exact execUpdProgress_quiet _ _ _ s h | updVerify => exact execUpdVerify_quiet _ _ _ s h
  | verificationComplete => exact execVerificationComplete_quiet _ s h | updHandover => exact execUpdHandover_quiet _ _ _ s h
  | updConfirm => exact execUpdConfirm_quiet _ _ _ s h | updAbort => exact execUpdAbort_quiet _ _ _ s h
  | marchTest => exact execMarchTest_quiet _ _ _ s h | proofTestFeed => exact execProofTestFeed_quiet _ _ _ s h
  | openWireTest => exact execOpenWireTest_quiet _ _ _ s h | bankStatus => exact execBankStatus_quiet _ _ _ s h
  | bankRead => exact execBankRead_quiet _ _ _ s h | satCommand => exact execSatCommand_quiet _ _ _ s h
  | satIdentity => exact execSatIdentity_quiet _ _ _ s h | nop => exact execNop_quiet _ s h
  | status => exact execStatus_quiet _ s h | watchLo => exact execWatchLo_quiet _ s h
  | watchHi => exact execWatchHi_quiet _ s h | mode => exact execMode_quiet _ s h
  | disconnect => exact execDisconnect_quiet _ s h | twReservedCode => exact execTwReservedCode_quiet _ _ s h
  | twStatusRead => exact execTwStatusRead_quiet s h | twReplyRead => exact execTwReplyRead_quiet s h
  | twStretchExpired => exact execTwStretchExpired_quiet s h | twProtocol => exact execTwProtocol_quiet s h
  | twSclTimeout => exact execTwSclTimeout_quiet s h | packetWrite => exact execPacketWrite_quiet _ s h
  | packetStored => exact execPacketStored_quiet s h | packetRead => exact execPacketRead_quiet _ s h
  | mbxRead => exact execMbxRead_quiet _ _ s h | spiUnknownInstruction => exact execSpiUnknownInstruction_quiet _ s h
  | regWrite => exact execRegWrite_quiet _ _ s h | hpIrqPendWrite => exact execHpIrqPendWrite_quiet _ s h
  | hpEventRead => exact execHpEventRead_quiet s h | hpTimeLoRead => exact execHpTimeLoRead_quiet s h
  | canCmdSegment => exact execCanCmdSegment_quiet _ s h | canReassemblyTimeout => exact execCanReassemblyTimeout_quiet s h
  | pointData => exact execPointData_quiet _ _ s h | quiesceMark => exact execQuiesceMark_quiet _ s h
  | workUnitComplete => exact execWorkUnitComplete_quiet _ s h | eventTaken => exact execEventTaken_quiet _ s h
  | tb1DisciplineLost => exact execTb1DisciplineLost_quiet s h | workUnitTimeout => exact execWorkUnitTimeout_quiet _ s h
  | ac1HeartbeatTimeout => exact execAc1HeartbeatTimeout_quiet s h | lockoutArmExpiry => exact execLockoutArmExpiry_quiet s h
  | ac0SupervisionTask => exact execAc0SupervisionTask_quiet s h | ac0WordTimeout => exact execAc0WordTimeout_quiet s h
  | feedBelowThreshold => exact execFeedBelowThreshold_quiet _ _ s h
  | handoverComplete => exact execHandoverComplete_quiet s h | handoverFailed => exact execHandoverFailed_quiet s h
  | standbyRestored => exact execStandbyRestored_quiet _ _ s h | holdOnlyRecovery => exact execHoldOnlyRecovery_quiet _ _ s h
  | feedsIdentical => exact execFeedsIdentical_quiet _ _ s h | feedAbove36v => exact execFeedAbove36v_quiet _ s h
  | feedReversed => exact execFeedReversed_quiet _ s h | proofTestDue => exact execProofTestDue_quiet s h
  | powerFailCommit => exact execPowerFailCommit_quiet _ _ s h | supplyRecovered => exact execSupplyRecovered_quiet s h
  | hibernateHoldLow => exact execHibernateHoldLow_quiet s h | journalPeriodic => exact execJournalPeriodic_quiet s h
  | ringTrigger => exact execRingTrigger_quiet _ _ s h | blank => exact execBlank_quiet _ s h
  | collect => exact execCollect_quiet _ s h | collectReturn => exact execCollectReturn_quiet _ _ s h
  | collectTimeout => exact execCollectTimeout_quiet _ s h | lossOfCarrier => exact execLossOfCarrier_quiet _ _ s h
  | commandWindow => exact execCommandWindow_quiet _ s h | commandResponse => exact execCommandResponse_quiet _ _ s h
  | flagLane => exact execFlagLane_quiet _ _ s h | laneTimeout => exact execLaneTimeout_quiet _ _ s h
  | ocComparator => exact execOcComparator_quiet _ _ s h | watchdogChallenge => exact execWatchdogChallenge_quiet _ s h
  | watchdogResponse => exact execWatchdogResponse_quiet _ _ s h
  | safetyInputChange => exact execSafetyInputChange_quiet _ _ s h | tsDarkWindow => exact execTsDarkWindow_quiet _ _ _ s h
  | discrepancyTimeout => exact execDiscrepancyTimeout_quiet _ s h | enableTestGap => exact execEnableTestGap_quiet _ _ s h
  | ac0CommandTest => exact execAc0CommandTest_quiet _ _ s h | oscillatorCheck => exact execOscillatorCheck_quiet _ s h
  | guardConfigCrcCheck => exact execGuardConfigCrcCheck_quiet _ s h
  | guardConfigReadback => exact execGuardConfigReadback_quiet _ s h
  | strandTripClear => exact execStrandTripClear_quiet _ s h | snapshotIntake => exact execSnapshotIntake_quiet _ _ s h
  | cellStale => exact execCellStale_quiet _ s h | wireVerdictTimeout => exact execWireVerdictTimeout_quiet _ _ _ s h
  | owPeriod => exact execOwPeriod_quiet _ s h | hvRound => exact execHvRound_quiet _ s h
  | shuntOffset => exact execShuntOffset_quiet _ _ s h | insulationResult => exact execInsulationResult_quiet _ _ s h
  | earthCheck => exact execEarthCheck_quiet _ s h | contactorVoltageHigh => exact execContactorVoltageHigh_quiet _ s h
  | currentInference => exact execCurrentInference_quiet _ s h | modelUpdate => exact execModelUpdate_quiet _ s h
  | reportedValues => exact execReportedValues_quiet _ s h | currentDisagree => exact execCurrentDisagree_quiet _ _ s h
  | reversedShunt => exact execReversedShunt_quiet _ s h | anchorStale => exact execAnchorStale_quiet _ s h
  | learningCycleTimeout => exact execLearningCycleTimeout_quiet _ s h
  | memoryWriteback => exact execMemoryWriteback_quiet _ s h | balancingPlan => exact execBalancingPlan_quiet _ s h
  | railStartFailed => exact execRailStartFailed_quiet _ s h | railFaultHoldEnd => exact execRailFaultHoldEnd_quiet _ s h
  | satelliteExclusionEnd => exact execSatelliteExclusionEnd_quiet _ _ s h | loopSample => exact execLoopSample_quiet _ _ s h
  | loopTargetFault => exact execLoopTargetFault_quiet _ s h | fieldReadback => exact execFieldReadback_quiet _ _ s h
  | overloadCutoff => exact execOverloadCutoff_quiet _ s h | overloadRetry => exact execOverloadRetry_quiet _ s h
  | overloadSequenceEnd => exact execOverloadSequenceEnd_quiet _ s h | shortSearch => exact execShortSearch_quiet _ _ s h
  | lplusWarning => exact execLplusWarning_quiet _ _ _ s h | lplusLow => exact execLplusLow_quiet _ _ s h
  | lplusRelease => exact execLplusRelease_quiet _ _ s h | diFilter => exact execDiFilter_quiet _ _ s h
  | aiSample => exact execAiSample_quiet _ _ s h | aiWireBreak => exact execAiWireBreak_quiet _ _ s h
  | aiBurdenReopen => exact execAiBurdenReopen_quiet _ s h | aoFault => exact execAoFault_quiet _ _ _ s h
  | piEdge => exact execPiEdge_quiet _ _ _ s h | piGate => exact execPiGate_quiet _ s h
  | piNoInput => exact execPiNoInput_quiet _ s h | housekeepingRound => exact execHousekeepingRound_quiet _ s h
  | canFrameReceived => exact execCanFrameReceived_quiet _ _ s h | canTxComplete => exact execCanTxComplete_quiet _ _ _ _ s h
  | canTxDeadline => exact execCanTxDeadline_quiet _ _ _ s h | canBusError => exact execCanBusError_quiet _ _ _ s h
  | canBusoffHoldoff => exact execCanBusoffHoldoff_quiet _ s h
  | canRecoveryComplete => exact execCanRecoveryComplete_quiet _ s h
  | canLinesSwapped => exact execCanLinesSwapped_quiet _ s h | txdTimeout => exact execTxdTimeout_quiet _ s h
  | sync => exact execSync_quiet _ s h | syncReceived => exact execSyncReceived_quiet _ _ _ s h
  | followUpReceived => exact execFollowUpReceived_quiet _ _ _ s h | ntPairTimeout => exact execNtPairTimeout_quiet s h
  | ntHoldoverExpiry => exact execNtHoldoverExpiry_quiet s h | dispatchCycleStart => exact execDispatchCycleStart_quiet s h
  | segmentElection => exact execSegmentElection_quiet s h | trunkElection => exact execTrunkElection_quiet s h
  | segmentAllocation => exact execSegmentAllocation_quiet s h | statusReceived => exact execStatusReceived_quiet _ _ _ s h
  | segStatusReceived => exact execSegStatusReceived_quiet _ _ _ s h
  | segAllocReceived => exact execSegAllocReceived_quiet _ _ _ s h | allocReceived => exact execAllocReceived_quiet _ _ _ s h
  | segDetailReceived => exact execSegDetailReceived_quiet _ _ _ s h | allocStale => exact execAllocStale_quiet s h
  | noSetpoint => exact execNoSetpoint_quiet s h | twSlotDue => exact execTwSlotDue_quiet _ s h
  | twTransactionDone => exact execTwTransactionDone_quiet _ _ s h | arbLost => exact execArbLost_quiet _ _ s h
  | twCtrlTimeout => exact execTwCtrlTimeout_quiet s h | twBusStuck => exact execTwBusStuck_quiet _ s h
  | twBusFree => exact execTwBusFree_quiet s h | mailboxCollision => exact execMailboxCollision_quiet _ _ _ _ s h
  | eccCorrected => exact execEccCorrected_quiet _ _ s h | scrub => exact execScrub_quiet _ _ _ s h
  | siltWrite => exact execSiltWrite_quiet s h | coalesceWindowExpiry => exact execCoalesceWindowExpiry_quiet _ s h
  | openRecordRewrite => exact execOpenRecordRewrite_quiet _ s h | rateLimitSecond => exact execRateLimitSecond_quiet s h
  | ntCorrelation => exact execNtCorrelation_quiet s h | satelliteSwitch => exact execSatelliteSwitch_quiet _ _ _ s h
  | healthWindowEnd => exact execHealthWindowEnd_quiet s h | restoreComplete => exact execRestoreComplete_quiet _ s h
  | commitComplete => exact execCommitComplete_quiet s h | proofTestWindowEnd => exact execProofTestWindowEnd_quiet _ _ _ s h
  | lockRstPress => exact execLockRstPress_quiet s h | vioLost => exact execVioLost_quiet s h
  | vioRestored => exact execVioRestored_quiet s h | feedStopThreshold => exact execFeedStopThreshold_quiet _ s h
  | enumerateReturn => exact execEnumerateReturn_quiet _ _ s h | probeReturn => exact execProbeReturn_quiet _ _ s h
  | imageCopyComplete => exact execImageCopyComplete_quiet _ s h
  | twWriteDiscarded bytes => exact execTwWriteDiscarded_quiet bytes s h
  | moduleResetAfterReply | marchTestComplete | frameBoundary | powerOn | holdChargeComplete
  | holdChargeTimeout | resetStart | wakeSource | rtAlarm | mrstN | coreSupplyFault | fatalFault
  | lockRstRelease | orderedShutdown | watchdogWindowClose | thermalShutdown | ownerHandoverEffect
  | eccUncorrectable | bankOwnerWrite | bankWrite => exact Bool.noConfusion hc

/-- Settles O5: the commands that leave the quiet part alone leave the applied parameters alone, and of the others all but the
frame boundary and those that run a start. -/
theorem appliedChangesAtSaddle : Obligations.AppliedChangesAtSaddle := by
  unfold Obligations.AppliedChangesAtSaddle
  intro c s t h hne
  cases hc : stirs c with
  | false => exact absurd (congrArg Quiet.applied (exec_quiet hc h)) hne
  | true =>
    cases c with
    | moduleResetAfterReply => exact absurd (execModuleResetAfterReply_applied s h) hne
    | marchTestComplete => exact absurd (execMarchTestComplete_applied _ s h) hne
    | powerOn => exact absurd (execPowerOn_applied _ s h) hne
    | mrstN => exact absurd (execMrstN_applied s h) hne
    | coreSupplyFault => exact absurd (execCoreSupplyFault_applied s h) hne
    | fatalFault => exact absurd (execFatalFault_applied s h) hne
    | lockRstRelease => exact absurd (execLockRstRelease_applied _ s h) hne
    | orderedShutdown => exact absurd (execOrderedShutdown_applied s h) hne
    | watchdogWindowClose => exact absurd (execWatchdogWindowClose_applied s h) hne
    | thermalShutdown => exact absurd (execThermalShutdown_applied s h) hne
    | ownerHandoverEffect => exact absurd (execOwnerHandoverEffect_applied _ s h) hne
    | eccUncorrectable => exact absurd (execEccUncorrectable_applied _ _ s h) hne
    | bankOwnerWrite => exact absurd (execBankOwnerWrite_applied _ _ _ s h) hne
    | bankWrite => exact absurd (execBankWrite_applied _ _ _ _ s h) hne
    | frameBoundary n => exact .inl ⟨n, rfl⟩
    | holdChargeComplete u x => exact .inr (.inl ⟨u, x, rfl⟩)
    | holdChargeTimeout x => exact .inr (.inr (.inl ⟨x, rfl⟩))
    | resetStart e x => exact .inr (.inr (.inr (.inl ⟨e, x, rfl⟩)))
    | wakeSource w e x => exact .inr (.inr (.inr (.inr (.inl ⟨w, e, x, rfl⟩))))
    | rtAlarm e x => exact .inr (.inr (.inr (.inr (.inr ⟨e, x, rfl⟩))))
    | _ => exact Bool.noConfusion hc

end Sys2Proof.Machine
end

section
/-! SUPPORT. What leaves time, modes, the update session and the parameters alone, which a frame boundary works on. -/
namespace Sys2Proof.Machine
open Sys2Proof

/-- What the service-schedule frame works on: time, modes, update session and parameters. -/
structure Schedule where
  time : TimeState
  sys : ModeState
  upd : UpdState
  param : ParamState

/-- That part of a state. -/
def State.schedule (s : State) : Schedule := { time := s.time, sys := s.sys, upd := s.upd, param := s.param }

@[simp] theorem schedule_mk (time pins sys feed router silt port param rings meas hv bal guard field est mem loop thermal
    can clock disp tw twc banks upd ident free pending) :
    (State.mk time pins sys feed router silt port param rings meas hv bal guard field est mem loop thermal can clock disp tw twc
      banks upd ident free pending).schedule = { time := time, sys := sys, upd := upd, param := param } := rfl

@[simp] theorem schedule_eta (s : State) : Schedule.mk s.time s.sys s.upd s.param = s.schedule := rfl

@[simp] theorem foldl_schedule {α : Type} {f : State → α → State} (h : ∀ s a, (f s a).schedule = s.schedule)
    (l : List α) (s : State) : (l.foldl f s).schedule = s.schedule := foldl_field State.schedule h l s

@[simp] theorem ite_schedule (c : Prop) [Decidable c] (s t : State) :
    (if c then s else t).schedule = if c then s.schedule else t.schedule := apply_ite _ _ _ _

/-- An event changes nothing of the schedule. -/
theorem schedule_of_calm {s t : State} (h : t.calm = s.calm) : t.schedule = s.schedule := (congrArg State.schedule h :)

section
variable (s : State)

@[simp] theorem siltEvent_schedule (src code kind index : Nat) (detail : List Byte) :
    (siltEvent src code kind index detail s).1.schedule = s.schedule :=
  schedule_of_calm (siltEvent_calm src code kind index detail s)
@[simp] theorem raise_schedule (src code kind index : Nat) (detail : List Byte) :
    (raise src code kind index detail s).schedule = s.schedule := schedule_of_calm (raise_calm src code kind index detail s)
@[simp] theorem raise0_schedule (src : Nat) : (raise0 src s).schedule = s.schedule := by simp [raise0]
@[simp] theorem raiseStrand_schedule (src k : Nat) : (raiseStrand src k s).schedule = s.schedule := by simp [raiseStrand]
@[simp] theorem note_schedule (src code kind index : Nat) (detail : List Byte) :
    (note src code kind index detail s).schedule = s.schedule := schedule_of_calm (note_calm src code kind index detail s)
@[simp] theorem State.setOut_schedule (p : Port) (o : OutState) : (s.setOut p o).schedule = s.schedule := by
  unfold State.setOut; split <;> rfl
@[simp] theorem irq_schedule (p : Port) (b : Nat) : (irq p b s).schedule = s.schedule := by unfold irq; split <;> rfl
@[simp] theorem owe_schedule (p : Port) : (owe p s).2.schedule = s.schedule := by simp [owe]
@[simp] theorem postKept_schedule (p : Port) (pkt : OutPacket) : (postKept p pkt s).schedule = s.schedule := by
  simp [postKept]
@[simp] theorem dropped_schedule (p : Port) (stamp sec : Nat) : (dropped p stamp sec s).schedule = s.schedule := by
  simp [dropped]
@[simp] theorem postDroppable_schedule (p : Port) (pkt : OutPacket) : (postDroppable p pkt s).schedule = s.schedule := by
  unfold postDroppable
  dsimp only
  split
  · simp
  · split <;> simp
@[simp] theorem complete_schedule (r : Requester) (op st detail : Nat) (result : List Byte) :
    (complete r op st detail result s).schedule = s.schedule := by unfold complete; split <;> simp

/-! ### Named updates -/
@[simp] theorem State.modRing_schedule (r : Nat) (f : RingState → RingState) : (s.modRing r f).schedule = s.schedule := by
  simp [State.modRing]
@[simp] theorem State.modSat_schedule (r n : Nat) (f : SatState → SatState) : (s.modSat r n f).schedule = s.schedule := by
  simp [State.modSat]
@[simp] theorem State.modMeas_schedule (k : Nat) (f : MeasState → MeasState) : (s.modMeas k f).schedule = s.schedule := by
  simp [State.modMeas]
@[simp] theorem State.modHv_schedule (k : Nat) (f : StrandHv → StrandHv) : (s.modHv k f).schedule = s.schedule := by
  simp [State.modHv]
@[simp] theorem State.modBal_schedule (k : Nat) (f : BalState → BalState) : (s.modBal k f).schedule = s.schedule := by
  simp [State.modBal]
@[simp] theorem State.modTrip_schedule (k : Nat) (f : TripState → TripState) : (s.modTrip k f).schedule = s.schedule := by
  simp [State.modTrip]
@[simp] theorem State.modEst_schedule (k : Nat) (f : StrandEst → StrandEst) : (s.modEst k f).schedule = s.schedule := by
  simp [State.modEst]
@[simp] theorem State.modCan_schedule (c : Nat) (f : CanState → CanState) : (s.modCan c f).schedule = s.schedule := by
  simp [State.modCan]
@[simp] theorem modCellMem_schedule (k c : Nat) (f : CellMem → CellMem) : (modCellMem k c f s).schedule = s.schedule := by
  simp [modCellMem]
@[simp] theorem modCellEst_schedule (k c : Nat) (f : CellEst → CellEst) : (modCellEst k c f s).schedule = s.schedule := by
  simp [modCellEst]
@[simp] theorem modLoop_schedule (n : Nat) (f : LoopState → LoopState) : (modLoop n f s).schedule = s.schedule := by
  simp [modLoop]
@[simp] theorem modDisp_schedule (f : DispState → DispState) : (modDisp f s).schedule = s.schedule := by simp [modDisp]
@[simp] theorem modTw_schedule (f : TwTarget → TwTarget) : (modTw f s).schedule = s.schedule := by simp [modTw]
@[simp] theorem modClock_schedule (f : ClockState → ClockState) : (modClock f s).schedule = s.schedule := by simp [modClock]

/-! ### Rings, contactors and protection -/
@[simp] theorem ringGap_schedule (r : Nat) : (ringGap r s).schedule = s.schedule := by simp [ringGap]
@[simp] theorem askGap_schedule (r : Nat) : (askGap r s).schedule = s.schedule := by simp [askGap]
@[simp] theorem askSleep_schedule (r period : Nat) : (askSleep r period s).schedule = s.schedule := by simp [askSleep]
@[simp] theorem commandOn_schedule (x : Nat) : (commandOn x s).schedule = s.schedule := by simp [commandOn]
@[simp] theorem commandOff_schedule (x : Nat) : (commandOff x s).schedule = s.schedule := by simp [commandOff]
@[simp] theorem commandStrandOff_schedule (k : Nat) : (commandStrandOff k s).schedule = s.schedule := by
  simp [commandStrandOff]
@[simp] theorem enqueueWeld_schedule (k : Nat) : (enqueueWeld k s).schedule = s.schedule := by simp [enqueueWeld]
@[simp] theorem connectNext_schedule (l : List Nat) (res : List Nat) (by' : Option Requester) :
    (connectNext l res by' s).schedule = s.schedule := by
  induction l generalizing res s with
  | nil =>
    unfold connectNext
    cases by' <;> simp
  | cons k l ih =>
    unfold connectNext
    split
    · exact ih _ _
    · split
      · simp [ih]
      · dsimp only
        split <;> simp
@[simp] theorem connectFail_schedule (q : ConnectSeq) : (connectFail q s).schedule = s.schedule := by simp [connectFail]
@[simp] theorem connectAbort_schedule (q : ConnectSeq) : (connectAbort q s).schedule = s.schedule := by simp [connectAbort]
@[simp] theorem openStrand_schedule (k : Nat) : (openStrand k s).schedule = s.schedule := by
  unfold openStrand; dsimp only; split <;> simp
@[simp] theorem endTransfers_schedule (k : Nat) : (endTransfers k s).schedule = s.schedule := by
  simp [endTransfers, askStopAll]
@[simp] theorem stopTransfers_schedule (k : Nat) : (stopTransfers k s).schedule = s.schedule := by simp [stopTransfers]
@[simp] theorem withdraw_schedule (m : Nat) : (withdraw m s).schedule = s.schedule := by simp [withdraw]
@[simp] theorem causeOff_schedule (k b : Nat) : (causeOff k b s).schedule = s.schedule := by simp [causeOff]
@[simp] theorem tripStrand_schedule (k b : Nat) (byGuard : Bool) : (tripStrand k b byGuard s).schedule = s.schedule := by
  simp [tripStrand, causeOn]

/-! ### Journal, loops, pacer and network time -/
@[simp] theorem journalEnd_schedule : (journalEnd s).schedule = s.schedule := by unfold journalEnd; split <;> rfl
@[simp] theorem setLoopMode_schedule (n : Nat) (m : LoopMode) : (setLoopMode n m s).schedule = s.schedule := by
  unfold setLoopMode; split <;> simp
@[simp] theorem raiseThermal_schedule (src : Nat) (at' : Option (Nat × Int)) :
    (raiseThermal src at' s).schedule = s.schedule := by unfold raiseThermal; split <;> simp
@[simp] theorem followPacer_schedule : (followPacer s).schedule = s.schedule := by simp [followPacer]
@[simp] theorem correlate_schedule : (correlate s).schedule = s.schedule := by simp [correlate]
@[simp] theorem raiseNt_schedule (src : Nat) : (raiseNt src s).schedule = s.schedule := by simp [raiseNt]
@[simp] theorem setNtState_schedule (n src : Nat) : (setNtState n src s).schedule = s.schedule := by simp [setNtState]
@[simp] theorem becomeMaster_schedule : (becomeMaster s).schedule = s.schedule := by simp [becomeMaster, ntStepped]
@[simp] theorem takeRoles_schedule : (takeRoles s).schedule = s.schedule := by simp [takeRoles]
@[simp] theorem boundaryRoles_schedule (before : Nat) : (boundaryRoles before s).schedule = s.schedule := by
  simp [boundaryRoles]
@[simp] theorem restingRings_schedule : (restingRings s).schedule = s.schedule := by simp [restingRings]

/-! ### Notifications -/
@[simp] theorem markSubs_schedule (p : Port) (f : Subscription → Bool) : (markSubs p f s).schedule = s.schedule := by
  simp [markSubs]
@[simp] theorem postDue_schedule (p : Port) : (postDue p s).schedule = s.schedule := by simp [postDue]
@[simp] theorem showTw_schedule : (showTw s).schedule = s.schedule := by simp [showTw]

/-! ### The parts of a commit -/
@[simp] theorem loadGuard_schedule : (loadGuard s).schedule = s.schedule := by
  simp [loadGuard, writeGuardConfig, State.takeFree]
@[simp] theorem logChange_schedule (e : ChangeEntry) : (logChange e s).schedule = s.schedule := by simp [logChange]
@[simp] theorem commitBal_schedule (old : State) (staged : List Nat) : (commitBal old staged s).schedule = s.schedule := by
  simp [commitBal]
@[simp] theorem disqualify_schedule (k c cause : Nat) : (disqualify k c cause s).schedule = s.schedule := by
  simp [disqualify, modStrandMem]
@[simp] theorem disqualifyStrand_schedule (k cause : Nat) : (disqualifyStrand k cause s).schedule = s.schedule := by
  simp [disqualifyStrand]
@[simp] theorem commitLearn_schedule (changed : List Nat) : (commitLearn changed s).schedule = s.schedule := by
  simp [commitLearn]
@[simp] theorem resetCell_schedule (k c : Nat) : (resetCell k c s).schedule = s.schedule := by
  simp [resetCell, urgentSat, raiseCell]
@[simp] theorem commitCells_schedule (old : State) (changed : List Nat) :
    (commitCells old changed s).schedule = s.schedule := by simp [commitCells]
@[simp] theorem followLine_schedule : (followLine s).schedule = s.schedule := by simp [followLine]
@[simp] theorem commitIso_schedule (changed : List Nat) : (commitIso changed s).schedule = s.schedule := by simp [commitIso]
@[simp] theorem commitFeed_schedule (changed : List Nat) : (commitFeed changed s).schedule = s.schedule := by
  simp [commitFeed]
@[simp] theorem reinitCells_schedule (all : Bool) : (reinitCells all s).schedule = s.schedule := by simp [reinitCells]
@[simp] theorem driveAo_schedule (i u : Nat) : (driveAo i u s).schedule = s.schedule := by simp [driveAo]
@[simp] theorem driveGo_schedule (y u : Nat) : (driveGo y u s).schedule = s.schedule := by simp [driveGo]
@[simp] theorem commitField_schedule (changed : List Nat) : (commitField changed s).schedule = s.schedule := by
  simp [commitField, modAi, modPi, reconfigureAo]
@[simp] theorem writeTarget'_schedule (config : Nat) (u : Option Nat) : (writeTarget' config u s).schedule = s.schedule := by
  unfold writeTarget'; split <;> simp
@[simp] theorem startLoop_schedule (n : Nat) : (startLoop n s).schedule = s.schedule := by simp [startLoop]
@[simp] theorem stopLoop_schedule (n : Nat) : (stopLoop n s).schedule = s.schedule := by simp [stopLoop]
@[simp] theorem applyEnable_schedule (old : Nat → List Nat) (n : Nat) : (applyEnable old n s).schedule = s.schedule := by
  simp [applyEnable]
@[simp] theorem applyParent_schedule (old : Nat → List Nat) (n : Nat) : (applyParent old n s).schedule = s.schedule := by
  simp [applyParent]
@[simp] theorem applyLoops_schedule (old : Nat → List Nat) : (applyLoops old s).schedule = s.schedule := by simp [applyLoops]
@[simp] theorem switchChannel_schedule (c : Nat) (on : Bool) : (switchChannel c on s).schedule = s.schedule := by
  simp [switchChannel, abortChannel]
@[simp] theorem commitNet_schedule (old : State) (changed : List Nat) : (commitNet old changed s).schedule = s.schedule := by
  simp [commitNet, setReasm]
@[simp] theorem postRing_schedule (r : Nat) (d : RingDesc) : (postRing r d s).1.schedule = s.schedule := by
  unfold postRing
  split
  · rfl
  · split <;> simp
@[simp] theorem postOrKeep_schedule (r : Nat) (d : RingDesc) : (postOrKeep r d s).schedule = s.schedule := by
  simp [postOrKeep]
@[simp] theorem queueConfig_schedule (r : Nat) : (queueConfig r s).schedule = s.schedule := by simp [queueConfig]
@[simp] theorem writeAdmitted_schedule (r : Nat) : (writeAdmitted r s).schedule = s.schedule := by simp [writeAdmitted]
@[simp] theorem failCommands_schedule (r : Nat) : (failCommands r s).schedule = s.schedule := by
  unfold failCommands
  exact foldl_schedule (fun s d => by split <;> simp) _ s

/-! ### The parts of a mode change -/
@[simp] theorem cancelConnect_schedule : (cancelConnect s).schedule = s.schedule := by unfold cancelConnect; split <;> simp
@[simp] theorem endConnect_schedule : (endConnect s).schedule = s.schedule := by unfold endConnect; split <;> simp
@[simp] theorem allOff_schedule : (allOff s).schedule = s.schedule := by simp [allOff, openStrands]
@[simp] theorem freezeLimits_schedule (keep : Bool) : (freezeLimits keep s).schedule = s.schedule := by simp [freezeLimits]
@[simp] theorem leaveRun_schedule (limp : Bool) : (leaveRun limp s).schedule = s.schedule := by simp [leaveRun]
@[simp] theorem hollowHold_schedule (n : Nat) : (hollowHold n s).schedule = s.schedule := by simp [hollowHold]
@[simp] theorem loopsFollow_schedule (m : Mode) : (loopsFollow m s).schedule = s.schedule := by
  unfold loopsFollow; split <;> simp
@[simp] theorem modeChanged_schedule (old new : Mode) (cause : Nat) :
    (modeChanged old new cause s).schedule = s.schedule := by simp [modeChanged]
@[simp] theorem journalWrite_schedule (cause : Nat) : (journalWrite cause s).schedule = s.schedule := by simp [journalWrite]
@[simp] theorem writeCounters_schedule : (writeCounters s).schedule = s.schedule := by simp [writeCounters]
@[simp] theorem commitAccum_schedule (k c : Nat) (moved : Bool) : (commitAccum k c moved s).schedule = s.schedule := by
  simp [commitAccum]
@[simp] theorem writeAllMemory_schedule : (writeAllMemory s).schedule = s.schedule := by simp [writeAllMemory]
@[simp] theorem stopAllTransfers_schedule : (stopAllTransfers s).schedule = s.schedule := by simp [stopAllTransfers]

/-! ### Immediate parameters and code banks -/
@[simp] theorem applySoCmd_schedule (v : Nat) : (applySoCmd v s).schedule = s.schedule := by simp [applySoCmd]
@[simp] theorem applyLatchClear_schedule (v : Nat) : (applyLatchClear v s).schedule = s.schedule := by
  simp [applyLatchClear, modOut]
@[simp] theorem applyGoCmd_schedule (y u : Nat) : (applyGoCmd y u s).schedule = s.schedule := by simp [applyGoCmd]
@[simp] theorem applyAoCmd_schedule (i u : Nat) : (applyAoCmd i u s).schedule = s.schedule := by simp [applyAoCmd]
@[simp] theorem applyRecover_schedule (v : Nat) : (applyRecover v s).schedule = s.schedule := by simp [applyRecover]
@[simp] theorem applyImmediate_schedule (id : Nat) (v : PVal) : (applyImmediate id v s).schedule = s.schedule := by
  unfold applyImmediate; split <;> simp
@[simp] theorem updEvent_schedule (src code c : Nat) : (updEvent src code c s).schedule = s.schedule := by simp [updEvent]
@[simp] theorem swapRunning_schedule : (swapRunning s).schedule = s.schedule := by simp [swapRunning]
@[simp] theorem releaseBanks_schedule : (releaseBanks s).schedule = s.schedule := by simp [releaseBanks]

end

end Sys2Proof.Machine
end

section
/-! SUPPORT. The saddle point: what it needs of the module, and what it leaves of the schedule. -/
namespace Sys2Proof.Machine
open Sys2Proof

/-- Of the schedule, what decides whether the supervisor goes on at a boundary. -/
structure Pace where
  time : TimeState
  powered : Bool
  held : Option Nat
  mode : Mode
  hibernating : Option Requester
  autoRunDue : Bool

/-- That part of a schedule. -/
def Schedule.pace (q : Schedule) : Pace :=
  { time := q.time, powered := q.sys.powered, held := q.sys.held, mode := q.sys.mode, hibernating := q.sys.hibernating,
    autoRunDue := q.sys.autoRunDue }

@[simp] theorem pace_mk (time : TimeState) (sys : ModeState) (upd : UpdState) (param : ParamState) :
    (Schedule.mk time sys upd param).pace =
      { time := time, powered := sys.powered, held := sys.held, mode := sys.mode, hibernating := sys.hibernating,
        autoRunDue := sys.autoRunDue } := rfl

@[simp] theorem pace_eta (s : State) :
    Pace.mk s.time s.sys.powered s.sys.held s.sys.mode s.sys.hibernating s.sys.autoRunDue = s.schedule.pace := rfl

@[simp] theorem ite_pace (c : Prop) [Decidable c] (q r : Schedule) :
    (if c then q else r).pace = if c then q.pace else r.pace := apply_ite _ _ _ _

/-! ### What keeps the pace: handovers, fallbacks, immediate parameters -/

section
variable (s : State)

@[simp] theorem modComp_pace (c : Nat) (f : CompState → CompState) : (modComp c f s).schedule.pace = s.schedule.pace := rfl
@[simp] theorem markBase_pace (c : Nat) : (markBase c s).schedule.pace = s.schedule.pace := rfl
@[simp] theorem modParam_pace (f : ParamState → ParamState) : (modParam f s).schedule.pace = s.schedule.pace := rfl
@[simp] theorem leaveService_pace : (leaveService s).schedule.pace = s.schedule.pace := rfl
@[simp] theorem startRestore_pace : (startRestore s).schedule.pace = s.schedule.pace := rfl
@[simp] theorem setIdent_schedule (c v : Nat) : (setIdent c v s).schedule = s.schedule := by
  unfold setIdent; extract_lets i; cases i <;> rfl
@[simp] theorem confirm_pace (c : Nat) : (confirm c s).schedule.pace = s.schedule.pace := by simp [confirm]
@[simp] theorem handedOver_pace (h : Handover) : (handedOver h s).schedule.pace = s.schedule.pace := by simp [handedOver]
@[simp] theorem tellAbort_pace (st : Nat) : (tellAbort st s).schedule.pace = s.schedule.pace := by simp [tellAbort]
@[simp] theorem applyImmediates_pace : (applyImmediates s).schedule.pace = s.schedule.pace := by simp [applyImmediates]
@[simp] theorem commitHandover_pace : (commitHandover s).schedule.pace = s.schedule.pace := by
  unfold commitHandover
  split
  · rfl
  · split
    · rfl
    · split <;> simp
@[simp] theorem commitFallback_pace : (commitFallback s).schedule.pace = s.schedule.pace := by
  unfold commitFallback
  split
  · rfl
  · dsimp only
    split
    · simp
    · split
      · simp
      · split <;> simp
@[simp] theorem hibernateGate_pace (by' : Requester) : (hibernateGate by' s).1.schedule.pace = s.schedule.pace := by
  unfold hibernateGate
  dsimp only
  split
  case h_3 =>
    split
    · simp
    · split <;> simp
  case h_4 => split <;> simp
  all_goals rfl

end

/-! ### A serving module stays one through the mode requests of a saddle point -/

/-- A module past its start, neither unpowered, reset nor hibernating, without a pending AUTO_RUN, at a time. -/
structure Pace.ServesAt (t : TimeState) (p : Pace) : Prop where
  time : p.time = t
  powered : p.powered = true
  held : p.held = none
  started : p.mode ≠ .start
  awake : p.mode ≠ .hibernate
  noAutoRun : p.autoRunDue = false

section
variable {s : State} {t : TimeState}

theorem Pace.ServesAt.setHibernating {p : Pace} (h : p.ServesAt t) (r : Option Requester) :
    Pace.ServesAt t { p with hibernating := r } := ⟨h.time, h.powered, h.held, h.started, h.awake, h.noAutoRun⟩

theorem Pace.ServesAt.setMode {p : Pace} (h : p.ServesAt t) {m : Mode} (hs : m ≠ .start) (hh : m ≠ .hibernate) :
    Pace.ServesAt t { p with mode := m } := ⟨h.time, h.powered, h.held, hs, hh, h.noAutoRun⟩

theorem Pace.ServesAt.setTime {p : Pace} (h : p.ServesAt t) (t' : TimeState) : Pace.ServesAt t' { p with time := t' } :=
  ⟨rfl, h.powered, h.held, h.started, h.awake, h.noAutoRun⟩

theorem alive_of_servesAt (h : s.schedule.pace.ServesAt t) : s.alive = true := by
  obtain ⟨-, hp, hh, hs, ha, -⟩ := h
  simp only [State.schedule, pace_mk] at hp hh hs ha
  simp [State.alive, hp, hh, hs, ha]

theorem servesAt_of_alive (h : s.alive = true) (hs : s.sys.mode ≠ .start) (hr : s.sys.autoRunDue = false) :
    s.schedule.pace.ServesAt s.time := by
  simp only [State.alive, Bool.and_eq_true, Option.isNone_iff_eq_none, bne_iff_ne] at h
  obtain ⟨⟨⟨hp, hh⟩, ha⟩, -⟩ := h
  exact ⟨rfl, hp, hh, hs, ha, hr⟩

/-- A saddle point only accepts a mode request to STANDBY, RUN, SERVICE or HIBERNATE. -/
theorem ne_start_of_modeStatus {m : Mode} (h : s.modeStatus m = stAccepted) : m ≠ .start := by
  rintro rfl
  unfold State.modeStatus at h
  cases hm : s.sys.mode <;> rw [hm] at h <;> cases h

theorem beginHibernate_servesAt (by' : Requester) (h : s.schedule.pace.ServesAt t) :
    (beginHibernate by' s).schedule.pace.ServesAt t := by
  unfold beginHibernate
  extract_lets a b c
  have hb : b.schedule.pace.ServesAt t := by
    have ha : a.schedule = s.schedule := by simp only [a]; split <;> simp
    simpa [b, ha] using h
  have hc : c.schedule.pace.ServesAt t := hb.setHibernating _
  simpa using hc

theorem enterMode_servesAt {new : Mode} (cause : Nat) (hs : new ≠ .start) (hh : new ≠ .hibernate)
    (h : s.schedule.pace.ServesAt t) : (enterMode new cause s).schedule.pace.ServesAt t := by
  unfold enterMode
  extract_lets old limp a b c d e _ f
  split
  · exact h
  · have ha : a.schedule.pace = s.schedule.pace := by simp only [a]; split <;> simp
    have hb : b.schedule.pace = s.schedule.pace := by simp only [b]; split <;> simp [ha]
    have hc : c.schedule.pace = s.schedule.pace := by simp only [c]; split <;> simp [hb]
    have hd : d.schedule.pace = s.schedule.pace := by simp only [d]; split <;> simp [hc]
    have he : e.schedule.pace = s.schedule.pace := by simp only [e]; split <;> simp [hd]
    have hf : f.schedule.pace.ServesAt t := (he ▸ h : e.schedule.pace.ServesAt t).setMode hs hh
    simpa using hf

theorem settleMode_servesAt (m : ModeRequest) (h : s.schedule.pace.ServesAt t) :
    (settleMode m s).schedule.pace.ServesAt t := by
  unfold settleMode
  extract_lets st g
  have hg : g.1.schedule.pace.ServesAt t := by simpa [g] using h
  split
  · simpa using h
  next hst =>
    split
    · split
      · exact beginHibernate_servesAt _ hg
      · exact hg
    next hm => simpa using enterMode_servesAt 0 (ne_start_of_modeStatus (not_not.mp hst)) hm h

theorem settleModes_servesAt (l : List ModeRequest) (h : s.schedule.pace.ServesAt t) :
    (settleModes l s).schedule.pace.ServesAt t := by
  induction l generalizing s with
  | nil => exact h
  | cons m l ih =>
    unfold settleModes
    split
    · exact h
    · exact ih (settleMode_servesAt m h)

end

/-! ### The commit of a staged set -/

/-- Without the record of incomplete rings and the mark of R495, which a commit of a staged set may change as well. -/
def Schedule.rough (q : Schedule) : Schedule :=
  { q with sys := { q.sys with incomplete := 0 }, param := { q.param with defaultsMark := false } }

@[simp] theorem ite_rough (c : Prop) [Decidable c] (q r : Schedule) :
    (if c then q else r).rough = if c then q.rough else r.rough := apply_ite _ _ _ _

@[simp] theorem foldl_rough {α : Type} {f : State → α → State} (h : ∀ s a, (f s a).schedule.rough = s.schedule.rough)
    (l : List α) (s : State) : (l.foldl f s).schedule.rough = s.schedule.rough := foldl_field (fun s => s.schedule.rough) h l s

section
variable (s : State)

@[simp] theorem updateIncomplete_rough (r : Nat) : (updateIncomplete r s).schedule.rough = s.schedule.rough := by
  unfold updateIncomplete
  extract_lets inc was _ x
  have hx : x.schedule.rough = s.schedule.rough := rfl
  split <;> simp [hx]
@[simp] theorem ringDown_rough (r : Nat) : (ringDown r s).schedule.rough = s.schedule.rough := by simp [ringDown]
@[simp] theorem askEnumerate_rough (r : Nat) : (askEnumerate r s).schedule.rough = s.schedule.rough := by simp [askEnumerate]
@[simp] theorem startEnum_rough (r : Nat) : (startEnum r s).schedule.rough = s.schedule.rough := by simp [startEnum, startEnumOf]
@[simp] theorem stopRing_rough (r : Nat) : (stopRing r s).schedule.rough = s.schedule.rough := by simp [stopRing]
@[simp] theorem commitRings_rough (old : State) (changed : List Nat) :
    (commitRings old changed s).schedule.rough = s.schedule.rough := by simp [commitRings]
@[simp] theorem modParam_defaultsMark_rough (b : Bool) :
    (modParam (fun q => { q with defaultsMark := b }) s).schedule.rough = s.schedule.rough := rfl
@[simp] theorem commitGuarded_rough (old : ParamState) (changed : List Nat) (p : Port) :
    (commitGuarded old changed p s).schedule.rough = s.schedule.rough := by
  simp [commitGuarded]

end

/-- The parameters once a staged set has taken effect (R13, R178). -/
def ParamState.committed (q : ParamState) : ParamState :=
  { q with applied := applyAll (q.shadow.map clampDepth) q.applied, shadow := [], owner := none, pendingApply := none,
           prior := some q.applied }

/-- Of a commit's consequences in the module only the rings' enumerations and an apply of block 0x0C reach the schedule. -/
theorem commitSet_rough (a : PendingApply) (s : State) :
    (commitSet a s).schedule.rough = Schedule.rough ⟨s.time, s.sys, s.upd, s.param.committed⟩ := by
  unfold commitSet
  extract_lets old sh staged clamped q x changed b c d e f g h
  have hx : x.schedule.rough = Schedule.rough ⟨s.time, s.sys, s.upd, s.param.committed⟩ := rfl
  have hc : c.schedule.rough = x.schedule.rough := by simp only [c, b]; split <;> simp
  have he : e.schedule.rough = x.schedule.rough := by simp [e, d, hc]
  have hf : f.schedule.rough = x.schedule.rough := by
    simp only [f]; split
    · simp [he]
    · split <;> simp [he]
  have hg : g.schedule.rough = x.schedule.rough := by simp only [g]; split <;> simp [hf]
  simp [h, hg, hx]

/-! ### The saddle point -/

theorem commitFord_of_none {s : State} (h : s.param.pendingApply = none) : commitFord s = (s, false) := by
  simp [commitFord, h]

/-- A pending apply that is bound to no instant and that R15 allows takes effect (R32, R178). -/
theorem commitFord_of_due {s : State} {a : PendingApply} (h : s.param.pendingApply = some a) (ha : a.instant = 0)
    (hr : s.r15 a.service a.guarded = none) : commitFord s = (commitSet a s, true) := by
  simp [commitFord, h, ha, hr]

theorem commitFord_pace (s : State) : (commitFord s).1.schedule.pace = s.schedule.pace := by
  unfold commitFord
  split
  · rfl
  · split
    · rfl
    · split
      · simp
      next a _ _ _ _ => exact (congrArg Schedule.pace (commitSet_rough a s) :)

theorem commitHandover_of_none {s : State} (h : s.upd.handover = none) : commitHandover s = s := by simp [commitHandover, h]

theorem commitFallback_of_none {s : State} (h : s.upd.fallback = none) : commitFallback s = s := by simp [commitFallback, h]

theorem applyImmediates_of_nil {s : State} (h : s.param.immediate = []) : applyImmediates s = s := by
  unfold applyImmediates modParam
  rw [h, List.foldl_nil, ← h]

theorem settleHibernate_of_none {s : State} (h : s.sys.hibernating = none) : settleHibernate s = s := by
  simp [settleHibernate, endHibernate, h]

theorem settleModes_nil {s : State} (h : s.sys.pendingMode = []) : settleModes s.sys.pendingMode s = s := by
  rw [h]
  simp [settleModes, modSys, ← h]

/-- A saddle point's work before the mode requests: Ford apply, immediates, handover, fallback, entry to HIBERNATE. -/
def settled (s : State) : State :=
  settleHibernate (commitFallback (commitHandover (applyImmediates (commitFord s).1)))

/-- The mode requests follow; the notifications after them leave the schedule alone. -/
theorem saddlePoint_schedule {s : State} (h : (settled s).alive = true) :
    (saddlePoint s).schedule = (settleModes (settled s).sys.pendingMode (settled s)).schedule := by
  unfold saddlePoint
  extract_lets mode ready f x y z
  have hx : x.alive = true := h
  rw [if_neg (by simp [hx])]
  split <;> simp [z, y, x, settled, f]

/-- Whatever waits for a saddle point, the module goes on after it, unless an entry to HIBERNATE was under way. -/
theorem saddlePoint_servesAt {s : State} {t : TimeState} (h : s.schedule.pace.ServesAt t) (hh : s.sys.hibernating = none) :
    (saddlePoint s).schedule.pace.ServesAt t := by
  have hp : (commitFallback (commitHandover (applyImmediates (commitFord s).1))).schedule.pace = s.schedule.pace := by
    simp [commitFord_pace]
  have hs : (settled s).schedule.pace.ServesAt t := by
    unfold settled
    rw [settleHibernate_of_none ((congrArg Pace.hibernating hp).trans hh), hp]
    exact h
  rw [saddlePoint_schedule (alive_of_servesAt hs)]
  exact settleModes_servesAt _ hs

/-- Nothing but a Ford apply waits for the saddle point. -/
structure Schedule.OnlyFord (q : Schedule) : Prop where
  handover : q.upd.handover = none
  fallback : q.upd.fallback = none
  immediate : q.param.immediate = []
  hibernating : q.sys.hibernating = none
  pendingMode : q.sys.pendingMode = []

theorem Schedule.OnlyFord.of_rough {q r : Schedule} (h : q.rough = r.rough) (hr : r.OnlyFord) : q.OnlyFord := by
  have hq : q.rough.OnlyFord := h ▸ ⟨hr.handover, hr.fallback, hr.immediate, hr.hibernating, hr.pendingMode⟩
  exact ⟨hq.handover, hq.fallback, hq.immediate, hq.hibernating, hq.pendingMode⟩

/-- Where nothing else waits, a saddle point changes of the schedule what the Ford apply changes. -/
theorem saddlePoint_onlyFord {s : State} {t : TimeState} (hp : s.schedule.pace.ServesAt t)
    (h : (commitFord s).1.schedule.OnlyFord) : (saddlePoint s).schedule = (commitFord s).1.schedule := by
  have ha : (commitFord s).1.alive = true := alive_of_servesAt (commitFord_pace s ▸ hp)
  have hs : settled s = (commitFord s).1 := by
    unfold settled
    rw [applyImmediates_of_nil h.immediate, commitHandover_of_none h.handover, commitFallback_of_none h.fallback,
      settleHibernate_of_none h.hibernating]
  rw [saddlePoint_schedule (hs ▸ ha), hs, settleModes_nil h.pendingMode]

end Sys2Proof.Machine
end

section
/-! SUPPORT. The frame boundary and the quiesce mark (O45). -/
namespace Sys2Proof.Machine
open Sys2Proof

/-- What stands at a boundary after its saddle point, or without one. -/
def atBoundary (s : State) : State :=
  let x := followPacer { s with param := { s.param with prior := none } }
  if x.time.inFlight.isEmpty then saddlePoint x else noSaddlePoint x

theorem autoRun_of_not_due {s : State} (h : s.sys.autoRunDue = false) : autoRun s = s := by simp [autoRun, h]

theorem finishStart_of_ne_start {s : State} (h : s.sys.mode ≠ .start) : finishStart s = s := by simp [finishStart, h]

/-- A frame begins: its quiesce mark and the units in flight are gone, and at least 8 commands may start (R29, R725). -/
def Schedule.opened (starts : Nat) (q : Schedule) : Schedule :=
  { q with time := { q.time with quiesced := false, inFlight := [], starts := max 8 starts } }

/-- The end of a start and AUTO_RUN being no matter, what follows the saddle point up to the starting of commands only opens the
frame. -/
theorem beginFrame_opens (before starts : Nat) {s : State} {t : TimeState} (h : (atBoundary s).schedule.pace.ServesAt t) :
    ∃ u, beginFrame before starts s = pumpCan (drain (journalDue u)) ∧
      u.schedule = (atBoundary s).schedule.opened starts := by
  unfold beginFrame
  extract_lets p x y z w a b c
  have hy : y = atBoundary s := rfl
  have hz : z.schedule = (atBoundary s).schedule := by simp [z, hy]
  have hb : (boundaryRoles before b).schedule = (atBoundary s).schedule.opened starts := by
    rw [boundaryRoles_schedule, ← hz]
    rfl
  have hm : (boundaryRoles before b).sys.mode ≠ .start := (congrArg (·.sys.mode) hb).trans_ne h.started
  have hr : (boundaryRoles before b).sys.autoRunDue = false := (congrArg (·.sys.autoRunDue) hb).trans h.noAutoRun
  rw [hy, if_neg (by simp [alive_of_servesAt h])]
  refine ⟨c, rfl, ?_⟩
  simp only [c, finishStart_of_ne_start hm, autoRun_of_not_due hr, restingRings_schedule, hb]

/-- The timebase is at the boundary, and a periodic journal write has ended. -/
def boundaryReached (s : State) : State := journalEnd (advance (1000 - s.time.now % 1000) s)

/-- The same with the pacer step of the new frame: the state that a saddle point finds. -/
def boundaryPaced (s : State) : State :=
  followPacer { boundaryReached s with param := { (boundaryReached s).param with prior := none } }

section
variable (s : State)

theorem boundaryPaced_schedule : (boundaryPaced s).schedule =
    ⟨(advance (1000 - s.time.now % 1000) s).time, s.sys, s.upd, { s.param with prior := none }⟩ := by
  unfold boundaryPaced boundaryReached journalEnd
  rw [followPacer_schedule]
  split <;> rfl

theorem boundaryPaced_time : (boundaryPaced s).time = (advance (1000 - s.time.now % 1000) s).time :=
  congrArg Schedule.time (boundaryPaced_schedule s)
theorem boundaryPaced_sys : (boundaryPaced s).sys = s.sys := congrArg Schedule.sys (boundaryPaced_schedule s)
theorem boundaryPaced_upd : (boundaryPaced s).upd = s.upd := congrArg Schedule.upd (boundaryPaced_schedule s)
theorem boundaryPaced_param : (boundaryPaced s).param = { s.param with prior := none } :=
  congrArg Schedule.param (boundaryPaced_schedule s)

theorem advance_to_boundary_now : (advance (1000 - s.time.now % 1000) s).time.now = (s.time.now / 1000 + 1) * 1000 := by
  simp only [advance]
  omega

theorem atBoundary_of_idle {s : State} (h : s.time.inFlight = []) :
    atBoundary (boundaryReached s) = saddlePoint (boundaryPaced s) := by
  have hf : (boundaryPaced s).time.inFlight = [] := by rw [boundaryPaced_time]; exact h
  exact if_pos (by rw [List.isEmpty_iff]; exact hf)

theorem atBoundary_of_busy {s : State} (h : s.time.inFlight ≠ []) :
    atBoundary (boundaryReached s) = noSaddlePoint (boundaryPaced s) := by
  have hf : (boundaryPaced s).time.inFlight ≠ [] := by rw [boundaryPaced_time]; exact h
  exact if_neg (by rw [List.isEmpty_iff]; exact hf)

theorem noSaddlePoint_schedule : (noSaddlePoint s).schedule =
    ⟨{ s.time with noSaddle := s.time.noSaddle + 1 }, s.sys, s.upd, s.param⟩ := by
  simp [noSaddlePoint]

end

section
variable {s : State} (ha : s.alive = true) (hm : s.sys.mode ≠ .start) (hr : s.sys.autoRunDue = false)
include ha hm hr

theorem boundaryPaced_servesAt :
    (boundaryPaced s).schedule.pace.ServesAt (advance (1000 - s.time.now % 1000) s).time := by
  obtain ⟨-, hp, hd, hs, hw, hq⟩ := servesAt_of_alive ha hm hr
  rw [boundaryPaced_schedule]
  exact ⟨rfl, hp, hd, hs, hw, hq⟩

/-- A boundary reaches the next whole multiple of 1,000 µs, and counts where it is no saddle point (R29, R31). -/
theorem atBoundary_servesAt (hh : s.sys.hibernating = none) : (atBoundary (boundaryReached s)).schedule.pace.ServesAt
    { (advance (1000 - s.time.now % 1000) s).time with
      noSaddle := if s.time.inFlight = [] then s.time.noSaddle else s.time.noSaddle + 1 } := by
  have hx := boundaryPaced_servesAt ha hm hr
  by_cases hf : s.time.inFlight = []
  · rw [if_pos hf, atBoundary_of_idle hf]
    exact saddlePoint_servesAt hx (by rw [boundaryPaced_sys, hh])
  · rw [if_neg hf, atBoundary_of_busy hf, noSaddlePoint_schedule, boundaryPaced_time]
    exact hx.setTime _

/-- A frame boundary opens the frame on what its saddle point left (R29). -/
theorem execFrameBoundary_opens (n : Nat) (h11 : 11 ≤ s.sys.step) (hh : s.sys.hibernating = none) :
    ∃ u, exec (.frameBoundary n) s = .next (pumpCan (drain (journalDue u))) ∧
      u.schedule = (atBoundary (boundaryReached s)).schedule.opened n := by
  obtain ⟨u, hu, hs⟩ := beginFrame_opens s.net n (atBoundary_servesAt ha hm hr hh)
  refine ⟨u, ?_, hs⟩
  have hg : (!s.alive || decide (s.sys.step < 11)) = false := by simp [ha, h11]
  simp only [exec, execFrameBoundary, hg]
  exact congrArg _ hu

/-- With nothing to commit, a saddle point leaves the schedule as the boundary found it. -/
theorem atBoundary_of_nothing (hf : s.time.inFlight = []) (ho : s.schedule.OnlyFord) (hp : s.param.pendingApply = none) :
    (atBoundary (boundaryReached s)).schedule = (boundaryPaced s).schedule := by
  have hc : commitFord (boundaryPaced s) = (boundaryPaced s, false) := commitFord_of_none (by rw [boundaryPaced_param, hp])
  have ho' : (boundaryPaced s).schedule.OnlyFord := by
    rw [boundaryPaced_schedule]
    exact ⟨ho.handover, ho.fallback, ho.immediate, ho.hibernating, ho.pendingMode⟩
  rw [atBoundary_of_idle hf, saddlePoint_onlyFord (boundaryPaced_servesAt ha hm hr) (by rwa [hc]), hc]

/-- With nothing but a due apply to commit, a saddle point takes the staged set into force (R13, R14, R30). -/
theorem atBoundary_of_due (hf : s.time.inFlight = []) (ho : s.schedule.OnlyFord) {a : PendingApply}
    (hp : s.param.pendingApply = some a) (h0 : a.instant = 0) (h15 : s.r15 a.service a.guarded = none) :
    (atBoundary (boundaryReached s)).schedule.rough = Schedule.rough
      ⟨(advance (1000 - s.time.now % 1000) s).time, s.sys, s.upd, ParamState.committed { s.param with prior := none }⟩ := by
  have h15' : (boundaryPaced s).r15 a.service a.guarded = none := by
    rw [State.r15, boundaryPaced_sys, boundaryPaced_param]
    exact h15
  have hc : commitFord (boundaryPaced s) = (commitSet a (boundaryPaced s), true) :=
    commitFord_of_due (by rw [boundaryPaced_param, hp]) h0 h15'
  have hq := commitSet_rough a (boundaryPaced s)
  rw [boundaryPaced_time, boundaryPaced_sys, boundaryPaced_upd, boundaryPaced_param] at hq
  have ho' : (commitSet a (boundaryPaced s)).schedule.OnlyFord :=
    .of_rough hq ⟨ho.handover, ho.fallback, ho.immediate, ho.hibernating, ho.pendingMode⟩
  rw [atBoundary_of_idle hf, saddlePoint_onlyFord (boundaryPaced_servesAt ha hm hr) (by rwa [hc]), hc, hq]

end

/-! ### The quiesce mark -/

/-- The window's 100 µs lead to the same boundary, so the same apply is due at it. -/
theorem preparing_advance {s : State} (h : s.time.now % 1000 ≤ 900) :
    (advance (900 - s.time.now % 1000) s).preparing = s.preparing := by
  have hn : s.time.now + (900 - s.time.now % 1000) + (1000 - (s.time.now + (900 - s.time.now % 1000)) % 1000) =
      s.time.now + (1000 - s.time.now % 1000) := by omega
  have hb : (advance (900 - s.time.now % 1000) s).boundaryNet = s.boundaryNet := congrArg s.netAt hn
  unfold State.preparing State.applyDue
  rw [hb]
  rfl

theorem execQuiesceMark_of_early {s : State} (ha : s.alive = true) (h11 : 11 ≤ s.sys.step) (hq : s.time.quiesced = false)
    (h : s.time.now % 1000 ≤ 900) (l : List Engine) :
    exec (.quiesceMark l) s = .next { advance (900 - s.time.now % 1000) s with
      time := { (advance (900 - s.time.now % 1000) s).time with quiesced := true, inFlight := l ++ s.preparing } } := by
  have hg : (!s.alive || decide (s.sys.step < 11) || s.time.quiesced) = false := by simp [ha, h11, hq]
  simp only [exec, execQuiesceMark, hg, preparing_advance h]
  rfl

/-- Settles O45, from the schedule that a boundary leaves with a unit in flight, with nothing to commit and with a due apply. -/
theorem frameBoundary : Obligations.FrameBoundary := by
  unfold Obligations.FrameBoundary
  intro s n ha h11
  refine ⟨fun hh hm hr => ?_, fun hq h l => ?_, fun hq e => ?_, fun hd => ?_⟩
  · obtain ⟨u, hu, hs⟩ := execFrameBoundary_opens ha hm hr n h11 hh
    have ht := (atBoundary_servesAt ha hm hr hh).time
    refine ⟨u, hu, congrArg (·.time.starts) hs, ?_, congrArg (·.time.quiesced) hs, congrArg (·.time.inFlight) hs, ?_, ?_, ?_⟩
    · exact (congrArg (·.time.now) hs).trans ((congrArg (·.now) ht).trans (advance_to_boundary_now s))
    · exact (congrArg (·.time.powerCycles) hs).trans (congrArg (·.powerCycles) ht)
    · intro hf
      rw [atBoundary_of_busy hf, noSaddlePoint_schedule, boundaryPaced_time, boundaryPaced_sys, boundaryPaced_upd,
        boundaryPaced_param] at hs
      exact ⟨congrArg (·.time.noSaddle) hs, congrArg Schedule.sys hs, congrArg Schedule.upd hs, congrArg Schedule.param hs⟩
    · intro hf hv hk hi hp
      have ho : s.schedule.OnlyFord := ⟨hv, hk, hi, hh, hp⟩
      refine ⟨?_, fun hn => ?_, fun a hn h0 h15 => ?_⟩
      · exact (congrArg (·.time.noSaddle) hs).trans ((congrArg (·.noSaddle) ht).trans (if_pos hf))
      · rw [atBoundary_of_nothing ha hm hr hf ho hn, boundaryPaced_schedule] at hs
        exact ⟨congrArg Schedule.param hs, congrArg Schedule.sys hs⟩
      · have hq := (congrArg Schedule.rough hs).trans
          (congrArg (Schedule.opened n) (atBoundary_of_due ha hm hr hf ho hn h0 h15))
        exact ⟨congrArg (·.param.applied) hq, congrArg (·.param.shadow) hq, congrArg (·.param.owner) hq,
          congrArg (·.param.pendingApply) hq, congrArg (·.sys.mode) hq⟩
  · refine ⟨_, execQuiesceMark_of_early ha h11 hq h l, rfl, ?_, rfl, rfl, rfl⟩
    simp only [advance]
    omega
  · simp [exec, execWorkUnitComplete, hq]
  · simp [exec, execTb1DisciplineLost, ha, hd]

end Sys2Proof.Machine
end

section
/-! SUPPORT. The feeds outside a power-fail commit: their state code, events and handovers, and their verdicts (O35, O36). -/
namespace Sys2Proof.Machine
open Sys2Proof

/-- A feed event advances its own counter (R103). -/
@[simp] theorem feedEvent_feed (src : Nat) (detail : List Byte) (s : State) :
    (feedEvent src detail s).feed = { s.feed with eventCounts := modAt s.feed.eventCounts (src - 0x10) (· + 1) } :=
  raise_feed ..

theorem feedEvent_calm (src : Nat) (detail : List Byte) (s : State) : (feedEvent src detail s).calm =
    ({ s with feed := { s.feed with eventCounts := modAt s.feed.eventCounts (src - 0x10) (· + 1) } } : State).calm :=
  raise_calm ..

theorem feedCode_of_idle {s : State} (h : s.feed.commit = none) : s.feedCode = s.feed.code := by simp [State.feedCode, h]

theorem setFeedCode_of_idle {s : State} (h : s.feed.commit = none) (c : FeedCode) :
    setFeedCode c s = { s with feed := { s.feed with code := c } } := by simp [setFeedCode, h]

theorem otherFeed_ne (x : FeedId) : otherFeed x ≠ x := by cases x <;> decide

theorem towards_eq (x : FeedId) : towards x = if x = .a then .toA else .toB := by cases x <;> rfl

theorem towards_otherFeed (x : FeedId) : towards (otherFeed x) = if x = .a then .toB else .toA := by cases x <;> rfl

@[simp] theorem handoverTo_towards (x : FeedId) : handoverTo (towards x) = some x := by cases x <;> rfl

/-- Only the two codes of a handover lead to a feed. -/
theorem handoverTo_of_ne {c : FeedCode} (ha : c ≠ .toA) (hb : c ≠ .toB) : handoverTo c = none := by
  cases c with
  | toA => exact absurd rfl ha
  | toB => exact absurd rfl hb
  | _ => rfl

@[simp] theorem setFeedMv_commit (x : FeedId) (mv : Nat) (s : State) : (setFeedMv x mv s).feed.commit = s.feed.commit := by
  cases x <;> rfl
@[simp] theorem setFeedMv_active (x : FeedId) (mv : Nat) (s : State) : (setFeedMv x mv s).feed.active = s.feed.active := by
  cases x <;> rfl
@[simp] theorem setFeedMv_code (x : FeedId) (mv : Nat) (s : State) : (setFeedMv x mv s).feed.code = s.feed.code := by
  cases x <;> rfl

/-- Beside a carrying feed `x` both voltages are noted, and a standby below the threshold is unavailable (R80, R81). -/
def feedsNoted (x : FeedId) (mvA mvB : Nat) (s : State) : State :=
  let noted := setFeedMv .b mvB (setFeedMv .a mvA s)
  { noted with feed := { noted.feed with
    standbyOk := s.feed.standbyOk && !decide (noted.feed.mv (otherFeed x) < s.pn 0x0201) } }

section
variable {s : State} (hp : s.sys.powered = true) (hc : s.feed.commit = none)

/-! ### FEED_BELOW_THRESHOLD -/

include hp hc in
/-- What follows once both voltages are noted: nothing at or above the threshold; below it a handover or event 0x13 with a standby
in the code, event 0x13 in single feed where the other feed is below too (R72, R78, R80). -/
theorem execFeedBelowThreshold_outcome {x : FeedId} (mvA mvB : Nat) (ha : s.feed.active = some x) :
    ∃ t, exec (.feedBelowThreshold mvA mvB) s = .next t ∧
      let u := feedsNoted x mvA mvB s
      (s.pn 0x0201 ≤ u.feed.mv x → t = u) ∧
      (u.feed.mv x < s.pn 0x0201 →
        (s.feed.code = .aActive ∨ s.feed.code = .bActive → t =
          if u.feed.standbyOk then setFeedCode (towards (otherFeed x)) (feedEvent 0x10 [] u) else feedEvent 0x13 [] u) ∧
        (s.feed.code = .single → u.feed.mv (otherFeed x) < s.pn 0x0201 → t = feedEvent 0x13 [] u)) := by
  simp -zeta only [exec, execFeedBelowThreshold, ha, hp, Bool.not_true, Bool.false_eq_true, if_false]
  extract_lets noted low f u carried v
  have hk : u.feedCode = s.feed.code := feedCode_of_idle hc
  refine ⟨_, rfl, fun h => if_pos h, fun h => ?_⟩
  have hn : ¬ u.pn 0x0201 ≤ u.feed.mv x := Nat.not_le.mpr h
  rw [if_neg hn, hk]
  refine ⟨?_, fun hs hl => ?_⟩
  · rintro (ha | hb)
    · rw [ha]; rfl
    · rw [hb]; rfl
  · rw [hs]
    exact if_pos (decide_eq_true hl)

/-! ### Converters that start -/

include hc in
/-- The load comes to a feed, with no standby yet (R81); it runs single where the other feed is identical or reversed. -/
theorem carry_of_idle (x : FeedId) : carry x s =
    { feedEvent 0x11 [] s with feed := { (feedEvent 0x11 [] s).feed with
      active := some x, starting := none, standbyOk := false, absent := false,
      barredA := s.feed.barredA && x != .a, barredB := s.feed.barredB && x != .b,
      code := activeCode x (s.feed.identical || s.feed.reversed (otherFeed x) && s.feed.judged) } } := by
  unfold carry
  rw [setFeedCode_of_idle (by simp [hc])]
  simp only [FeedState.single, feedEvent_feed, Bool.false_and, Bool.or_false]
  cases x <;> rfl

/-- The code of a handover to `x` decides which converter has started (R81, R728). -/
theorem execHandoverComplete_of_towards {x : FeedId} (hk : handoverTo s.feedCode = some x) :
    exec .handoverComplete s = .next (carry x s) := by simp [exec, execHandoverComplete, hk]

include hc in
theorem execHandoverFailed_of_towards {x : FeedId} (hk : handoverTo s.feedCode = some x) :
    exec .handoverFailed s =
      .next (let u : FeedState := { s.feed with active := none, starting := none, standbyOk := false,
                                                barredA := s.feed.barredA || x == .a, barredB := s.feed.barredB || x == .b }
             let t := feedEvent 0x12 [] { s with feed := u }
             { t with feed := { t.feed with code := .holdOnly } }) := by
  simp only [exec, execHandoverFailed, hk, Option.some_or]
  rw [setFeedCode_of_idle (by simp [hc])]

/-! ### Feeds that recover -/

include hp hc in
/-- Beside the carrying feed `x` the other feed becomes the standby 1 V above the threshold (R79, R81, R729). -/
theorem execStandbyRestored_of_recovered {x : FeedId} {mv : Nat} (ha : s.feed.active = some x) (hi : s.feed.identical = false)
    (hv : s.pn 0x0201 + 1000 ≤ mv) :
    exec (.standbyRestored (otherFeed x) mv) s =
      .next (let u := setFeedMv (otherFeed x) mv s
             { u with feed := { u.feed with
               standbyOk := u.feed.active.isSome, absent := false,
               reversedA := u.feed.reversedA && otherFeed x != .a, reversedB := u.feed.reversedB && otherFeed x != .b,
               barredA := u.feed.barredA && otherFeed x != .a, barredB := u.feed.barredB && otherFeed x != .b,
               code := if s.feed.code = .single then activeCode x false else s.feed.code } }) := by
  have hg : (!s.sys.powered || s.feed.active == some (otherFeed x) || (s.feed.identical && s.feed.active.isSome) ||
      decide (mv < s.pn 0x0201 + 1000)) = false := by
    simp [hp, ha, hi, Nat.not_lt.mpr hv, (otherFeed_ne x).symm]
  simp -zeta only [exec, execStandbyRestored, hg, Bool.false_eq_true, if_false]
  extract_lets u v f t
  have htc : t.feed.commit = none := (setFeedMv_commit ..).trans hc
  have hta : t.feed.active = some x := (setFeedMv_active ..).trans ha
  have htk : t.feed.code = s.feed.code := setFeedMv_code ..
  rw [hta]
  dsimp only
  rw [feedCode_of_idle htc, htk]
  split
  · rw [setFeedCode_of_idle htc, ← hta]
  · rw [← htk, ← hta]

include hp hc in
/-- In hold only a feed that qualifies is started from cold, FEED_A before FEED_B (R79, R728). -/
theorem execHoldOnlyRecovery_of_holdOnly (mvA mvB : Nat) (hk : s.feed.code = .holdOnly) (hs : s.feed.starting = none) :
    exec (.holdOnlyRecovery mvA mvB) s = .next { s with feed := { s.feed with
      mvA := mvA, mvB := mvB,
      starting := if s.coldStart .a mvA then some .a else if s.coldStart .b mvB then some .b else none } } := by
  have hg : (s.sys.powered && s.feedCode == .holdOnly && s.feed.starting.isNone) = true := by
    simp [hp, hs, feedCode_of_idle hc, hk]
  simp only [exec, execHoldOnlyRecovery, hg, if_true]
  have hx (y : FeedId) (v : Nat) : (setFeedMv .b mvB (setFeedMv .a mvA s)).coldStart y v = s.coldStart y v := by cases y <;> rfl
  rw [hx, hx]
  split
  · rfl
  · split
    · rfl
    · simp [setFeedMv, ← hs]

end

/-- Settles O35, one outcome of each of the six commands after another. -/
theorem feedHandover : Obligations.FeedHandover := by
  unfold Obligations.FeedHandover
  intro s x mv mvA mvB hp hc
  refine ⟨?_, fun hk => ?_, fun ha hi hv => ?_, fun hk hs => ?_⟩
  · intro noted low u ha
    obtain ⟨t, ht, hkeep, hbelow⟩ := execFeedBelowThreshold_outcome hp hc mvA mvB ha
    have hu : u.feed.standbyOk = (s.feed.standbyOk && !low) := rfl
    refine ⟨fun h => ht.trans (congrArg _ (hkeep h)), fun hk h => ?_, fun hk h hl => ?_⟩
    · have hr : t = if u.feed.standbyOk then setFeedCode (towards (otherFeed x)) (feedEvent 0x10 [] u)
          else feedEvent 0x13 [] u := (hbelow h).1 hk
      have huc : (feedEvent 0x10 [] u).feed.commit = none := (congrArg FeedState.commit (feedEvent_feed ..)).trans hc
      refine ⟨fun hs hl => ?_, fun hs => ?_⟩
      · rw [ht, hr, if_pos (by rw [hu, hs, hl]; rfl), setFeedCode_of_idle huc, towards_otherFeed]
      · rw [ht, hr, if_neg (by rw [hu]; rcases hs with hs | hs <;> simp [hs])]
    · exact ht.trans (congrArg _ ((hbelow h).2 hk (of_decide_eq_true hl)))
  · have hto : handoverTo s.feedCode = some x := by rw [feedCode_of_idle hc, hk, ← towards_eq, handoverTo_towards]
    refine ⟨?_, execHandoverFailed_of_towards hc hto⟩
    rw [execHandoverComplete_of_towards hto, carry_of_idle hc]
  · refine ⟨_, execStandbyRestored_of_recovered hp hc ha hi hv, ?_⟩
    cases x <;> simp [setFeedMv, otherFeed, FeedState.mv, FeedState.barred, FeedState.reversed, ha]
  · rw [execHoldOnlyRecovery_of_holdOnly hp hc mvA mvB hk hs]
    simp [State.coldStart]

/-! ### FEEDS_IDENTICAL, FEED_REVERSED and FEED_STOP_THRESHOLD -/

section
variable {s : State} (hp : s.sys.powered = true) (hc : s.feed.commit = none)

include hp hc in
/-- The one judgement after a start: event 0x15 for identical feeds, and single feed for a module whose other feed is no standby
(R76, R729). -/
theorem execFeedsIdentical_of_active {x : FeedId} (ha : s.feed.active = some x) (hj : s.feed.judged = false) (same absent : Bool) :
    exec (.feedsIdentical same absent) s =
      .next (let u : State := { s with feed := { s.feed with judged := true, identical := same, absent := absent } }
             let t := if same then feedEvent 0x15 [] u else u
             if same || absent || s.feed.reversed (otherFeed x) then { t with feed := { t.feed with code := .single } } else t) := by
  simp -zeta only [exec, execFeedsIdentical, hp, hj, Bool.not_true, Bool.or_false, Bool.false_eq_true, if_false]
  extract_lets v u t
  obtain ⟨l, htf⟩ : ∃ l, t.feed = { u.feed with eventCounts := l } := by
    cases same
    · exact ⟨_, rfl⟩
    · exact ⟨_, feedEvent_feed ..⟩
  have htc : t.feed.commit = none := (congrArg FeedState.commit htf).trans hc
  have hta : t.feed.active = some x := (congrArg FeedState.active htf).trans ha
  have hts : t.feed.single x = (same || absent || s.feed.reversed (otherFeed x)) := by
    rw [htf]
    cases x <;> simp [FeedState.single, FeedState.reversed, otherFeed, u, v]
  rw [hta]
  dsimp only
  rw [hts, setFeedCode_of_idle htc, ← hta]

theorem execFeedsIdentical_of_judged (hj : s.feed.judged = true) (same absent : Bool) :
    exec (.feedsIdentical same absent) s = .next s := by simp [exec, execFeedsIdentical, hj]

include hc in
/-- Only the code may become single feed: where the module is carried by one feed, judged to have no standby (R729). -/
theorem showSingle_outcome : ∃ c, showSingle s = { s with feed := { s.feed with code := c } } ∧
    (s.feed.active = none → c = s.feed.code) ∧
    (∀ x, s.feed.active = some x → s.feed.single x = true → s.feed.code = activeCode x false → c = .single) := by
  unfold showSingle
  split
  next x ha =>
    rw [feedCode_of_idle hc, setFeedCode_of_idle hc]
    split
    next h => exact ⟨.single, rfl, by simp [ha], fun _ _ _ _ => rfl⟩
    next h =>
      refine ⟨s.feed.code, rfl, fun _ => rfl, fun y hy hs hk => ?_⟩
      obtain rfl : x = y := Option.some.inj (ha.symm.trans hy)
      simp [hs, hk] at h
  next ha => exact ⟨s.feed.code, rfl, fun _ => rfl, by simp [ha]⟩

/-- A reversed feed reads 0 V and serves no longer as the standby (R72, R729). -/
def blockFeed (x : FeedId) (f : FeedState) : FeedState :=
  let g : FeedState := match x with
    | .a => { f with reversedA := true, mvA := 0 }
    | .b => { f with reversedB := true, mvB := 0 }
  { g with standbyOk := g.standbyOk && g.active == some x }

section
variable (x : FeedId) (f : FeedState)

@[simp] theorem blockFeed_active : (blockFeed x f).active = f.active := by cases x <;> rfl
@[simp] theorem blockFeed_code : (blockFeed x f).code = f.code := by cases x <;> rfl
@[simp] theorem blockFeed_commit : (blockFeed x f).commit = f.commit := by cases x <;> rfl
@[simp] theorem blockFeed_eventCounts : (blockFeed x f).eventCounts = f.eventCounts := by cases x <;> rfl

end

include hp hc in
/-- Event 0x14 reports the blocked feed, whose loss as a standby leaves a judged module single feed (R72, R729). -/
theorem execFeedReversed_outcome (x : FeedId) : ∃ t c, exec (.feedReversed x) s = .next t ∧
    t.calm = ({ s with feed := t.feed } : State).calm ∧
    t.feed = { blockFeed x s.feed with code := c, eventCounts := modAt s.feed.eventCounts 4 (· + 1) } ∧
    (s.feed.active = none → c = s.feed.code) ∧
    (s.feed.active = some (otherFeed x) → s.feed.judged = true → s.feed.code = activeCode (otherFeed x) false → c = .single) := by
  let u := feedEvent 0x14 [] { s with feed := blockFeed x s.feed }
  have hu : u.feed = { blockFeed x s.feed with eventCounts := modAt s.feed.eventCounts 4 (· + 1) } :=
    (feedEvent_feed ..).trans (by rw [blockFeed_eventCounts])
  have huc : u.feed.commit = none := by rw [hu, ← hc, blockFeed_commit]
  obtain ⟨c, hs, hnone, hsingle⟩ := showSingle_outcome huc
  have hx : exec (.feedReversed x) s = .next (showSingle u) := by
    simp only [exec, execFeedReversed, hp, Bool.not_true, Bool.false_eq_true, if_false]
    rfl
  refine ⟨_, c, hx.trans (congrArg _ hs), ?_, ?_, fun ha => ?_, fun ha hj hk => ?_⟩
  · exact congrArg (fun q : State => { q with feed := { u.feed with code := c } }) (feedEvent_calm ..)
  · simp only [hu]
  · rw [hnone (by rw [hu, ← ha, blockFeed_active]), hu, blockFeed_code]
  · refine hsingle (otherFeed x) (by rw [hu, ← ha, blockFeed_active]) ?_ (by rw [hu, ← hk, blockFeed_code])
    rw [hu]
    cases x <;> simp [FeedState.single, FeedState.reversed, otherFeed, blockFeed, hj]

include hp hc in
/-- A feed that carries the module and stops, with no handover under way, leaves HOLD alone (R75). -/
theorem execFeedStopThreshold_of_active {x : FeedId} (ha : s.feed.active = some x) (h : handoverTo s.feed.code = none) :
    exec (.feedStopThreshold x) s = .next { s with feed := { s.feed with active := none, code := .holdOnly } } := by
  have hk : ({ s with feed := { s.feed with active := none } } : State).feedCode = s.feed.code := feedCode_of_idle hc
  have hg : (!s.sys.powered || s.feed.active != some x) = false := by simp [hp, ha]
  simp only [exec, execFeedStopThreshold, hg, hk, h]
  exact congrArg _ (setFeedCode_of_idle (s := { s with feed := { s.feed with active := none } }) hc _)

end

/-- Settles O36, one verdict after another; a reversed standby is what `showSingle` looks for. -/
theorem feedJudgement : Obligations.FeedJudgement := by
  unfold Obligations.FeedJudgement
  intro s x hp hc
  refine ⟨fun ha hj => ⟨fun absent => ?_, fun absent => ?_⟩, fun hj => execFeedsIdentical_of_judged hj, ?_, ?_,
    fun ha hk hk' => execFeedStopThreshold_of_active hp hc ha (handoverTo_of_ne hk hk'),
    fun src detail => feedEvent_feed src detail s⟩
  · rw [execFeedsIdentical_of_active hp hc ha hj]
    rfl
  · rw [execFeedsIdentical_of_active hp hc ha hj]
    simp only [Bool.false_or, Bool.false_eq_true, if_false]
    split <;> rfl
  · simp [exec, execFeedAbove36v, hp]
  · obtain ⟨t, c, ht, hcalm, hf, hnone, hsingle⟩ := execFeedReversed_outcome hp hc x
    refine ⟨t, ht, hcalm, ?_⟩
    rw [hf]
    cases x <;> exact ⟨rfl, rfl, rfl, rfl, rfl, rfl, hnone, hsingle⟩

end Sys2Proof.Machine
end

section
/-! SUPPORT. A word written to the two-wire command address while another one is executing, and what the frame starts then (O20). -/
namespace Sys2Proof.Machine
open Sys2Proof

/-- The word is discarded with event 0xF0, and the frame then starts what waits (R158, R609, R725). -/
theorem twWrite_of_busy {s : State} (hu : s.twCmdUp = true) (hb : s.tw.busy = true) (code arg : Nat) :
    twWrite code arg s = drain (raise 0xF0 (Config.twCode 1) 0 0 (leBytes 1 (s.pn 0x1203)) s) := by
  simp [twWrite, twPost, hu, hb, raiseTw, TwError.index]

/-- A NOP waits in Q3, and nothing else in Q0 to Q3. -/
def nopInQ3 : PortState := { q3 := [{ arrival := 0, word := 0 }], arrived := 1 }

theorem earliest_urgent_nopInQ3 : earliest nopInQ3.urgent = none := rfl

/-- The NOP's turn comes, and with it the end of its execution. -/
theorem startNext_nopInQ3 {s : State} (h : s.port = nopInQ3) : (startNext s).tw.busy = false := by
  unfold startNext
  rw [h, earliest_urgent_nopInQ3]
  simp only [modPort, h]
  rfl

theorem drain_nopInQ3 {s : State} (h : s.port = nopInQ3) (hq : s.time.quiesced = false) (hs : s.time.starts = 1) :
    (drain s).tw.busy = false := by
  have hw : s.port.anyWaits = true := by rw [h]; rfl
  simp only [drain, hq, hs, startCommands, hw]
  exact startNext_nopInQ3 h

/-- A module in RUN whose command address answers, with a NOP in Q3 that counts as executing (R158) and one command that the frame
may still start. -/
def nopExecuting : State :=
  { State.reset with
    sys := { powered := true, mode := .run, ready := true }
    time := { starts := 1 }
    param := { applied := [(0x1203, .num 0x30)] }
    tw := { busy := true }
    port := nopInQ3 }

/-- Refutes O20: in `nopExecuting` the discarded word raises event 0xF0, but its write then starts the NOP that waits, whose end
clears `busy`. The clause of the discarded word does not ask that no command waits that the frame may still start. -/
theorem not_twoWireReads : ¬ Obligations.TwoWireReads := by
  unfold Obligations.TwoWireReads
  intro h
  obtain ⟨-, -, -, -, -, hwrite, -, -⟩ := h nopExecuting
  have hup : nopExecuting.twCmdUp = true := by decide
  have hroom : nopExecuting.port.q3.length < nopExecuting.qDepth 3 := by decide
  have hexec := (hwrite hup hroom).1 rfl 0
  let u := raise 0xF0 (Config.twCode 1) 0 0 (leBytes 1 (nopExecuting.pn 0x1203)) nopExecuting
  have hdrain : drain u = u := by
    rw [← twWrite_of_busy hup rfl 1 0]
    exact Host.Outcome.next.inj hexec
  have hidle : (drain u).tw.busy = false := drain_nopInQ3 (raise_port ..) (congrArg TimeState.quiesced (raise_time ..))
    (congrArg TimeState.starts (raise_time ..))
  have hbusy : u.tw.busy = true := congrArg TwTarget.busy (raise_tw ..)
  rw [hdrain, hbusy] at hidle
  contradiction

end Sys2Proof.Machine
end

section
/-! SUPPORT. The power-cycle count (O6). -/
namespace Sys2Proof.Machine
open Sys2Proof

/-- The release of a reset held for any cause but power-on counts no power cycle (R98, R124). -/
theorem execResetStart_powerCycles {elapsed : Nat} {tests : StartTests} {s t : State} (hh : s.sys.held ≠ some 1)
    (h : execResetStart elapsed tests s = .next t) : t.quiet.powerCycles = s.quiet.powerCycles := by
  unfold execResetStart at h
  injection h with h
  subst h
  split
  next code _ hc =>
    have hne : code ≠ 1 := fun h1 => hh (h1 ▸ hc)
    simp [startCore_cycles hne]
  next => rfl

theorem execWakeSource_powerCycles {source : WakeSource} {elapsed : Nat} {tests : StartTests} {s t : State}
    (h : execWakeSource source elapsed tests s = .next t) : t.quiet.powerCycles = s.quiet.powerCycles := by
  unfold execWakeSource at h
  injection h with h
  subst h
  exact wakeBy_cycles ..

theorem execRtAlarm_powerCycles {elapsed : Nat} {tests : StartTests} {s t : State}
    (h : execRtAlarm elapsed tests s = .next t) : t.quiet.powerCycles = s.quiet.powerCycles := by
  unfold execRtAlarm at h
  injection h with h
  subst h
  split
  · rfl
  · exact wakeBy_cycles ..

/-- Settles O6: the commands that leave the quiet part alone keep the count, and of the others all but those of a start from
unpowered and the release of a reset with the cause of one. -/
theorem powerCyclesCounted : Obligations.PowerCyclesCounted := by
  unfold Obligations.PowerCyclesCounted
  intro c s t h hne
  cases hc : stirs c with
  | false => exact absurd (congrArg Quiet.powerCycles (exec_quiet hc h)) hne
  | true =>
    cases c with
    | powerOn x => exact .inl ⟨x, rfl⟩
    | holdChargeComplete u x => exact .inr (.inl ⟨u, x, rfl⟩)
    | holdChargeTimeout x => exact .inr (.inr (.inl ⟨x, rfl⟩))
    | resetStart e x =>
      by_cases hh : s.sys.held = some 1
      · exact .inr (.inr (.inr ⟨hh, e, x, rfl⟩))
      · exact absurd (execResetStart_powerCycles hh h) hne
    | wakeSource => exact absurd (execWakeSource_powerCycles h) hne
    | rtAlarm => exact absurd (execRtAlarm_powerCycles h) hne
    | moduleResetAfterReply => exact absurd (execModuleResetAfterReply_powerCycles s h) hne
    | marchTestComplete => exact absurd (execMarchTestComplete_powerCycles _ s h) hne
    | frameBoundary => exact absurd (execFrameBoundary_powerCycles _ s h) hne
    | mrstN => exact absurd (execMrstN_powerCycles s h) hne
    | coreSupplyFault => exact absurd (execCoreSupplyFault_powerCycles s h) hne
    | fatalFault => exact absurd (execFatalFault_powerCycles s h) hne
    | lockRstRelease => exact absurd (execLockRstRelease_powerCycles _ s h) hne
    | orderedShutdown => exact absurd (execOrderedShutdown_powerCycles s h) hne
    | watchdogWindowClose => exact absurd (execWatchdogWindowClose_powerCycles s h) hne
    | thermalShutdown => exact absurd (execThermalShutdown_powerCycles s h) hne
    | ownerHandoverEffect => exact absurd (execOwnerHandoverEffect_powerCycles _ s h) hne
    | eccUncorrectable => exact absurd (execEccUncorrectable_powerCycles _ _ s h) hne
    | bankOwnerWrite => exact absurd (execBankOwnerWrite_powerCycles _ _ _ s h) hne
    | bankWrite => exact absurd (execBankWrite_powerCycles _ _ _ _ s h) hne
    | _ => exact Bool.noConfusion hc

end Sys2Proof.Machine
end

section
/-! SUPPORT. Proof tests of the standby feed (O37). -/
namespace Sys2Proof.Machine
open Sys2Proof

/-- R730's period and retry in microseconds. -/
theorem proofDue_iff (s : State) : s.proofDue = true ↔ s.pn 0x0204 ≠ 0 ∧
    (if s.feed.proofRetry = true then s.feed.proofTried + 60 * 1000000 ≤ s.time.now
     else s.feed.proofAt + s.pn 0x0204 * 3600 * 1000000 ≤ s.time.now) := by
  have hmul : 3600000000 * s.pn 0x0204 = s.pn 0x0204 * 3600 * 1000000 := by omega
  unfold State.proofDue
  rw [hmul]
  split <;> simp

/-- Step 3 of a proof test lasts from 3 ms after step 1 (R85). -/
theorem proofStep_lt_three (s : State) (t : ProofTest) : s.proofStep t < 3 ↔ s.time.now < t.since + 3000 := by
  unfold State.proofStep
  split
  · omega
  · split <;> omega

/-- A start of a test reads only the feeds and the timebase, which a reply leaves alone. -/
theorem startProof_reply (by' : Option Requester) (p : Port) (op : Nat) (tag : Half) (st detail : Nat) (result : List Byte)
    (s : State) : startProof by' (reply p op tag st detail result s) =
      { reply p op tag st detail result s with feed := (startProof by' s).feed } := by
  simp [startProof]

section
variable {s : State}

/-- A served request is answered with the status of R84, and starts the test where that admits it. -/
theorem execProofTestFeed_of_served (hr : s.sys.ready = true) (ho : s.opAllowed opProofTest modesFive = true)
    (hq : s.time.quiesced = false) (p : Port) (tag : Half) :
    exec (.proofTestFeed p tag []) s = .next
      (let t := reply p opProofTest tag s.proofStatus noDetail [] s
       if s.proofStatus = stAccepted then startProof (some (.packet p tag)) t else t) := by
  simp [exec, execProofTestFeed, hostRow, serveProofTest, serve, hr, hq, ho]

theorem execProofTestDue_of_due (hr : s.sys.ready = true) (ho : s.opAllowed opProofTest modesFive = true)
    (hd : s.proofDue = true) : exec .proofTestDue s = .next
      (if s.proofStatus = stAccepted then startProof none s
       else { s with feed := { s.feed with proofRetry := true, proofTried := s.time.now } }) := by
  simp [exec, execProofTestDue, hr, ho, hd]

theorem execProofTestDue_of_not_due (hd : ¬ s.proofDue = true) : exec .proofTestDue s = .next s := by
  simp [exec, execProofTestDue, hd]

/-- A proof test ends with its verdict, outside a commit with the code it came from (R86, R87). -/
def proofEnd (job : ProofTest) (result lowHold lowFeed : Nat) (s : State) : State :=
  let body := leBytes 1 result ++ leBytes 2 lowHold ++ leBytes 2 lowFeed
  let t := feedEvent (if result = 0 then 0x1A else 0x1B) body
    { s with feed := { s.feed with proof := none, code := s.feed.codeBefore, proofFailed := result != 0 } }
  match job.by' with
  | some r => complete r opProofTest stOk noDetail body t
  | none => t

/-- The end of the window ends a test with regulation lost at once, else from step 3 on. -/
theorem execProofTestWindowEnd_of_running {job : ProofTest} (hj : s.feed.proof = some job) (hc : s.feed.commit = none)
    {r : Nat} (hr : r ≤ 2) (lowHold lowFeed : Nat) :
    exec (.proofTestWindowEnd r lowHold lowFeed) s = .next
      (if s.proofResult r lowHold ≠ 1 ∧ s.time.now < job.since + 3000 then s
       else proofEnd job (s.proofResult r lowHold) lowHold lowFeed s) := by
  have hv : ¬ 2 < s.proofResult r lowHold := by
    unfold State.proofResult
    split <;> omega
  have hi : s.feed.commit.isSome = false := by rw [hc]; rfl
  simp only [exec, execProofTestWindowEnd, hj, hi, hv, proofStep_lt_three, false_or, Bool.false_eq_true, if_false]
  split <;> rfl

end

/-- Settles O37, the request, the schedule and the end of the window one after another. -/
theorem feedProofTest : Obligations.FeedProofTest := by
  unfold Obligations.FeedProofTest
  intro s p tag hr ho started due
  have hdue : s.proofDue = true ↔ due := proofDue_iff s
  refine ⟨fun ha => ⟨fun hq => ?_, fun hd => ?_⟩, fun ha => ⟨fun hq => ?_, fun hd => ?_⟩,
    fun hd => execProofTestDue_of_not_due (mt hdue.mp hd), ?_⟩
  · rw [execProofTestFeed_of_served hr ho hq, ha]
    simp only [if_true, startProof_reply]
    simp [started, startProof]
  · rw [execProofTestDue_of_due hr ho (hdue.mpr hd), if_pos ha]
    rfl
  · rw [execProofTestFeed_of_served hr ho hq]
    simp only [if_neg ha]
  · rw [execProofTestDue_of_due hr ho (hdue.mpr hd), if_neg ha]
  · intro r lowHold lowFeed job hj hr2 hc v body u
    have hv : s.proofResult r lowHold = v := rfl
    rw [execProofTestWindowEnd_of_running hj hc hr2, hv]
    refine ⟨fun h => ?_, fun h1 hn => ?_⟩
    · rw [if_neg (by omega)]
      rfl
    · rw [if_pos ⟨h1, hn⟩]

end Sys2Proof.Machine
end

section
/-! SUPPORT. What leaves the feeds alone, on the way of a power-fail commit and of a start. -/
namespace Sys2Proof.Machine
open Sys2Proof

@[simp] theorem foldl_feed {α : Type} {f : State → α → State} (h : ∀ s a, (f s a).feed = s.feed) (l : List α) (s : State) :
    (l.foldl f s).feed = s.feed := foldl_field State.feed h l s

@[simp] theorem ite_feed (c : Prop) [Decidable c] (s t : State) : (if c then s else t).feed = if c then s.feed else t.feed :=
  apply_ite _ _ _ _

section
variable (s : State)

/-! ### Records and packets -/
@[simp] theorem stepFailed_feed (step kind idx : Nat) : (stepFailed step kind idx s).feed = s.feed := by simp [stepFailed]
@[simp] theorem State.setOut_feed (p : Port) (o : OutState) : (s.setOut p o).feed = s.feed := by cases p <;> rfl
@[simp] theorem irq_feed (p : Port) (b : Nat) : (irq p b s).feed = s.feed := by cases p <;> rfl
@[simp] theorem owe_feed (p : Port) : (owe p s).2.feed = s.feed := by simp [owe]
@[simp] theorem dropped_feed (p : Port) (stamp sec : Nat) : (dropped p stamp sec s).feed = s.feed := by simp [dropped]
@[simp] theorem postDroppable_feed (p : Port) (pkt : OutPacket) : (postDroppable p pkt s).feed = s.feed := by
  unfold postDroppable
  dsimp only
  split
  · simp
  · split <;> simp

/-! ### Rings, transfers and contactors -/
@[simp] theorem ringGap_feed (r : Nat) : (ringGap r s).feed = s.feed := by simp [ringGap]
@[simp] theorem askGap_feed (r : Nat) : (askGap r s).feed = s.feed := by simp [askGap]
@[simp] theorem endTransfers_feed (k : Nat) : (endTransfers k s).feed = s.feed := by simp [endTransfers, askStopAll]
@[simp] theorem stopTransfers_feed (k : Nat) : (stopTransfers k s).feed = s.feed := by simp [stopTransfers]
@[simp] theorem stopAllTransfers_feed : (stopAllTransfers s).feed = s.feed := by simp [stopAllTransfers]
@[simp] theorem withdraw_feed (m : Nat) : (withdraw m s).feed = s.feed := rfl
@[simp] theorem commandOn_feed (x : Nat) : (commandOn x s).feed = s.feed := by simp [commandOn]
@[simp] theorem commandOff_feed (x : Nat) : (commandOff x s).feed = s.feed := by simp [commandOff]
@[simp] theorem commandStrandOff_feed (k : Nat) : (commandStrandOff k s).feed = s.feed := by simp [commandStrandOff]
@[simp] theorem enqueueWeld_feed (k : Nat) : (enqueueWeld k s).feed = s.feed := by simp [enqueueWeld]
@[simp] theorem connectNext_feed (l res : List Nat) (by' : Option Requester) : (connectNext l res by' s).feed = s.feed := by
  induction l generalizing res s with
  | nil =>
    unfold connectNext
    cases by' <;> simp
  | cons k l ih =>
    unfold connectNext
    split
    · exact ih _ _
    · split
      · simp [ih]
      · simp
@[simp] theorem connectFail_feed (q : ConnectSeq) : (connectFail q s).feed = s.feed := by simp [connectFail]
@[simp] theorem connectAbort_feed (q : ConnectSeq) : (connectAbort q s).feed = s.feed := by simp [connectAbort]
@[simp] theorem openStrand_feed (k : Nat) : (openStrand k s).feed = s.feed := by
  unfold openStrand
  dsimp only
  split <;> simp
@[simp] theorem cancelConnect_feed : (cancelConnect s).feed = s.feed := by unfold cancelConnect; split <;> simp
@[simp] theorem allOff_feed : (allOff s).feed = s.feed := by simp [allOff, openStrands]
@[simp] theorem causeOff_feed (k b : Nat) : (causeOff k b s).feed = s.feed := by simp [causeOff]
@[simp] theorem tripStrand_feed (k b : Nat) (byGuard : Bool) : (tripStrand k b byGuard s).feed = s.feed := by
  simp [tripStrand, causeOn]
@[simp] theorem writeAdmitted_feed (r : Nat) : (writeAdmitted r s).feed = s.feed := by simp [writeAdmitted]
@[simp] theorem updateIncomplete_feed (r : Nat) : (updateIncomplete r s).feed = s.feed := by simp [updateIncomplete]
@[simp] theorem ringDown_feed (r : Nat) : (ringDown r s).feed = s.feed := by simp [ringDown]
@[simp] theorem askEnumerate_feed (r : Nat) : (askEnumerate r s).feed = s.feed := by simp [askEnumerate]
@[simp] theorem startEnum_feed (r : Nat) : (startEnum r s).feed = s.feed := by simp [startEnum, startEnumOf]

/-! ### Battery memory, estimator and update -/
@[simp] theorem disqualify_feed (k c cause : Nat) : (disqualify k c cause s).feed = s.feed := by simp [disqualify, modCellEst]
@[simp] theorem disqualifyStrand_feed (k cause : Nat) : (disqualifyStrand k cause s).feed = s.feed := by
  simp [disqualifyStrand]
@[simp] theorem abandonWrite_feed : (abandonWrite s).feed = s.feed := by unfold abandonWrite; split <;> simp
@[simp] theorem restoreMemory_feed : (restoreMemory s).feed = s.feed := by simp [restoreMemory]
@[simp] theorem restoreWires_feed (k : Nat) (broken : List (Nat × Nat)) : (restoreWires k broken s).feed = s.feed := rfl
@[simp] theorem restoreStrand_feed (te : Option Nat) (j : JournalSlot) (k : Nat) : (restoreStrand te j k s).feed = s.feed := by
  simp [restoreStrand]
@[simp] theorem restoreEstimator_feed (te : JournalSlot → Option Nat) : (restoreEstimator te s).feed = s.feed := by
  unfold restoreEstimator
  extract_lets cold slot wires x
  have hx : x.feed = s.feed := foldl_feed (fun y k => restoreWires_feed y k _) _ _
  clear_value slot x
  split <;> simp [hx]
@[simp] theorem modComp_feed (c : Nat) (f : CompState → CompState) : (modComp c f s).feed = s.feed := rfl
@[simp] theorem updStartMain_feed (cause : Nat) : (updStartMain cause s).1.feed = s.feed := by
  unfold updStartMain
  dsimp only
  split
  · rfl
  · split <;> rfl
@[simp] theorem updStartPeers_feed : (updStartPeers s).feed = s.feed := by simp [updStartPeers, updEvent]
@[simp] theorem logChange_feed (e : ChangeEntry) : (logChange e s).feed = s.feed := by simp [logChange]
@[simp] theorem guardedDefaults_feed : (guardedDefaults s).feed = s.feed := by simp [guardedDefaults]

/-! ### CAN, network time and loops -/
@[simp] theorem switchChannel_feed (c : Nat) (on : Bool) : (switchChannel c on s).feed = s.feed := rfl
@[simp] theorem correlate_feed : (correlate s).feed = s.feed := by simp [correlate]
@[simp] theorem raiseNt_feed (src : Nat) : (raiseNt src s).feed = s.feed := by simp [raiseNt]
@[simp] theorem setNtState_feed (n src : Nat) : (setNtState n src s).feed = s.feed := by simp [setNtState]
@[simp] theorem becomeMaster_feed : (becomeMaster s).feed = s.feed := by simp [becomeMaster, ntStepped]
@[simp] theorem takeRoles_feed : (takeRoles s).feed = s.feed := by simp [takeRoles]
@[simp] theorem setLoopMode_feed (n : Nat) (m : LoopMode) : (setLoopMode n m s).feed = s.feed := by
  unfold setLoopMode
  split <;> simp
@[simp] theorem hollowHold_feed (n : Nat) : (hollowHold n s).feed = s.feed := by simp [hollowHold]
@[simp] theorem loopsFollow_feed (m : Mode) : (loopsFollow m s).feed = s.feed := by unfold loopsFollow; split <;> simp
@[simp] theorem modeChanged_feed (old new : Mode) (cause : Nat) : (modeChanged old new cause s).feed = s.feed := by
  simp [modeChanged]

end

end Sys2Proof.Machine
end

section
/-! SUPPORT. The power-fail commit, its end, and the periodic journal (O38). -/
namespace Sys2Proof.Machine
open Sys2Proof

/-! ### What the steps of a commit write -/

/-- The feeds' state without what goes to data NVM and without the event counters, which the steps of a commit write (R92). -/
def FeedState.unwritten (f : FeedState) : FeedState :=
  { f with nvm := {}, slotA := none, slotB := none, journalBusy := none, eventCounts := [] }

section
variable (s : State)

@[simp] theorem writeCounters_unwritten : (writeCounters s).feed.unwritten = s.feed.unwritten := rfl

@[simp] theorem feedEvent_unwritten (src : Nat) (detail : List Byte) :
    (feedEvent src detail s).feed.unwritten = s.feed.unwritten := by
  rw [feedEvent_feed]
  rfl

@[simp] theorem feedEvent_schedule (src : Nat) (detail : List Byte) : (feedEvent src detail s).schedule = s.schedule := by
  simp [feedEvent]

@[simp] theorem putSlot_unwritten (f : FeedState) (toA : Bool) (v : Option JournalSlot) :
    (f.putSlot toA v).unwritten = f.unwritten := by cases toA <;> rfl

@[simp] theorem journalWrite_unwritten (cause : Nat) : (journalWrite cause s).feed.unwritten = s.feed.unwritten := by
  unfold journalWrite
  dsimp only
  split <;> exact putSlot_unwritten ..

@[simp] theorem abandonWrite_schedule : (abandonWrite s).schedule = s.schedule := by
  unfold abandonWrite
  split <;> simp

/-- Planning and transmission stop, and open learning cycles end: step 2 of a commit but for the RAM tail (R92). -/
def planningStopped : State :=
  (List.range 4).foldl (fun s k =>
      (if s.enabled k then stopTransfers k s else s).modBal k (fun b => { b with awaitUpdate := true }))
    ((List.range 4).foldl (fun s k => disqualifyStrand k 8 s) (abandonWrite s))

theorem commitStep2_eq : commitStep2 s =
    { planningStopped s with silt := { (planningStopped s).silt with tailOn := true } } := rfl

theorem disqualifyStrands_feed (cause : Nat) (l : List Nat) :
    (l.foldl (fun s k => disqualifyStrand k cause s) s).feed = s.feed := by
  induction l generalizing s with
  | nil => rfl
  | cons k l ih => rw [List.foldl_cons, ih, disqualifyStrand_feed]

theorem planningStopped_feed : (planningStopped s).feed = s.feed := by
  unfold planningStopped
  rw [foldl_feed (fun _ _ => by simp), disqualifyStrands_feed, abandonWrite_feed]

theorem planningStopped_schedule : (planningStopped s).schedule = s.schedule := by
  unfold planningStopped
  rw [foldl_schedule (fun _ _ => by simp), foldl_schedule (fun _ _ => by simp), abandonWrite_schedule]

theorem setSilt_feed (t : SiltState) : ({ s with silt := t } : State).feed = s.feed := rfl
theorem setSilt_schedule (t : SiltState) : ({ s with silt := t } : State).schedule = s.schedule := rfl

@[simp] theorem commitStep2_feed : (commitStep2 s).feed = s.feed := by
  rw [commitStep2_eq, setSilt_feed, planningStopped_feed]
@[simp] theorem commitStep2_schedule : (commitStep2 s).schedule = s.schedule := by
  rw [commitStep2_eq, setSilt_schedule, planningStopped_schedule]
@[simp] theorem commitStep2_tailOn : (commitStep2 s).silt.tailOn = true := rfl

theorem siltStore_tailOn (r : SiltRecord) (t : SiltState) : (siltStore r t).tailOn = t.tailOn := by
  unfold siltStore
  dsimp only
  split <;> rfl

theorem siltDrain_tailOn (n : Nat) (t : SiltState) : (siltDrain n t).tailOn = t.tailOn := by
  suffices h : ∀ (l : List SiltRecord) (u : SiltState), (l.foldl (fun t r => siltStore r t) u).tailOn = u.tailOn from h _ _
  intro l
  induction l with
  | nil => exact fun _ => rfl
  | cons r l ih => exact fun u => (ih _).trans (siltStore_tailOn r u)

@[simp] theorem commitStep4_feed : (commitStep4 s).feed = s.feed := rfl
@[simp] theorem commitStep4_schedule : (commitStep4 s).schedule = s.schedule := rfl
@[simp] theorem commitStep4_tailOn : (commitStep4 s).silt.tailOn = s.silt.tailOn := siltDrain_tailOn ..

/-- Up to step 5 a commit plans nothing for modes and parameters. -/
theorem commitSteps_schedule (a : Nat) {b : Nat} (hb : b < 6) : (commitSteps a b s).schedule = s.schedule := by
  simp [commitSteps, Nat.not_le.mpr hb]

/-- From step 2 on the RAM tail takes the records (R656). -/
theorem commitSteps_tailOn {b : Nat} (h2 : 2 ≤ b) (hb : b < 6) : (commitSteps 1 b s).silt.tailOn = true := by
  have hw (x : State) : (writeCounters x).silt = x.silt := rfl
  simp only [commitSteps, h2, Nat.not_le.mpr hb]
  simp [apply_ite State.silt, apply_ite SiltState.tailOn, hw]

theorem commitSteps_unwritten (a b : Nat) : (commitSteps a b s).feed.unwritten = s.feed.unwritten := by
  unfold commitSteps
  extract_lets x y z u _ _ v
  have hx : x.feed.unwritten = s.feed.unwritten := by simp only [x]; split <;> simp
  have hy : y.feed.unwritten = x.feed.unwritten := by simp only [y]; split <;> simp
  have hz : z.feed.unwritten = y.feed.unwritten := by simp only [z]; split <;> simp
  have hu : u.feed.unwritten = z.feed.unwritten := by simp only [u]; split <;> simp
  have hv : v.feed.unwritten = u.feed.unwritten := by simp only [v]; split <;> rfl
  have hz' : z.feed.unwritten = s.feed.unwritten := hz.trans (hy.trans hx)
  split
  · exact (feedEvent_unwritten ..).trans (hv.trans (hu.trans hz'))
  · exact hz'

end

/-! ### The commit -/

section
variable {s : State}

/-- The feeds' state of a module whose HOLD fell to `mv`, its commit finished up to step `n`. -/
def FeedState.committing (mv n : Nat) (f : FeedState) : FeedState :=
  { f with holdMv := mv, commit := some n, recovered := false, journalDue := false,
           codeBefore := if f.code = .proof then f.codeBefore else f.code, code := .commit }

/-- Below 11 V the commit runs to a step between 2 and 5, planning nothing for modes and parameters (R92). -/
theorem execPowerFailCommit_of_low (ha : s.alive = true) (hc : s.feed.commit = none) {mv : Nat} (hv : mv < 11000) (steps : Nat) :
    ∃ t, exec (.powerFailCommit mv steps) s = .next t ∧
      t.feed.unwritten = (s.feed.committing mv (min 5 (max 2 steps))).unwritten ∧ t.silt.tailOn = true ∧
      t.schedule = s.schedule := by
  have hi : s.feed.commit.isSome = false := by rw [hc]; rfl
  have hx : exec (.powerFailCommit mv steps) s = .next (commitSteps 1 (min 5 (max 2 steps))
      (feedEvent 0x17 [] { s with feed := s.feed.committing mv (min 5 (max 2 steps)) })) := by
    simp only [exec, execPowerFailCommit, ha, hi, Nat.not_le.mpr hv, decide_false, Bool.not_true, Bool.or_self,
      Bool.false_eq_true, if_false, FeedState.committing]
  have h2 : 2 ≤ min 5 (max 2 steps) := by omega
  have h6 : min 5 (max 2 steps) < 6 := by omega
  exact ⟨_, hx, (commitSteps_unwritten ..).trans (feedEvent_unwritten ..), commitSteps_tailOn _ h2 h6,
    (commitSteps_schedule _ _ h6).trans (feedEvent_schedule ..)⟩

/-- The rest of the commit; no supply has recovered meanwhile, so services do not resume (R733). -/
theorem execCommitComplete_of_running {n : Nat} (hc : s.feed.commit = some n) (hn : n < 6) (hr : s.feed.recovered = false) :
    exec .commitComplete s = .next (commitSteps n 6 { s with feed := { s.feed with commit := some 6 } }) := by
  have h := congrArg FeedState.recovered (commitSteps_unwritten { s with feed := { s.feed with commit := some 6 } } n 6)
  have hr' : (commitSteps n 6 { s with feed := { s.feed with commit := some 6 } }).feed.recovered = false := h.trans hr
  simp only [exec, execCommitComplete, hc, Nat.ne_of_lt hn, if_false, hr', Bool.false_eq_true]

/-! ### The RAM tail, while no commit is under way -/

/-- No RAM tail takes records, and none waits in it. -/
def SiltState.Tailless (t : SiltState) : Prop := t.tailOn = false ∧ t.tail = []

theorem closeOldest_tailless {t : SiltState} (h : t.Tailless) : t.closeOldest.Tailless := by
  obtain ⟨h0, h1⟩ := h
  unfold SiltState.closeOldest
  extract_lets op oldest shut o p i
  split
  · exact ⟨h0, h1⟩
  · split
    · exact ⟨h0, h1⟩
    · split
      · exact ⟨h0, h1⟩
      · split
        · exact ⟨h0, h1⟩
        · exact ⟨h0, by simp [shut, h1]⟩

theorem siltEvent_tailless (src code kind index : Nat) (detail : List Byte) (h : s.silt.Tailless) :
    (siltEvent src code kind index detail s).1.silt.Tailless := by
  obtain ⟨h0, h1⟩ := h
  unfold siltEvent
  extract_lets t window now m coal pin r u rec'
  have hu : u.Tailless := ⟨h0, h1⟩
  have hcoal (c : SiltState) (hc : coal = some c) : c.Tailless := by
    simp only [coal] at hc
    split at hc
    · contradiction
    · split at hc
      · exact Option.some.inj hc ▸ ⟨h0, h1⟩
      · split at hc
        · exact Option.some.inj hc ▸ ⟨h0, h1⟩
        · split at hc
          · exact Option.some.inj hc ▸ ⟨h0, h1⟩
          · simp [t, h1, siltFold] at hc
  clear_value coal u rec' r
  split
  next c => exact hcoal c rfl
  next =>
    split
    · exact ⟨h0, h1⟩
    · rw [if_neg (by simp [hu.1])]
      generalize (if pin then 256 else 224) = room
      split
      · exact closeOldest_tailless hu
      · exact hu

theorem raise_tailless (src code kind index : Nat) (detail : List Byte) (h : s.silt.Tailless) :
    (raise src code kind index detail s).silt.Tailless := by
  unfold raise
  split
  · exact h
  · extract_lets held full r' x tr lp y q
    have hy : y.silt = s.silt := by
      simp only [y]
      split <;> rfl
    have hq : q.1.silt.Tailless := siltEvent_tailless _ _ _ _ _ (hy ▸ h)
    split
    · split
      · exact hq
      · exact hq
    · exact hy ▸ h

/-! ### The end of the commit -/

/-- Before step 6 the return of the supply is only noted (R733). -/
theorem execSupplyRecovered_of_running {n : Nat} (hc : s.feed.commit = some n) (hn : n < 6) :
    exec .supplyRecovered s = .next { s with feed := { s.feed with holdMv := s.pn 0x0203, recovered := true } } := by
  have h6 : n ≠ 6 := Nat.ne_of_lt hn
  simp [exec, execSupplyRecovered, hc, h6]

theorem execSupplyRecovered_of_done (hc : s.feed.commit = some 6) :
    exec .supplyRecovered s = .next (commitResume { s with feed := { s.feed with holdMv := s.pn 0x0203 } }) := by
  simp only [exec, execSupplyRecovered, hc, if_true]

/-- Services resume in the feed state underneath the commit, and the RAM tail goes to the intake (R92, R656). -/
theorem commitResume_outcome {n : Nat} (hc : s.feed.commit = some n) : (commitResume s).feed.unwritten =
      { s.feed with commit := none, recovered := false,
                    code := if s.feed.proof.isSome then .proof else s.feed.codeBefore : FeedState }.unwritten ∧
    (commitResume s).silt.Tailless ∧ (commitResume s).schedule = s.schedule := by
  have hk : s.feedCode = if s.feed.proof.isSome then .proof else s.feed.codeBefore := by simp [State.feedCode, hc]
  rw [← hk]
  exact ⟨feedEvent_unwritten .., raise_tailless _ _ _ _ _ ⟨rfl, rfl⟩, feedEvent_schedule ..⟩

/-! ### Below 9 V on HOLD -/

/-- A commit cut short changes no more than the slot it was writing. -/
theorem tearSlot_outcome (s : State) : ∃ f, tearSlot s = { s with feed := f } ∧ f.nvm = s.feed.nvm := by
  unfold tearSlot
  split
  · split <;> exact ⟨_, rfl, rfl⟩
  · exact ⟨_, rfl, rfl⟩

/-- Whatever the commit wrote, the module is unpowered (R95, R102). -/
theorem execOrderedShutdown_of_powered (hp : s.sys.powered = true) :
    ∃ f, exec .orderedShutdown s = .next (powerDown { s with feed := f }) ∧ f.nvm = s.feed.nvm := by
  obtain ⟨f, hf, hn⟩ := tearSlot_outcome s
  simp -zeta only [exec, execOrderedShutdown, hp, Bool.not_true, Bool.false_eq_true, if_false]
  extract_lets x
  have hx : x = { s with feed := f } ∨ x = s := by
    simp only [x]
    split
    · split
      · exact .inl hf
      · exact .inr rfl
    · exact .inr rfl
  rcases hx with hx | hx
  · exact ⟨f, by rw [hx], hn⟩
  · exact ⟨s.feed, by rw [hx], rfl⟩

/-- PD0 counts the operating seconds of a hibernation; HOLD's fall writes them with the other counters (R97). -/
theorem execHibernateHoldLow_of_hibernating (hp : s.sys.powered = true) (hm : s.sys.mode = .hibernate) :
    exec .hibernateHoldLow s = .next
      { s with feed := (writeCounters (advance (tb2Micros (Config.freeNat s.free)) s)).feed, free := s.free + 1 } := by
  simp [exec, execHibernateHoldLow, hp, hm]

/-! ### The journal -/

/-- Sequence number of the newer valid slot (R99). -/
def FeedState.newestSeq (f : FeedState) : Nat :=
  match f.slotA, f.slotB with
  | some x, some y => if seqBefore x.seq y.seq then y.seq else x.seq
  | some x, none => x.seq
  | none, some y => y.seq
  | none, none => 0xFFFFFFFF

/-- Of the feeds' state an entry reads the newer slot's number only. -/
theorem journalEntry_setFeed (s : State) {f : FeedState} (h : f.newestSeq = s.feed.newestSeq) (cause : Nat) :
    ({ s with feed := f } : State).journalEntry cause = s.journalEntry cause := by
  have hf : ({ s with feed := f } : State).journalEntry cause =
      { s.journalEntry cause with seq := (f.newestSeq + 1) % 2 ^ 32 } := rfl
  rw [hf, h]
  rfl

/-- The slot the next entry goes to is not the newer valid one, so it may be invalid meanwhile (R99, R102). -/
theorem newestSeq_putSlot_journalToA (f : FeedState) : (f.putSlot f.journalToA none).newestSeq = f.newestSeq := by
  unfold FeedState.journalToA FeedState.putSlot FeedState.newestSeq
  rcases f.slotA with _ | x <;> rcases f.slotB with _ | y
  case some.some => cases h : seqBefore x.seq y.seq <;> simp [h]
  all_goals rfl

/-- An abandoned write's slot takes the entry, whatever either feeds' state says of a write in progress. -/
@[simp] theorem putSlot_journalBusy (f : FeedState) (toA : Bool) (v w : Option JournalSlot) (b c : Option (Bool × JournalSlot)) :
    { ({ f.putSlot toA v with journalBusy := b } : FeedState).putSlot toA w with journalBusy := c } =
      { f.putSlot toA w with journalBusy := c } := by cases toA <;> rfl

/-- A write that begins abandons a periodic one and takes its slot (R96). -/
theorem journalWrite_of_busy {s : State} {a : Bool} {e : JournalSlot} (h : s.feed.journalBusy = some (a, e)) (cause : Nat) :
    journalWrite cause s = { s with feed := { s.feed.putSlot a (some (s.journalEntry cause)) with journalBusy := none } } := by
  simp only [journalWrite, h]
  cases a <;> rfl

section
variable (ho : s.opAllowed opProofTest modesFive = true) (hm : s.sys.mode ≠ .hollow) (hc : s.feed.commit = none)
  (he : s.est.summary ≠ [])
include ho hm hc he

/-- A periodic entry is asked for in a frame's window, and begins outside it (R100, R726). -/
theorem execJournalPeriodic_of_due : exec .journalPeriodic s = .next
    (if s.time.quiesced then { s with feed := { s.feed with journalDue := true } } else journalBegin s) := by
  simp [exec, execJournalPeriodic, ho, hm, hc, he]

end

end

/-- Settles O38, the clauses of the commit before those of the journal. -/
theorem powerFailCommit : Obligations.PowerFailCommit := by
  unfold Obligations.PowerFailCommit
  intro s
  refine ⟨fun mv steps ha hc hv => ?_, fun n hc hn hr => ⟨?_, execSupplyRecovered_of_running hc hn⟩, fun hc => ?_,
    fun hp => ?_, fun hp hm => ?_, fun ho hm hc he => ⟨fun hq => ?_, fun hq hb => ?_⟩⟩
  · obtain ⟨t, ht, hf, htail, hs⟩ := execPowerFailCommit_of_low ha hc hv steps
    exact ⟨t, ht, congrArg FeedState.commit hf, congrArg FeedState.code hf, congrArg FeedState.holdMv hf,
      (congrArg FeedState.proof hf :), htail, congrArg Schedule.sys hs, congrArg Schedule.param hs⟩
  · exact ⟨_, execCommitComplete_of_running hc hn hr, congrArg FeedState.commit (commitSteps_unwritten ..)⟩
  · obtain ⟨hf, ⟨ht0, ht1⟩, hs⟩ := commitResume_outcome (s := { s with feed := { s.feed with holdMv := s.pn 0x0203 } }) hc
    exact ⟨_, execSupplyRecovered_of_done hc, congrArg FeedState.commit hf, congrArg FeedState.code hf, ht0, ht1,
      congrArg Schedule.param hs, congrArg Schedule.sys hs⟩
  · obtain ⟨f, ht, hn⟩ := execOrderedShutdown_of_powered hp
    exact ⟨_, ht, rfl, rfl, rfl, rfl, hn, rfl, rfl⟩
  · exact ⟨_, execHibernateHoldLow_of_hibernating hp hm, rfl, rfl⟩
  · rw [execJournalPeriodic_of_due ho hm hc he, if_pos hq]
  · intro a e
    have hx : exec .journalPeriodic s =
        .next { s with feed := { s.feed.putSlot a none with journalBusy := some (a, e) } } := by
      simp [execJournalPeriodic_of_due ho hm hc he, hq, journalBegin, hb, a, e]
    refine ⟨_, hx, rfl, ?_, fun c => ?_⟩
    · simp [journalEnd]
    · have hj := journalEntry_setFeed s (f := { s.feed.putSlot a none with journalBusy := some (a, e) })
        (newestSeq_putSlot_journalToA s.feed) c
      rw [journalWrite_of_busy rfl, hj, putSlot_journalBusy]

end Sys2Proof.Machine
end

section
/-! SUPPORT. The steps of a start up to the enumeration of the rings. -/
namespace Sys2Proof.Machine
open Sys2Proof

/-! ### What a start keeps from step 7 on -/

/-- What the steps of a start after step 7 set by hand or leave alone, but for the counters of the feeds' events (R114). -/
structure Footing where
  time : TimeState
  mode : Mode
  powered : Bool
  held : Option Nat
  resetCause : Nat
  step : Nat
  ready : Bool
  lock : LockState
  feed : FeedState

/-- That part of a state. -/
def State.footing (s : State) : Footing :=
  { time := s.time, mode := s.sys.mode, powered := s.sys.powered, held := s.sys.held, resetCause := s.sys.resetCause,
    step := s.sys.step, ready := s.sys.ready, lock := s.sys.lock, feed := { s.feed with eventCounts := [] } }

@[simp] theorem foldl_footing {α : Type} {f : State → α → State} (h : ∀ s a, (f s a).footing = s.footing) (l : List α)
    (s : State) : (l.foldl f s).footing = s.footing := foldl_field State.footing h l s

@[simp] theorem ite_footing (c : Prop) [Decidable c] (s t : State) :
    (if c then s else t).footing = if c then s.footing else t.footing := apply_ite _ _ _ _

/-- Of the rings' incompleteness and the mark of R495 the footing says nothing. -/
theorem footing_of_rough {s t : State} (hs : t.schedule.rough = s.schedule.rough) (hf : t.feed = s.feed) :
    t.footing = s.footing := by
  have hq (x : State) : x.footing =
      let q := x.schedule.rough
      { time := q.time, mode := q.sys.mode, powered := q.sys.powered, held := q.sys.held, resetCause := q.sys.resetCause,
        step := q.sys.step, ready := q.sys.ready, lock := q.sys.lock, feed := { x.feed with eventCounts := [] } } := rfl
  rw [hq t, hq s, hs, hf]

theorem footing_of_frames {s t : State} (hs : t.schedule = s.schedule) (hf : t.feed = s.feed) : t.footing = s.footing :=
  footing_of_rough (congrArg Schedule.rough hs) hf

section
variable (s : State)

@[simp] theorem raise_footing (src code kind index : Nat) (detail : List Byte) :
    (raise src code kind index detail s).footing = s.footing := footing_of_frames (by simp) (by simp)
@[simp] theorem raise0_footing (src : Nat) : (raise0 src s).footing = s.footing := raise_footing ..
@[simp] theorem feedEvent_footing (src : Nat) (detail : List Byte) : (feedEvent src detail s).footing = s.footing :=
  raise_footing ..
@[simp] theorem stepFailed_footing (step kind idx : Nat) : (stepFailed step kind idx s).footing = s.footing :=
  footing_of_frames (by simp [stepFailed]) (by simp)

/-! ### Restores, update and network -/
@[simp] theorem restoreMemory_footing : (restoreMemory s).footing = s.footing :=
  footing_of_frames (by simp [restoreMemory]) (by simp)
@[simp] theorem restoreWires_footing (k : Nat) (broken : List (Nat × Nat)) : (restoreWires k broken s).footing = s.footing := rfl
@[simp] theorem restoreStrand_footing (te : Option Nat) (j : JournalSlot) (k : Nat) :
    (restoreStrand te j k s).footing = s.footing := footing_of_frames (by simp [restoreStrand]) (by simp)
theorem setEst_footing (e : EstState) : ({ s with est := e } : State).footing = s.footing := rfl
@[simp] theorem restoreEstimator_footing (te : JournalSlot → Option Nat) : (restoreEstimator te s).footing = s.footing := by
  unfold restoreEstimator
  extract_lets cold slot wires x
  have hx : x.footing = s.footing := foldl_footing (fun y k => restoreWires_footing y k _) _ _
  clear_value slot x
  split
  · exact hx
  · rw [foldl_footing (fun _ _ => restoreStrand_footing ..), setEst_footing, hx]
@[simp] theorem modComp_footing (c : Nat) (f : CompState → CompState) : (modComp c f s).footing = s.footing := rfl
@[simp] theorem updStartMain_footing (cause : Nat) : (updStartMain cause s).1.footing = s.footing := by
  unfold updStartMain
  dsimp only
  split
  · rfl
  · split <;> rfl
@[simp] theorem updStartPeers_footing : (updStartPeers s).footing = s.footing := by simp [updStartPeers, updEvent]
@[simp] theorem guardedDefaults_footing : (guardedDefaults s).footing = s.footing := by
  unfold guardedDefaults
  extract_lets gone x
  have hx : x.footing = s.footing := rfl
  exact (footing_of_frames (logChange_schedule ..) (logChange_feed ..)).trans ((raise_footing ..).trans hx)
@[simp] theorem switchChannel_footing (c : Nat) (on : Bool) : (switchChannel c on s).footing = s.footing := rfl
@[simp] theorem takeRoles_footing : (takeRoles s).footing = s.footing := footing_of_frames (by simp) (by simp)
@[simp] theorem fieldOn_footing : (fieldOn s).footing = s.footing := rfl
@[simp] theorem startEnum_footing (r : Nat) : (startEnum r s).footing = s.footing :=
  footing_of_rough (startEnum_rough s r) (startEnum_feed s r)

/-! ### HOLLOW faults and banks -/
@[simp] theorem failWindow_footing : (failWindow s).footing = s.footing := by
  unfold failWindow
  split <;> rfl
@[simp] theorem modBank_footing (b : Nat) (f : BankState → BankState) : (modBank b f s).footing = s.footing := rfl
@[simp] theorem startBank_footing (failing : List (Nat × Nat)) (b : Nat) : (startBank failing b s).footing = s.footing := by
  simp [startBank]

variable {s}

/-- In START a HOLLOW fault is only noted (R107, R119). -/
theorem hollowFault_footing (h : s.footing.mode = .start) (src : Nat) : (hollowFault src s).footing = s.footing := by
  have hm : (failWindow s).sys.mode = .start := (congrArg Footing.mode (failWindow_footing s)).trans h
  have hx : hollowFault src s = modSys (fun y => { y with hollowFault := true }) (failWindow s) := by
    simp [hollowFault, hm, modSys]
  rw [hx]
  exact failWindow_footing s

/-- The banks come up empty, and leave the footing alone (R21, R37, R625). -/
theorem startBanks_footing (h : s.footing.mode = .start) (t : StartTests) (skip : Bool) :
    (startBanks t skip s).1.footing = s.footing := by
  unfold startBanks
  extract_lets x y lost b0 z first b1 w v
  have hx : x.footing = s.footing := by
    simp only [x]
    split <;> simp
  have hy : y.footing = x.footing := foldl_footing (fun _ _ => startBank_footing ..) _ _
  clear_value y x
  have hw : w.footing = s.footing := hy.trans hx
  clear_value w
  simp only [v]
  split
  · exact (hollowFault_footing (hw ▸ h) _).trans hw
  · exact hw

/-! ### The entry to LOADER, and steps 11 to 13 -/

/-- A start's change of mode to LOADER (R107, R116). -/
theorem enterLoader_footing (h : s.footing.mode = .start) (cause : Nat) :
    (enterMode .loader cause s).footing = { s.footing with mode := .loader } := by
  unfold enterMode
  extract_lets old limp a b c d e _ f
  have hold : old = .start := h
  have hb : b = s := by simp [b, a, hold]
  have hc : c = s := by simp [c, hb, hold]
  have hd : d = allOff s := by simp [d, hc, limp]
  have he : e.footing = s.footing := by
    simp only [e, hd]
    exact footing_of_frames (by simp) (by simp)
  clear_value e
  have hf : f.footing = { s.footing with mode := .loader } := congrArg (fun q : Footing => { q with mode := .loader }) he
  rw [if_neg (by simp [hold])]
  exact (footing_of_frames (by simp) (by simp)).trans hf

/-- LOADER is entered at step 11 with the group L pins released (R116, R120). -/
theorem startLoader_footing (h : s.footing.mode = .start) :
    (startLoader s).footing = { s.footing with mode := .loader, step := 11, ready := true } := by
  unfold startLoader
  extract_lets x y
  have hy : y.footing = x.footing := by
    simp only [y]
    split <;> simp
  have hm : y.footing.mode = .start := hy ▸ h
  rw [enterLoader_footing hm, hy]
  rfl

variable (s)

/-- At step 11 the group L pins are released (R114). -/
theorem startStep11_footing : (startStep11 s).footing = { s.footing with step := 11, ready := true } :=
  (foldl_footing (fun _ _ => by simp) _ _).trans rfl

theorem startStep13_footing (wake : Bool) : (startStep13 wake s).footing = { s.footing with step := 13 } := by
  unfold startStep13
  extract_lets x on y
  have hx : x.footing = { s.footing with step := 13 } := rfl
  have hy : y.footing = x.footing := foldl_footing (fun _ _ => startEnum_footing ..) _ _
  clear_value y x
  split
  · exact hx
  · exact (takeRoles_footing _).trans (hy.trans hx)

variable {s}

/-- Step 12 restores what the start finds, and notes the tests of step 14 (R114). -/
theorem startStep12_footing (h : s.footing.mode = .start) (te : JournalSlot → Option Nat) (t : StartTests) :
    (startStep12 te t s).footing = s.footing := by
  unfold startStep12
  extract_lets a b c f d _ g _
  have ha : a.footing = s.footing := by
    simp only [a]
    split <;> simp
  have hb : b.footing = a.footing := by
    simp only [b]
    split <;> simp
  have hc : c.footing = s.footing := by simp only [c, updStartPeers_footing, restoreEstimator_footing, hb, ha]
  clear_value c
  have hf : (stepFailed 14 0 0 f.2).footing = s.footing := (stepFailed_footing ..).trans hc
  have hd : d.footing = s.footing := by
    simp only [d]
    split
    · exact hc
    · exact (hollowFault_footing (hf ▸ h) _).trans hf
  clear_value d
  have hg : g.footing = s.footing := by
    simp only [g]
    split
    · exact hd
    · exact (stepFailed_footing ..).trans hd
  clear_value g
  split
  · exact (stepFailed_footing ..).trans hg
  · exact hg

/-! ### Step 7, and the whole of steps 5 to 13 -/

/-- Step 7 before its records: reset cause, lock-out latch, and the power cycle of a start from unpowered (R98, R114, R125). -/
def reachedStep7 (code : Nat) (t : StartTests) (s : State) : State :=
  let x : State := { s with
    time := { s.time with tb1Disciplined := t.tb1 },
    sys := { s.sys with mode := .start, held := none, step := 7, resetCause := code,
                        lock := { s.sys.lock with latch := s.sys.lock.latch || s.sys.lock.record } } }
  if code = 0x01 then writeCounters { x with time := { x.time with powerCycles := (s.time.powerCycles + 1) % 2 ^ 24 } } else x

theorem startStep7_footing (code : Nat) (wake : Option WakeSource) (t : StartTests) (s : State) :
    (startStep7 code wake t s).1.footing = (reachedStep7 code t s).footing := by
  unfold startStep7
  extract_lets x a y b z n w v kept q u
  have hz : z = reachedStep7 code t s := rfl
  have hw : w.footing = z.footing := raise_footing ..
  have hv : v.footing = w.footing := by
    simp only [v]
    split <;> simp
  have hq : q.footing = v.footing := by
    simp only [q]
    split
    · rfl
    · exact (stepFailed_footing ..).trans rfl
  have hu : u.1.footing = q.footing := updStartMain_footing ..
  rw [← hz, ← hw, ← hv, ← hq, ← hu]
  split
  · exact stepFailed_footing ..
  · rfl

/-- A start ends its step 13 with empty banks, or in LOADER at step 11 (R114, R119). -/
theorem startCore_outcome (code : Nat) (wake : Option WakeSource) (te : JournalSlot → Option Nat) (t : StartTests) (s : State) :
    ∃ m k, (startCore code wake te t s).footing = { (reachedStep7 code t s).footing with mode := m, step := k, ready := true } ∧
      (m = .start ∧ k = 13 ∧ (startCore code wake te t s).banks.mem = [] ∨ m = .loader ∧ k = 11) := by
  unfold startCore
  extract_lets skip a b
  have ha : a.1.footing = (reachedStep7 code t s).footing := startStep7_footing ..
  have hs : (reachedStep7 code t s).footing.mode = .start := by
    unfold reachedStep7
    dsimp only
    split <;> rfl
  clear_value a
  have hload (x : State) (hx : x.footing = (reachedStep7 code t s).footing) :
      (startLoader x).footing = { (reachedStep7 code t s).footing with mode := .loader, step := 11, ready := true } := by
    rw [startLoader_footing (hx ▸ hs), hx]
  have hb : b.1.footing = (reachedStep7 code t s).footing :=
    (startBanks_footing (s := modSys (fun y => { y with imageFlag := true }) a.1) (ha ▸ hs) t skip).trans ha
  have hm : b.1.quiet.mem = [] := by simp [b]
  clear_value b
  split
  · exact ⟨_, _, hload _ ha, .inr ⟨rfl, rfl⟩⟩
  · split
    · exact ⟨_, _, hload _ ((stepFailed_footing ..).trans ha), .inr ⟨rfl, rfl⟩⟩
    · split
      · exact ⟨_, _, hload _ hb, .inr ⟨rfl, rfl⟩⟩
      · have h11 := startStep11_footing b.1
        have h12 : (startStep12 te t (startStep11 b.1)).footing = (startStep11 b.1).footing :=
          startStep12_footing (by rw [h11, hb]; exact hs) te t
        refine ⟨.start, 13, ?_, .inl ⟨rfl, rfl, by simp [mem_quiet, hm]⟩⟩
        rw [startStep13_footing, h12, h11, hb, ← hs]

end

end Sys2Proof.Machine
end

section
/-! SUPPORT. Power-on, the end of the hold-up's charging, and the release of a reset (O46). -/
namespace Sys2Proof.Machine
open Sys2Proof

/-! ### POWER_ON -/

section
variable {s : State} {x : PowerTests} (hp : s.sys.powered = false)

include hp in
/-- Below 9 V, or reversed, neither feed powers the module (R75). -/
theorem execPowerOn_of_unusable (ha : ¬ (x.reversedA = false ∧ 9000 ≤ x.mvA)) (hb : ¬ (x.reversedB = false ∧ 9000 ≤ x.mvB)) :
    exec (.powerOn x) s = .next s := by
  have ha' : (!x.reversedA && decide (9000 ≤ x.mvA)) = false := by simpa using ha
  have hb' : (!x.reversedB && decide (9000 ≤ x.mvB)) = false := by simpa using hb
  simp [exec, execPowerOn, hp, ha', hb']

include hp in
/-- The module is at step 2 on the first usable feed, with the counters of data NVM (R75, R89, R98, R114). -/
theorem execPowerOn_of_usable (h : x.reversedA = false ∧ 9000 ≤ x.mvA ∨ x.reversedB = false ∧ 9000 ≤ x.mvB) :
    ∃ t, exec (.powerOn x) s = .next t ∧ t.schedule =
        ⟨{ opSec := max s.feed.nvm.opSec (match s.feed.bestSlot with | some j => j.opSec | none => 0),
           powerCycles := s.feed.nvm.powerCycles, noSaddle := s.feed.nvm.noSaddle },
         { s.sys with powered := true, mode := .start, step := 2, held := none, ready := false }, s.upd, s.param⟩ ∧
      t.feed.active = some (if x.reversedA = false ∧ 9000 ≤ x.mvA then .a else .b) ∧ t.banks = s.banks := by
  simp -zeta only [exec, execPowerOn]
  extract_lets a b y n journal f u v
  have hab : (a || b) = true := by simpa [a, b] using h
  have hv : v.schedule = u.schedule ∧ v.feed.active = u.feed.active ∧ v.banks = u.banks := by
    simp only [v]
    split <;> simp
  have hu : u.feed.active = some (if x.reversedA = false ∧ 9000 ≤ x.mvA then .a else .b) := by
    simp [u, f, y, a]
  obtain ⟨hs, hf, hk⟩ := hv
  rw [if_neg (by simp [hp, hab])]
  refine ⟨_, rfl, ?_⟩
  split
  · exact ⟨(feedEvent_schedule ..).trans hs, (congrArg FeedState.active (feedEvent_feed ..)).trans (hf.trans hu),
      (feedEvent_banks ..).trans hk⟩
  · exact ⟨hs, hf.trans hu, hk⟩

end

/-! ### The state that a start ends in -/

/-- Past its step 13, or in LOADER at step 11, a module is ready, with the cause of its start and the latch of R125. -/
structure StartEnded (cause : Nat) (latch : Bool) (t : State) : Prop where
  powered : t.sys.powered = true
  ready : t.sys.ready = true
  held : t.sys.held = none
  cause : t.sys.resetCause = cause
  ended : (t.sys.mode = .start ∧ t.sys.step = 13) ∨ (t.sys.mode = .loader ∧ t.sys.step = 11)
  latch : t.sys.lock.latch = latch
  empty : t.sys.mode = .start → t.banks.mem = []

section
variable (code : Nat) (tests : StartTests) (s : State)

theorem reachedStep7_sys : (reachedStep7 code tests s).sys =
    { s.sys with mode := .start, held := none, step := 7, resetCause := code,
                 lock := { s.sys.lock with latch := s.sys.lock.latch || s.sys.lock.record } } := by
  unfold reachedStep7
  dsimp only
  split <;> rfl

/-- The steps of a start lead to its end, with time and feeds as step 7 left them. -/
theorem startCore_ends (hp : s.sys.powered = true) (wake : Option WakeSource) (te : JournalSlot → Option Nat) :
    StartEnded code (s.sys.lock.latch || s.sys.lock.record) (startCore code wake te tests s) ∧
      (startCore code wake te tests s).time = (reachedStep7 code tests s).time ∧
      { (startCore code wake te tests s).feed with eventCounts := [] } =
        { (reachedStep7 code tests s).feed with eventCounts := [] } := by
  obtain ⟨m, k, hf, hmk⟩ := startCore_outcome code wake te tests s
  have hy := reachedStep7_sys code tests s
  have hm : (startCore code wake te tests s).sys.mode = m := congrArg Footing.mode hf
  have hk : (startCore code wake te tests s).sys.step = k := congrArg Footing.step hf
  refine ⟨{ powered := ?_, ready := congrArg Footing.ready hf, held := ?_, cause := ?_, ended := ?_, latch := ?_, empty := ?_ },
    congrArg Footing.time hf, congrArg Footing.feed hf⟩
  · exact (congrArg Footing.powered hf).trans ((congrArg ModeState.powered hy).trans hp)
  · exact (congrArg Footing.held hf).trans (congrArg ModeState.held hy)
  · exact (congrArg Footing.resetCause hf).trans (congrArg ModeState.resetCause hy)
  · rw [hm, hk]
    exact hmk.imp (fun h => ⟨h.1, h.2.1⟩) id
  · exact (congrArg (·.lock.latch) hf).trans (congrArg (·.lock.latch) hy)
  · intro h
    rcases hmk with ⟨-, -, he⟩ | ⟨hl, -⟩
    · exact he
    · exact absurd (hm.symm.trans h) (by rw [hl]; decide)

end

/-! ### The end of charging -/

section
variable {s : State} (tests : StartTests)

theorem powered_of_charging (h : s.charging = true) : s.sys.powered = true := by
  simp only [State.charging, Bool.and_eq_true] at h
  exact h.1.1.1

/-- A state that differs from `s` in the judgement of HOLD, and in events (R90, R91). -/
structure HoldJudged (s : State) (uf : Nat) (missing : Bool) (u : State) : Prop where
  sys : u.sys = s.sys
  time : u.time = s.time
  capUf : u.feed.capUf = uf
  holdMissing : u.feed.holdMissing = missing
  holdMv : u.feed.holdMv = s.pn 0x0203

/-- HOLD is charged: its capacitance is judged, with event 0x1E where it is too low, and the start goes on (R89, R91). -/
theorem execHoldChargeComplete_of_charging (h : s.charging = true) (ufs : Nat) : ∃ u, HoldJudged s ufs false u ∧
    exec (.holdChargeComplete ufs tests) s = .next (startCore 1 none (fun _ => none) tests u) := by
  simp -zeta only [exec, execHoldChargeComplete, h]
  extract_lets v bad f u
  refine ⟨_, ?_, rfl⟩
  split
  · exact ⟨feedEvent_sys .., feedEvent_time .., by simp [u], by simp [u], by simp [u, v]⟩
  · exact ⟨rfl, rfl, rfl, rfl, rfl⟩

/-- Without hold-up the start goes on with event 0x16 (R90, R727). -/
theorem execHoldChargeTimeout_of_charging (h : s.charging = true) : ∃ u, HoldJudged s 0 true u ∧
    exec (.holdChargeTimeout tests) s = .next (startCore 1 none (fun _ => none) tests u) := by
  simp -zeta only [exec, execHoldChargeTimeout, h]
  refine ⟨_, ?_, rfl⟩
  exact ⟨feedEvent_sys .., feedEvent_time .., by simp, by simp, by simp⟩

/-- A start from unpowered counts the power cycle, in data NVM too, and leaves the judgement of HOLD (R91, R98). -/
theorem startCore_of_holdJudged (hp : s.sys.powered = true) {uf : Nat} {missing : Bool} {u : State}
    (hu : HoldJudged s uf missing u) :
    let t := startCore 1 none (fun _ => none) tests u
    StartEnded 1 (s.sys.lock.latch || s.sys.lock.record) t ∧
      (t.time.powerCycles = (s.time.powerCycles + 1) % 2 ^ 24 ∧ t.feed.nvm.powerCycles = t.time.powerCycles) ∧
      t.feed.capUf = uf ∧ t.feed.holdMissing = missing ∧ t.feed.holdMv = s.pn 0x0203 := by
  obtain ⟨hy, hm, hcap, hmiss, hmv⟩ := hu
  obtain ⟨he, ht, hf⟩ := startCore_ends 1 tests u (hy ▸ hp) none (fun _ => none)
  have hn := congrArg (·.powerCycles) ht
  have hnvm := congrArg (·.nvm.powerCycles) hf
  exact ⟨hy ▸ he, ⟨hm ▸ hn, hnvm.trans hn.symm⟩, (congrArg (·.capUf) hf).trans hcap,
    (congrArg (·.holdMissing) hf).trans hmiss, (congrArg (·.holdMv) hf).trans hmv⟩

/-! ### The release of a reset -/

/-- The release of a reset counts no power cycle; the TB2 periods without TB0 have passed (R115, R721). -/
theorem execResetStart_of_held (hp : s.sys.powered = true) {code : Nat} (hh : s.sys.held = some code) (h1 : code ≠ 1) (elapsed : Nat) :
    ∃ t, exec (.resetStart elapsed tests) s = .next t ∧ StartEnded code (s.sys.lock.latch || s.sys.lock.record) t ∧
      t.time.powerCycles = s.time.powerCycles ∧ t.time.now = s.time.now + tb2Micros elapsed := by
  let u := freshFeeds (rechargeHold (advance (tb2Micros elapsed) s))
  have hu : u.sys = s.sys ∧ u.time = (advance (tb2Micros elapsed) s).time := by
    simp only [u, freshFeeds, rechargeHold]
    split <;> exact ⟨rfl, rfl⟩
  obtain ⟨hy, ht⟩ := hu
  obtain ⟨he, htime, -⟩ := startCore_ends code tests u (hy ▸ hp) none (fun _ => none)
  have h7 : (reachedStep7 code tests u).time = { u.time with tb1Disciplined := tests.tb1 } := by simp [reachedStep7, h1]
  rw [h7, ht] at htime
  rw [hy] at he
  exact ⟨_, by simp only [exec, execResetStart, hp, hh]; rfl, he, congrArg (·.powerCycles) htime, congrArg (·.now) htime⟩

end

/-- Settles O46: POWER_ON first, then the two ends of charging and the release of a reset, each by the end of its start. -/
theorem starts : Obligations.Starts := by
  unfold Obligations.Starts
  refine ⟨?_, ?_⟩
  · intro s x hp a b
    refine ⟨execPowerOn_of_unusable hp, fun h => ?_⟩
    obtain ⟨t, ht, hs, hf, hb⟩ := execPowerOn_of_usable hp h
    have hy := congrArg Schedule.sys hs
    have hm := congrArg Schedule.time hs
    exact ⟨t, ht, congrArg (·.powered) hy, congrArg (·.mode) hy, congrArg (·.step) hy, congrArg (·.ready) hy,
      congrArg (·.held) hy, fun ha => hf.trans (by rw [if_pos ha]), fun ha => hf.trans (by rw [if_neg ha]),
      congrArg (·.now) hm, congrArg (·.opSec) hm, congrArg (·.powerCycles) hm, congrArg (·.noSaddle) hm,
      congrArg Schedule.param hs, hb, congrArg (·.lock) hy⟩
  · intro s ufs e code x ends counted
    have hends {cause : Nat} {o : Host.Outcome State Fault Refusal} {more : State → Prop} {t : State} (ho : o = .next t)
        (ht : StartEnded cause (s.sys.lock.latch || s.sys.lock.record) t) (hmore : more t) : ends cause o more :=
      ⟨t, ho, ht.powered, ht.ready, ht.held, ht.cause, ht.ended, ht.latch, ht.empty, hmore⟩
    refine ⟨fun hc => ?_, fun hp hh h1 => ?_⟩
    · have hp := powered_of_charging hc
      obtain ⟨u, hu, ht⟩ := execHoldChargeComplete_of_charging x hc ufs
      obtain ⟨v, hv, hw⟩ := execHoldChargeTimeout_of_charging x hc
      obtain ⟨he, hmore⟩ := startCore_of_holdJudged x hp hu
      obtain ⟨he', hmore'⟩ := startCore_of_holdJudged x hp hv
      exact ⟨hends ht he hmore, hends hw he' hmore'⟩
    · obtain ⟨t, ht, he, hn, hnow⟩ := execResetStart_of_held x hp hh h1 e
      exact hends ht he ⟨hn, hnow⟩

end Sys2Proof.Machine
end

section
/-! SUPPORT. Which commands turn THERMAL_LOCK, and which way (O4). -/
namespace Sys2Proof.Machine
open Sys2Proof

/-- The loss of all power leaves THERMAL_LOCK unset. -/
theorem execOrderedShutdown_unlocked {s t : State} (h : execOrderedShutdown s = .next t)
    (hl : s.quiet.thermal = false) : t.quiet.thermal = false := by
  unfold execOrderedShutdown at h
  injection h with h
  subst h
  split
  · exact hl
  · rfl

/-- The commands that can set or clear THERMAL_LOCK: the loss of all power, the thermal shutdown and the frame boundary, whose
end of a start judges the comparator again (R107, R126). -/
def turnsThermalLock : Instr → Bool
  | .orderedShutdown | .thermalShutdown | .frameBoundary .. => true
  | _ => false

/-- Every other command keeps THERMAL_LOCK. -/
theorem exec_thermal {c : Instr} {s t : State} (hc : turnsThermalLock c = false) (h : exec c s = .next t) :
    t.quiet.thermal = s.quiet.thermal := by
  cases hq : stirs c with
  | false => exact congrArg Quiet.thermal (exec_quiet hq h)
  | true =>
    cases c with
    | powerOn => exact execPowerOn_thermal _ s h
    | holdChargeComplete => exact execHoldChargeComplete_thermal _ _ s h
    | holdChargeTimeout => exact execHoldChargeTimeout_thermal _ s h
    | resetStart => exact execResetStart_thermal _ _ s h
    | wakeSource => exact execWakeSource_thermal _ _ _ s h
    | rtAlarm => exact execRtAlarm_thermal _ _ s h
    | moduleResetAfterReply => exact execModuleResetAfterReply_thermal s h
    | marchTestComplete => exact execMarchTestComplete_thermal _ s h
    | mrstN => exact execMrstN_thermal s h
    | coreSupplyFault => exact execCoreSupplyFault_thermal s h
    | fatalFault => exact execFatalFault_thermal s h
    | lockRstRelease => exact execLockRstRelease_thermal _ s h
    | watchdogWindowClose => exact execWatchdogWindowClose_thermal s h
    | ownerHandoverEffect => exact execOwnerHandoverEffect_thermal _ s h
    | eccUncorrectable => exact execEccUncorrectable_thermal _ _ s h
    | bankOwnerWrite => exact execBankOwnerWrite_thermal _ _ _ s h
    | bankWrite => exact execBankWrite_thermal _ _ _ _ s h
    | orderedShutdown | thermalShutdown | frameBoundary => exact Bool.noConfusion hc
    | _ => exact Bool.noConfusion hq

/-- Settles O4: of the three commands that turn the latch, the thermal shutdown and the frame boundary only ever set it, and the
loss of all power only clears it. -/
theorem thermalLockHeld : Obligations.ThermalLockHeld := by
  unfold Obligations.ThermalLockHeld
  simp only [thermal_quiet]
  intro c s t h
  cases hc : turnsThermalLock c with
  | false =>
    have hk := exec_thermal hc h
    exact ⟨fun hs _ => hk.trans hs, fun hs ht => absurd (hk.symm.trans ht) (by simp [hs])⟩
  | true =>
    cases c with
    | orderedShutdown =>
      exact ⟨fun _ hne => absurd rfl hne, fun hs ht => absurd (execOrderedShutdown_unlocked h hs) (by simp [ht])⟩
    | thermalShutdown => exact ⟨fun hs _ => execThermalShutdown_locked h hs, fun _ _ => .inl rfl⟩
    | frameBoundary n => exact ⟨fun hs _ => execFrameBoundary_locked h hs, fun _ _ => .inr ⟨n, rfl⟩⟩
    | _ => exact Bool.noConfusion hc

end Sys2Proof.Machine
end

section
/-! SUPPORT. The rows of R159: every opcode's command goes through `hostRow` and `serve` with the length and the modes of its row
(O9), and what a reply changes at the host port. -/
namespace Sys2Proof.Machine
open Sys2Proof

/-- A row of R159 is served: its command is the shared checks with the row's opcode, modes and lengths, before a handling of its
own. -/
def HostRow.Served (r : HostRow) : Prop :=
  ∃ body : Port → Half → List Byte → State → State, ∀ (p : Port) (tag : Half) (pl : List Byte) (s : State),
    exec (r.make p tag pl) s =
      .next (hostRow r.op (fun p tag pl => serve r.op r.modes (r.lengthOk pl) p tag (body p tag pl)) p tag pl s)

theorem within_self (n : Nat) (pl : List Byte) : within n n pl = (pl.length == n) := by
  rw [Bool.eq_iff_iff]
  simp [within]
  omega

/-- The lengths of SUBSCRIBE_POINTS: up to 256 points of 4 bytes after a head of 8 (R167). -/
theorem within_points (n : Nat) (pl : List Byte) : (within 8 1032 pl && pl.length == 8 + 4 * n) =
    (decide (8 ≤ pl.length) && decide (n ≤ 256) && pl.length == 8 + 4 * n) := by
  rw [Bool.eq_iff_iff]
  simp [within]
  omega

/-- The lengths of READ_PARAM: 1 to 1,023 parameters of 2 bytes after a head of 4 (R169). -/
theorem within_params (n : Nat) (pl : List Byte) : (within 6 2050 pl && pl.length == 4 + 2 * n) =
    (decide (6 ≤ pl.length) && (pl.length == 4 + 2 * n) && decide (n ≤ 1023)) := by
  rw [Bool.eq_iff_iff]
  simp [within]
  omega

/-- A command whose function passes a row's opcode, modes and lengths to `serve` is served. -/
theorem HostRow.Served.of_serve {op : Nat} {make : Port → Half → List Byte → Instr} {modes : List Mode} {ok ok' : List Byte → Bool}
    (body : Port → Half → List Byte → State → State) (hok : ∀ pl, ok pl = ok' pl)
    (h : ∀ p tag pl s, exec (make p tag pl) s =
      .next (hostRow op (fun p tag pl => serve op modes (ok' pl) p tag (body p tag pl)) p tag pl s)) :
    HostRow.Served ⟨op, make, modes, ok⟩ := by
  obtain rfl : ok = ok' := funext hok
  exact ⟨body, h⟩

theorem hostRows_served : ∀ r ∈ hostRows, r.Served := by
  simp only [hostRows, List.cons_append, List.nil_append, List.forall_mem_cons, List.not_mem_nil, false_implies, implies_true,
    and_true]
  refine ⟨?_, ?_, ?echo, ?_, ?_, ?_, ?_, ?_, ?readPoints, ?subscribePoints, ?_, ?readParam, ?stageParam, ?_, ?_, ?_,
    ?unlockSafetySet, ?_, ?_, ?_, ?_, ?_, ?_, ?_, ?_, ?_, ?_, ?_, ?_, ?_, ?_, ?_, ?_, ?_, ?_, ?_, ?_⟩
  case echo => exact .of_serve _ (fun pl => by simp [within]) fun _ _ _ _ => rfl
  case readPoints => exact .of_serve _ (fun _ => rfl) fun _ _ _ _ => rfl
  case subscribePoints => exact .of_serve _ (fun pl => within_points _ pl) fun _ _ _ _ => rfl
  case readParam => exact .of_serve _ (fun pl => within_params _ pl) fun _ _ _ _ => rfl
  case stageParam => exact .of_serve _ (fun _ => rfl) fun _ _ _ _ => rfl
  case unlockSafetySet => exact .of_serve _ (fun _ => rfl) fun _ _ _ _ => rfl
  all_goals exact .of_serve _ (within_self _) fun _ _ _ _ => rfl

section
variable {r : HostRow} (h : r.Served) (p : Port) (tag : Half) (pl : List Byte) {s : State}
include h

/-- Before step 11 of a start no command does anything (R117). -/
theorem HostRow.Served.exec_not_ready (hr : s.sys.ready = false) : exec (r.make p tag pl) s = .next s := by
  obtain ⟨body, hb⟩ := h
  simp [hb, hostRow, serve, hr]

/-- A length the row does not allow is refused first (R140). -/
theorem HostRow.Served.exec_bad_length (hr : s.sys.ready = true) (hq : s.time.quiesced = false) (hl : r.lengthOk pl = false) :
    exec (r.make p tag pl) s = .next (reply p r.op tag stBadLength noDetail [] s) := by
  obtain ⟨body, hb⟩ := h
  simp [hb, hostRow, serve, hr, hq, hl]

/-- Then a mode the row does not name (R140). -/
theorem HostRow.Served.exec_wrong_mode (hr : s.sys.ready = true) (hq : s.time.quiesced = false) (hl : r.lengthOk pl = true)
    (hm : s.opAllowed r.op r.modes = false) :
    exec (r.make p tag pl) s = .next (reply p r.op tag stWrongMode noDetail [] s) := by
  obtain ⟨body, hb⟩ := h
  simp [hb, hostRow, serve, hr, hq, hl, hm]

/-- After the quiesce mark the packet waits for the next frame (R29). -/
theorem HostRow.Served.exec_quiesced (hr : s.sys.ready = true) (hq : s.time.quiesced = true) :
    exec (r.make p tag pl) s = .next (arrive { port := p, opcode := r.op, tag := tag.toNat, payload := pl } s) := by
  obtain ⟨body, hb⟩ := h
  simp [hb, hostRow, hr, hq]

end

/-- A packet that is never dropped takes the next out slot of the SPI port, or waits behind those that do (R138), and sets its
cause. -/
theorem postKept_spi (pkt : OutPacket) (s : State) : postKept .spi pkt s =
    { s with port := { s.port with
        out := if s.port.out.slots.length < 32 ∧ s.port.out.waiting = []
          then { s.port.out with slots := s.port.out.slots ++ [pkt] }
          else { s.port.out with waiting := s.port.out.waiting ++ [pkt] },
        irqPend := s.port.irqPend ||| if pkt.isReply then 1 else 2 } } := by
  by_cases h : s.port.out.slots.length < 32 ∧ s.port.out.waiting = []
  all_goals
    simp only [postKept, State.outOf, State.outSlots, State.setOut, h, if_false]
    cases pkt.isReply <;> rfl

/-- Settles O9, from the shared checks of R140 and the outgoing side of the host port. -/
theorem hostRefusalsInOrder : Obligations.HostRefusalsInOrder := by
  unfold Obligations.HostRefusalsInOrder
  refine ⟨fun r hr p tag pl s => ?_, fun op tag st detail result s => ?_⟩
  · have h := hostRows_served r hr
    exact ⟨h.exec_not_ready p tag pl, h.exec_bad_length p tag pl, h.exec_wrong_mode p tag pl, h.exec_quiesced p tag pl⟩
  · refine ⟨_, rfl, ?_, fun hn hw => ?_, fun hf => ?_⟩
    · simp [reply, postKept_spi]
    · simp [reply, postKept_spi, answer, hn, hw]
    · have hf' : ¬ (s.port.out.slots.length < 32 ∧ s.port.out.waiting = []) := by
        rcases hf with hn | hw
        · exact fun h => absurd h.1 (by omega)
        · exact fun h => hw h.2
      simp only [reply, postKept_spi, answer, if_neg hf']

end Sys2Proof.Machine
end

section
/-! SUPPORT. Commands that are served, and the lengths of the reports (O10). -/
namespace Sys2Proof.Machine
open Sys2Proof

/-! ### Served commands -/

/-- A command that is served gets past the checks of R140 to its own handling. -/
theorem hostRow_of_serves {op : Nat} {modes : List Mode} {s : State} (h : s.serves op modes = true) {pl : List Byte}
    {ok : List Byte → Bool} (hl : ok pl = true) (body : Port → Half → List Byte → State → State) (p : Port) (tag : Half) :
    hostRow op (fun p tag pl => serve op modes (ok pl) p tag (body p tag pl)) p tag pl s = body p tag pl s := by
  simp only [State.serves, Bool.and_eq_true, Bool.not_eq_true'] at h
  obtain ⟨⟨hr, hm⟩, hq⟩ := h
  simp [hostRow, serve, hr, hm, hq, hl]

/-! ### Lengths -/

@[simp] theorem length_leBytes (k n : Nat) : (leBytes k n).length = k := by
  induction k generalizing n with
  | zero => rfl
  | succ k ih => simp [leBytes, ih]

@[simp] theorem length_padTo (n : Nat) (l : List Byte) : (padTo n l).length = n := by
  simp [padTo]
  omega

/-- Records of one length. -/
theorem length_flatMap_range {n k : Nat} {f : Nat → List Byte} (h : ∀ i, (f i).length = k) :
    ((List.range n).flatMap f).length = n * k := by
  simp [List.length_flatMap, h]

theorem length_identity (s : State) : s.identity.length = 88 := by
  have hd := length_flatMap_range (n := 4) (f := Config.dieRecord) (k := 12) fun i => by simp [Config.dieRecord]
  simp [State.identity, Config.dateCode, Config.twoDigits, hd]

theorem length_statusBlock (s : State) : s.statusBlock.length = 32 := by
  simp [State.statusBlock]

theorem length_compRecord (s : State) (c : Nat) : (s.compRecord c).length = 16 := by
  simp [State.compRecord]

theorem length_bitmap (u : UpdState) : u.bitmap.length = 224 := by
  simp [UpdState.bitmap]

/-! ### Reports -/

/-- The 320 bytes of UPD_PROGRESS (R677). -/
def progressReport (s : State) : List Byte :=
  [BitVec.ofNat 8 s.upd.session, BitVec.ofNat 8 (mComp s.upd.manifest)] ++ leBytes 2 (mCount s.upd.manifest) ++ s.upd.heldBytes ++
    leBytes 4 (mVersion s.upd.manifest) ++ leBytes 4 0 ++ s.upd.bitmap ++ (List.range 5).flatMap s.compRecord

theorem length_progressReport (s : State) : (progressReport s).length = 320 := by
  have hc := length_flatMap_range (n := 5) (length_compRecord s)
  simp [progressReport, UpdState.heldBytes, length_bitmap, hc]

theorem execUpdProgress_of_serves {s : State} (h : s.serves 0x0603 modesAll = true) (p : Port) (tag : Half) :
    exec (.updProgress p tag []) s = .next (reply p 0x0603 tag stOk noDetail (progressReport s) s) :=
  congrArg Host.Outcome.next (hostRow_of_serves h (ok := fun pl => pl.length == 0) rfl _ p tag)

theorem execSatIdentity_of_serves {s : State} {k : Fin 4} (h : s.serves 0x0902 modesWork = true) (hk : s.enabled k = true)
    (p : Port) (tag : Half) : exec (.satIdentity p tag [BitVec.ofNat 8 k, 0, 0, 0]) s =
      .next (reply p 0x0902 tag stOk noDetail (ringReport k (s.ring k)) s) := by
  have hf : field [BitVec.ofNat 8 k, 0, 0, 0] 0 1 = k := by simp [field, leNat]; omega
  have hz : zeros ([BitVec.ofNat 8 k, 0, 0, 0].drop 1) = true := rfl
  refine (congrArg Host.Outcome.next (hostRow_of_serves h (ok := fun pl => pl.length == 4) rfl _ p tag)).trans ?_
  have hlt : ¬ 4 ≤ (k : Nat) := by omega
  simp only [hf, hz, hk, hlt]
  rfl

theorem execCheckStage_of_serves {s : State} {p : Port} (h : s.serves 0x0311 modesAll = true) (hf : s.foreign p = false)
    (tag : Half) : exec (.checkStage p tag []) s =
      .next (reply p 0x0311 tag (if s.stageViolations = [] then stOk else stCheckFailed) (min s.stageViolations.length 0xFFFE)
        (s.checkResult s.stageViolations) s) := by
  refine (congrArg Host.Outcome.next (hostRow_of_serves h (ok := fun pl => pl.length == 0) rfl _ p tag)).trans ?_
  simp only [hf, List.isEmpty_iff]
  rfl

/-- Settles O10, report by report. -/
theorem reportCommands : Obligations.ReportCommands := by
  unfold Obligations.ReportCommands
  intro s p tag
  have empty {op : Nat} (h : s.serves op modesAll = true) := hostRow_of_serves h (ok := fun pl => pl.length == 0) (pl := []) rfl
  refine ⟨fun h => ⟨congrArg Host.Outcome.next (empty h _ p tag), length_identity s⟩,
    fun h => ⟨congrArg Host.Outcome.next (empty h _ p tag), length_statusBlock s⟩, fun pl h hl => ?_,
    fun h => congrArg Host.Outcome.next (empty h _ p tag), fun h => congrArg Host.Outcome.next (empty h _ p tag),
    fun h => ⟨_, execUpdProgress_of_serves h p tag, length_progressReport s, rfl⟩,
    fun k h hk => execSatIdentity_of_serves h hk p tag, fun h hf => execCheckStage_of_serves h hf tag⟩
  exact congrArg Host.Outcome.next (hostRow_of_serves h (ok := fun pl => decide (pl.length ≤ 4092)) (by simpa using hl) _ p tag)

end Sys2Proof.Machine
end

section
/-! SUPPORT. Mode requests, the arming of the lock-out reset and the reset after a reply (O12). -/
namespace Sys2Proof.Machine
open Sys2Proof

/-! ### REQUEST_MODE -/

theorem modeOfCode_lt {c : Nat} {m : Mode} (h : modeOfCode c = some m) : c < 256 := by
  unfold modeOfCode at h
  by_contra hc
  simp [show c ≠ 2 by omega, show c ≠ 3 by omega, show c ≠ 4 by omega, show c ≠ 8 by omega] at h

/-- A mode request that is served is answered with the status of the transition table, and joins the requests where that
accepts it (R105, R107). -/
theorem execRequestMode_of_serves {s : State} {c : Nat} {m : Mode} (h : s.serves 0x0101 modesFive = true)
    (hm : modeOfCode c = some m) (p : Port) (tag : Half) : exec (.requestMode p tag [BitVec.ofNat 8 c, 0, 0, 0]) s =
      let t := reply p 0x0101 tag (s.modeStatus m) noDetail [] s
      .next (if s.modeStatus m = stAccepted then acceptMode m (.packet p tag) t else t) := by
  have hf : modeOfCode (field [BitVec.ofNat 8 c, 0, 0, 0] 0 1) = some m := by
    simpa [field, leNat, Nat.mod_eq_of_lt (modeOfCode_lt hm)] using hm
  have hz : zeros ([BitVec.ofNat 8 c, 0, 0, 0].drop 1) = true := rfl
  refine (congrArg Host.Outcome.next (hostRow_of_serves h (ok := fun pl => pl.length == 4) rfl _ p tag)).trans ?_
  simp only [hf, hz]
  rfl

/-- A host's request that does not open the strands joins the pending requests. -/
theorem acceptMode_packet {s : State} {m : Mode} (h : ¬ (s.sys.mode = .run ∧ m = .standby)) (p : Port) (tag : Half) :
    acceptMode m (.packet p tag) s =
      { s with sys := { s.sys with pendingMode := s.sys.pendingMode ++ [⟨m, .packet p tag, false⟩],
                                   autoRunBarred := s.sys.autoRunBarred && m != .run } } := by
  have hoff : (s.sys.mode == .run && m == .standby) = false := by simpa using h
  simp only [acceptMode, hoff]
  rfl

theorem connMask_of_hv {s t : State} (h : t.hv = s.hv) : t.connMask = s.connMask := by
  have hc : t.connected = s.connected := funext fun k => by simp [State.connected, State.strandHv, h]
  simp [State.connMask, hc]

/-- RUN to STANDBY opens every closed strand first (R107). -/
theorem acceptMode_runToStandby {s : State} (h : s.sys.mode = .run) (by' : Requester) :
    ∃ u, acceptMode .standby by' s = openStrands s.connMask (cancelConnect u) ∧ u.hv = s.hv ∧
      u.sys.pendingMode = s.sys.pendingMode ++ [⟨.standby, by', true⟩] := by
  simp only [acceptMode, h]
  exact ⟨_, rfl, rfl, rfl⟩

theorem modeStatus_runToStandby {s : State} (h : s.sys.mode = .run) : s.modeStatus .standby = stAccepted := by
  simp [State.modeStatus, h]

/-! ### LOCKOUT_RESET_ARM -/

theorem gn_reply (id : Nat) (p : Port) (op : Nat) (tag : Half) (st detail : Nat) (result : List Byte) (s : State) :
    (reply p op tag st detail result s).gn id = s.gn id := by
  simp [State.gn]

/-! ### Resets with a journal -/

theorem resetWithJournal_held (code : Nat) (s : State) : (resetWithJournal code s).sys.held = some code := rfl

theorem resetWithJournal_powered (code : Nat) (s : State) : (resetWithJournal code s).sys.powered = true := rfl

/-- MODULE_RESET_AFTER_REPLY with a reset that waits, once its reply has been read or 20 ms have passed, or before. -/
theorem execModuleResetAfterReply_of_pending {s : State} {r : PendingReset} (hr : s.sys.pendingReset = some r)
    (ha : s.alive = true) : exec .moduleResetAfterReply s =
      .next (if r.ripe s.time.now then resetWithJournal r.code s else s) := by
  simp [exec, execModuleResetAfterReply, hr, ha]

/-- Settles O12: the request's status, the arming, the reset that waits and its release. -/
theorem modeRequests : Obligations.ModeRequests := by
  unfold Obligations.ModeRequests
  intro s p tag
  refine ⟨fun c m h hm => ?_, fun h => ⟨fun hf => ?_, fun src rest hf => ?_⟩, fun h => ?_, fun r hr ha => ?_⟩
  · have he := execRequestMode_of_serves h hm p tag
    refine ⟨fun hst => by simpa [hst] using he, fun hst hoff => ?_, fun hrun hstb => ?_⟩
    · simpa [hst, acceptMode_packet, hoff] using he
    · subst hstb
      obtain ⟨u, hu, hv, hpend⟩ := acceptMode_runToStandby
        (s := reply p 0x0101 tag (s.modeStatus .standby) noDetail [] s) (by simpa using hrun) (.packet p tag)
      refine ⟨u, ?_, by simpa using hv, by simpa using hpend⟩
      exact he.trans (by simp only [modeStatus_runToStandby hrun, if_true] at hu ⊢; rw [hu, connMask_of_hv (reply_hv ..)])
  · refine (congrArg Host.Outcome.next (hostRow_of_serves h (ok := fun pl => pl.length == 0) rfl _ p tag)).trans ?_
    simp only [hf, gn_reply, reply_sys, reply_pins]
    rfl
  · refine (congrArg Host.Outcome.next (hostRow_of_serves h (ok := fun pl => pl.length == 0) rfl _ p tag)).trans ?_
    simp only [hf]
    rfl
  · refine (congrArg Host.Outcome.next (hostRow_of_serves h (ok := fun pl => pl.length == 0) rfl _ p tag)).trans ?_
    simp only [State.awaitRead, reply_sys, reply_time]
    rfl
  · rw [execModuleResetAfterReply_of_pending hr ha]
    refine ⟨fun hripe => ⟨resetWithJournal r.code s, congrArg Host.Outcome.next (if_pos ?_), resetWithJournal_held ..,
      resetWithJournal_powered .., resetWithJournal_applied r.code s, rfl,
      resetWithJournal_pending r.code s⟩, fun hread hnow => congrArg Host.Outcome.next (if_neg ?_)⟩
    · simpa [PendingReset.ripe] using hripe
    · simp [PendingReset.ripe, hread]; omega

end Sys2Proof.Machine
end

section
/-! SUPPORT. The watchdog of AC0 (O40), and the lock-out reset (O41). -/
namespace Sys2Proof.Machine
open Sys2Proof

/-! ### The window's close -/

/-- A failing health window changes the update session alone. -/
theorem failWindow_eq (s : State) : failWindow s = { s with upd := (failWindow s).upd } := by
  unfold failWindow
  split <;> rfl

/-- The state after a missed window, before the third miss resets the module (R482). -/
def windowMissed (s : State) : State :=
  failWindow (raise0 0xB6 { s with
    guard := { s.guard with watchdog := { s.guard.watchdog with
      challenge := none, toAnswer := false, misses := s.guard.watchdog.misses + 1 } },
    upd := { s.upd with misses := s.upd.misses + 1 } })

section
variable (s : State)

theorem windowMissed_watchdog : (windowMissed s).guard.watchdog = { s.guard.watchdog with
    challenge := none, toAnswer := false, misses := s.guard.watchdog.misses + 1 } := by
  rw [windowMissed, failWindow_eq]; simp
theorem windowMissed_sys : (windowMissed s).sys = s.sys := by rw [windowMissed, failWindow_eq]; simp
theorem windowMissed_param : (windowMissed s).param = s.param := by rw [windowMissed, failWindow_eq]; simp
theorem windowMissed_feed : (windowMissed s).feed = s.feed := by rw [windowMissed, failWindow_eq]; simp

end

section
variable {s : State} (ha : s.alive = true) {c : Nat} (hc : s.guard.watchdog.challenge = some c)
include ha hc

theorem execWatchdogWindowClose_of_good (hg : s.guard.watchdog.good = true) (hr : s.guard.watchdog.responses = 1) :
    exec .watchdogWindowClose s = .next { s with guard := { s.guard with watchdog := { s.guard.watchdog with
      challenge := none, toAnswer := false, misses := 0 } } } := by
  simp [exec, execWatchdogWindowClose, hc, ha, hg, hr, modWatchdog]

theorem execWatchdogWindowClose_of_missed (hg : s.guard.watchdog.good = false) :
    exec .watchdogWindowClose s = .next (if 3 ≤ s.guard.watchdog.misses + 1
      then resetModule 0x05 (lockout 0xB7 (raise0 0xB7 (windowMissed s))) else windowMissed s) := by
  have hm : (windowMissed s).guard.watchdog.misses = s.guard.watchdog.misses + 1 := by rw [windowMissed_watchdog]
  rw [← hm]
  unfold exec execWatchdogWindowClose
  rw [hc]
  refine congrArg Host.Outcome.next ((if_neg (by simp [ha])).trans ((if_neg (by simp [hg])).trans ?_))
  rfl

end

/-- Settles O40: challenge, response, and the close of the window after a good response, a first or second miss and a third. -/
theorem watchdogDialogue : Obligations.WatchdogDialogue := by
  unfold Obligations.WatchdogDialogue
  intro s ha
  refine ⟨fun v hv => ?_, fun c hc => ⟨fun v intime => ?_, execWatchdogWindowClose_of_good ha hc, fun hg hm => ?_,
    fun hg hm => ?_⟩⟩
  · simp [exec, execWatchdogChallenge, ha, hv, modWatchdog]
  · simp [exec, execWatchdogResponse, hc, ha, modWatchdog, watchdogAnswer]
  · refine ⟨windowMissed s, ?_, by rw [windowMissed_watchdog], by rw [windowMissed_watchdog], windowMissed_sys s,
      windowMissed_param s, windowMissed_feed s⟩
    rw [execWatchdogWindowClose_of_missed ha hc hg, if_neg (by omega)]
  · refine ⟨_, (execWatchdogWindowClose_of_missed ha hc hg).trans (by rw [if_pos (by omega)]), rfl, rfl, ?_, rfl⟩
    refine (resetModule_applied 0x05 _).trans ?_
    rw [lockout_quiet, raise0_quiet]
    exact congrArg ParamState.applied (windowMissed_param s)

/-! ### The lock-out reset -/

@[simp] theorem reportLost_schedule (s : State) : (reportLost s).schedule = s.schedule := by simp [reportLost]

@[simp] theorem siltFlush_schedule (s : State) : (siltFlush s).schedule = s.schedule := by simp [siltFlush]

@[simp] theorem journalBeforeReset_schedule (s : State) : (journalBeforeReset s).schedule = s.schedule := by
  simp [journalBeforeReset]

/-- A reset keeps the latch of the lock-out, its record and its causes (R124, R126). -/
theorem resetWithJournal_lock (code : Nat) (s : State) : (resetWithJournal code s).sys.lock =
    { latch := s.sys.lock.latch, record := s.sys.lock.record, causes := s.sys.lock.causes, thermal := s.sys.lock.thermal } := by
  have hk (t : State) (h : t.schedule = s.schedule) : (resetModule code t).sys.lock =
      { latch := s.sys.lock.latch, record := s.sys.lock.record, causes := s.sys.lock.causes,
        thermal := s.sys.lock.thermal } := by
    have hs : t.sys = s.sys := congrArg Schedule.sys h
    rw [← hs]
    rfl
  exact hk _ (by simp)

/-- LOCK_RST after its release: the press is forgotten and the arming ended (R127, R128). -/
def pressEnded (s : State) : State :=
  { s with pins := { s.pins with lockRst := none, lockFault := false },
           sys := { s.sys with lock := { s.sys.lock with armed := false } } }

/-- A release of LOCK_RST acts in a lock-out that is latched. -/
theorem pressEnded_acts {s : State} (ha : s.alive = true) (hm : s.sys.mode = .lockout) (hl : s.sys.lock.latch = true) :
    (!(pressEnded s).alive || (pressEnded s).sys.mode != .lockout || !(pressEnded s).sys.lock.latch) = false := by
  have ha' : (pressEnded s).alive = true := ha
  have hm' : (pressEnded s).sys.mode = .lockout := hm
  have hl' : (pressEnded s).sys.lock.latch = true := hl
  simp [ha', hm', hl']

/-- LOCK_RST after a release that ends the lock-out (R127). -/
def lockoutEnded (s : State) : State :=
  raise0 0xA2 { pressEnded s with sys := { s.sys with lock := { s.sys.lock with
    armed := false, latch := false, record := false, causes := [] } } }

theorem lockoutEnded_lock (s : State) : (lockoutEnded s).sys.lock =
    { s.sys.lock with armed := false, latch := false, record := false, causes := [] } := by
  rw [lockoutEnded, raise0_sys]

theorem lockoutEnded_param (s : State) : (lockoutEnded s).param = s.param := by
  rw [lockoutEnded, raise0_param]
  rfl

section
variable {s : State} {held : Nat} {risen : Bool} (hp : s.pins.lockRst = some risen) (ha : s.alive = true)
  (hm : s.sys.mode = .lockout) (hl : s.sys.lock.latch = true)
include hp ha hm hl

theorem execLockRstRelease_accepted (h1 : 250000 ≤ held) (h2 : held ≤ 3000000) (hf : s.pins.lockFault = false)
    (hg : s.guardFaults = false) (harm : s.gn 0x0C02 = 0 ∨ (risen = true ∧ s.sys.lock.armed = true)) :
    exec (.lockRstRelease held) s = .next (resetWithJournal 0x08 (lockoutEnded s)) := by
  have harm' : (s.gn 0x0C02 == 0 || (risen && s.sys.lock.armed)) = true := by simpa using harm
  unfold exec execLockRstRelease
  rw [hp]
  refine congrArg Host.Outcome.next ((if_neg (Bool.eq_false_iff.mp (pressEnded_acts ha hm hl))).trans
    ((if_neg (by omega)).trans ((if_neg ?_).trans rfl)))
  · simp [hf, hg, harm']; omega

theorem execLockRstRelease_refused
    (h : 3000000 < held ∨ held < 250000 ∨ s.pins.lockFault = true ∨ s.guardFaults = true) :
    exec (.lockRstRelease held) s = .next (raise 0xA3 0 0 0 [] (pressEnded s)) := by
  unfold exec execLockRstRelease
  rw [hp]
  refine congrArg Host.Outcome.next ((if_neg (Bool.eq_false_iff.mp (pressEnded_acts ha hm hl))).trans ?_)
  by_cases hlong : 3000000 < held
  · exact if_pos hlong
  · refine (if_neg hlong).trans (if_pos ?_)
    rcases h with h | h | h | h
    · exact absurd h hlong
    · exact .inl h
    · exact .inr (.inl (by simp [h]))
    · exact .inr (.inl (by simp [h]))

end

/-- Settles O41: the press, its release, the arming's expiry, and AC0's word and its silence. -/
theorem lockoutReset : Obligations.LockoutReset := by
  unfold Obligations.LockoutReset
  intro s
  refine ⟨rfl, fun held risen hp ha hm hl => ⟨fun h1 h2 hf hg harm => ?_, execLockRstRelease_refused hp ha hm hl⟩, rfl,
    fun hon hr => ?_, rfl⟩
  · have hlock := resetWithJournal_lock 0x08 (lockoutEnded s)
    rw [lockoutEnded_lock] at hlock
    refine ⟨_, execLockRstRelease_accepted hp ha hm hl h1 h2 hf hg harm, ?_, ?_, ?_, resetWithJournal_held .., ?_⟩
    · rw [hlock]
    · rw [hlock]
    · rw [hlock]
    · refine (resetWithJournal_applied 0x08 (lockoutEnded s)).trans ?_
      exact congrArg ParamState.applied (lockoutEnded_param s)
  · simp [exec, execAc0SupervisionTask, hon, hr, modWatchdog]

end Sys2Proof.Machine
end

section
/-! SUPPORT. Resets, wakes and engine faults (O47). -/
namespace Sys2Proof.Machine
open Sys2Proof

/-! ### Resets -/

/-- A module that a reset source of R123 holds in reset: what stays and what is lost (R122, R124, R126). -/
structure ResetHeld (code : Nat) (s t : State) : Prop where
  held : t.sys.held = some code
  powered : t.sys.powered = true
  ready : t.sys.ready = false
  now : t.time.now = s.time.now
  powerCycles : t.time.powerCycles = s.time.powerCycles
  opSec : t.time.opSec = s.time.opSec
  applied : t.param.applied = s.param.applied
  shadow : t.param.shadow = []
  latch : t.sys.lock.latch = s.sys.lock.latch
  thermal : t.sys.lock.thermal = s.sys.lock.thermal
  port : t.port = {}
  banks : t.banks.mem = []
  rings : t.rings = s.rings.map (fun g => { sats := g.sats.map (fun x => { regs := x.regs }) })
  mem : t.mem = tearMemory s.mem
  slotA : t.feed.slotA = s.feed.slotA
  slotB : t.feed.slotB = s.feed.slotB
  changeLog : t.guard.changeLog = s.guard.changeLog

theorem resetModule_resetHeld (code : Nat) (s : State) : ResetHeld code s (resetModule code s) := by
  constructor <;> rfl

/-! ### Wakes -/

section
variable {s : State} {w : WakeSource} (e : Nat) (x : StartTests) (hp : s.sys.powered = true) (hh : s.sys.held = none)
  (hw : s.wakeEnabled w = true)
include hp hh hw

/-- A wake from HIBERNATE is a start without a power cycle, after the time that passed without TB0 (R112, R115, R721). -/
theorem execWakeSource_of_hibernate (hm : s.sys.mode = .hibernate) : ∃ t, exec (.wakeSource w e x) s = .next t ∧
    StartEnded 2 (s.sys.lock.latch || s.sys.lock.record) t ∧ t.time.powerCycles = s.time.powerCycles ∧
    t.time.now = s.time.now + tb2Micros e := by
  obtain ⟨he, htime, -⟩ := startCore_ends 2 x (freshFeeds (advance (tb2Micros e) s)) hp (some w)
    (fun _ => some (tb2Micros e / 1000000))
  refine ⟨_, ?_, he, congrArg (·.powerCycles) htime, congrArg (·.now) htime⟩
  simp [exec, execWakeSource, wakeBy, hp, hh, hw, hm]

theorem execWakeSource_of_pending (hm : s.sys.mode ≠ .hibernate) (hb : s.hibernatePending = true) :
    exec (.wakeSource w e x) s = .next (abandonHibernate w s) := by
  simp [exec, execWakeSource, wakeBy, hp, hh, hw, hm, hb]

theorem execWakeSource_of_idle (hm : s.sys.mode ≠ .hibernate) (hb : s.hibernatePending = false) :
    exec (.wakeSource w e x) s = .next s := by
  simp [exec, execWakeSource, wakeBy, hp, hh, hw, hm, hb]

end

/-! ### An entry to HIBERNATE given up -/

section
variable (s : State)

@[simp] theorem updateIncomplete_param (r : Nat) : (updateIncomplete r s).param = s.param := by
  unfold updateIncomplete
  extract_lets inc was _ x
  have hx : x.param = s.param := rfl
  split
  · exact (congrArg Schedule.param (stopTransfers_schedule ..)).trans hx
  · exact hx

@[simp] theorem startEnum_param (r : Nat) : (startEnum r s).param = s.param := by
  have hdown (t : State) : (ringDown r t).param = t.param :=
    (congrArg Schedule.param (writeAdmitted_schedule ..)).trans (updateIncomplete_param ..)
  unfold startEnum startEnumOf askEnumerate
  extract_lets x
  have hx : x.param = s.param := congrArg Schedule.param (ringGap_schedule s r)
  split
  · exact (hdown _).trans ((updateIncomplete_param ..).trans hx)
  · exact (updateIncomplete_param ..).trans hx

/-- The requests for HIBERNATE are withdrawn (R108). -/
def hibernateWithdrawn : State :=
  { s with
    sys := { s.sys with hibernating := none, hibernateByTwoWire := false,
                        pendingMode := s.sys.pendingMode.filter (fun m => m.target != .hibernate) },
    upd := { s.upd with hibernateAfter := none } }

/-- The satellites that were asked to sleep are woken, and the requesters told. -/
theorem abandonHibernate_rough (w : WakeSource) :
    (abandonHibernate w s).schedule.rough = (hibernateWithdrawn s).schedule.rough ∧
      (abandonHibernate w s).param = s.param := by
  unfold abandonHibernate
  extract_lets by' asleep x _ y z
  have hz : z.schedule.rough = y.schedule.rough ∧ z.param = y.param := by
    simp only [z]
    split
    · exact ⟨foldl_rough (fun t r => by split <;> simp) _ _, foldl_field State.param (fun t r => by split <;> simp) _ _⟩
    · exact ⟨rfl, rfl⟩
  obtain ⟨hrough, hparam⟩ := hz
  exact ⟨(foldl_rough (fun t r => by simp) _ _).trans hrough, (foldl_field State.param (fun t r => by simp) _ _).trans hparam⟩

theorem hibernateWithdrawn_not_pending : (hibernateWithdrawn s).hibernatePending = false := by
  simp [State.hibernatePending, hibernateWithdrawn]

theorem abandonHibernate_not_pending (w : WakeSource) : (abandonHibernate w s).hibernatePending = false := by
  rw [← hibernateWithdrawn_not_pending s]
  have hq (t : State) : t.hibernatePending = (t.schedule.rough.sys.hibernating.isSome ||
    t.schedule.rough.upd.hibernateAfter.isSome || t.schedule.rough.sys.pendingMode.any (fun m => m.target == .hibernate)) := rfl
  rw [hq, hq, (abandonHibernate_rough s w).1]

end

/-! ### Engine faults -/

theorem sys_of_schedule {s t : State} (h : t.schedule = s.schedule) : t.sys = s.sys := congrArg Schedule.sys h

/-- Of the modes a mode change writes the mode and the limp alone. -/
theorem enterMode_sys {new : Mode} (cause : Nat) {s : State} (h : s.sys.mode ≠ new) :
    ∃ l, (enterMode new cause s).sys = { s.sys with mode := new, limp := l } := by
  unfold enterMode
  extract_lets old limp a b c d e _ f
  have ha : a.sys = s.sys := sys_of_schedule (by simp only [a]; split <;> simp)
  clear_value a
  have hb : b.sys = s.sys := (show b.sys = a.sys by simp only [b]; split <;> rfl).trans ha
  clear_value b
  have hc : c.sys = s.sys := (sys_of_schedule (by simp only [c]; split <;> simp)).trans hb
  clear_value c
  have hd : d.sys = s.sys := (sys_of_schedule (by simp only [d]; split <;> simp)).trans hc
  clear_value d
  have he : e.sys = s.sys := (sys_of_schedule (by simp only [e]; split <;> simp)).trans hd
  clear_value e
  have hf : f.sys = { s.sys with mode := new, limp := limp && e.connMask != 0 } := by rw [← he]
  clear_value f
  rw [if_neg h]
  exact ⟨_, (sys_of_schedule (by simp)).trans hf⟩

theorem failWindow_sys (s : State) : (failWindow s).sys = s.sys := by rw [failWindow_eq]

/-- A HOLLOW fault in STANDBY, RUN or SERVICE is recorded, and enters HOLLOW (R107, R108). -/
theorem hollowFault_sys {s : State} (h : s.sys.mode = .standby ∨ s.sys.mode = .run ∨ s.sys.mode = .service) (src : Nat) :
    (hollowFault src s).sys.mode = .hollow ∧ (hollowFault src s).sys.hollowFault = true := by
  unfold hollowFault
  extract_lets x _ y
  have hy : y.sys = { s.sys with hollowFault := true } := by rw [← failWindow_sys s]
  have hm : y.sys.mode = s.sys.mode := by rw [hy]
  have hne : y.sys.mode ≠ .hollow := by rcases h with h | h | h <;> simp [hm, h]
  obtain ⟨l, hl⟩ := enterMode_sys src hne
  have hsys : (enterMode .hollow src y).sys.mode = .hollow ∧ (enterMode .hollow src y).sys.hollowFault = true := by
    rw [hl, hy]
    exact ⟨rfl, rfl⟩
  clear_value y
  rcases h with h | h | h <;> simpa [hm, h] using hsys

/-- An engine that does not answer in STANDBY, RUN or SERVICE is a HOLLOW fault (R107, R108). -/
theorem engineFault_hollow {s : State} (ha : s.alive = true)
    (h : s.sys.mode = .standby ∨ s.sys.mode = .run ∨ s.sys.mode = .service) :
    (engineFault s).sys.mode = .hollow ∧ (engineFault s).sys.hollowFault = true ∧
      (engineFault s).param.applied = s.param.applied := by
  have hs : startRecord s.takeFree.2 = s.takeFree.2 := by
    have hne : s.sys.mode ≠ .start := by rcases h with h | h | h <;> simp [h]
    simp [startRecord, State.takeFree, hne]
  have he : engineFault s = hollowFault (Config.freeNat s.takeFree.1 % 256) s.takeFree.2 := by
    have hne : s.sys.mode ≠ .loader := by rcases h with h | h | h <;> simp [h]
    simp [engineFault, ha, hne, hs]
  rw [he]
  obtain ⟨hm, hf⟩ := hollowFault_sys (s := s.takeFree.2) h (Config.freeNat s.takeFree.1 % 256)
  exact ⟨hm, hf, congrArg Quiet.applied (hollowFault_quiet ..)⟩

/-- Settles O47: the reset sources, the wake sources and the alarm, and the engines' faults. -/
theorem resetsAndWakes : Obligations.ResetsAndWakes := by
  unfold Obligations.ResetsAndWakes
  intro s
  extract_lets reset
  have hreset (code : Nat) {o : Host.Outcome State Fault Refusal} (ho : o = .next (resetModule code s)) : reset code o := by
    obtain ⟨h1, h2, h3, h4, h5, h6, h7, h8, h9, h10, h11, h12, h13, h14, h15, h16, h17⟩ := resetModule_resetHeld code s
    exact ⟨_, ho, h1, h2, h3, h4, h5, h6, h7, h8, h9, h10, h11, h12, h13, h14, h15, h16, h17⟩
  refine ⟨⟨fun h => ⟨hreset 3 ?_, hreset 6 ?_⟩, fun hp hh => hreset 3 ?_, fun ha h7 => hreset 7 ?_⟩,
    fun w e x hp hh hw => ⟨fun hm => ?_, fun hm hb => ?_, execWakeSource_of_idle e x hp hh hw⟩,
    fun e x => ⟨fun hm he => ?_, fun h => ?_⟩, fun ha hm => ?_, fun g hg => ?_⟩
  · simp [exec, execMrstN, h]
  · simp [exec, execCoreSupplyFault, h]
  · simp [exec, execMrstN, hp, Option.isSome_iff_ne_none.mpr hh]
  · simp [exec, execFatalFault, ha, h7]
  · obtain ⟨t, ht, hend, hc, hn⟩ := execWakeSource_of_hibernate e x hp hh hw hm
    exact ⟨t, ht, hend.cause, hend.ended, hc, hn⟩
  · obtain ⟨hr, hparam⟩ := abandonHibernate_rough s w
    exact ⟨_, execWakeSource_of_pending e x hp hh hw hm hb, abandonHibernate_not_pending s w, congrArg (·.sys.mode) hr,
      congrArg Schedule.time hr, hparam⟩
  · simp [exec, execRtAlarm, hm, he]
  · have hno : ¬ (s.sys.mode = .hibernate ∧ e < 32768 * s.pn 0x0104) := fun hc => h.elim (· hc.1) (by omega)
    simp [exec, execRtAlarm, execWakeSource, hno]
  · obtain ⟨h1, h2, h3⟩ := engineFault_hollow ha hm
    exact ⟨⟨_, rfl, h1, h2, h3⟩, ⟨_, rfl, h1, h2, h3⟩⟩
  · simp [exec, execWorkUnitTimeout, hg]

end Sys2Proof.Machine
end

section
/-! SUPPORT. A two-wire command word whose turn never comes (O19). -/
namespace Sys2Proof.Machine
open Sys2Proof

/-- A module in RUN whose command address answers, with nothing waiting and one command that the frame may still start. Its turn
among Q1 to Q3 stands at 0, which no queue has: the order that `startNext` forms from it is Q1, Q1, Q2. -/
def turnAtNoQueue : State :=
  { State.reset with
    sys := { powered := true, mode := .run, ready := true }
    time := { starts := 1 }
    param := { applied := [(0x1203, .num 0x30)] }
    port := { turn := 0 } }

/-- A NOP written there stays in Q3, and counts as executing. -/
theorem twWrite_turnAtNoQueue : (twWrite 0 0 turnAtNoQueue).tw.busy = true := by decide

/-- Refutes O19: in `turnAtNoQueue` the NOP is posted but never started, so that it stays in Q3 and the target busy. The
hypotheses leave the turn open; the statement needs it to be 1 or more, as it is from reset on. -/
theorem not_twoWireWords : ¬ Obligations.TwoWireWords := by
  unfold Obligations.TwoWireWords
  intro h
  obtain ⟨hnop, -⟩ := h turnAtNoQueue (by decide) rfl rfl (by decide) (by decide) rfl rfl rfl rfl
  have hidle : (twWrite 0 0 turnAtNoQueue).tw.busy = false := congrArg (·.tw.busy) (Host.Outcome.next.inj hnop)
  rw [twWrite_turnAtNoQueue] at hidle
  contradiction

end Sys2Proof.Machine
end

section
/-! SUPPORT. The banks' bytes and records: writes, owners, errors and collisions (O59). -/
namespace Sys2Proof.Machine
open Sys2Proof

/-! ### Bytes -/

/-- Each byte written reads back, and every other reads as before (R626). -/
theorem read_writeAll {m : List Host.Cell} (h : Memory.wf m = true) (a0 : Nat) (l : List Byte) (a : Nat) :
    Memory.read (Memory.writeAll m a0 l) a =
      if a0 ≤ a ∧ a < a0 + l.length then l.getD (a - a0) 0 else Memory.read m a := by
  induction l generalizing m a0 with
  | nil =>
    rw [if_neg (by simp only [List.length_nil]; omega)]
    rfl
  | cons b l ih =>
    rw [Memory.writeAll, ih (write_wf a0 b h), List.length_cons]
    by_cases he : a = a0
    · subst he
      rw [if_neg (by omega), if_pos (by omega), read_write_self _ _ _ h, Nat.sub_self]
      rfl
    · rw [read_write_ne _ _ (Ne.symm he)]
      by_cases hin : a0 + 1 ≤ a ∧ a < a0 + 1 + l.length
      · rw [if_pos hin, if_pos (by omega), show a - a0 = a - (a0 + 1) + 1 by omega, List.getD_cons_succ]
      · rw [if_neg hin, if_neg (by omega)]

/-- A cleared bank reads 0 and every other reads as before (R639). -/
theorem read_clearBank (m : List Host.Cell) (b a : Nat) :
    Memory.read (Memory.clearBank m b) a = if a / bankBytes = b then 0 else Memory.read m a := by
  induction m with
  | nil => simp [Memory.clearBank, Memory.read, Memory.blank]
  | cons c m ih =>
    unfold Memory.clearBank at ih ⊢
    by_cases hc : c.1 / bankBytes = b
    · rw [List.filter_cons_of_neg (by simp [hc]), ih]
      by_cases ha : a / bankBytes = b
      · simp [ha]
      · have hne : c.1 ≠ a := fun h => ha (h ▸ hc)
        simp [ha, Memory.read, hne]
    · rw [List.filter_cons_of_pos (by simp [hc]), Memory.read, Memory.read, ih]
      by_cases he : c.1 = a
      · subst he; simp [hc]
      · simp [he]

theorem bankAddr_div {b off : Nat} (h : off < bankBytes) : bankAddr b off / bankBytes = b := by
  unfold bankAddr bankBytes at *
  omega

/-! ### Records of the banks -/

theorem setAt_setAt {α : Type} (l : List α) (i : Nat) (a b : α) : setAt (setAt l i a) i b = setAt l i b := by
  induction l generalizing i with
  | nil => rfl
  | cons c l ih =>
    cases i with
    | zero => rfl
    | succ i => exact congrArg (c :: ·) (ih i)

/-- The state with another record of a bank. -/
def withBank (b : Nat) (k : BankState) (s : State) : State :=
  { s with banks := { s.banks with banks := setAt s.banks.banks b k } }

theorem withBank_withBank (b : Nat) (k k' : BankState) (s : State) : withBank b k' (withBank b k s) = withBank b k' s := by
  simp [withBank, setAt_setAt]

theorem withBank_calm (b : Nat) (k : BankState) (s : State) : (withBank b k s).calm = withBank b k s.calm := rfl

/-- Events change nothing of the banks. -/
theorem banks_of_calm {s t : State} (h : t.calm = s.calm) : t.banks = s.banks := (congrArg State.banks h :)

/-- What differs from a changed record in events alone differs from the state before in its banks and in events. -/
theorem calm_of_withBank {b : Nat} {k : BankState} {s t : State} (h : t.calm = (withBank b k s).calm) :
    t.calm = { s with banks := t.banks }.calm := by
  rw [show t.banks = (withBank b k s).banks from banks_of_calm h]
  exact h

section
variable {s : State} {b : Nat} {k : BankState} (hk : s.banks.banks[b]? = some k)
include hk

theorem bank_of_get : s.bank b = k := by
  simp [State.bank, List.getD_eq_getElem?_getD, hk]

theorem modBank_of_get (f : BankState → BankState) : modBank b f s = withBank b (f k) s := by
  rw [modBank, modAt_eq_setAt f hk]
  rfl

theorem withBank_get (k' : BankState) : (withBank b k' s).banks.banks[b]? = some k' := setAt_get_self k' hk

end

theorem setAt_of_get {α : Type} {l : List α} {i : Nat} {a : α} (h : l[i]? = some a) : setAt l i a = l := by
  induction l generalizing i with
  | nil => rfl
  | cons b l ih =>
    cases i with
    | zero => simp_all [setAt, modAt]
    | succ i => exact congrArg (b :: ·) (ih (by simpa using h))

theorem masterNo_eq_six (m : Master) : masterNo m = 6 ↔ m = .port := by cases m <;> decide

theorem masterNo_eq_zero (m : Master) : masterNo m = 0 ↔ m = .supervisor := by cases m <;> decide

/-! ### Writes -/

section
variable {s : State} {m : Master} {b : Nat} {k : BankState} (ha : s.alive = true) (hm : s.masterPowered m = true) (hb : b < 24)
  (hk : s.banks.banks[b]? = some k)
include ha hm hb

theorem execBankWrite_of_powered (off : Nat) (l : List Byte) :
    exec (.bankWrite m b off l) s = .next (bankStore (masterNo m) b off l s) := by
  simp [exec, execBankWrite, ha, hm, hb]

include hk

/-- A write inside an open bank, or its owner's, that is not read-only stores (R626, R630). -/
theorem execBankWrite_stores {off : Nat} {l : List Byte} (hfit : off + l.length ≤ bankBytes) (hr : k.readOnly = false)
    (hp : m ≠ .port) (ho : k.owner = 0xF ∨ k.owner = masterNo m) : exec (.bankWrite m b off l) s = .next (accessStatus (masterNo m) false
      { s with banks := { s.banks with mem := Memory.writeAll s.banks.mem (bankAddr b off) l } }) := by
  have hno : ¬ (bankBytes < off + l.length ∨ k.readOnly = true ∨ masterNo m = 6) := by
    rintro (h | h | h)
    · omega
    · exact absurd (hr.symm.trans h) (by decide)
    · exact hp ((masterNo_eq_six m).mp h)
  rw [execBankWrite_of_powered ha hm hb, bankStore, bank_of_get hk]
  dsimp only
  rw [if_neg hno, if_pos ho]

/-- One past the bank, into a read-only bank, by the host port, or of another's bank without a handover, is a conflict (R629, R633,
R634). -/
theorem execBankWrite_conflict {off : Nat} {l : List Byte} (h : bankBytes < off + l.length ∨ k.readOnly = true ∨ m = .port ∨
      (k.owner ≠ 0xF ∧ k.owner ≠ masterNo m ∧ k.handover = none)) :
    exec (.bankWrite m b off l) s = .next (bankConflict (masterNo m) b s) := by
  rw [execBankWrite_of_powered ha hm hb, bankStore, bank_of_get hk]
  dsimp only
  by_cases hno : bankBytes < off + l.length ∨ k.readOnly = true ∨ masterNo m = 6
  · rw [if_pos hno]
  · rw [masterNo_eq_six] at hno
    obtain ⟨ho, hn, hh⟩ : k.owner ≠ 0xF ∧ k.owner ≠ masterNo m ∧ k.handover = none := by
      rcases h with h | h | h | h
      · exact absurd (.inl h) hno
      · exact absurd (.inr (.inl h)) hno
      · exact absurd (.inr (.inr h)) hno
      · exact h
    rw [if_neg (by rwa [masterNo_eq_six]), if_neg (by simp [ho, hn]), hh]

/-! ### Owners -/

/-- The owner word of the owner or the supervisor on a bank that does not run begins a handover (R627, R628). -/
theorem execBankOwnerWrite_accepted {w : Word} (hrun : k.running = false)
    (hby : m = .supervisor ∨ (k.owner ≠ 0xF ∧ k.owner = masterNo m)) (hw : w.toNat % 16 < 7 ∨ w.toNat % 16 = 15)
    (hne : w.toNat % 16 ≠ k.owner) : exec (.bankOwnerWrite m b w) s = .next { s with banks := { s.banks with
      refused := setAt s.banks.refused (masterNo m) false,
      banks := setAt s.banks.banks b { k with readOnly := w.getLsbD 6, handover := some (w.toNat % 16) } } } := by
  have hno : ¬ ((masterNo m ≠ 0 ∧ (k.owner = 0xF ∨ k.owner ≠ masterNo m)) ∨ k.running = true ∨
      (7 ≤ w.toNat % 16 ∧ w.toNat % 16 ≤ 14)) := by
    rw [Ne, masterNo_eq_zero, hrun]
    rintro (⟨hs, ho⟩ | h | h)
    · rcases hby with h | ⟨h15, hmine⟩
      · exact hs h
      · exact ho.elim h15 (· hmine)
    · contradiction
    · omega
  have hk' : (accessStatus (masterNo m) false s).banks.banks[b]? = some k := hk
  simp only [exec, execBankOwnerWrite, ha, hm, hb, bank_of_get hk, if_neg hno, if_neg hne, modBank_of_get hk']
  rfl

/-- That of another master, or on a running bank, is a conflict (R627, R629). -/
theorem execBankOwnerWrite_conflict {w : Word} (h : k.running = true ∨ (m ≠ .supervisor ∧ k.owner ≠ masterNo m)) :
    exec (.bankOwnerWrite m b w) s = .next (bankConflict (masterNo m) b s) := by
  have hyes : (masterNo m ≠ 0 ∧ (k.owner = 0xF ∨ k.owner ≠ masterNo m)) ∨ k.running = true ∨
      (7 ≤ w.toNat % 16 ∧ w.toNat % 16 ≤ 14) := by
    rw [Ne, masterNo_eq_zero]
    exact h.elim (fun hr => .inr (.inl hr)) (fun hn => .inl ⟨hn.1, .inr hn.2⟩)
  simp only [exec, execBankOwnerWrite, ha, hm, hb, bank_of_get hk, if_pos hyes]
  rfl

end

/-- A master without power does nothing (R36). -/
theorem exec_of_unpowered {s : State} {m : Master} (hm : s.masterPowered m = false) (b off : Nat) (l : List Byte) (w : Word) :
    exec (.bankWrite m b off l) s = .next s ∧ exec (.bankOwnerWrite m b w) s = .next s := by
  simp [exec, execBankWrite, execBankOwnerWrite, hm]

section
variable {s : State} {b : Nat} {k : BankState} (hk : s.banks.banks[b]? = some k)
include hk

/-- Without waiting writes there is nothing to judge again. -/
theorem settleWaiting_of_idle (hw : k.waiting = []) : settleWaiting b s = s := by
  have hkw : { k with waiting := [] } = k := by rw [← hw]
  rw [settleWaiting, bank_of_get hk, hw, List.foldl_nil, modBank_of_get hk, hkw, withBank, setAt_of_get hk]

/-- A handover takes effect with event 0xD8, and with it the writes that waited (R628). -/
theorem execOwnerHandoverEffect_of_idle (ha : s.alive = true) {n : Nat} (hn : k.handover = some n) (hw : k.waiting = []) :
    ∃ t, exec (.ownerHandoverEffect b) s = .next t ∧ t.calm = { s with banks := t.banks }.calm ∧ t.banks.mem = s.banks.mem ∧
      t.banks.banks = setAt s.banks.banks b { k with owner := n, handover := none, handovers := (k.handovers + 1) % 256 } := by
  let k' : BankState := { k with owner := n, handover := none, handovers := (k.handovers + 1) % 256 }
  let t := raise 0xD8 0 7 b (leBytes 1 k.owner ++ leBytes 1 n) (withBank b k' s)
  have hcalm : t.calm = (withBank b k' s).calm := raise_calm ..
  have hbanks : t.banks = (withBank b k' s).banks := banks_of_calm hcalm
  have hget : t.banks.banks[b]? = some k' := (congrArg (·.banks[b]?) hbanks).trans (withBank_get hk k')
  have hexec : exec (.ownerHandoverEffect b) s = .next (settleWaiting b t) := by
    simp only [exec, execOwnerHandoverEffect, bank_of_get hk, hn, ha, modBank_of_get hk]
    rfl
  rw [settleWaiting_of_idle hget hw] at hexec
  exact ⟨t, hexec, calm_of_withBank hcalm, congrArg (·.mem) hbanks, congrArg (·.banks) hbanks⟩

theorem execOwnerHandoverEffect_of_none (hn : k.handover = none) : exec (.ownerHandoverEffect b) s = .next s := by
  simp only [exec, execOwnerHandoverEffect, bank_of_get hk, hn]
  cases s.alive <;> rfl

end

end Sys2Proof.Machine
end

section
/-! SUPPORT. ECC errors, the scrubber, and collisions in the mailbox (O59). -/
namespace Sys2Proof.Machine
open Sys2Proof

/-! ### Corrected errors -/

/-- A bank's record after one corrected error of a row (R636, R643). -/
def BankState.counted (k : BankState) (row : Nat) : BankState :=
  { k with corrected := satAdd 16 k.corrected 1, rows := assocSet row ((assocGet row k.rows).getD 0 + 1) k.rows }

section
variable {s : State} {b row : Nat} {k : BankState} (hk : s.banks.banks[b]? = some k)

theorem exec_eccCorrected_of_alive (ha : s.alive = true) (hb : b < 24) (hr : row < 512) :
    exec (.eccCorrected b row) s = .next (eccOnce b row s) := by
  simp [exec, execEccCorrected, ha, hb, hr]

/-- The scrubber corrects what it finds in a row, one by one (R637). -/
theorem exec_scrub_of_alive (ha : s.alive = true) (hb : b < 24) (hr : row < 512) (ht : s.testing b = false) (found : Nat) :
    exec (.scrub b row found) s = .next (Nat.repeat (eccOnce b row) found s) := by
  simp [exec, execScrub, ha, hb, hr, ht]

/-- A bank under test is skipped (R637). -/
theorem exec_scrub_of_testing (ht : s.testing b = true) (found : Nat) : exec (.scrub b row found) s = .next s := by
  simp [exec, execScrub, ht]

include hk

/-- A corrected error is counted for its bank and row. -/
theorem modBank_counted : modBank b (fun j =>
    { j with corrected := satAdd 16 j.corrected 1,
             rows := assocSet row ((assocGet row k.rows).getD 0 + 1) j.rows }) s = withBank b (k.counted row) s :=
  modBank_of_get hk _

theorem eccOnce_below (hn : (assocGet row k.rows).getD 0 + 1 < 16) :
    eccOnce b row s = raise 0x06 0 7 (b + 256 * row) [] (withBank b (k.counted row) s) := by
  simp only [eccOnce, bank_of_get hk, if_neg (Nat.ne_of_lt hn), modBank_counted hk]

/-- The sixteenth error of a row marks it (R643). -/
theorem eccOnce_sixteenth (hn : (assocGet row k.rows).getD 0 + 1 = 16) (hm : k.marked.contains row = false) :
    (eccOnce b row s).calm = (withBank b { k.counted row with marked := k.marked ++ [row] } s).calm := by
  let u := raise 0x06 0 7 (b + 256 * row) [] (withBank b (k.counted row) s)
  have hu : u.calm = (withBank b (k.counted row) s).calm := raise_calm ..
  have hget : u.banks.banks[b]? = some (k.counted row) :=
    (congrArg (·.banks[b]?) (banks_of_calm hu)).trans (withBank_get hk (k.counted row))
  have he : eccOnce b row s = raise 0xDE 0 7 (b + 256 * row) []
      (modBank b (fun j => { j with marked := if j.marked.contains row then j.marked else j.marked ++ [row] }) u) := by
    simp only [eccOnce, bank_of_get hk, if_pos hn, modBank_counted hk]
    rfl
  clear_value u
  have hm' : (k.counted row).marked.contains row = false := hm
  have hcalm : (eccOnce b row s).calm = (withBank b { k.counted row with marked := k.marked ++ [row] } u).calm := by
    rw [he, raise_calm, modBank_of_get hget, hm']
    rfl
  rw [hcalm, withBank_calm, hu, ← withBank_calm, withBank_withBank]

end

/-! ### Uncorrectable errors -/

section
variable {s : State} {b row : Nat}

/-- A HOLLOW fault's consequence once its event is raised (R107, R108). -/
theorem hollowFault_raised {t : State} (hy : t.sys = s.sys) (hp : t.param = s.param)
    (h : s.sys.mode = .standby ∨ s.sys.mode = .run ∨ s.sys.mode = .service) (src : Nat) :
    (hollowFault src t).sys.mode = .hollow ∧ (hollowFault src t).sys.hollowFault = true ∧
      (hollowFault src t).param.applied = s.param.applied := by
  obtain ⟨hm, hf⟩ := hollowFault_sys (s := t) (hy ▸ h) src
  exact ⟨hm, hf, (congrArg Quiet.applied (hollowFault_quiet ..)).trans (congrArg ParamState.applied hp)⟩

theorem alive_of_arrayOn (h : s.arrayOn = true) : s.alive = true := by
  simp only [State.arrayOn, State.ac0On, Bool.and_eq_true] at h
  exact h.1.1.1.1

/-- An uncorrectable error of the estimator's banks or of the operand stores is a HOLLOW fault (R108, R638). -/
theorem exec_eccUncorrectable_hollow (hon : s.arrayOn = true)
    (hm : s.sys.mode = .standby ∨ s.sys.mode = .run ∨ s.sys.mode = .service) (hr : row < 512) (hb : 12 ≤ b ∧ b < 18 ∨ b = 24) :
    ∃ t, exec (.eccUncorrectable b row) s = .next t ∧ t.sys.mode = .hollow ∧ t.sys.hollowFault = true ∧
      t.param.applied = s.param.applied := by
  have ha := alive_of_arrayOn hon
  rcases hb with ⟨h1, h2⟩ | rfl
  · let u := raise 0x07 0 7 (b + 256 * row) [] (modBank b (fun k => { k with uncorrectable := satAdd 16 k.uncorrectable 1 }) s)
    have hu : u.sys = s.sys ∧ u.param = s.param := ⟨raise_sys .., raise_param ..⟩
    have hne : u.sys.mode ≠ .start := by rw [hu.1]; rcases hm with h | h | h <;> simp [h]
    have hs : startRecord u = u := by simp [startRecord, hne]
    have he : exec (.eccUncorrectable b row) s = .next (hollowFault 0x07 u) := by
      have hlost : bankLost 0x07 b u = hollowFault 0x07 u := by
        rw [bankLost, if_neg (by omega), if_pos h2, hs]
      rw [← hlost]
      simp [exec, execEccUncorrectable, operandStores, ha, show b ≠ 24 by omega, show b < 24 by omega, hr, u]
    exact ⟨_, he, hollowFault_raised hu.1 hu.2 hm _⟩
  · refine ⟨hollowFault 0x07 (raise 0x07 0 0 0 [] s), ?_, hollowFault_raised (raise_sys ..) (raise_param ..) hm _⟩
    simp [exec, execEccUncorrectable, operandStores, ha, hon]

variable {k : BankState} (hk : s.banks.banks[b]? = some k) (ha : s.alive = true) (hb : b < 24) (hr : row < 512)
include hk ha hb hr

/-- The error is counted and reported before its consequence. -/
theorem exec_eccUncorrectable_of_bank : exec (.eccUncorrectable b row) s = .next (bankLost 0x07 b (raise 0x07 0 7 (b + 256 * row) []
    (withBank b { k with uncorrectable := satAdd 16 k.uncorrectable 1 } s))) := by
  rw [← modBank_of_get hk (fun k => { k with uncorrectable := satAdd 16 k.uncorrectable 1 })]
  simp [exec, execEccUncorrectable, operandStores, ha, show b ≠ 24 by omega, hb, hr]

/-- One of a running code bank, or of bank 20 and above, resets the module (R638). -/
theorem exec_eccUncorrectable_reset (h : 20 ≤ b ∨ (b < 12 ∧ k.running = true)) :
    ∃ t, exec (.eccUncorrectable b row) s = .next t ∧ t.sys.held = some 0x07 ∧ t.param.applied = s.param.applied := by
  rw [exec_eccUncorrectable_of_bank hk ha hb hr]
  let k' : BankState := { k with uncorrectable := satAdd 16 k.uncorrectable 1 }
  let u := raise 0x07 0 7 (b + 256 * row) [] (withBank b k' s)
  have hget : u.banks.banks[b]? = some k' := (congrArg (·.banks[b]?) (raise_banks ..)).trans (withBank_get hk k')
  have hlost : bankLost 0x07 b u = resetModule 0x07 u := by
    rcases h with h | ⟨h, hrun⟩
    · rw [bankLost, if_neg (by omega), if_neg (by omega), if_neg (by omega)]
    · rw [bankLost, if_pos h, if_pos (by rw [bank_of_get hget]; exact hrun)]
  exact ⟨_, congrArg Host.Outcome.next hlost, rfl,
    (resetModule_applied 0x07 u).trans (congrArg ParamState.applied (raise_param ..))⟩

/-- One of a code bank that does not run makes the bank unusable (R638). -/
theorem exec_eccUncorrectable_unusable (h : b < 12) (hrun : k.running = false) :
    ∃ t, exec (.eccUncorrectable b row) s = .next t ∧
      t.calm = (withBank b { k with uncorrectable := satAdd 16 k.uncorrectable 1, unusable := true } s).calm := by
  rw [exec_eccUncorrectable_of_bank hk ha hb hr]
  let k' : BankState := { k with uncorrectable := satAdd 16 k.uncorrectable 1 }
  let u := raise 0x07 0 7 (b + 256 * row) [] (withBank b k' s)
  have hu : u.calm = (withBank b k' s).calm := raise_calm ..
  have hget : u.banks.banks[b]? = some k' := (congrArg (·.banks[b]?) (raise_banks ..)).trans (withBank_get hk k')
  have hlost : bankLost 0x07 b u = withBank b { k' with unusable := true } u := by
    rw [bankLost, if_pos h, if_neg (by rw [bank_of_get hget]; simp [k', hrun]), modBank_of_get hget]
  refine ⟨_, congrArg Host.Outcome.next hlost, ?_⟩
  rw [withBank_calm, hu, ← withBank_calm, withBank_withBank]

end

end Sys2Proof.Machine
end

section
/-! SUPPORT. Loops held on an uncorrectable error, and collisions in the mailbox (O59). -/
namespace Sys2Proof.Machine
open Sys2Proof

/-! ### Loops that are held -/

/-- A loop that is off or held does not run. -/
def LoopState.Rests (l : LoopState) : Prop := l.mode = .off ∨ l.mode = .hold

/-- One loop of `holdAllLoops`: it is held with its last output, unless it is off (R638). -/
def restLoop (s : State) (n : Nat) : State :=
  if (s.loopOf n).mode = .off then s
  else setLoopMode n .hold (modLoop n (fun l => { l with manual := l.uPrev, preset := false }) s)

theorem holdAllLoops_eq (s : State) : holdAllLoops s = traceDisarm ((List.range 32).foldl restLoop s) := rfl

theorem setLoopMode_loops (n : Nat) (m : LoopMode) (s : State) :
    (setLoopMode n m s).loop.loops = modAt s.loop.loops n (fun l => { l with mode := m, commanded := none }) := by
  unfold setLoopMode
  split
  next h => rw [modAt_none _ h]
  next => dsimp only; split <;> simp

theorem traceDisarm_loops (s : State) : (traceDisarm s).loop.loops = s.loop.loops := by
  unfold traceDisarm
  extract_lets t x y
  have hx : x.loop.loops = s.loop.loops := by simp only [x]; split <;> rfl
  have hy : y.loop.loops = s.loop.loops := hx
  split
  · split
    · exact (congrArg (·.loops) (complete_loop ..)).trans hy
    · exact hy
  · exact hy

theorem traceDisarm_sys (s : State) : (traceDisarm s).sys = s.sys := by
  unfold traceDisarm
  extract_lets t x y
  have hx : x.sys = s.sys := by simp only [x]; split <;> rfl
  have hy : y.sys = s.sys := hx
  split
  · split
    · exact (complete_sys ..).trans hy
    · exact hy
  · exact hy

theorem restLoop_sys (s : State) (n : Nat) : (restLoop s n).sys = s.sys := by
  unfold restLoop
  split
  · rfl
  · exact sys_of_schedule (by simp)

/-- The loop itself rests then, and every other one is as before. -/
theorem restLoop_rests (s : State) {n i : Nat} {l : LoopState} (hl : (restLoop s n).loop.loops[i]? = some l)
    (h : i = n ∨ ∀ l, s.loop.loops[i]? = some l → l.Rests) : l.Rests := by
  unfold restLoop at hl
  split at hl
  next hoff =>
    rcases h with rfl | h
    · left
      simpa [State.loopOf, List.getD_eq_getElem?_getD, hl] using hoff
    · exact h l hl
  next =>
    rw [setLoopMode_loops] at hl
    by_cases hi : i = n
    · subst hi
      simp only [modAt_get_self, Option.map_eq_some_iff] at hl
      obtain ⟨l', -, rfl⟩ := hl
      exact .inr rfl
    · rw [modAt_get_ne _ _ (Ne.symm hi)] at hl
      have hl' : (modAt s.loop.loops n (fun l => { l with manual := l.uPrev, preset := false }))[i]? = some l := hl
      rw [modAt_get_ne _ _ (Ne.symm hi)] at hl'
      exact (h.resolve_left hi) l hl'

theorem restLoop_length (s : State) (n : Nat) : (restLoop s n).loop.loops.length = s.loop.loops.length := by
  unfold restLoop
  split
  · rfl
  · rw [setLoopMode_loops, modAt_length]
    exact modAt_length ..

theorem foldl_restLoop_rests (ns : List Nat) (s : State) {i : Nat} (h : i ∈ ns ∨ ∀ l, s.loop.loops[i]? = some l → l.Rests)
    (l : LoopState) (hl : (ns.foldl restLoop s).loop.loops[i]? = some l) : l.Rests := by
  induction ns generalizing s with
  | nil => exact h.elim (fun h => absurd h List.not_mem_nil) fun h => h l hl
  | cons n ns ih =>
    refine ih (restLoop s n) ?_ hl
    rcases h with h | h
    · rcases List.mem_cons.mp h with rfl | h
      · exact .inr fun l hl => restLoop_rests s hl (.inl rfl)
      · exact .inl h
    · exact .inr fun l hl => restLoop_rests s hl (.inr h)

/-- After an uncorrectable error of the loops' banks none of the 32 loops runs (R638). -/
theorem holdAllLoops_rests {s : State} (h : s.loop.loops.length = 32) : ∀ l ∈ (holdAllLoops s).loop.loops, l.Rests := by
  intro l hl
  rw [holdAllLoops_eq, traceDisarm_loops] at hl
  obtain ⟨i, hi, hget⟩ := List.getElem_of_mem hl
  have hlen : ((List.range 32).foldl restLoop s).loop.loops.length = s.loop.loops.length :=
    foldl_field (fun s => s.loop.loops.length) restLoop_length _ s
  exact foldl_restLoop_rests (List.range 32) s (.inl (List.mem_range.mpr (by omega))) l (List.getElem?_eq_some_iff.mpr ⟨hi, hget⟩)

theorem holdAllLoops_sys (s : State) : (holdAllLoops s).sys = s.sys := by
  rw [holdAllLoops_eq, traceDisarm_sys]
  exact foldl_field State.sys restLoop_sys _ s

theorem exec_eccUncorrectable_loops {s : State} {b row : Nat} {k : BankState} (hk : s.banks.banks[b]? = some k)
    (ha : s.alive = true) (hr : row < 512) (h18 : 18 ≤ b) (h20 : b < 20) (hlen : s.loop.loops.length = 32) :
    ∃ t, exec (.eccUncorrectable b row) s = .next t ∧ t.sys = s.sys ∧ ∀ l ∈ t.loop.loops, l.mode = .off ∨ l.mode = .hold := by
  rw [exec_eccUncorrectable_of_bank hk ha (by omega) hr]
  let u := raise 0x07 0 7 (b + 256 * row) [] (withBank b { k with uncorrectable := satAdd 16 k.uncorrectable 1 } s)
  have hlost : bankLost 0x07 b u = holdAllLoops u := by
    rw [bankLost, if_neg (by omega), if_neg (by omega), if_pos h20]
  exact ⟨_, congrArg Host.Outcome.next hlost, (holdAllLoops_sys u).trans (raise_sys ..),
    holdAllLoops_rests ((congrArg List.length (raise_loops ..)).trans hlen)⟩

/-! ### Collisions in the mailbox -/

/-- The state after a collision that leaves the host's data alone, before its event (R635). -/
def collided (s : State) (later hold : Bool) : State :=
  { s with banks := { s.banks with collisions := modAt s.banks.collisions (if later then 6 else 0) (fun n => satAdd 32 n 1) },
           port := if later && hold then { s.port with collided := true } else s.port }

section
variable {s : State} (ha : s.alive = true) {off : Nat} (ho : off < 524288) (later : Bool)
include ha ho

theorem exec_mailboxCollision_of_write (core : Bool) : exec (.mailboxCollision off later false core) s =
    .next (raise 0xDA 0 7 (20 + off / bankBytes + 256 * (off % bankBytes / 512)) [BitVec.ofNat 8 (if later then 6 else 0)]
      (collided s later true)) := by
  simp only [exec, execMailboxCollision, ha, ho]
  cases later <;> rfl

/-- A read that meets a read is counted and told only. -/
theorem exec_mailboxCollision_of_reads : exec (.mailboxCollision off later true true) s =
    .next (raise 0xDA 0 7 (20 + off / bankBytes + 256 * (off % bankBytes / 512)) [BitVec.ofNat 8 (if later then 6 else 0)]
      (collided s later false)) := by
  simp only [exec, execMailboxCollision, ha, ho]
  cases later <;> rfl

end

end Sys2Proof.Machine
end

section
/-! SUPPORT. The end of a March test, and the accesses to the banks (O59). -/
namespace Sys2Proof.Machine
open Sys2Proof

/-! ### Rows to repair -/

theorem eraseDups_sublist : ∀ l : List Nat, l.eraseDups.Sublist l
  | [] => by simp
  | a :: l => by
    rw [List.eraseDups_cons]
    exact ((eraseDups_sublist _).trans List.filter_sublist).cons_cons a
termination_by l => l.length
decreasing_by exact Nat.lt_succ_of_le (List.length_filter_le ..)

/-- With rows enough, every failing row is repaired (R642). -/
theorem repairable_of_not_beyond {s : State} {bad : List (Nat × Nat)} {b : Nat} (h : s.beyondRepair bad b = false) :
    (s.bank b).repairable (badRows bad b) = badRows bad b := by
  have hlen : ¬ ((s.bank b).repairable (badRows bad b)).length < (badRows bad b).length := of_decide_eq_false h
  exact ((List.take_sublist ..).trans ((eraseDups_sublist _).trans List.filter_sublist)).eq_of_length_le (not_lt.mp hlen)

/-! ### One bank's part -/

/-- A bank's part of a finished test, before its events (R642, R644). -/
def bankTested (bad : List (Nat × Nat)) (wipe : Bool) (b : Nat) (s : State) : State :=
  let fix := (s.bank b).repairable (badRows bad b)
  modBank b (fun k => { k with repaired := k.repaired ++ fix, unusable := k.unusable || s.beyondRepair bad b,
                               marked := k.marked.filter (fun r => !fix.contains r) })
    (if wipe then { s with banks := { s.banks with mem := Memory.clearBank s.banks.mem b } } else s)

theorem marchBank_calm (bad : List (Nat × Nat)) (wipe : Bool) (b : Nat) (s : State) :
    (marchBank bad wipe b s).2.calm = (bankTested bad wipe b s).calm := by
  unfold marchBank
  extract_lets rows fix beyond _ x y z w
  have hz : z.calm = y.calm := by
    simp only [z]
    split
    · exact raise_calm ..
    · exact foldl_field State.calm (fun _ _ => raise_calm ..) _ _
  have hw : w.calm = z.calm := by
    simp only [w]
    split
    · exact raise_calm ..
    · rfl
  exact hw.trans hz

section
variable (bad : List (Nat × Nat)) (wipe : Bool) (b : Nat) (s : State)

theorem marchBank_banks : (marchBank bad wipe b s).2.banks = (bankTested bad wipe b s).banks :=
  banks_of_calm (marchBank_calm bad wipe b s)

theorem bankTested_sys : (bankTested bad wipe b s).sys = s.sys := by unfold bankTested; cases wipe <;> rfl
theorem bankTested_param : (bankTested bad wipe b s).param = s.param := by unfold bankTested; cases wipe <;> rfl
theorem bankTested_march : (bankTested bad wipe b s).banks.march = s.banks.march := by unfold bankTested; cases wipe <;> rfl

theorem bankTested_length : (bankTested bad wipe b s).banks.banks.length = s.banks.banks.length := by
  unfold bankTested
  cases wipe <;> exact modAt_length ..

theorem bankTested_bank_ne {j : Nat} (h : j ≠ b) : (bankTested bad wipe b s).bank j = s.bank j := by
  unfold bankTested State.bank
  cases wipe <;> simp [modBank, List.getD_eq_getElem?_getD, modAt_get_ne _ _ (Ne.symm h)]

theorem bankTested_repaired (h : b < s.banks.banks.length) : ((bankTested bad wipe b s).bank b).repaired =
    (s.bank b).repaired ++ (s.bank b).repairable (badRows bad b) := by
  obtain ⟨k, hk⟩ : ∃ k, s.banks.banks[b]? = some k := ⟨_, List.getElem?_eq_getElem h⟩
  unfold bankTested
  cases wipe <;> simp [modBank, State.bank, List.getD_eq_getElem?_getD, hk]

theorem bankTested_read {j off : Nat} (h : off < bankBytes) : Memory.read (bankTested bad wipe b s).banks.mem (bankAddr j off) =
    if j = b ∧ wipe = true then 0 else Memory.read s.banks.mem (bankAddr j off) := by
  cases wipe with
  | false => simp [bankTested, modBank]
  | true =>
    refine (read_clearBank ..).trans ?_
    simp [bankAddr_div h]

end

/-! ### The whole test -/

/-- The banks of a test one after another. -/
def banksTested (bad : List (Nat × Nat)) (wipe : Bool) (s : State) (ns : List Nat) : State :=
  ns.foldl (fun s b => (marchBank bad wipe b s).2) s

section
variable (bad : List (Nat × Nat)) (wipe : Bool)

theorem marchBank_sys (b : Nat) (s : State) : (marchBank bad wipe b s).2.sys = s.sys :=
  (congrArg Schedule.sys (schedule_of_calm (marchBank_calm bad wipe b s))).trans (bankTested_sys bad wipe b s)

theorem marchBank_param (b : Nat) (s : State) : (marchBank bad wipe b s).2.param = s.param :=
  (congrArg Schedule.param (schedule_of_calm (marchBank_calm bad wipe b s))).trans (bankTested_param bad wipe b s)

theorem banksTested_sys (ns : List Nat) (s : State) : (banksTested bad wipe s ns).sys = s.sys :=
  foldl_field State.sys (fun s b => marchBank_sys bad wipe b s) ns s

theorem banksTested_param (ns : List Nat) (s : State) : (banksTested bad wipe s ns).param = s.param :=
  foldl_field State.param (fun s b => marchBank_param bad wipe b s) ns s

theorem banksTested_march (ns : List Nat) (s : State) : (banksTested bad wipe s ns).banks.march = s.banks.march :=
  foldl_field (·.banks.march)
    (fun s b => (congrArg BanksState.march (marchBank_banks bad wipe b s)).trans (bankTested_march ..)) ns s

theorem marchBank_bank (b j : Nat) (s : State) : ((marchBank bad wipe b s).2.bank j) = (bankTested bad wipe b s).bank j :=
  congrArg (·.banks.getD j { owner := 0xF }) (marchBank_banks bad wipe b s)

/-- A bank that the test does not name is as before. -/
theorem banksTested_bank_of_notMem {ns : List Nat} {j : Nat} (h : j ∉ ns) (s : State) :
    (banksTested bad wipe s ns).bank j = s.bank j := by
  induction ns generalizing s with
  | nil => rfl
  | cons b ns ih =>
    rw [List.mem_cons, not_or] at h
    exact (ih h.2 _).trans ((marchBank_bank ..).trans (bankTested_bank_ne _ _ _ _ h.1))

/-- One that it names has its rows repaired (R642). -/
theorem banksTested_repaired {ns : List Nat} {j : Nat} (h : j ∈ ns) (hn : ns.Nodup) (s : State)
    (hlen : j < s.banks.banks.length) : ((banksTested bad wipe s ns).bank j).repaired =
      (s.bank j).repaired ++ (s.bank j).repairable (badRows bad j) := by
  induction ns generalizing s with
  | nil => exact absurd h List.not_mem_nil
  | cons b ns ih =>
    obtain ⟨hb, hns⟩ := List.nodup_cons.mp hn
    rcases List.mem_cons.mp h with rfl | h
    · refine (congrArg BankState.repaired (banksTested_bank_of_notMem bad wipe hb _)).trans ?_
      rw [marchBank_bank, bankTested_repaired _ _ _ _ hlen]
    · have hne : j ≠ b := fun he => hb (he ▸ h)
      have hj : (marchBank bad wipe b s).2.bank j = s.bank j := (marchBank_bank ..).trans (bankTested_bank_ne _ _ _ _ hne)
      have hlen' : j < (marchBank bad wipe b s).2.banks.banks.length := by
        rw [marchBank_banks, bankTested_length]
        exact hlen
      exact (ih h hns _ hlen').trans (by rw [hj])

/-- A destructive test leaves 0 in the banks it names, and no other byte changes (R644). -/
theorem banksTested_read {off : Nat} (hoff : off < bankBytes) (ns : List Nat) (j : Nat) (s : State) :
    Memory.read (banksTested bad wipe s ns).banks.mem (bankAddr j off) =
      if j ∈ ns ∧ wipe = true then 0 else Memory.read s.banks.mem (bankAddr j off) := by
  induction ns generalizing s with
  | nil => simp [banksTested]
  | cons b ns ih =>
    refine (ih _).trans ?_
    rw [marchBank_banks, bankTested_read _ _ _ _ hoff]
    by_cases hw : wipe = true
    · by_cases hj : j = b <;> simp [hw, hj]
    · simp [hw]

/-- One bank's part of the notification, and the state (R642, R644). -/
def marchEntry (a : List Byte × State) (b : Nat) : List Byte × State :=
  (a.1 ++ (marchBank bad wipe b a.2).1, (marchBank bad wipe b a.2).2)

theorem foldl_marchEntry_snd (ns : List Nat) (q : List Byte × State) :
    (ns.foldl (marchEntry bad wipe) q).2 = banksTested bad wipe q.2 ns := by
  induction ns generalizing q with
  | nil => rfl
  | cons b ns ih => exact ih _

end

/-- The banks that a test names. -/
def MarchJob.named (j : MarchJob) : List Nat := (List.range 24).filter (maskHas j.mask)

/-- The state in which a test's end begins. -/
def marchEnded (s : State) : State := { s with banks := { s.banks with march := none } }

theorem exec_marchTestComplete_of_march {s : State} {bad : List (Nat × Nat)} {j : MarchJob} (ha : s.alive = true)
    (hj : s.banks.march = some j) (hb : ∀ b, b < 24 → s.beyondRepair bad b = false) :
    exec (.marchTestComplete bad) s = .next (complete j.by' opMarch stOk noDetail
      ([BitVec.ofNat 8 j.named.length, 0, 0, 0] ++ (j.named.foldl (marchEntry bad (!j.preserving)) ([], marchEnded s)).1)
      (banksTested bad (!j.preserving) (marchEnded s) j.named)) := by
  have hlost : ((List.range 24).filter (maskHas j.mask)).filter (s.beyondRepair bad) = [] := by
    rw [List.filter_eq_nil_iff]
    intro b hmem
    rw [hb b (List.mem_range.mp (List.mem_of_mem_filter hmem))]
    decide
  rw [← foldl_marchEntry_snd bad (!j.preserving) j.named ([], marchEnded s)]
  simp only [exec, execMarchTestComplete, hj, ha, hlost, List.foldl_nil]
  rfl

theorem exec_marchTestComplete_of_none {s : State} (h : s.banks.march = none) (bad : List (Nat × Nat)) :
    exec (.marchTestComplete bad) s = .next s := by
  simp [exec, execMarchTestComplete, h]

end Sys2Proof.Machine
end

section
/-! SUPPORT. Bank accesses, one command after another (O59). -/
namespace Sys2Proof.Machine
open Sys2Proof

/-- A corrected error, the scrubber's pass and an uncorrectable error in one row of a bank (R636 to R638, R643). -/
theorem rowErrors {s : State} {b row : Nat} {k : BankState} (ha : s.alive = true) (hb : b < 24) (hk : s.banks.banks[b]? = some k)
    (hr : row < 512) :
    let n := (assocGet row k.rows).getD 0 + 1
    (n < 16 → exec (.eccCorrected b row) s = .next (raise 0x06 0 7 (b + 256 * row) [] (withBank b (k.counted row) s))) ∧
    (n = 16 → k.marked.contains row = false → ∃ t, exec (.eccCorrected b row) s = .next t ∧
      t.calm = { s with banks := t.banks }.calm ∧
      t.banks = (withBank b { k.counted row with marked := k.marked ++ [row] } s).banks) ∧
    (∀ found, s.testing b = true → exec (.scrub b row found) s = .next s) ∧
    (s.testing b = false → exec (.scrub b row 1) s = exec (.eccCorrected b row) s ∧ exec (.scrub b row 0) s = .next s) ∧
    (20 ≤ b ∨ (b < 12 ∧ k.running = true) → ∃ t, exec (.eccUncorrectable b row) s = .next t ∧ t.sys.held = some 0x07 ∧
      t.param.applied = s.param.applied) ∧
    (b < 12 → k.running = false → ∃ t, exec (.eccUncorrectable b row) s = .next t ∧ t.calm = { s with banks := t.banks }.calm ∧
      t.banks = (withBank b { k with uncorrectable := satAdd 16 k.uncorrectable 1, unusable := true } s).banks) ∧
    (18 ≤ b → b < 20 → s.loop.loops.length = 32 → ∃ t, exec (.eccUncorrectable b row) s = .next t ∧ t.sys = s.sys ∧
      ∀ l ∈ t.loop.loops, l.mode = .off ∨ l.mode = .hold) := by
  have he := exec_eccCorrected_of_alive (b := b) ha hb hr
  refine ⟨fun hn => he.trans (congrArg Host.Outcome.next (eccOnce_below hk hn)), fun hn hm => ?_,
    fun found ht => exec_scrub_of_testing ht found, fun ht => ⟨?_, ?_⟩, exec_eccUncorrectable_reset hk ha hb hr,
    fun h12 hrun => ?_, exec_eccUncorrectable_loops hk ha hr⟩
  · have hc := eccOnce_sixteenth hk hn hm
    exact ⟨_, he, calm_of_withBank hc, banks_of_calm hc⟩
  · rw [exec_scrub_of_alive ha hb hr ht, he]
    rfl
  · exact exec_scrub_of_alive ha hb hr ht 0
  · obtain ⟨t, ht, hc⟩ := exec_eccUncorrectable_unusable hk ha hb hr h12 hrun
    exact ⟨t, ht, calm_of_withBank hc, banks_of_calm hc⟩

/-- The end of a March test without a bank beyond repair: its rows are repaired, and a destructive one leaves 0 (R642, R644). -/
theorem marchTestEnds {s : State} {bad : List (Nat × Nat)} {j : MarchJob} (ha : s.alive = true) (hj : s.banks.march = some j)
    (hlen : s.banks.banks.length = 24) (hb : ∀ b, b < 24 → s.beyondRepair bad b = false) :
    ∃ t, exec (.marchTestComplete bad) s = .next t ∧ t.banks.march = none ∧ t.sys = s.sys ∧ t.param = s.param ∧
      (∀ b, b < 24 → (t.bank b).repaired = if maskHas j.mask b then (s.bank b).repaired ++ badRows bad b else (s.bank b).repaired) ∧
      ∀ b off, b < 24 → off < bankBytes → Memory.read t.banks.mem (bankAddr b off) =
        if maskHas j.mask b ∧ j.preserving = false then 0 else Memory.read s.banks.mem (bankAddr b off) := by
  have hnamed (b : Nat) (h : b < 24) : b ∈ j.named ↔ maskHas j.mask b = true := by simp [MarchJob.named, h]
  have hlt {b : Nat} (h : b < 24) : b < (marchEnded s).banks.banks.length := Nat.lt_of_lt_of_eq h hlen.symm
  let u := banksTested bad (!j.preserving) (marchEnded s) j.named
  refine ⟨_, exec_marchTestComplete_of_march ha hj hb, ?_, ?_, ?_, fun b h24 => ?_, fun b off h24 hoff => ?_⟩
  · exact (congrArg BanksState.march (complete_banks ..)).trans (banksTested_march ..)
  · exact (complete_sys ..).trans (banksTested_sys ..)
  · exact (complete_param ..).trans (banksTested_param ..)
  · have hbank (r : List Byte) : (complete j.by' opMarch stOk noDetail r u).bank b = u.bank b :=
      congrArg (·.banks.getD b { owner := 0xF }) (complete_banks ..)
    rw [hbank]
    by_cases hin : maskHas j.mask b = true
    · rw [if_pos hin, banksTested_repaired _ _ ((hnamed b h24).mpr hin) (List.nodup_range.filter _) _ (hlt h24)]
      exact congrArg _ (repairable_of_not_beyond (hb b h24))
    · rw [if_neg hin, banksTested_bank_of_notMem _ _ (mt (hnamed b h24).mp hin)]
      rfl
  · rw [complete_banks, banksTested_read _ _ hoff]
    simp only [hnamed b h24, Bool.not_eq_true']
    rfl

/-- Settles O59: writes and owner words, handovers, errors row by row, masters without power, collisions and the March test. -/
theorem bankAccesses : Obligations.BankAccesses := by
  unfold Obligations.BankAccesses
  refine ⟨fun s m b off l k ha hm hb hk hlen hwf => ⟨fun hfit hr hp ho => ?_, execBankWrite_conflict ha hm hb hk, rfl,
      fun w => execBankOwnerWrite_accepted ha hm hb hk, fun w => execBankOwnerWrite_conflict ha hm hb hk,
      fun n => execOwnerHandoverEffect_of_idle hk ha, execOwnerHandoverEffect_of_none hk, fun row hr => rowErrors ha hb hk hr⟩,
    fun s m b off l w hm => exec_of_unpowered hm b off l w, fun s b row hon hm hr hb => exec_eccUncorrectable_hollow hon hm hr hb,
    fun s off later ha ho core => ?_, fun s off later ha ho => ?_,
    fun s bad ha => ⟨fun h => exec_marchTestComplete_of_none h bad, fun j hj hlen hb => marchTestEnds ha hj hlen hb⟩⟩
  · exact ⟨_, execBankWrite_stores ha hm hb hk hfit hr hp ho, rfl, read_writeAll hwf (bankAddr b off) l⟩
  · refine ⟨_, exec_mailboxCollision_of_write ha ho later core, raise_sys .., raise_param .., ?_, ?_, ?_⟩
    · rw [raise_banks]; rfl
    · rw [raise_banks]; rfl
    · rw [raise_port]; cases later <;> rfl
  · refine ⟨_, exec_mailboxCollision_of_reads ha ho later, ?_, raise_free .., ?_⟩
    · rw [raise_port]; cases later <;> rfl
    · rw [raise_banks]; rfl

end Sys2Proof.Machine
end

section
/-! SUPPORT. One step of the queue (O1), and what the host reads from the port (O24). -/
namespace Sys2Proof.Machine
open Sys2Proof

/-! ### The queue -/

theorem step_cons (c : Instr) (l : List Instr) (s : State) :
    step { s with pending := c :: l } = exec c { s with pending := l } := rfl

theorem step_of_idle {s : State} (h : s.pending = []) : step s = .next s := by
  simp [step, h]

/-- Settles O1, from the front of the queue and the empty queue. -/
theorem stepRunsFront : Obligations.StepRunsFront := by
  unfold Obligations.StepRunsFront
  exact ⟨step_cons, fun _ => step_of_idle⟩

/-! ### PACKET_READ (R138, R139, R146) -/

/-- The packet a reset waits for, by its fields (R162). -/
theorem PendingReset.waitsFor_iff (r : PendingReset) (p : Port) (k : OutPacket) :
    r.waitsFor p k = true ↔ r.port = p ∧ r.opcode = k.opcode ∧ r.tag.toNat = k.tag ∧ r.isReply = k.isReply := by
  simp [PendingReset.waitsFor, and_assoc]

/-- The oldest packet leaves its slot, which goes to the oldest that waits, and a reset that waits for it need wait no longer. -/
theorem consumePacket_eq {s : State} {k : OutPacket} {l : List OutPacket} (h : s.port.out.slots = k :: l) :
    consumePacket k s = { s with
      sys := { s.sys with pendingReset := s.sys.pendingReset.map (fun r =>
        if r.port = .spi ∧ r.opcode = k.opcode ∧ r.tag.toNat = k.tag ∧ r.isReply = k.isReply then { r with read := true }
        else r) },
      port := { s.port with out := { s.port.out with
        slots := l ++ s.port.out.waiting.take (32 - l.length), waiting := s.port.out.waiting.drop (32 - l.length),
        noteUnread := s.port.out.noteUnread && k.opcode != opNotifyDropped } } } := by
  simp only [consumePacket, packetGone, PendingReset.waitsFor_iff, refillSlots, modPort, State.outOf, State.setOut,
    State.outSlots, h, List.drop_one, List.tail_cons]

section
variable {s : State} (hup : s.portUp = true)
include hup

theorem exec_packetRead_of_empty (h : s.port.out.slots = []) (n : Nat) : exec (.packetRead n) s =
    .next { s with port := { s.port with mbxAt := none, collided := false, shifted := List.replicate n 0 } } := by
  simp only [exec, execPacketRead, hup, beginSpi, modPort, h]
  rfl

/-- A read too short for the oldest packet leaves it unread. -/
theorem exec_packetRead_of_short {k : OutPacket} {l : List OutPacket} (h : s.port.out.slots = k :: l) {n : Nat}
    (hn : n < k.bytes.length) : exec (.packetRead n) s =
      .next { s with port := { s.port with mbxAt := none, collided := false, shifted := k.bytes.take n } } := by
  have hsub : n - k.bytes.length = 0 := by omega
  simp only [exec, execPacketRead, hup, beginSpi, modPort, h, hsub, freeBytes, Nat.not_le.mpr hn, List.range_zero, List.map_nil,
    List.append_nil]
  rfl

/-- A read of all its bytes consumes it; the bytes clocked beyond are open. -/
theorem exec_packetRead_of_whole {k : OutPacket} {l : List OutPacket} (h : s.port.out.slots = k :: l) {n : Nat}
    (hn : k.bytes.length ≤ n) : exec (.packetRead n) s =
      .next (consumePacket k { s with
        free := s.free + (n - k.bytes.length),
        port := { s.port with mbxAt := none, collided := false,
                              shifted := k.bytes ++ (freeBytes (n - k.bytes.length) s).1 } }) := by
  simp only [exec, execPacketRead, hup, beginSpi, modPort, h, hn, if_true, List.take_of_length_le hn]
  rfl

/-! ### MBX_READ and unknown instructions (R142) -/

theorem exec_mbxRead_of_up {off : Nat} (h : off < 2 ^ 24) (n : Nat) : exec (.mbxRead off n) s =
    .next { s with free := s.free + n,
                   port := { s.port with mbxAt := some off, collided := false,
                                         shifted := (List.range n).map (fun i => (beginSpi s).mailboxByte off i) } } := by
  simp only [exec, execMbxRead, hup, h]
  rfl

theorem exec_spiUnknownInstruction_of_up {code : Byte} (h : code.toNat % 128 ∉ [0x01, 0x05, 0x0A, 0x0B, 0x0C]) :
    exec (.spiUnknownInstruction code) s = .next (framingError (beginSpi s)) := by
  have hc : [0x01, 0x05, 0x0A, 0x0B, 0x0C].contains (code.toNat % 128) = false := by simpa using h
  simp only [exec, execSpiUnknownInstruction, hup, hc]
  rfl

end

/-- A listed byte of banks 20 and 21 is read as it stands. -/
theorem mailboxByte_of_listed {s : State} {off i : Nat} (h : off + i < 2 * bankBytes)
    (hb : Memory.read s.banks.mem (bankAddr 20 (off + i)) ≠ Memory.blank) :
    s.mailboxByte off i = Memory.read s.banks.mem (bankAddr 20 (off + i)) :=
  if_pos ⟨h, hb⟩

theorem length_freeBytes (n : Nat) (s : State) : (freeBytes n s).1.length = n := by
  simp [freeBytes]

/-- Settles O24: the reads of an empty port, of a part of a packet and of a whole one, then the mailbox and the rest. -/
theorem packetsRead : Obligations.PacketsRead := by
  unfold Obligations.PacketsRead
  refine fun s hup => ⟨exec_packetRead_of_empty hup, fun k l h => ⟨fun n => exec_packetRead_of_short hup h, fun n hn => ?_⟩,
    fun off n hoff => ?_, fun _ hc => exec_spiUnknownInstruction_of_up hup hc⟩
  · refine ⟨_, (exec_packetRead_of_whole hup h hn).trans (congrArg _ (consumePacket_eq (by exact h))), List.take_left, ?_, rfl⟩
    rw [List.length_append, length_freeBytes]
    omega
  · refine ⟨_, exec_mbxRead_of_up hup hoff n, rfl, by simp, fun i hi hin hb => ?_⟩
    have hbyte : (beginSpi s).mailboxByte off i = _ := mailboxByte_of_listed hin hb
    refine (List.getElem?_map ..).trans ?_
    rw [List.getElem?_range hi]
    exact congrArg some hbyte

end Sys2Proof.Machine
end

section
/-! SUPPORT. Segments of commands (O26): what a reassembly does with a segment, and how a packet enters Q2. -/
namespace Sys2Proof.Machine
open Sys2Proof

/-- A field that lies in the first part of two is that of the part. -/
theorem field_append {a : List Byte} {off k : Nat} (h : off + k ≤ a.length) (b : List Byte) :
    field (a ++ b) off k = field a off k := by
  have hoff : off ≤ a.length := by omega
  have hk : k ≤ (a.drop off).length := by rw [List.length_drop]; omega
  rw [field, field, List.drop_append_of_le_length hoff, List.take_append_of_le_length hk]

/-! ### Reassembly (R153, R154) -/

/-- The reply to a packet abandoned with its header complete. -/
def badLengthReply (b : List Byte) (s : State) : State :=
  reply .can (field b 0 2) (BitVec.ofNat 16 (field b 2 2)) stBadLength noDetail [] (setReasm {} s)

theorem badLengthReply_append {b : List Byte} (h : 12 ≤ b.length) (data : List Byte) (s : State) :
    badLengthReply (b ++ data) s = badLengthReply b s := by
  simp only [badLengthReply, field_append (show 0 + 2 ≤ b.length by omega), field_append (show 2 + 2 ≤ b.length by omega)]

theorem abandonPacket_of_header {s : State} (ha : s.port.reasm.active = true) (hh : 12 ≤ s.port.reasm.bytes.length) :
    abandonPacket s = badLengthReply s.port.reasm.bytes s := by
  simp [abandonPacket, badLengthReply, ha, hh]

theorem abandonPacket_of_idle {s : State} (h : s.port.reasm.active = false) : abandonPacket s = setReasm {} s := by
  simp [abandonPacket, h]

/-- A packet whole with its first segment is posted, once its header CRC and its length hold (checks 2 and 3 of R140). -/
theorem takeSegment_of_single {s : State} {data : List Byte} (hb : s.port.reasm.bytes = [])
    (hcrc : field data 10 2 = crc16 (data.take 10)) (hlen : field data 6 2 ≤ 4096) :
    takeSegment true false data s = postCanCmd data (setReasm {} s) := by
  simp [takeSegment, hb, headerOk, hcrc, Nat.not_lt.mpr hlen]

/-- Past the header, a segment in its turn abandons the packet, ends it or is added. -/
theorem takeSegment_of_header {s : State} (h : 12 ≤ s.port.reasm.bytes.length) (last short : Bool) (data : List Byte) :
    takeSegment last short data s =
      if short then badLengthReply s.port.reasm.bytes s
      else if last then postCanCmd (s.port.reasm.bytes ++ data) (setReasm {} s)
      else setReasm { bytes := s.port.reasm.bytes ++ data, next := (s.port.reasm.next + 1) % 64, active := true } s := by
  have habandon (n : Nat) : abandonPacket (setReasm { bytes := s.port.reasm.bytes ++ data, next := n, active := true } s) =
      badLengthReply s.port.reasm.bytes s := by
    rw [abandonPacket_of_header rfl (by simp [setReasm]; omega)]
    exact badLengthReply_append h data s
  simp [takeSegment, Nat.not_lt.mpr h, habandon]

/-- A whole packet enters Q2 in its turn, where Q2 has room (check 4 of R140). -/
theorem postCanCmd_of_room {s : State} {b : List Byte} (hl : 12 ≤ b.length) (hq : s.port.q2.length < s.qDepth 2) :
    postCanCmd b s = { s with port := { s.port with
      arrived := s.port.arrived + 1,
      q2 := s.port.q2 ++ [{ parseCmd .can b with arrival := s.port.arrived, stamp := s.time.now }] } } := by
  have hqueue : (parseCmd .can b).queue = 2 := rfl
  have hroom : ¬ s.qDepth 2 ≤ (s.port.queueOf 2).length := Nat.not_le.mpr hq
  simp only [postCanCmd, if_neg (Nat.not_lt.mpr hl), postCmd, hqueue, if_neg hroom]
  rfl

/-! ### CAN_CMD_SEGMENT and CAN_REASSEMBLY_TIMEOUT -/

section
variable {s : State} (ht : s.transport .can = true) (hup : s.canUp s.cmdCh = true)
include ht hup

/-- A packet in one segment. -/
theorem exec_canCmdSegment_single {data : List Byte} (ha : s.port.reasm.active = false)
    (hcrc : field data 10 2 = crc16 (data.take 10)) (hlen : field data 6 2 ≤ 4096) :
    exec (.canCmdSegment (0xC0 :: data)) s =
      .next (drain (postCanCmd data (setReasm {} (ackRx s.cmdCh 0 (0xC0 :: data) s)))) := by
  have hseg := takeSegment_of_single (s := setReasm { active := true } (setReasm {} (ackRx s.cmdCh 0 (0xC0 :: data) s)))
    rfl hcrc hlen
  have hidle : abandonPacket (ackRx s.cmdCh 0 (0xC0 :: data) s) = setReasm {} (ackRx s.cmdCh 0 (0xC0 :: data) s) :=
    abandonPacket_of_idle ha
  have hfirst : (0xC0 : Byte).getLsbD 7 = true := by decide
  have hlast : (0xC0 : Byte).getLsbD 6 = true := by decide
  simp only [exec, execCanCmdSegment, ht, hup, hfirst, hlast, hidle, if_true]
  exact congrArg (fun t => Host.Outcome.next (drain t)) hseg

variable {h : Byte} {data : List Byte} (ha : s.port.reasm.active = true) (hf : h.getLsbD 7 = false)
include ha hf

/-- A segment that continues a packet is taken in its turn, and abandons the packet out of it. -/
theorem exec_canCmdSegment_continues : exec (.canCmdSegment (h :: data)) s =
    .next (if h.toNat % 64 = s.port.reasm.next then
        drain (takeSegment (h.getLsbD 6)
          (!h.getLsbD 6 && decide (data.length + 1 < if s.canMode s.cmdCh = 2 then 64 else 8)) data
          (ackRx s.cmdCh 0 (h :: data) s))
      else abandonPacket (ackRx s.cmdCh 0 (h :: data) s)) := by
  have hreasm : (ackRx s.cmdCh 0 (h :: data) s).port.reasm = s.port.reasm := rfl
  simp only [exec, execCanCmdSegment, ht, hup, hf, hreasm, ha, Bool.false_eq_true, if_false]
  by_cases hn : h.toNat % 64 = s.port.reasm.next
  · have hturn := bne_eq_false_iff_eq.mpr hn
    simp only [hturn, Bool.or_false, if_pos hn]
    rfl
  · have hstray := bne_iff_ne.mpr hn
    simp only [hstray, if_neg hn]
    rfl

end

theorem exec_canReassemblyTimeout_of_active {s : State} (h : s.port.reasm.active = true) :
    exec .canReassemblyTimeout s = .next (abandonPacket s) := by
  simp [exec, execCanReassemblyTimeout, h]

/-- Settles O26: a packet in one segment, a segment in its turn by its three outcomes, and the two ways a packet is abandoned. -/
theorem canCommandSegments : Obligations.CanCommandSegments := by
  unfold Obligations.CanCommandSegments
  intro s h data ht hup hq
  dsimp only
  have hpost {b : List Byte} (hl : 12 ≤ b.length) :=
    postCanCmd_of_room (s := setReasm {} (ackRx s.cmdCh 0 (h :: data) s)) hl hq
  refine ⟨fun hc0 ha hl hcrc hlen => ?_, fun ha hh hf => ?_⟩
  · subst hc0
    rw [exec_canCmdSegment_single ht hup ha hcrc hlen, hpost hl]
    rfl
  have hseg := takeSegment_of_header (s := ackRx s.cmdCh 0 (h :: data) s) hh
  rw [exec_canCmdSegment_continues ht hup ha hf, exec_canReassemblyTimeout_of_active ha]
  refine ⟨fun hn => ?_, fun hn => ?_, congrArg Host.Outcome.next (abandonPacket_of_header ha hh)⟩
  · rw [if_pos hn, hseg]
    refine ⟨fun h6 hfull => ?_, fun h6 hshort => ?_, fun h6 => ?_⟩
    · simp only [h6, Nat.not_lt.mpr hfull]
      rfl
    · simp only [h6, hshort]
      rfl
    · have hlen : 12 ≤ (s.port.reasm.bytes ++ data).length := by rw [List.length_append]; omega
      simp only [h6]
      exact congrArg (fun t => Host.Outcome.next (drain t)) (hpost hlen)
  · rw [if_neg hn]
    exact congrArg Host.Outcome.next (abandonPacket_of_header ha hh)

end Sys2Proof.Machine
end

section
/-! SUPPORT. CONNECT_STRANDS and DISCONNECT_STRANDS (O13). -/
namespace Sys2Proof.Machine
open Sys2Proof

theorem toDisconnect_of_hv {s t : State} (h : t.hv = s.hv) (m : Nat) : t.toDisconnect m = s.toDisconnect m := by
  simp only [State.toDisconnect, State.connected, State.strandHv, h]

/-- The job that a DISCONNECT_STRANDS leaves for its weld checks (R161). -/
def disconnectJob (m : Nat) (by' : Requester) (s : State) : DisconnectJob :=
  ⟨by', s.toDisconnect m, (List.range 4).map (fun k => if m.testBit k then 0 else 1)⟩

/-- The state in which the strands of a disconnection open: its job waits. -/
def withDisconnect (m : Nat) (by' : Requester) (s : State) : State :=
  { s with hv := { s.hv with disconnects := s.hv.disconnects ++ [disconnectJob m by' s] } }

theorem disconnect_of_nil {s : State} {m : Nat} (h : s.toDisconnect m = []) (by' : Requester) : (disconnect m by' s).1 = s := by
  simp [disconnect, h]

theorem disconnect_of_ne_nil {s : State} {m : Nat} (h : s.toDisconnect m ≠ []) (by' : Requester) : (disconnect m by' s).1 =
    (s.toDisconnect m).foldl (fun s k => enqueueWeld k (openStrand k s)) (withDisconnect m by' s) := by
  simp [disconnect, h, withDisconnect, disconnectJob]

section
variable {s : State} {pl : List Byte} {m : Nat} (hl : pl.length = 4) (hm : s.strandMask pl = some m)
include hl hm

theorem exec_connectStrands_of_serves (h : s.serves 0x0110 [.run] = true) (p : Port) (tag : Half) :
    exec (.connectStrands p tag pl) s =
      .next (if s.connectRefused m = true then reply p 0x0110 tag stNotPermitted noDetail [] s
             else if s.hv.connect.isSome = true ∨ s.hv.welds ≠ [] then reply p 0x0110 tag stBusy noDetail [] s
             else startConnect m (some (.packet p tag)) (reply p 0x0110 tag stAccepted noDetail [] s)) := by
  refine (congrArg Host.Outcome.next (hostRow_of_serves h (ok := fun pl => pl.length == 4) (by simpa using hl) _ p tag)).trans ?_
  have hbusy : (s.hv.connect.isSome || !s.hv.welds.isEmpty) = true ↔ s.hv.connect.isSome = true ∨ s.hv.welds ≠ [] := by simp
  simp only [hm, hbusy]
  rfl

theorem exec_disconnectStrands_of_serves (h : s.serves 0x0111 modesFive = true) (p : Port) (tag : Half) :
    exec (.disconnectStrands p tag pl) s = .next (disconnect m (.packet p tag)
      (reply p 0x0111 tag (if s.toDisconnect m = [] then stOk else stAccepted) noDetail [] s)).1 := by
  refine (congrArg Host.Outcome.next (hostRow_of_serves h (ok := fun pl => pl.length == 4) (by simpa using hl) _ p tag)).trans ?_
  simp only [hm, List.isEmpty_iff]
  rfl

end

/-- Settles O13: a served connection by its three answers, a served disconnection by what it finds to open. -/
theorem strandRequests : Obligations.StrandRequests := by
  unfold Obligations.StrandRequests
  refine fun s p tag pl m hl hm => ⟨fun h => exec_connectStrands_of_serves hl hm h p tag, fun h => ⟨fun hd => ?_, fun hd => ?_⟩⟩
  all_goals
    have he := exec_disconnectStrands_of_serves hl hm h p tag
    have hr (st : Nat) := toDisconnect_of_hv (reply_hv p 0x0111 tag st noDetail [] s) m
  · rw [if_pos hd, disconnect_of_nil ((hr _).trans hd)] at he
    exact he
  · rw [if_neg hd, disconnect_of_ne_nil (by rwa [hr]), hr] at he
    refine ⟨_, he, reply_sys .., reply_guard .., ?_, ?_, ?_⟩
    all_goals simp only [withDisconnect, disconnectJob, hr, reply_hv]

end Sys2Proof.Machine
end

section
/-! SUPPORT. Staging, apply, discard, unlock and subscription of a served command (O14). -/
namespace Sys2Proof.Machine
open Sys2Proof

theorem firstFault_of_forall {α : Type} {f : α → Option Nat} {l : List α} (h : ∀ a ∈ l, f a = none) (i : Nat) :
    firstFault f i l = none := by
  induction l generalizing i with
  | nil => rfl
  | cons a l ih =>
    rw [List.forall_mem_cons] at h
    simp [firstFault, h.1, ih h.2]

section
variable {s : State} {p : Port} (tag : Half) {pl : List Byte}

/-! ### STAGE_PARAM (R170 to R173) -/

/-- The parameters after a transport has staged records without fault. -/
def ParamState.taking (q : ParamState) (p : Port) (rs : List RawRecord) : ParamState :=
  { q with shadow := enterShadow rs q.shadow,
           owner := if q.owner = none ∧ rs.any (·.staged) = true then some p else q.owner,
           immediate := q.immediate ++ (rs.filter (·.immediate)).map (fun r => (r.id, r.val)) }

theorem exec_stageParam_of_serves (h : s.serves 0x0310 modesAll = true) (hlo : 4 ≤ pl.length) (hhi : pl.length ≤ 4096)
    (hpend : s.param.pendingApply = none) (hfor : s.foreign p = false)
    (hrs : ∀ r ∈ parseRecords 1024 pl, r.id / 256 ≠ 0x0C ∧ s.stageFault r = none)
    (hroom : ∀ i, i < (parseRecords 1024 pl).length →
      (enterShadow ((parseRecords 1024 pl).take (i + 1)) s.param.shadow).length ≤ 1024) :
    exec (.stageParam p tag pl) s =
      .next (reply p 0x0310 tag stOk noDetail [] { s with param := s.param.taking p (parseRecords 1024 pl) }) := by
  have hguarded : (parseRecords 1024 pl).findIdx? (fun r => r.id / 256 == 0x0C) = none := by
    rw [List.findIdx?_eq_none_iff]
    exact fun r hr => beq_false_of_ne (hrs r hr).1
  have hfault : firstFault s.stageFault 0 (parseRecords 1024 pl) = none :=
    firstFault_of_forall (fun r hr => (hrs r hr).2) 0
  have hfit : (List.range (parseRecords 1024 pl).length).find?
      (fun i => decide (1024 < (enterShadow ((parseRecords 1024 pl).take (i + 1)) s.param.shadow).length)) = none := by
    rw [List.find?_eq_none]
    exact fun i hi => by simpa using hroom i (List.mem_range.mp hi)
  refine (congrArg Host.Outcome.next (hostRow_of_serves h (ok := fun pl => 4 ≤ pl.length && pl.length ≤ 4096)
    (by simp [hlo, hhi]) _ p tag)).trans ?_
  simp only [hpend, hfor, hguarded, hfault, hfit, Option.map_none, ite_self, Option.isNone_iff_eq_none, Bool.and_eq_true,
    ParamState.taking]
  rfl

/-! ### FORD_APPLY and DISCARD_STAGE (R176, R177, R180) -/

/-- The apply that waits after a FORD_APPLY without an instant (R176, R178). -/
def plainApply (p : Port) (tag : Half) (q : ParamState) : PendingApply :=
  { instant := 0, port := p, tag := tag, service := q.stages isService, guarded := q.stages (fun id => id / 256 == 0x0C) }

/-- An apply without an instant and a digest is refused for an empty set and a pending apply only. -/
theorem fordRefused_of_plain (hs : s.param.shadow ≠ []) (hpend : s.param.pendingApply = none) : s.fordRefused 0 0 = none := by
  simp [State.fordRefused, hs, hpend]

theorem exec_fordApply_of_serves (h : s.serves 0x0312 modesAll = true) (hfor : s.foreign p = false) (hs : s.param.shadow ≠ [])
    (hpend : s.param.pendingApply = none) (hv : s.stageViolations = [])
    (h15 : s.r15 (s.param.stages isService) (s.param.stages (fun id => id / 256 == 0x0C)) = none) :
    exec (.fordApply p tag (List.replicate 12 0)) s = .next { reply p 0x0312 tag stAccepted noDetail [] s with
      param := { s.param with pendingApply := some (plainApply p tag s.param) } } := by
  have hinstant : field (List.replicate 12 0) 0 8 = 0 := rfl
  have hdigest : field (List.replicate 12 0) 8 4 = 0 := rfl
  refine (congrArg Host.Outcome.next (hostRow_of_serves h (ok := fun pl => pl.length == 12) rfl _ p tag)).trans ?_
  simp only [hfor, hinstant, hdigest, fordRefused_of_plain hs hpend, hv, h15, modParam, reply_param]
  rfl

theorem applyFrozen_of_none (hpend : s.param.pendingApply = none) : s.applyFrozen = false := by
  simp [State.applyFrozen, State.applyDue, hpend]

theorem exec_discardStage_of_serves (h : s.serves 0x0313 modesAll = true) (hfor : s.foreign p = false)
    (hpend : s.param.pendingApply = none) : exec (.discardStage p tag [0, 0, 0, 0]) s =
      .next (reply p 0x0313 tag stOk noDetail [] { s with param := { s.param with shadow := [], owner := none } }) := by
  have hnoForce : (field [0, 0, 0, 0] 0 1 == 1) = false := rfl
  have hrange : ¬ (1 < field [0, 0, 0, 0] 0 1 ∨ zeros (([0, 0, 0, 0] : List Byte).drop 1) = false) := by decide
  refine (congrArg Host.Outcome.next (hostRow_of_serves h (ok := fun pl => pl.length == 4) rfl _ p tag)).trans ?_
  simp only [if_neg hrange, hnoForce, hfor, Bool.false_and, Bool.false_eq_true, if_false, applyFrozen_of_none hpend, hpend,
    modParam]
  rfl

/-! ### UNLOCK_SAFETY_SET (R181) -/

/-- A well-formed password outside a block unlocks, or counts as wrong. -/
theorem exec_unlockSafetySet_of_serves (h : s.serves 0x0320 [.service] = true) (hlo : 14 ≤ pl.length) (hhi : pl.length ≤ 24)
    (hl : pl.length = 8 + field pl 0 1) (hz : field pl 1 3 = 0) (hpw : ∀ b ∈ pl.drop 8, 0x21 ≤ b.toNat ∧ b.toNat ≤ 0x7E)
    (hb : s.param.blockEnd ≤ s.time.opSec) : exec (.unlockSafetySet p tag pl) s =
      .next (if s.param.get passwordId = .str (pl.drop 8) then
          reply p 0x0320 tag stOk noDetail []
            (raise0 0xBB { s with param := { s.param with wrongCount := 0, unlocked := some (field pl 4 4) } })
        else
          reply p 0x0320 tag stLocked noDetail [] (raise0 0xBD { s with param := { s.param with
            wrongCount := s.param.wrongCount + 1,
            blockEnd := if 5 ≤ s.param.wrongCount + 1 then s.time.opSec + 600 else s.param.blockEnd } })) := by
  have hchars : (pl.drop 8).any (fun b => b.toNat < 0x21 || 0x7E < b.toNat) = false := by
    rw [List.any_eq_false]
    intro b hmem
    have := hpw b hmem
    simp
    omega
  refine (congrArg Host.Outcome.next (hostRow_of_serves h
    (ok := fun pl => 14 ≤ pl.length && pl.length ≤ 24 && pl.length == 8 + field pl 0 1) (by simp [hlo, hhi, ← hl])
    _ p tag)).trans ?_
  simp only [hz, hchars, Nat.not_lt.mpr hb]
  rfl

/-! ### SUBSCRIBE_POINTS (R167) -/

theorem exec_subscribePoints_of_serves (h : s.serves 0x0202 modesAll = true) (hl : pl.length = 8 + 4 * field pl 4 2)
    (hn : 1 ≤ field pl 4 2) (hn' : field pl 4 2 ≤ 256) (hnum : field pl 0 1 ≤ 15) (hz : field pl 1 1 = 0)
    (hz' : field pl 6 2 = 0) (hlo : 10 ≤ field pl 2 2) (hhi : field pl 2 2 ≤ 60000)
    (hids : ∀ id ∈ idList pl 8 (field pl 4 2), pointFault id = none) : exec (.subscribePoints p tag pl) s =
      .next (reply p 0x0202 tag stOk noDetail [] (s.setOut p { s.outOf p with
        subs := (s.outOf p).subs.filter (fun b => b.num != field pl 0 1) ++
          [{ num := field pl 0 1, period := field pl 2 2, points := idList pl 8 (field pl 4 2) }] })) := by
  have hok : ¬ (15 < field pl 0 1 ∨ field pl 1 1 ≠ 0 ∨ field pl 6 2 ≠ 0 ∨
      (field pl 2 2 ≠ 0 ∧ (field pl 2 2 < 10 ∨ 60000 < field pl 2 2 ∨ field pl 4 2 = 0))) := by omega
  have hperiod : ¬ field pl 2 2 = 0 := by omega
  refine (congrArg Host.Outcome.next (hostRow_of_serves h
    (ok := fun pl => 8 ≤ pl.length && field pl 4 2 ≤ 256 && pl.length == 8 + 4 * field pl 4 2) (by simp [hn', hl])
    _ p tag)).trans ?_
  simp only [if_neg hok, firstFault_of_forall hids 0, if_neg hperiod]
  rfl

end

/-- Settles O14, opcode by opcode. -/
theorem stagingRequests : Obligations.StagingRequests := by
  unfold Obligations.StagingRequests
  refine fun s p tag pl => ⟨exec_stageParam_of_serves tag, exec_fordApply_of_serves tag, exec_discardStage_of_serves tag,
    fun h hlo hhi hl hz hpw hb => ?_, exec_subscribePoints_of_serves tag⟩
  have he := exec_unlockSafetySet_of_serves (p := p) tag h hlo hhi hl hz hpw hb
  exact ⟨fun hright => he.trans (congrArg _ (if_pos hright)), fun hwrong => he.trans (congrArg _ (if_neg hwrong))⟩

end Sys2Proof.Machine
end

section
/-! SUPPORT. Flag lanes and their time-out (O39). -/
namespace Sys2Proof.Machine
open Sys2Proof

/-! ### The 16 bits of a lane, and its validity (R197, R199) -/

theorem decodeLane_checkOk (raw : Half) :
    (decodeLane raw).checkOk = true ↔ raw.toNat / 256 % 16 + raw.toNat / 4096 = 15 := by
  have hlt := raw.isLt
  simp only [decodeLane, bits, beq_iff_eq]
  omega

theorem decodeLane_addr (raw : Half) : (decodeLane raw).addr = raw.toNat / 8 % 32 := rfl

theorem decodeLane_counter (raw : Half) : (decodeLane raw).counter = raw.toNat % 8 := by simp [decodeLane, bits]

theorem GuardLane.accepts_iff {g : GuardLane} (ha : g.admitted = true) (l : Lane) :
    g.accepts l = true ↔ l.checkOk = true ∧ g.seen = false ∧
      ∀ c, g.counter = some c → l.counter % 8 = (c + 1) % 8 ∨ l.counter % 8 = (c + 2) % 8 := by
  cases hc : g.counter with
  | none => simp [GuardLane.accepts, ha, hc]
  | some c => simp [GuardLane.accepts, ha, hc, and_assoc, eq_comm (b := l.counter % 8)]

/-! ### One lane record -/

theorem modLane_of_get {s : State} {ring n : Nat} {ls : List GuardLane} {g : GuardLane}
    (hl : s.guard.lanes[ring]? = some ls) (hg : ls[n]? = some g) (f : GuardLane → GuardLane) :
    modLane ring n f s = { s with guard := { s.guard with lanes := setAt s.guard.lanes ring (setAt ls n (f g)) } } := by
  rw [modLane, modAt_eq_setAt _ hl, modAt_eq_setAt _ hg]

/-! ### FLAG_LANE and LANE_TIMEOUT -/

section
variable {s : State} {ring : Nat} {ls : List GuardLane} {g : GuardLane}
  (ha : s.alive = true) (he : s.evaluates = true) (hr : ring < 4) (hl : s.guard.lanes[ring]? = some ls) (hadm : g.admitted = true)
include ha hr hl hadm

include he in
theorem exec_flagLane_of_accepts {raw : Half} (hg : ls[(decodeLane raw).addr]? = some g) (h : g.accepts (decodeLane raw) = true) :
    exec (.flagLane ring raw) s = .next (judgeLanes ring (decodeLane raw).addr
      (modLane ring (decodeLane raw).addr (fun g => { g.take (decodeLane raw) with seen := true }) s)) := by
  have he' (f : GuardLane → GuardLane) : (modLane ring (decodeLane raw).addr f s).evaluates = true := he
  simp [exec, execFlagLane, hl, hg, ha, hadm, h, he', Nat.not_le.mpr hr]

theorem exec_flagLane_of_not_accepts {raw : Half} (hg : ls[(decodeLane raw).addr]? = some g)
    (h : g.accepts (decodeLane raw) = false) :
    exec (.flagLane ring raw) s = .next (modLane ring (decodeLane raw).addr (fun g => { g with seen := true }) s) := by
  simp [exec, execFlagLane, hl, hg, ha, hadm, h, Nat.not_le.mpr hr]

include he in
theorem exec_laneTimeout_of_admitted {n : Nat} (hg : ls[n]? = some g) (h : g.lost = false) :
    exec (.laneTimeout ring n) s = .next (judgeLanes ring n (modLane ring n (fun g => { g with lost := true }) s)) := by
  simp [exec, execLaneTimeout, hl, hg, ha, he, hadm, h, hr]

end

/-- Settles O39: the fields of a lane, when it is valid, and what a valid, an invalid and a missing lane do to its record. -/
theorem flagLanes : Obligations.FlagLanes := by
  unfold Obligations.FlagLanes
  refine fun s ring ls raw g => ⟨rfl, rfl, rfl, rfl, decodeLane_checkOk raw, decodeLane_addr raw, decodeLane_counter raw,
    fun ha he hr hl hg hadm => ⟨GuardLane.accepts_iff hadm _,
      fun h => ⟨_, exec_flagLane_of_accepts ha he hr hl hadm hg h, rfl, ?_⟩, fun h => ?_, fun h => ?_⟩⟩
  · rw [modLane_of_get hl hg]
    simp only [GuardLane.take, hadm]
  · rw [exec_flagLane_of_not_accepts ha hr hl hadm hg h, modLane_of_get hl hg]
  · rw [exec_laneTimeout_of_admitted ha he hr hl hadm hg h, modLane_of_get hl hg]

end Sys2Proof.Machine
end

section
/-! SUPPORT. March tests, open-wire tests and satellite commands on request (O16). -/
namespace Sys2Proof.Machine
open Sys2Proof

/-! ### Bytes of a payload -/

theorem leNat_leBytes (k n : Nat) : leNat (leBytes k n) = n % 256 ^ k := by
  induction k generalizing n with
  | zero => simp [leBytes, leNat, Nat.mod_one]
  | succ k ih => simp [leBytes, leNat, ih, Nat.pow_succ', Nat.mod_mul]

/-! ### MARCH_TEST (R644) -/

theorem exec_marchTest_of_serves {s : State} (h : s.serves 0x0701 [.service] = true) {mask : Nat} (h0 : 0 < mask)
    (hm : mask < 2 ^ 24) (hn : s.banks.march = none) (p : Port) (tag : Half) :
    exec (.marchTest p tag (leBytes 4 mask ++ [1, 0, 0, 0])) s =
      .next { reply p 0x0701 tag stAccepted noDetail [] s with
        banks := { s.banks with march := some { mask := mask, preserving := true, by' := .packet p tag } } } := by
  have hmask : field (leBytes 4 mask ++ [1, 0, 0, 0]) 0 4 = mask := by
    have : field (leBytes 4 mask ++ [1, 0, 0, 0]) 0 4 = leNat (leBytes 4 mask) := rfl
    rw [this, leNat_leBytes, Nat.mod_eq_of_lt (hm.trans (by decide))]
  have hmode : field (leBytes 4 mask ++ [1, 0, 0, 0]) 4 1 = 1 := rfl
  have hz : zeros ((leBytes 4 mask ++ [1, 0, 0, 0]).drop 5) = true := rfl
  have hok : ¬ (mask = 0 ∨ 2 ^ 24 ≤ mask ∨ 1 < 1 ∨ true = false) :=
    not_or.mpr ⟨h0.ne', not_or.mpr ⟨Nat.not_le.mpr hm, by decide⟩⟩
  refine (congrArg Host.Outcome.next (hostRow_of_serves h (ok := fun pl => pl.length == 8) rfl _ p tag)).trans ?_
  simp only [hmask, hmode, hz, if_neg hok, hn, reply_banks]
  rfl

/-! ### OPEN_WIRE_TEST and OW_PERIOD (R257, R262, R263) -/

theorem reply_owtJobs (p : Port) (op : Nat) (tag : Half) (st detail : Nat) (result : List Byte) (s : State) :
    (reply p op tag st detail result s).port.owtJobs = s.port.owtJobs := by
  cases p <;> simp only [reply, postKept, irq] <;> split <;> rfl

theorem filter_testBit_two_pow {k : Nat} (hk : k < 4) : (List.range 4).filter (fun i => (2 ^ k).testBit i) = [k] := by
  revert k
  decide

/-- The state in which the test of a served OPEN_WIRE_TEST starts: accepted, its requester waiting (R262). -/
def owtAccepted (p : Port) (tag : Half) (k : Nat) (s : State) : State :=
  { reply p 0x0703 tag stAccepted noDetail [] s with
    port := { (reply p 0x0703 tag stAccepted noDetail [] s).port with
      owtJobs := s.port.owtJobs ++ [{ by' := .packet p tag, strands := [k], reports := [] }] } }

section
variable {s : State} {k : Nat} (hk : k < 4) (hen : s.enabled k = true) (hn : (s.measOf k).owt = none)
include hk hen hn

theorem exec_openWireTest_of_serves (h : s.serves 0x0703 [.standby, .run, .service] = true) (p : Port) (tag : Half) :
    exec (.openWireTest p tag [BitVec.ofNat 8 (2 ^ k), 0, 0xFF, 0]) s =
      .next (startOwt k 0 (s.owtSats k 0xFF) (some (.packet p tag)) (owtAccepted p tag k s)) := by
  have hlt : 2 ^ k < 16 := Nat.pow_lt_pow_right (by omega) hk
  have hmask : field [BitVec.ofNat 8 (2 ^ k), 0, 0xFF, 0] 0 1 = 2 ^ k := by
    simp only [field, List.drop_zero, List.take_succ_cons, List.take_zero, leNat, BitVec.toNat_ofNat,
      Nat.mod_eq_of_lt (hlt.trans (by decide : 16 < 2 ^ 8)), Nat.mul_zero, Nat.add_zero]
  have hmode : field [BitVec.ofNat 8 (2 ^ k), 0, 0xFF, 0] 1 1 = 0 := rfl
  have hsat : field [BitVec.ofNat 8 (2 ^ k), 0, 0xFF, 0] 2 1 = 0xFF := rfl
  have hz : zeros ([BitVec.ofNat 8 (2 ^ k), 0, 0xFF, 0].drop 3) = true := rfl
  have hpos : 2 ^ k ≠ 0 := by positivity
  refine (congrArg Host.Outcome.next (hostRow_of_serves h (ok := fun pl => pl.length == 4) rfl _ p tag)).trans ?_
  simp only [hmask, hmode, hsat, hz, filter_testBit_two_pow hk, List.any_cons, List.any_nil, hen, hn, hpos, Nat.not_le.mpr hlt,
    reply_owtJobs]
  have hsats : (reply p 0x0703 tag stAccepted noDetail [] s).owtSats k 0xFF = s.owtSats k 0xFF := by
    simp only [State.owtSats, State.ring, reply_rings]
  rw [← hsats]
  rfl

theorem exec_owPeriod_of_due (hm : s.sys.mode = .standby ∨ s.sys.mode = .run ∨ s.sys.mode = .service) (hp : s.pn 0x060D ≠ 0) :
    exec (.owPeriod k) s = .next (startOwt k 0 (s.owtSats k 0xFF) none s) := by
  have hmode : (s.sys.mode == .standby || s.sys.mode == .run || s.sys.mode == .service) = true := by
    simpa [or_assoc] using hm
  simp only [exec, execOwPeriod, hmode, hen, hn, hk, bne_iff_ne.mpr hp]
  rfl

end

/-! ### SAT_COMMAND (R231) -/

theorem admitted_of_admittedSet {g : RingState} {n : Nat} (h : g.admittedSet.contains n = true) : (g.sat n).admitted = true := by
  simp only [RingState.admittedSet, List.contains_iff_mem, List.mem_filter, SatState.usable, Bool.and_eq_true] at h
  obtain ⟨_, hadm, _⟩ := h
  exact hadm

/-- A descriptor other than a plan enters a queue that has room (R43). -/
theorem postRing_of_room {s : State} {r : Nat} {d : RingDesc} (hp : d.purpose ≠ .plan)
    (h : (s.ring r).queue.length < s.qDepth (8 + r)) : postRing r d s =
      (s.modRing r (fun g => { g with queue := g.queue ++ [{ d with posted := s.time.now }] }), true) := by
  simp [postRing, hp, h]

/-- The payload of a SAT_COMMAND (R231). -/
def satCommandPayload (k : Nat) (addr code : Byte) (args : List Byte) : List Byte :=
  [BitVec.ofNat 8 k, 0, 0, 0, addr, code, 0, 0] ++ args ++ [0, 0, 0, 0]

section
variable (k : Nat) (addr code : Byte) {args : List Byte} (hl : args.length = 8)

theorem satCommandPayload_ring (hk : k < 4) : field (satCommandPayload k addr code args) 0 1 = k := by
  simp only [satCommandPayload, field, List.cons_append, List.drop_zero, List.take_succ_cons, List.take_zero, leNat,
    BitVec.toNat_ofNat]
  omega

include hl

theorem satCommandPayload_length : (satCommandPayload k addr code args).length = 20 := by simp [satCommandPayload, hl]

theorem satCommandPayload_args : ((satCommandPayload k addr code args).drop 8).take 8 = args := by
  rw [satCommandPayload, List.append_assoc, List.drop_left' (by rfl), List.take_left' hl]

theorem satCommandPayload_tail : (satCommandPayload k addr code args).drop 16 = [0, 0, 0, 0] := by
  rw [satCommandPayload, List.drop_left' (by simp [hl])]

end

/-- The descriptor that a SAT_COMMAND posts (R231). -/
def satCommandDesc (p : Port) (tag : Half) (addr code : Byte) (args : List Byte) (now : Nat) : RingDesc :=
  { purpose := .satCommand (.packet p tag), entries := [{ addr := addr.toNat, code := code.toNat, args := args }], posted := now }

theorem exec_satCommand_of_serves {s : State} {k : Nat} {addr code : Byte} {args : List Byte} (hk : k < 4)
    (h : s.serves 0x0901 [.service] = true) (hen : s.enabled k = true) (hadm : (s.ring k).admittedSet.contains addr.toNat = true)
    (hl : args.length = 8) (hres : satReserved code.toNat (field args 0 2) = false)
    (hroom : (s.ring k).queue.length < s.qDepth (8 + k)) (p : Port) (tag : Half) :
    exec (.satCommand p tag (satCommandPayload k addr code args)) s = .next (reply p 0x0901 tag stAccepted noDetail []
      (s.modRing k (fun g => { g with queue := g.queue ++ [satCommandDesc p tag addr code args s.time.now] }))) := by
  have hpost := postRing_of_room (d := satCommandDesc p tag addr code args 0) (by simp [satCommandDesc]) hroom
  have haddr : field (satCommandPayload k addr code args) 4 1 = addr.toNat := rfl
  have hcode : field (satCommandPayload k addr code args) 5 1 = code.toNat := rfl
  have hz : zeros (((satCommandPayload k addr code args).drop 1).take 3) = true := rfl
  have hz' : zeros [0, 0, 0, 0] = true := rfl
  refine (congrArg Host.Outcome.next (hostRow_of_serves h (ok := fun pl => pl.length == 20)
    (beq_iff_eq.mpr (satCommandPayload_length k addr code hl)) _ p tag)).trans ?_
  simp only [satCommandPayload_ring k addr code hk, haddr, hcode, satCommandPayload_args k addr code hl, hz,
    satCommandPayload_tail k addr code hl, hz', hen, admitted_of_admittedSet hadm, hres, Nat.not_le.mpr hk]
  exact congrArg (fun q : State × Bool => Host.Outcome.next
    (reply p 0x0901 tag (if q.2 = true then stAccepted else stQueueFull) noDetail [] q.1)) hpost

/-- Settles O16, request by request. -/
theorem testRequests : Obligations.TestRequests := by
  unfold Obligations.TestRequests
  refine fun s p tag => ⟨fun mask h h0 hm hn => exec_marchTest_of_serves h h0 hm hn p tag,
    fun k hk hen hn =>
      ⟨fun h => ⟨_, exec_openWireTest_of_serves hk hen hn h p tag, ?_, ?_, ?_, rfl⟩, exec_owPeriod_of_due hk hen hn⟩,
    fun k addr code args hk h hen hadm hl hres hroom => exec_satCommand_of_serves hk h hen hadm hl hres hroom p tag⟩
  · exact reply_meas ..
  · exact reply_rings ..
  · exact reply_bal ..

end Sys2Proof.Machine
end

section
/-! SUPPORT. One ring of the module: its record, the gap between frames, and the frames that leave the rest alone. -/
namespace Sys2Proof.Machine
open Sys2Proof

/-! ### The record of a ring -/

theorem modAt_modAt {α : Type} (l : List α) (i : Nat) (f f' : α → α) :
    modAt (modAt l i f) i f' = modAt l i (fun a => f' (f a)) := by
  induction l generalizing i with
  | nil => rfl
  | cons a l ih => cases i <;> simp [modAt, ih]

theorem modRing_modRing (s : State) (r : Nat) (f f' : RingState → RingState) :
    (s.modRing r f).modRing r f' = s.modRing r (fun g => f' (f g)) := by
  simp only [State.modRing, modAt_modAt]

section
variable {s : State} {r : Nat} {g : RingState} (hg : s.rings[r]? = some g)
include hg

theorem ring_of_get : s.ring r = g := by simp [State.ring, List.getD_eq_getElem?_getD, hg]

theorem modRing_get (f : RingState → RingState) : (s.modRing r f).rings[r]? = some (f g) := by simp [State.modRing, hg]

theorem modRing_congr {f f' : RingState → RingState} (h : f g = f' g) : s.modRing r f = s.modRing r f' := by
  simp only [State.modRing, modAt_eq_setAt _ hg, h]

theorem modRing_of_fixed {f : RingState → RingState} (h : f g = g) : s.modRing r f = s := by
  simp only [State.modRing, modAt_eq_setAt _ hg, h, setAt_of_get hg]

end

/-! ### The gap between frames (R214) -/

/-- A ring without its line, its requests and its satellites' registers: what the requests of a gap leave of it. -/
def RingState.still (g : RingState) : RingState :=
  { g with sent := [], frames := 0, frameCounter := 0, entryTag := 0, window := 0, stopAll := false, sleepReq := false,
           sats := g.sats.map (fun x => { x with regs := [] }) }

/-- Everything of a satellite but its registers is the same in rings that differ in their lines only. -/
theorem sat_of_still {x g : RingState} (h : x.still = g.still) {β : Type} (f : SatState → β)
    (hf : ∀ a, f { a with regs := [] } = f a) (i : Nat) : f (x.sat i) = f (g.sat i) := by
  have key (y : RingState) : f (y.sat i) = f (y.still.sat i) := by
    cases hy : y.sats[i]? with
    | none => simp [RingState.sat, RingState.still, List.getD_eq_getElem?_getD, hy]
    | some a => simp [RingState.sat, RingState.still, List.getD_eq_getElem?_getD, hy, hf]
  rw [key x, key g, h]

theorem usable_of_still {x g : RingState} (h : x.still = g.still) (i : Nat) : (x.sat i).usable = (g.sat i).usable :=
  sat_of_still h SatState.usable (fun _ => rfl) i

theorem admitted_of_still {x g : RingState} (h : x.still = g.still) (i : Nat) : (x.sat i).admitted = (g.sat i).admitted :=
  sat_of_still h SatState.admitted (fun _ => rfl) i

theorem onOut_of_still {x g : RingState} (h : x.still = g.still) (i : Nat) : x.onOut i = g.onOut i :=
  (congrArg (fun y => RingState.onOut y i) h :)

theorem op_of_still {x g : RingState} (h : x.still = g.still) : x.op = g.op := (congrArg RingState.op h :)

/-- A ring after an XFER_STOP_ALL request has left (R323). -/
def RingState.stopSent (g : RingState) : RingState := { g.broadcast 0x12 [] with stopAll := false }

/-- A ring after a SLEEP request has left (R226). -/
def RingState.sleepSent (g : RingState) : RingState :=
  { g.broadcast 0x30 (leBytes 2 g.sleepArg) with
    sleepReq := false, sats := g.sats.map (fun x => if x.reachable then { x with regs := setAt x.regs 5 g.sleepArg } else x) }

theorem stopSent_still (g : RingState) : g.stopSent.still = g.still := rfl

theorem sleepSent_still (g : RingState) : g.sleepSent.still = g.still := by
  have hregs : (fun x : SatState => { x with regs := [] }) ∘
      (fun x : SatState => if x.reachable then { x with regs := setAt x.regs 5 g.sleepArg } else x) =
      fun x => { x with regs := [] } := by
    funext x
    simp only [Function.comp]
    split <;> rfl
  simp only [RingState.still, RingState.sleepSent, RingState.broadcast, RingState.transmit, List.map_map, hregs]

section
variable {s : State} {r : Nat} {g : RingState} (hg : s.rings[r]? = some g)
include hg

/-- A gap changes the line and the registers of a ring, not what its master knows of it. -/
theorem ringGap_get : ∃ x, (ringGap r s).rings[r]? = some x ∧ x.still = g.still := by
  have hstop := modRing_get hg RingState.stopSent
  unfold ringGap
  dsimp only
  split
  · exact ⟨g, hg, rfl⟩
  · split <;> split
    · exact ⟨_, modRing_get hstop RingState.sleepSent, sleepSent_still _⟩
    · exact ⟨_, modRing_get hg RingState.sleepSent, sleepSent_still _⟩
    · exact ⟨_, hstop, stopSent_still _⟩
    · exact ⟨g, hg, rfl⟩

theorem ringGap_of_no_request (hstop : g.stopAll = false) (hsleep : g.sleepReq = false) : ringGap r s = s := by
  simp [ringGap, ring_of_get hg, hstop, hsleep]

end

theorem ringGap_param (r : Nat) (s : State) : (ringGap r s).param = s.param := congrArg Schedule.param (ringGap_schedule s r)

/-! ### Phase and operation of the rings -/

/-- Phase and operation of every ring. -/
def State.ringOps (s : State) : List (RingPhase × RingOp) := s.rings.map (fun g => (g.phase, g.op))

theorem ringOps_of_rings {s t : State} (h : t.rings = s.rings) : t.ringOps = s.ringOps := by rw [State.ringOps, h, State.ringOps]

theorem modRing_ringOps (s : State) (r : Nat) {f : RingState → RingState}
    (hf : ∀ g, (f g).phase = g.phase ∧ (f g).op = g.op) : (s.modRing r f).ringOps = s.ringOps := by
  suffices ∀ l : List RingState, (modAt l r f).map (fun g => (g.phase, g.op)) = l.map (fun g => (g.phase, g.op)) from this s.rings
  intro l
  induction l generalizing r with
  | nil => rfl
  | cons g l ih => cases r <;> simp [modAt, ih, hf]

theorem ite_ringOps (c : Prop) [Decidable c] (s t : State) :
    (if c then s else t).ringOps = if c then s.ringOps else t.ringOps := apply_ite _ _ _ _

section
variable (s : State)

/-! Contactors leave the rings alone. -/

@[simp] theorem commandOn_rings (x : Nat) : (commandOn x s).rings = s.rings := by unfold commandOn; split <;> rfl
@[simp] theorem commandOff_rings (x : Nat) : (commandOff x s).rings = s.rings := by unfold commandOff; split <;> rfl
@[simp] theorem commandStrandOff_rings (k : Nat) : (commandStrandOff k s).rings = s.rings := by simp [commandStrandOff]
@[simp] theorem enqueueWeld_rings (k : Nat) : (enqueueWeld k s).rings = s.rings := by unfold enqueueWeld; split <;> rfl
@[simp] theorem connectNext_rings (l res : List Nat) (by' : Option Requester) : (connectNext l res by' s).rings = s.rings := by
  induction l generalizing res s with
  | nil => cases by' <;> simp [connectNext]
  | cons k l ih =>
    unfold connectNext
    split
    · exact ih _ _
    · split
      · exact (ih _ _).trans (note_rings ..)
      · dsimp only
        split <;> simp
@[simp] theorem connectAbort_rings (q : ConnectSeq) : (connectAbort q s).rings = s.rings := by simp [connectAbort, connectFail]
@[simp] theorem openStrand_rings (k : Nat) : (openStrand k s).rings = s.rings := by
  unfold openStrand
  dsimp only
  split
  · split
    · simp
    · split <;> simp
  · split <;> simp

/-! What only reports, judges a strand, writes to the line, or ends transfers, keeps phase and operation. -/

@[simp] theorem modMeas_ringOps (k : Nat) (f : MeasState → MeasState) : (s.modMeas k f).ringOps = s.ringOps := rfl
@[simp] theorem modBal_ringOps (k : Nat) (f : BalState → BalState) : (s.modBal k f).ringOps = s.ringOps := rfl
@[simp] theorem raiseStrand_ringOps (src k : Nat) : (raiseStrand src k s).ringOps = s.ringOps :=
  ringOps_of_rings (raiseStrand_rings ..)
@[simp] theorem ringGap_ringOps (r : Nat) : (ringGap r s).ringOps = s.ringOps := by
  have hsleep (t : State) := modRing_ringOps t r (f := RingState.sleepSent) fun _ => ⟨rfl, rfl⟩
  have hstop := modRing_ringOps s r (f := RingState.stopSent) fun _ => ⟨rfl, rfl⟩
  unfold ringGap
  dsimp only
  split
  · rfl
  · split <;> split
    · exact (hsleep _).trans hstop
    · exact hsleep _
    · exact hstop
    · rfl
@[simp] theorem askGap_ringOps (r : Nat) : (askGap r s).ringOps = s.ringOps := by unfold askGap; split <;> simp
@[simp] theorem askStopAll_ringOps (r : Nat) : (askStopAll r s).ringOps = s.ringOps :=
  (askGap_ringOps ..).trans (modRing_ringOps _ _ fun _ => ⟨rfl, rfl⟩)
@[simp] theorem endTransfers_ringOps (k : Nat) : (endTransfers k s).ringOps = s.ringOps := by
  have hkeep := modRing_ringOps s k (f := fun g =>
    { g with queue := g.queue.filterMap (·.withoutStarts), kept := g.kept.filterMap (·.withoutStarts) }) fun _ => ⟨rfl, rfl⟩
  simp only [endTransfers, modMeas_ringOps, modBal_ringOps, askStopAll_ringOps, hkeep]
@[simp] theorem stopTransfers_ringOps (k : Nat) : (stopTransfers k s).ringOps = s.ringOps := by
  simp only [stopTransfers, modMeas_ringOps, modBal_ringOps, endTransfers_ringOps, ite_ringOps, raiseStrand_ringOps, ite_self]
@[simp] theorem tripStrand_ringOps (k b : Nat) (byGuard : Bool) : (tripStrand k b byGuard s).ringOps = s.ringOps :=
  (stopTransfers_ringOps ..).trans (ringOps_of_rings (openStrand_rings ..))
@[simp] theorem causeOff_ringOps (k b : Nat) : (causeOff k b s).ringOps = s.ringOps := rfl
@[simp] theorem updateIncomplete_ringOps (r : Nat) : (updateIncomplete r s).ringOps = s.ringOps := by
  simp only [updateIncomplete, ite_ringOps, stopTransfers_ringOps, ite_self]
  rfl
@[simp] theorem writeAdmitted_ringOps (r : Nat) : (writeAdmitted r s).ringOps = s.ringOps := by
  simp only [writeAdmitted, ite_ringOps, causeOff_ringOps, tripStrand_ringOps, raiseStrand_ringOps, ite_self]
  rfl

end

/-- A ring on which nothing answers is idle and down (R206). -/
theorem ringDown_get {s : State} {r : Nat} {g : RingState} (hg : s.rings[r]? = some g) :
    ∃ x, (ringDown r s).rings[r]? = some x ∧ x.phase = .idle ∧ x.op = .down := by
  have h : (ringDown r s).ringOps[r]? = some (.idle, .down) := by
    rw [ringDown, writeAdmitted_ringOps, updateIncomplete_ringOps, State.ringOps, List.getElem?_map, modRing_get hg]
    rfl
  obtain ⟨x, hx, he⟩ := Option.map_eq_some_iff.mp ((List.getElem?_map ..).symm.trans h)
  exact ⟨x, hx, congrArg Prod.fst he, congrArg Prod.snd he⟩

end Sys2Proof.Machine
end

section
/-! SUPPORT. Enumeration, probing and break searches (O50). -/
namespace Sys2Proof.Machine
open Sys2Proof

/-- The outcome leaves ring `r` in a phase, its latest frame a PROBE of satellite `n` on one pair. -/
def Probes (r : Nat) (o : Host.Outcome State Fault Refusal) (p : RingPhase) (out : Bool) (n : Nat) : Prop :=
  ∃ t x fc, o = .next t ∧ t.rings[r]? = some x ∧ x.phase = p ∧ x.sent = [⟨out, frameHeader 0x06 fc n 0⟩]

/-! ### The next PROBE of an enumeration or a return (step 5 of R206 and of R221) -/

theorem nextProbe_eq_some {g : RingState} {n i : Nat} (hi : i < 32) (hn : n ≤ i) (hu : (g.sat i).usable = true)
    (hno : ∀ j, n ≤ j → j < i → (g.sat j).usable = false) : g.nextProbe n = some i := by
  rw [RingState.nextProbe, List.find?_range_eq_some]
  refine ⟨by simp [hn, hu], by simpa using hi, fun j hj => ?_⟩
  by_cases hnj : n ≤ j
  · simp [hno j hnj hj]
  · simp [hnj]

section
variable {s : State} {r : Nat} {g : RingState} (hg : s.rings[r]? = some g)
include hg

/-- A PROBE that is due is sent; the first of a round begins the loop latency anew. -/
theorem probeFrom_get {n i : Nat} (h : g.nextProbe n = some i) (search : Bool) : (probeFrom r n search s).rings[r]? =
    some { g.sendProbe (g.onOut i) i with
      loopLatency := if n = 0 then 0 else g.loopLatency, phase := .probing i search } := by
  by_cases hn : n = 0
  · have h0 := modRing_get hg (fun g => { g with loopLatency := 0 })
    have hp : ({ g with loopLatency := 0 } : RingState).nextProbe n = some i := h
    simp only [probeFrom, if_pos hn, ring_of_get h0, hp]
    exact modRing_get h0 _
  · simp only [probeFrom, if_neg hn, ring_of_get hg, h]
    exact modRing_get hg _

theorem probeHalf_probes (out : Bool) (near lo hi : Nat) : Probes r (.next (probeHalf r out near lo hi s))
    (.searching out near lo hi) out ((s.searchOrder r out).getD ((lo + hi) / 2) 0) :=
  ⟨_, _, g.frameCounter, rfl, modRing_get hg _, rfl, rfl⟩

/-- The order of a search depends on the operation, the admitted satellites and the parameters only. -/
theorem searchOrder_of_still {t : State} {x : RingState} (hx : t.rings[r]? = some x) (h : x.still = g.still)
    (hp : t.param = s.param) (out : Bool) : t.searchOrder r out = s.searchOrder r out := by
  have hroster : x.roster = g.roster := by simp only [RingState.roster, admitted_of_still h]
  have hcount : t.satCount r = s.satCount r := by simp only [State.satCount, State.pn, hp]
  simp only [State.searchOrder, ring_of_get hx, ring_of_get hg, op_of_still h, hroster, hcount]

/-- A search goes on after a gap along the same satellites. -/
theorem probeHalf_ringGap_probes (out : Bool) (near lo hi : Nat) :
    Probes r (.next (probeHalf r out near lo hi (ringGap r s))) (.searching out near lo hi) out
      ((s.searchOrder r out).getD ((lo + hi) / 2) 0) := by
  obtain ⟨x, hx, hst⟩ := ringGap_get hg
  rw [← searchOrder_of_still hg hx hst (ringGap_param r s)]
  exact probeHalf_probes hx ..

end

/-! ### ENUMERATE_RETURN -/

/-- A ring after the identity entries of an ENUMERATE, with so many satellites expected (R204, R207). -/
def RingState.identified (c : Nat) (es : List SatIdentity) (g : RingState) : RingState :=
  { g with surplus := g.surplus || es.any (fun e => 32 ≤ e.address),
           extras := if g.phase == .enumerating then es.filter (fun e => 32 ≤ e.address) else g.extras,
           sats := (List.range 32).map (fun n =>
             match es.find? (fun e => e.address == n) with
             | some e => { g.sat n with ident := some e, admitted := e.device == 0xE6 && n < c, reachable := true }
             | none => g.sat n) }

theorem takeIdentities_eq (r : Nat) (es : List SatIdentity) (s : State) :
    takeIdentities r es s = s.modRing r (RingState.identified (s.satCount r) es) := rfl

section
variable {g : RingState} {c i : Nat} {es : List SatIdentity} (hi : i < 32)
include hi

theorem identified_sat_of_entry {e : SatIdentity} (h : es.find? (fun e => e.address == i) = some e) : (g.identified c es).sat i =
    { g.sat i with ident := some e, admitted := e.device == 0xE6 && decide (i < c), reachable := true } := by
  simp [RingState.sat, RingState.identified, List.getD_eq_getElem?_getD, hi, h]

theorem identified_sat_of_absent (h : es.find? (fun e => e.address == i) = none) : (g.identified c es).sat i = g.sat i := by
  simp [RingState.sat, RingState.identified, List.getD_eq_getElem?_getD, hi, h]

/-- Of a ring with nothing admitted, the satellites of device 0xE6 below the count become usable. -/
theorem identified_usable_iff (h : (g.sat i).admitted = false) : ((g.identified c es).sat i).usable = true ↔
    i < c ∧ ∃ e, es.find? (fun e => e.address == i) = some e ∧ e.device = 0xE6 := by
  cases he : es.find? (fun e => e.address == i) with
  | none => simp [identified_sat_of_absent hi he, SatState.usable, h]
  | some e => simp [identified_sat_of_entry hi he, SatState.usable, and_comm]

end

section
variable {s : State} {r : Nat} {g : RingState} (hon : s.ac0On = true) (hr : r < 4) (hg : s.rings[r]? = some g)
include hon hr hg

section
variable (hph : g.phase = .enumerating)
include hph

theorem exec_enumerateReturn_some (es : List SatIdentity) :
    exec (.enumerateReturn r (some es)) s = .next (probeFrom r 0 false (takeIdentities r es (ringGap r s))) := by
  simp only [exec, execEnumerateReturn, ring_of_get hg, hph, hon, Nat.not_le.mpr hr]
  rfl

theorem exec_enumerateReturn_none :
    exec (.enumerateReturn r none) s = .next (if g.broken = true then ringDown r s else startSearch r s) := by
  simp only [exec, execEnumerateReturn, ring_of_get hg, hph, hon, Nat.not_le.mpr hr]
  rfl

/-- An ENUMERATE that returns is taken, and the PROBE of the lowest satellite it admits goes out (R204 to R207). -/
theorem enumerateReturn_admits {es : List SatIdentity} {n : Nat} (hn : n < 32)
    (hno : ∀ i, (g.sat i).admitted = false)
    (hadm : n < s.satCount r ∧ ∃ e, es.find? (fun e => e.address == n) = some e ∧ e.device = 0xE6)
    (hlow : ∀ i, i < n → ¬ (i < s.satCount r ∧ ∃ e, es.find? (fun e => e.address == i) = some e ∧ e.device = 0xE6)) :
    ∃ t x, ∃ y : RingState, exec (.enumerateReturn r (some es)) s = .next t ∧ t.rings[r]? = some x ∧ y.still = g.still ∧
      x = { (y.identified (s.satCount r) es).sendProbe (g.onOut n) n with loopLatency := 0, phase := .probing n false } := by
  obtain ⟨y, hy, hst⟩ := ringGap_get hg
  have hc : (ringGap r s).satCount r = s.satCount r := by simp only [State.satCount, State.pn, ringGap_param]
  have hx := modRing_get hy (RingState.identified (s.satCount r) es)
  have hyno (i : Nat) : (y.sat i).admitted = false := (admitted_of_still hst i).trans (hno i)
  have hnext : (y.identified (s.satCount r) es).nextProbe 0 = some n := by
    refine nextProbe_eq_some hn (Nat.zero_le n) ((identified_usable_iff hn (hyno n)).mpr hadm) fun j _ hj => ?_
    rw [Bool.eq_false_iff, ne_eq, identified_usable_iff (hj.trans hn) (hyno j)]
    exact hlow j hj
  refine ⟨_, _, y, exec_enumerateReturn_some hon hr hg hph es, ?_, hst, rfl⟩
  rw [takeIdentities_eq, hc, probeFrom_get hx hnext, ← onOut_of_still hst]
  rfl

omit hon hr hph in
/-- The break search of a ring under enumeration begins in the middle of the expected satellites (R221). -/
theorem startSearch_probes (hop : g.op = .enumerating) (hc : 0 < s.satCount r) :
    Probes r (.next (startSearch r s)) (.searching true 0 0 (s.satCount r)) true (s.satCount r / 2) := by
  obtain ⟨y, hy, hst⟩ := ringGap_get hg
  have hx := modRing_get hy RingState.abandon
  have horder : ((ringGap r s).modRing r RingState.abandon).searchOrder r true = List.range (s.satCount r) := by
    have : (RingState.abandon y).op = .enumerating := (op_of_still hst).trans hop
    simp only [State.searchOrder, ring_of_get hx, this, State.satCount, State.pn, State.modRing_param, ringGap_param, if_true]
  have hmid : (List.range (s.satCount r)).getD ((0 + s.satCount r) / 2) 0 = s.satCount r / 2 := by
    have : s.satCount r / 2 < s.satCount r := Nat.div_lt_self hc (by decide)
    simp [List.getD_eq_getElem?_getD, this]
  have hprobes := probeHalf_probes hx true 0 0 (s.satCount r)
  rw [horder, hmid] at hprobes
  simpa only [startSearch, searchPair, horder, List.length_range, if_neg hc.ne'] using hprobes

end

/-! ### PROBE_RETURN -/

/-- A ring after the round trip of the PROBE of satellite `n` (R205, R206). -/
def RingState.measured (n rt : Nat) (g : RingState) : RingState :=
  { g with sats := modAt g.sats n (fun x => { x with latency := (rt - 64) / 2 }),
           loopLatency := max g.loopLatency ((rt - 64) / 2 + 24) }

omit hon hr hg in
theorem measured_usable (n rt i : Nat) : ((g.measured n rt).sat i).usable = (g.sat i).usable := by
  by_cases h : n = i
  · subst h
    cases hs : g.sats[n]? <;> simp [RingState.measured, RingState.sat, List.getD_eq_getElem?_getD, hs, SatState.usable]
  · simp [RingState.measured, RingState.sat, List.getD_eq_getElem?_getD, modAt_get_ne _ _ h]

omit hon hr hg in
theorem measured_latency {n : Nat} (h : n < g.sats.length) (rt : Nat) : ((g.measured n rt).sat n).latency = (rt - 64) / 2 := by
  simp [RingState.measured, RingState.sat, List.getD_eq_getElem?_getD, List.getElem?_eq_getElem h]

section
variable {n : Nat} {search : Bool} (hph : g.phase = .probing n search)
include hph

theorem exec_probeReturn_none_of_probing :
    exec (.probeReturn r none) s = .next (s.modRing r (fun x => x.sendProbe (x.onOut n) n)) := by
  simp only [exec, execProbeReturn, ring_of_get hg, hph, hon, Nat.not_le.mpr hr]
  rfl

theorem exec_probeReturn_some_of_probing (rt : Nat) : exec (.probeReturn r (some rt)) s =
    .next (probeFrom r (n + 1) search (ringGap r (s.modRing r (RingState.measured n rt)))) := by
  simp only [exec, execProbeReturn, ring_of_get hg, hph, hon, Nat.not_le.mpr hr, State.modSat, modRing_modRing]
  rfl

/-- A PROBE that returns leaves its satellite's latency, and the next usable satellite is probed (R205, R206). -/
theorem probeReturn_measures (hl : n < g.sats.length) (rt : Nat) {i : Nat} (hi : i < 32) (hni : n < i)
    (hu : (g.sat i).usable = true) (hno : ∀ j, n < j → j < i → (g.sat j).usable = false) :
    ∃ t x fc, exec (.probeReturn r (some rt)) s = .next t ∧ t.rings[r]? = some x ∧ x.phase = .probing i search ∧
      x.sent = [⟨g.onOut i, frameHeader 0x06 fc i 0⟩] ∧ (x.sat n).latency = (rt - 64) / 2 ∧
      x.loopLatency = max g.loopLatency ((rt - 64) / 2 + 24) := by
  obtain ⟨y, hy, hst⟩ := ringGap_get (modRing_get hg (RingState.measured n rt))
  have husable (j : Nat) : (y.sat j).usable = (g.sat j).usable := (usable_of_still hst j).trans (measured_usable n rt j)
  have hnext : y.nextProbe (n + 1) = some i :=
    nextProbe_eq_some hi hni ((husable i).trans hu) fun j hj hji => (husable j).trans (hno j hj hji)
  have hx := probeFrom_get hy hnext search
  rw [onOut_of_still hst] at hx
  refine ⟨_, _, _, exec_probeReturn_some_of_probing hon hr hg hph rt, hx, rfl, rfl, ?_, ?_⟩
  · exact (sat_of_still hst SatState.latency (fun _ => rfl) n).trans (measured_latency hl rt)
  · exact (congrArg RingState.loopLatency hst :)

end

section
variable {out : Bool} {near lo hi : Nat} (hph : g.phase = .searching out near lo hi)
include hph

/-- A PROBE of a search that returns leaves the upper part of the range (R221). -/
theorem exec_probeReturn_some_of_searching (rt : Nat) (h : (lo + hi) / 2 + 1 < hi) : exec (.probeReturn r (some rt)) s =
    .next (probeHalf r out near ((lo + hi) / 2 + 1) hi (ringGap r s)) := by
  simp only [exec, execProbeReturn, ring_of_get hg, hph, hon, Nat.not_le.mpr hr, Option.isSome_some, if_true, h]
  rfl

/-- A PROBE of a search that does not return leaves the lower part of the range (R221). -/
theorem exec_probeReturn_none_of_searching (h : lo < (lo + hi) / 2) : exec (.probeReturn r none) s =
    .next (probeHalf r out near lo ((lo + hi) / 2) (ringGap r s)) := by
  simp only [exec, execProbeReturn, ring_of_get hg, hph, hon, Nat.not_le.mpr hr, Option.isSome_none, Bool.false_eq_true,
    if_false, h]
  rfl

end

end

end Sys2Proof.Machine
end

section
/-! SUPPORT. Command windows, responses and repeats (O50). -/
namespace Sys2Proof.Machine
open Sys2Proof

/-! ### COMMAND_WINDOW (R208, R213) -/

theorem tagged_length (g : RingState) (es : List RingEntry) : (g.tagged es).length = es.length := by simp [RingState.tagged]

theorem tagged_addr (g : RingState) (es : List RingEntry) : (g.tagged es).map (·.addr) = es.map (·.addr) := by
  rw [RingState.tagged, List.map_map]
  conv_rhs => rw [← List.zipIdx_map_fst 0 es, List.map_map]
  rfl

/-- The bytes of a COMMAND (R192, R201). -/
theorem sendCommand_bytes (g : RingState) (d : RingDesc) : (g.sendCommand d).sent.map (·.bytes) =
    [frameHeader 0x03 g.frameCounter (g.turnFor ((d.entries.map (·.addr)).headD 0)) d.entries.length ++
      (g.tagged d.entries).flatMap RingEntry.bytes] := by
  simp only [RingState.sendCommand, RingState.transmit, tagged_addr, tagged_length, List.map_cons, List.map_nil]

/-- A ring after the head of its queue has left whole (R201, R213). -/
def RingState.sentHead (d : RingDesc) (rest : List RingDesc) (g : RingState) : RingState :=
  (({ g with queue := rest } : RingState).sendCommand d).spend (commandCost g.loopLatency d.entries.length)

theorem sendQueued_of_nil {g : RingState} (h : g.queue = []) : g.sendQueued = g := by simp [RingState.sendQueued, h]

theorem sendQueued_of_fits {g : RingState} {d : RingDesc} {rest : List RingDesc} (hq : g.queue = d :: rest)
    (h0 : 0 < d.entries.length) (hone : g.oneHalf d.entries = d.entries)
    (hfit : d.entries.length ≤ entriesThatFit g.window g.loopLatency) : g.sendQueued = g.sentHead d rest := by
  simp only [RingState.sendQueued, hq, hone, Nat.min_eq_left hfit, List.drop_length, List.take_length, Nat.lt_irrefl, h0.ne',
    decide_false, Bool.and_false, Bool.or_false, Bool.false_eq_true, if_false]
  rfl

section
variable {s : State} {r : Nat} {g : RingState} (hg : s.rings[r]? = some g)
include hg

/-- With no request of R214 waiting, no frame in flight and none of R208 due, the queue goes on. -/
theorem sendNext_of_idle (hstop : g.stopAll = false) (hsleep : g.sleepReq = false) (hfl : g.inFlight = none)
    (hre : g.reAddr = none) : sendNext r s = refillRing r (s.modRing r RingState.sendQueued) := by
  simp [sendNext, ringGap_of_no_request hg hstop hsleep, ring_of_get hg, hfl, hre]

theorem sendNext_of_inFlight (hstop : g.stopAll = false) (hsleep : g.sleepReq = false) (hfl : g.inFlight ≠ none) :
    sendNext r s = s := by
  simp [sendNext, ringGap_of_no_request hg hstop hsleep, ring_of_get hg, Option.isSome_iff_ne_none.mpr hfl]

theorem refillRing_of_no_kept (hk : g.kept = []) : refillRing r s = s := by
  refine modRing_of_fixed hg ?_
  simp only [hk, List.take_nil, List.map_nil, List.append_nil, List.drop_nil]
  rw [← hk]

end

section
variable {s : State} {r : Nat} {g : RingState} (hg : s.rings[r]? = some g) (hrun : s.ringRuns r = true) (haw : g.awaiting = none)
  (hstop : g.stopAll = false) (hsleep : g.sleepReq = false)
include hg hrun haw

theorem exec_commandWindow_of_runs :
    exec (.commandWindow r) s = .next (sendNext r (s.modRing r (fun g => { g with window := s.windowLength r }))) := by
  simp only [exec, execCommandWindow, hrun, ring_of_get hg, haw]
  rfl

include hstop hsleep

/-- A window with nothing to send, or with a frame in flight, only opens (R213). -/
theorem exec_commandWindow_opens (h : g.inFlight ≠ none ∨ g.queue = [] ∧ g.kept = [] ∧ g.reAddr = none) :
    exec (.commandWindow r) s = .next (s.modRing r (fun x => { x with window := s.windowLength r })) := by
  have hw := modRing_get hg (fun g => { g with window := s.windowLength r })
  rw [exec_commandWindow_of_runs hg hrun haw]
  by_cases hfl : g.inFlight = none
  · obtain ⟨hq, hk, hre⟩ := h.resolve_left (absurd hfl)
    have hnil : s.modRing r (fun g => ({ g with window := s.windowLength r } : RingState).sendQueued) =
        s.modRing r (fun g => { g with window := s.windowLength r }) := modRing_congr hg (sendQueued_of_nil hq)
    rw [sendNext_of_idle hw hstop hsleep hfl hre, modRing_modRing, hnil, refillRing_of_no_kept hw hk]
  · rw [sendNext_of_inFlight hw hstop hsleep hfl]

/-- A window sends the head of the queue where it fits whole (R201, R213). -/
theorem exec_commandWindow_sends {d : RingDesc} {rest : List RingDesc} (hfl : g.inFlight = none) (hre : g.reAddr = none)
    (hq : g.queue = d :: rest) (h0 : 0 < d.entries.length) (hone : g.oneHalf d.entries = d.entries)
    (hfit : d.entries.length ≤ entriesThatFit (s.windowLength r) g.loopLatency) :
    exec (.commandWindow r) s = .next (refillRing r (s.modRing r (fun g =>
      RingState.sentHead d rest { g with window := s.windowLength r }))) := by
  have hw := modRing_get hg (fun g => { g with window := s.windowLength r })
  have hsent : s.modRing r (fun g => ({ g with window := s.windowLength r } : RingState).sendQueued) =
      s.modRing r (fun g => RingState.sentHead d rest { g with window := s.windowLength r }) :=
    modRing_congr hg (sendQueued_of_fits hq h0 hone hfit)
  rw [exec_commandWindow_of_runs hg hrun haw, sendNext_of_idle hw hstop hsleep hfl hre, modRing_modRing, hsent]

end

/-! ### COMMAND_RESPONSE (R202, R213, R217, R231) -/

theorem halted_satCommand (s : State) (r : Nat) (by' : Requester) (e : RingEntry) : s.halted r (.satCommand by') e = false :=
  Bool.and_false _

/-- The state once the frame in flight on ring `r` is back. -/
def frameBack (r : Nat) (s : State) : State := s.modRing r (fun x => { x with inFlight := none })

section
variable {s : State} {r : Nat} {g : RingState} {e : RingEntry} {by' : Requester} {at' : Nat} {l : List RingReply}
  (hg : s.rings[r]? = some g) (hon : s.ac0On = true) (hfl : g.inFlight = some ⟨.satCommand by', [e], at'⟩)
  (hph : g.phase = .idle)
include hg hph

/-- Reports leave the ring idle. -/
theorem phase_of_frameBack {t : State} (ht : t.rings = (frameBack r s).rings) : (t.ring r).phase = .idle := by
  rw [ring_of_get (ht ▸ modRing_get hg _)]
  exact hph

include hon hfl

/-- The entry is answered: its requester is told, and the window goes on. -/
theorem exec_commandResponse_answered {p : RingReply} (h : findReply e l = some p) : exec (.commandResponse r l) s =
    .next (sendNext r (complete by' 0x0901 stOk noDetail (replyBytes p) (frameBack r s))) := by
  have hidle := phase_of_frameBack hg hph (complete_rings by' opSatCommand stOk noDetail (replyBytes p) (frameBack r s))
  rw [frameBack] at hidle
  simp [exec, execCommandResponse, ring_of_get hg, hfl, hon, h, entryAnswered, hidle, purposeDone]
  rfl

/-- The entry is not answered and has tries left: it goes to the head of the queue. -/
theorem exec_commandResponse_repeats (h : findReply e l = none) (ht : e.tries < 3) : exec (.commandResponse r l) s =
    .next (s.modRing r (fun x => { x with
      inFlight := none, queue := ⟨.satCommand by', [{ e with tries := e.tries + 1 }], at'⟩ :: x.queue })) := by
  have hidle := phase_of_frameBack hg hph (t := frameBack r s) rfl
  rw [frameBack] at hidle
  simp [exec, execCommandResponse, ring_of_get hg, hfl, hon, h, ht, Nat.not_le.mpr ht, halted_satCommand, hidle, modRing_modRing]

/-- The entry is not answered at its last try: a record, its requester is told, and the window goes on. -/
theorem exec_commandResponse_fails (h : findReply e l = none) (ht : 3 ≤ e.tries) : exec (.commandResponse r l) s =
    .next (sendNext r (complete by' 0x0901 stInternalFault noDetail []
      (note (0x20 + 8 * r + 6) 1 3 (32 * r + e.addr) [] (frameBack r s)))) := by
  have hidle := phase_of_frameBack hg hph ((complete_rings by' opSatCommand stInternalFault noDetail []
    (note (ringSource r 6) 1 3 (32 * r + e.addr) [] (frameBack r s))).trans (note_rings ..))
  rw [frameBack] at hidle
  simp [exec, execCommandResponse, ring_of_get hg, hfl, hon, h, ht, Nat.not_lt.mpr ht, entryFailed, hidle, purposeDone]
  rfl

end

/-- Settles O50, frame by frame. -/
theorem ringCommands : Obligations.RingCommands := by
  unfold Obligations.RingCommands
  intro s r g hon hr hg
  refine ⟨fun hph => ⟨fun es n hn hno hadm hlow => ?_, fun hb => ?_, fun hb hop hc => ?_⟩,
    fun n search rt hph hn hl => ⟨exec_probeReturn_none_of_probing hon hr hg hph, fun i hi hni hu hnone => ?_⟩,
    fun out near lo hi hph => ⟨fun rt h => ?_, fun h => ?_⟩,
    fun hrun haw hstop hsleep =>
      ⟨exec_commandWindow_opens hg hrun haw hstop hsleep, fun d rest hfl hre hq h0 hone hfit => ?_⟩,
    fun e by' at' l hfl hph => ⟨fun p => exec_commandResponse_answered hg hon hfl hph,
      exec_commandResponse_repeats hg hon hfl hph, exec_commandResponse_fails hg hon hfl hph⟩⟩
  · obtain ⟨t, x, y, ht, hx, hst, rfl⟩ := enumerateReturn_admits hon hr hg hph hn hno hadm hlow
    refine ⟨⟨t, _, _, ht, hx, rfl, rfl⟩, t, _, ht, hx, fun i e hi he => ?_⟩
    have hsat := identified_sat_of_entry (g := y) (c := s.satCount r) hi he
    exact ⟨congrArg SatState.ident hsat, congrArg SatState.admitted hsat⟩
  · obtain ⟨x, hx, hidle, hdown⟩ := ringDown_get hg
    exact ⟨_, x, (exec_enumerateReturn_none hon hr hg hph).trans (by rw [if_pos hb]), hx, hidle, hdown⟩
  · rw [exec_enumerateReturn_none hon hr hg hph, hb]
    exact startSearch_probes hg hop hc
  · obtain ⟨t, x, fc, ht, hx, hphase, hsent, hlat, hloop⟩ :=
      probeReturn_measures hon hr hg hph (hl ▸ hn) rt hi hni hu hnone
    exact ⟨⟨t, x, fc, ht, hx, hphase, hsent⟩, t, x, ht, hx, hlat, hloop⟩
  · rw [exec_probeReturn_some_of_searching hon hr hg hph rt h]
    exact probeHalf_ringGap_probes hg ..
  · rw [exec_probeReturn_none_of_searching hon hr hg hph h]
    exact probeHalf_ringGap_probes hg ..
  · have hx := modRing_get hg (fun g => RingState.sentHead d rest { g with window := s.windowLength r })
    refine ⟨_, _, exec_commandWindow_sends hg hrun haw hstop hsleep hfl hre hq h0 hone hfit, rfl, modRing_get hx _, rfl, rfl,
      ?_, ?_, rfl, ?_⟩
    · exact congrArg (fun k => (g.entryTag + k) % 65536) (tagged_length ..)
    · exact List.take_left ..
    · exact sendCommand_bytes ..

end Sys2Proof.Machine
end

section
/-! SUPPORT. A result of the insulation monitor for a strand beyond the four (O52). -/
namespace Sys2Proof.Machine
open Sys2Proof

@[simp] theorem isoKept_length (s : State) : s.isoKept.length = 5 := by simp [State.isoKept]

@[simp] theorem isoWarning_iso (which ohms : Nat) (s : State) : (isoWarning which ohms s).hv.iso = s.hv.iso := by
  simp only [isoWarning]
  split
  · split <;> simp
  · rfl

@[simp] theorem isoStrand_iso (k ohms : Nat) (s : State) : (isoStrand k ohms s).hv.iso = s.hv.iso := by
  simp only [isoStrand]
  split
  · split <;> simp [State.modHv]
  · split <;> rfl

/-- A strand's result becomes its point; the bus and the other strands keep what R286 keeps. -/
theorem isoResult_iso_of_strand {which : Nat} (h : which ≠ 0) (ohms : Nat) (s : State) :
    (isoResult which ohms s).hv.iso = setAt s.isoKept which (some (isoPoint ohms)) := by
  simp [isoResult, h]

/-- The points of class 0x24 stay five (R286): the bus and strands 0 to 3. -/
theorem insulationResult_iso_length {which ohms : Nat} {s t : State} (hw : which ≠ 0) (hl : s.hv.iso.length = 5)
    (h : exec (.insulationResult which ohms) s = .next t) : t.hv.iso.length = 5 := by
  obtain rfl := Host.Outcome.next.inj h
  split
  · exact hl
  · extract_lets moved spent drop u
    split
    · exact isoKept_length s
    · rw [isoResult_iso_of_strand hw, setAt_length, isoKept_length]

/-- A module in RUN whose `RING.STRAND_ENABLE` is 16, with a fifth strand on which the monitor has come to rest. -/
def strandBeyondRange : State :=
  { State.reset with
    sys := { powered := true, mode := .run, ready := true }
    param := { applied := [(0x0502, .num 16)] }
    hv := { strands := List.replicate 5 {}, isoRef := 5, isoSkip := false } }

/-- Refutes O52: in `strandBeyondRange` it is the turn of system 5, and its result finds no point to enter. The clause of a
strand's result bounds neither `k` by 4 nor `RING.STRAND_ENABLE` by its range of 1 to 15. -/
theorem not_hvMeasurements : ¬ Obligations.HvMeasurements := by
  unfold Obligations.HvMeasurements
  intro h
  obtain ⟨-, -, hiso, -⟩ := h
  obtain ⟨-, -, -, -, hstrand⟩ := hiso strandBeyondRange 5 50000 (by decide) (by decide) rfl
  obtain ⟨t, hexec, -, hpoint, -⟩ := hstrand 4 {} rfl (by decide) rfl rfl rfl
  have hlen : t.hv.iso.length = 5 := insulationResult_iso_length (by decide) rfl hexec
  have hnone : t.hv.iso.getD 5 none = none := List.getD_eq_default _ _ hlen.le
  rw [hnone] at hpoint
  contradiction

end Sys2Proof.Machine
end

section
/-! SUPPORT. Commands to the loops and the trace recorder (O15). -/
namespace Sys2Proof.Machine
open Sys2Proof

theorem field_loopNumber {n : Nat} (h : n < 32) (b : List Byte) : field (BitVec.ofNat 8 n :: b) 0 1 = n := by
  simp only [field, List.drop_zero, List.take_succ_cons, List.take_zero, leNat, BitVec.toNat_ofNat]
  omega

section
variable {s : State} {n : Nat} (hn : n < 32) (ht : s.loopTakes n = true) (p : Port) (tag : Half) {pl : List Byte}
  (hf : field pl 0 1 = n)
include hn ht hf

/-! ### LOOP_SET_MODE (R456) -/

/-- A loop that takes commands takes MANUAL always. -/
theorem exec_loopSetMode_manual_of_serves (h : s.serves 0x0401 modesWork = true) (hl : pl.length = 4)
    (hm : field pl 1 1 = 1) (hz : field pl 2 2 = 0) :
    exec (.loopSetMode p tag pl) s = .next (reply p 0x0401 tag stOk noDetail [] (modLoop n (fun l =>
      { l with commanded := some .manual, manual := if l.mode = .track then l.uPrev else l.manual }) s)) := by
  refine (congrArg Host.Outcome.next (hostRow_of_serves h (ok := fun pl => pl.length == 4) (beq_iff_eq.mpr hl) _ p tag)).trans ?_
  simp [hf, hm, hz, ht, Nat.not_le.mpr hn, opLoopSetMode]

/-- It takes AUTO where its process value and set-point are valid. -/
theorem exec_loopSetMode_auto_of_serves (h : s.serves 0x0401 modesWork = true) (hl : pl.length = 4)
    (hm : field pl 1 1 = 2) (hz : field pl 2 2 = 0) (hpv : (s.pvSource (s.loopWords n)).isSome = true)
    (hsp : (s.spSource (s.loopWords n)).isSome = true) :
    exec (.loopSetMode p tag pl) s =
      .next (reply p 0x0401 tag stOk noDetail [] (modLoop n (fun l => { l with commanded := some .auto }) s)) := by
  refine (congrArg Host.Outcome.next (hostRow_of_serves h (ok := fun pl => pl.length == 4) (beq_iff_eq.mpr hl) _ p tag)).trans ?_
  simp [hf, hm, hz, ht, Option.isNone_eq_false_iff.mpr hpv, Option.isNone_eq_false_iff.mpr hsp, Nat.not_le.mpr hn,
    opLoopSetMode]

/-! ### LOOP_SET_MANUAL (R457) -/

theorem exec_loopSetManual_of_serves (h : s.serves 0x0402 modesWork = true) (hl : pl.length = 8) (hz : field pl 1 3 = 0)
    (hm : (s.loopOf n).mode = .manual) {v : Nat} (hv : v ≤ 10000) (hval : s32Of (field pl 4 4) = v) :
    exec (.loopSetManual p tag pl) s =
      .next (reply p 0x0402 tag stOk noDetail [] (modLoop n (fun l => { l with manual := (v : Rat) }) s)) := by
  refine (congrArg Host.Outcome.next (hostRow_of_serves h (ok := fun pl => pl.length == 8) (beq_iff_eq.mpr hl) _ p tag)).trans ?_
  simp [hf, hz, hval, ht, hm, Nat.not_le.mpr hn, hv, opLoopSetManual]

end

theorem s32Of_of_lt {v : Nat} (h : v < 2 ^ 31) : s32Of v = v := by
  rw [s32Of, BitVec.toInt_eq_toNat_of_lt (by simp only [BitVec.toNat_ofNat]; omega), BitVec.toNat_ofNat,
    Nat.mod_eq_of_lt (by omega)]

theorem s32Of_manualValue {v : Nat} (h : v ≤ 10000) (b : Byte) : s32Of (field ([b, 0, 0, 0] ++ leBytes 4 v) 4 4) = v := by
  have hdrop : field ([b, 0, 0, 0] ++ leBytes 4 v) 4 4 = leNat (leBytes 4 v) := rfl
  rw [hdrop, leNat_leBytes, Nat.mod_eq_of_lt (by omega), s32Of_of_lt (by omega)]

/-! ### TRACE_ARM (R458) -/

/-- The recorder as a single trace arms it (R458, R460). -/
def traceArmed (p : Port) (tag : Half) (pl : List Byte) : TraceState :=
  { state := 1, clock := field pl 1 1, kind := field pl 2 1, arg := field pl 3 1, pre := field pl 4 2,
    decimation := field pl 6 2, level := s32Of (field pl 8 4), channels := traceChannels pl, by' := some (.packet p tag) }

theorem exec_traceArm_of_serves {s : State} {pl : List Byte} (h : s.serves 0x0410 modesWork = true) (hl : pl.length = 44)
    (hm : field pl 0 1 = 1) (hok : traceArmOk pl = true) (hk : field pl 2 1 ≠ 1)
    (hw : (word (s.loopWords (field pl 1 1)) 0).testBit 31 = true) (hs : s.loop.trace.state = 0) (p : Port) (tag : Half) :
    exec (.traceArm p tag pl) s =
      .next (reply p 0x0410 tag stAccepted noDetail [] (modTrace (fun _ => traceArmed p tag pl) s)) := by
  refine (congrArg Host.Outcome.next (hostRow_of_serves h (ok := fun pl => pl.length == 44) (beq_iff_eq.mpr hl) _ p tag)).trans ?_
  simp only [hm, hok, hw, hs, opTraceArm, traceArmed, if_true]
  exact congrArg Host.Outcome.next (if_neg hk)

/-- Settles O15, request by request. -/
theorem loopRequests : Obligations.LoopRequests := by
  unfold Obligations.LoopRequests
  exact fun s p tag n hn =>
    ⟨fun h ht => ⟨exec_loopSetMode_manual_of_serves hn ht p tag (field_loopNumber hn _) h rfl rfl rfl,
        exec_loopSetMode_auto_of_serves hn ht p tag (field_loopNumber hn _) h rfl rfl rfl⟩,
      fun _ h ht hm hv =>
        exec_loopSetManual_of_serves hn ht p tag (field_loopNumber hn _) h rfl rfl hm hv (s32Of_manualValue hv _),
      fun _ h hl hm hok hk hw hs => exec_traceArm_of_serves h hl hm hok hk hw hs p tag⟩

end Sys2Proof.Machine
end

section
/-! SUPPORT. One loop of the engine: its record, and what a mode, a hold and a judgement of its target do to it. -/
namespace Sys2Proof.Machine
open Sys2Proof

/-! ### The record of a loop -/

section
variable {s t : State} {n : Nat} {l : LoopState} (hl : s.loop.loops[n]? = some l) {f : LoopState → LoopState}

include hl in
theorem loopOf_of_get : s.loopOf n = l := by simp [State.loopOf, List.getD_eq_getElem?_getD, hl]

theorem modLoop_of_none (h : s.loop.loops[n]? = none) : modLoop n f s = s := by simp only [modLoop, modAt_none f h]

include hl in
/-- A change that leaves the record of the loop as it is changes nothing. -/
theorem modLoop_of_fixed (h : f l = l) : modLoop n f s = s := by
  simp only [modLoop, modAt_eq_setAt f hl, h, setAt_of_get hl]

theorem modLoop_modLoop (f' : LoopState → LoopState) : modLoop n f' (modLoop n f s) = modLoop n (fun l => f' (f l)) s := by
  simp only [modLoop, modAt_modAt]

/-- Events do not come between a state and a change of one of its loops. -/
theorem modLoop_calm_congr (h : t.calm = s.calm) : (modLoop n f t).calm = (modLoop n f s).calm := congrArg (modLoop n f) h

include hl in
theorem modLoop_congr {f' : LoopState → LoopState} (h : f l = f' l) : modLoop n f s = modLoop n f' s := by
  simp only [modLoop, modAt_eq_setAt f hl, modAt_eq_setAt f' hl, h]

/-! A state that differs from `s` in the loop `n` only, and by events. -/

theorem loops_of_calm (h : t.calm = s.calm) : t.loop.loops = s.loop.loops := congrArg (·.loop.loops) h

variable (h : t.loop.loops = modAt s.loop.loops n f)
include h

include hl in
theorem loopOf_self_of_loops : t.loopOf n = f l := by
  simp [State.loopOf, h, List.getD_eq_getElem?_getD, hl]

theorem loopOf_ne_of_loops {j : Nat} (hj : j ≠ n) : t.loopOf j = s.loopOf j := by
  simp [State.loopOf, h, List.getD_eq_getElem?_getD, modAt_get_ne _ f (Ne.symm hj)]

end

theorem calm_of_modLoop {s t : State} {n : Nat} {f : LoopState → LoopState} (h : t.calm = (modLoop n f s).calm) :
    t.calm = ({ s with loop := t.loop } : State).calm :=
  congrArg (fun u => ({ u with loop := { t.loop with trace := {} } } : State)) h

/-! ### Modes and holds (R442, R453) -/

theorem setLoopMode_calm (n : Nat) (m : LoopMode) (s : State) :
    (setLoopMode n m s).calm = (modLoop n (fun l => { l with mode := m, commanded := none }) s).calm := by
  unfold setLoopMode
  split
  next h => rw [modLoop_of_none h]
  next =>
    split
    · rfl
    · exact raise_calm ..

/-- A loop in HOLD at its output. -/
def LoopState.held (l : LoopState) : LoopState := { l with manual := l.uPrev, preset := false, mode := .hold, commanded := none }

theorem holdLoop_calm (n : Nat) (s : State) : (holdLoop n s).calm = (modLoop n LoopState.held s).calm := by
  rw [holdLoop, setLoopMode_calm, modLoop_modLoop]
  rfl

/-! ### The target (R441) -/

/-- TARGET_FAULT and its bit in the status node. -/
def LoopState.withTargetFault (bad : Bool) (l : LoopState) : LoopState :=
  { l with targetFault := bad, nodes := modAt l.nodes 11 (fun v => ((maskSet v.toNat 7 bad : Nat) : Int)) }

section
variable {s : State} {n : Nat} {l : LoopState} (hl : s.loop.loops[n]? = some l) (he : l.enabled = true) (hm : l.mode ≠ .off)
include hl he hm

theorem judgeTarget_of_eq (h : s.targetFails l.config = l.targetFault) : judgeTarget n s = s := by
  have hoff : (l.mode != .off) = true := bne_iff_ne.mpr hm
  simp [judgeTarget, hl, he, hoff, h]

/-- The flag of a running loop turns with its target's ability. -/
theorem judgeTarget_calm_of_ne (h : s.targetFails l.config ≠ l.targetFault) :
    (judgeTarget n s).calm = (modLoop n (LoopState.withTargetFault (!l.targetFault)) s).calm := by
  have hoff : (l.mode != .off) = true := bne_iff_ne.mpr hm
  have hbad : s.targetFails l.config = !l.targetFault := by
    cases hf : l.targetFault <;> simpa [hf] using h
  simp only [judgeTarget, hl, he, hoff, hbad, Bool.true_and, Bool.not_beq_self, Bool.false_eq_true, if_false]
  exact raise_calm ..

end

end Sys2Proof.Machine
end

section
/-! SUPPORT. A sample that does not complete: overruns and invalid inputs (R433, R452, R453). -/
namespace Sys2Proof.Machine
open Sys2Proof

/-- A loop with one more overrun counted. -/
def LoopState.overrunCounted (l : LoopState) : LoopState :=
  let l := { l with totalOverruns := min 32767 (l.totalOverruns + 1), overruns := min 255 (l.overruns + 1) }
  { l with nodes := setAt l.nodes 12 l.counts }

/-- Overruns in succession that put a loop in HOLD (R453). -/
def State.overrunLimit (s : State) (w : List Nat) : Nat := if bits (word w 0) 3 0 = 0 then s.pn 0x0B01 else bits (word w 0) 3 0

/-- A loop after an overrun: counted, and at the limit held. -/
def LoopState.afterOverrun (limit : Nat) (l : LoopState) : LoopState :=
  if limit ≤ min 255 (l.overruns + 1) ∧ l.mode ≠ .hold then l.overrunCounted.held else l.overrunCounted

/-- A loop with one more invalid sample counted. -/
def LoopState.invalidCounted (spBad pvBad : Bool) (l : LoopState) : LoopState :=
  let l := { l with invalids := min 255 (l.invalids + 1) }
  let st : Nat := l.standing + bit spBad * 2 ^ 5 + bit pvBad * 2 ^ 4
  { l with nodes := setAt (setAt l.nodes 12 l.counts) 11 (st : Int) }

/-- A loop after a skipped sample: counted, and at the limit held. -/
def LoopState.afterSkip (limit : Nat) (spBad pvBad : Bool) (l : LoopState) : LoopState :=
  if limit ≤ min 255 (l.invalids + 1) then (l.invalidCounted spBad pvBad).held else l.invalidCounted spBad pvBad

section
variable {s : State} {n : Nat} {l : LoopState} (hl : s.loop.loops[n]? = some l)
include hl

theorem loopOf_raise_modLoop (src : Nat) (f : LoopState → LoopState) :
    (raise src 0 6 n [] (modLoop n f s)).loopOf n = f l :=
  loopOf_self_of_loops hl (raise_loops ..)

omit hl in
/-- A change of a loop with its event, on which the loop may be held with an event more. -/
theorem hold_calm_of_limit (f : LoopState → LoopState) (src src' : Nat) (P : Prop) [Decidable P] :
    let u := raise src 0 6 n [] (modLoop n f s)
    (if P then raise src' 0 6 n [] (holdLoop n u) else u).calm = (modLoop n (fun l => if P then (f l).held else f l) s).calm := by
  intro u
  by_cases h : P
  · simp only [if_pos h, u]
    rw [raise_calm, holdLoop_calm, modLoop_calm_congr (raise_calm ..), modLoop_modLoop]
  · simp only [if_neg h, u]
    exact raise_calm ..

theorem loopOverrun_calm (w : List Nat) :
    (loopOverrun n w s).calm = (modLoop n (LoopState.afterOverrun (s.overrunLimit w)) s).calm := by
  let u := raise 0x91 0 6 n [] (modLoop n LoopState.overrunCounted s)
  have hu : u.loopOf n = l.overrunCounted := loopOf_raise_modLoop hl _ _
  have hp : u.overrunLimit w = s.overrunLimit w := by simp only [State.overrunLimit, State.pn, u, raise_param, modLoop_param]
  have hrun : loopOverrun n w s = if u.overrunLimit w ≤ (u.loopOf n).overruns ∧ (u.loopOf n).mode ≠ .hold
    then raise 0x92 0 6 n [] (holdLoop n u) else u := rfl
  rw [hrun, hu, hp, hold_calm_of_limit]
  exact congrArg State.calm (modLoop_congr hl rfl)

theorem loopSkip_calm (spBad pvBad : Bool) :
    (loopSkip n spBad pvBad s).calm = (modLoop n (LoopState.afterSkip (s.pn 0x0B02) spBad pvBad) s).calm := by
  let u := raise 0x93 0 6 n [] (modLoop n (LoopState.invalidCounted spBad pvBad) s)
  have hu : u.loopOf n = l.invalidCounted spBad pvBad := loopOf_raise_modLoop hl _ _
  have hp : u.pn 0x0B02 = s.pn 0x0B02 := by simp only [State.pn, u, raise_param, modLoop_param]
  have hrun : loopSkip n spBad pvBad s = if u.pn 0x0B02 ≤ (u.loopOf n).invalids
    then raise 0x94 0 6 n [] (holdLoop n u) else u := rfl
  rw [hrun, hu, hp, hold_calm_of_limit]
  exact congrArg State.calm (modLoop_congr hl rfl)

end

end Sys2Proof.Machine
end

section
/-! SUPPORT. A sample that completes: the law outside AUTO, the target's output and the recorder (R438, R442, R455, R460). -/
namespace Sys2Proof.Machine
open Sys2Proof

/-! ### The law in MANUAL and HOLD (R442) -/

theorem manual_or_hold {m : LoopMode} (hoff : m ≠ .off) (hauto : m ≠ .auto) (htrack : m ≠ .track) :
    m = .manual ∨ m = .hold := by
  cases m <;> simp_all

section
variable {l : LoopState} (h : l.mode = .manual ∨ l.mode = .hold) (s : State) (w : List Nat) (sp pv : Option Rat) (ff want : Rat)
include h

theorem law_integ_of_manual : (l.law s w sp pv ff want).integ = l.integ := by
  unfold LoopState.law
  extract_lets ts rev lo hi e x p tf d i v sat slew u0 c u
  clear_value c u e x p d i v sat
  rcases h with h | h <;> simp only [h]

/-- The output is the manual value, unless it is clamped as a current reference (R439). -/
theorem law_u_of_manual (hk : bits (word w 0) 10 8 ≠ 4) : (l.law s w sp pv ff want).u = roundF32 l.manual := by
  unfold LoopState.law
  extract_lets ts rev lo hi e x p tf d i v sat slew u0 c u
  have hu0 : u0 = l.manual := by rcases h with h | h <;> simp only [u0, h]
  have hu : u = roundF32 l.manual := by simp only [u, c, State.clampRef, if_pos hk, hu0]
  clear_value c u e x p d i v sat
  rcases h with h | h <;> simp only [h, hu]

end

/-! ### The output to the target (R438) -/

/-- An output changes the field die or a strand's ceiling. -/
theorem writeTarget'_eq (config : Nat) (u : Option Nat) (s : State) :
    ∃ g b, writeTarget' config u s = { s with field := g, bal := b } := by
  unfold writeTarget'
  split
  · rw [driveGo]; split <;> exact ⟨_, _, rfl⟩
  · rw [driveAo]; split <;> exact ⟨_, _, rfl⟩
  · exact ⟨_, _, rfl⟩
  · rw [driveAo]; split <;> exact ⟨_, _, rfl⟩
  · exact ⟨_, _, rfl⟩

/-! ### The recorder (R459 to R463) -/

/-- A state without what events, the recorder and notifications change. -/
def State.still (s : State) : State := { s.calm with port := {}, tw := {} }

theorem still_of_calm {s t : State} (h : t.calm = s.calm) : t.still = s.still :=
  congrArg (fun u => ({ u with port := {}, tw := {} } : State)) h

section
variable (s : State)

theorem raise_still (src code kind index : Nat) (detail : List Byte) : (raise src code kind index detail s).still = s.still :=
  still_of_calm (raise_calm ..)

theorem complete_still (r : Requester) (op st detail : Nat) (result : List Byte) :
    (complete r op st detail result s).still = s.still := by
  cases r with
  | packet p tag => cases p <;> (unfold complete postKept irq owe State.setOut; dsimp only; split <;> rfl)
  | twoWire => unfold complete; dsimp only; split <;> rfl

theorem traceFreeze_still : (traceFreeze s).still = s.still := by
  unfold traceFreeze
  extract_lets t u
  have hu : u.still = s.still := raise_still ..
  split
  · exact (complete_still ..).trans hu
  · exact hu

theorem streamPush_still (c : Nat) (v : Int) : (streamPush c v s).still = s.still := by
  unfold streamPush
  extract_lets t f full u
  split
  · rfl
  · split
    · exact raise_still ..
    · rfl

/-- By the recorder: of another loop, streaming, triggered by this sample, armed, recording after the trigger, or waiting. -/
theorem traceStep_still (n at' : Nat) : (traceStep n at' s).still = s.still := by
  unfold traceStep
  extract_lets t recorded vals chan fire u pre held x y
  split
  · rfl
  split
  · split
    · exact foldl_field State.still (fun s c => by split; exacts [rfl, streamPush_still ..]) _ _
    · rfl
  split
  · have hy : y.still = s.still := by
      refine (raise_still ..).trans ?_
      split <;> rfl
    split
    · exact (traceFreeze_still y).trans hy
    · exact hy
  split
  · split <;> rfl
  split
  · split
    · exact traceFreeze_still _
    · rfl
  · rfl

end

/-! ### The whole sample (R455) -/

/-- A completed sample enters the law's result in the loop's record; beside it the target's output and an open value's number
change. -/
theorem loopComplete_still {n : Nat} (w : List Nat) (sp pv want : Option Rat) (at' delay : Nat) (s : State) :
    ∃ ff ffBad lim g b, (loopComplete n w sp pv want at' delay s).still =
      ({ modLoop n (LoopState.take s.free w sp pv ((s.loopOf n).law s w sp pv ff (want.getD (s.loopOf n).uPrev)) ffBad at' delay
          lim) s with field := g, bal := b, free := s.free + 1 } : State).still := by
  unfold loopComplete
  extract_lets l ffId ffv ff c lim s1 first s2 s3 s4 s5
  obtain ⟨g, b, hs1⟩ := writeTarget'_eq (word w 0) (some (min 10000 (roundRat c.u).toNat)) s
  refine ⟨ff, ffv.isNone, lim, g, b, (traceStep_still ..).trans ?_⟩
  have h4 : s4.still = s3.still := by simp only [s4]; split; exacts [raise_still .., rfl]
  have h5 : s5.still = s4.still := by simp only [s5]; split; exacts [raise_still .., rfl]
  rw [h5, h4]
  simp only [s3, s2, s1, hs1]
  rfl

end Sys2Proof.Machine
end

section
/-! SUPPORT. LOOP_SAMPLE and LOOP_TARGET_FAULT (O56). -/
namespace Sys2Proof.Machine
open Sys2Proof

/-! ### A loop that stays in its mode (R442 to R448) -/

theorem retuned_self (w : List Nat) : retuned w w = false := by simp [retuned]

/-- Without a command and a child in play the mode of a sample is the loop's own. -/
theorem modeStep_of_uncommanded {l : LoopState} (hc : l.commanded = none) (ht : l.noTrack = false) (hm : l.mode ≠ .track) :
    l.modeStep none = l := by
  obtain ⟨⟩ := l
  obtain rfl : _ = none := hc
  obtain rfl : _ = false := ht
  simp only [LoopState.modeStep]
  exact if_neg hm

/-! ### The sample of a loop in its turn (R423, R424) -/

/-- The instant at which a loop samples. -/
def State.sampleAt (s : State) (d : LoopData) : Nat := s.time.now - s.time.now % 1000 + d.offset

/-- The state in which loop `n` is the latest that has sampled. -/
def sampled (n at' : Nat) (s : State) : State := { s with loop := { s.loop with last := some (at', n) } }

/-- The process value of a sample. -/
def State.samplePv (s : State) (w : List Nat) : Option Rat := (s.pvSource w).map (fun x => (x : Rat))

theorem samplePv_eq_none {s : State} {w : List Nat} : s.samplePv w = none ↔ s.pvSource w = none := by
  cases h : s.pvSource w <;> simp [State.samplePv, h]

/-- The set-point of a sample of a loop in mode `m`: in MANUAL and HOLD a child follows its process value (R446). -/
def State.sampleSp (s : State) (m : LoopMode) (w : List Nat) : Option Rat :=
  if wSpKind w == 5 && (m == .manual || m == .hold) && (s.loopOf (wSpIndex w)).tracks then s.samplePv w
  else (s.spSource w).map (fun x => wSp w + wSpScale w * (x : Rat))

theorem exec_loopSample_of_idle {s : State} {n : Nat} {d : LoopData}
    (h : s.sampleAt d % wPeriod (s.loopWords n) ≠ 0 ∨ s.loopTurn n (s.sampleAt d) = false) :
    exec (.loopSample n d) s = .next s := by
  refine congrArg Host.Outcome.next (if_pos ?_)
  rcases h with h | h
  · have : (s.sampleAt d % wPeriod (s.loopWords n) != 0) = true := bne_iff_ne.mpr h
    simp only [State.sampleAt] at this
    simp only [this, Bool.or_true, Bool.true_or]
  · simp only [State.sampleAt] at h
    simp only [h, Bool.not_false, Bool.or_true]

/-- Loop `n`, whose record is `l`, runs and has its turn to sample. -/
structure LoopDue (s : State) (n : Nat) (d : LoopData) (l : LoopState) : Prop where
  runs : s.loopsRun = true
  lt : n < 32
  get : s.loop.loops[n]? = some l
  enabled : (word (s.loopWords n) 0).testBit 31 = true
  notOff : l.mode ≠ .off
  instant : s.sampleAt d % wPeriod (s.loopWords n) = 0
  turn : s.loopTurn n (s.sampleAt d) = true

/-- No command, child, new record or change of the target is in play at a sample of loop `n`. -/
structure LoopSteady (s : State) (n : Nat) (l : LoopState) : Prop where
  words : l.words = s.loopWords n
  uncommanded : l.commanded = none
  childless : l.adopt = none
  free : l.noTrack = false
  untracked : s.trackChild n = none
  target : s.targetFails (word (s.loopWords n) 0) = l.targetFault
  notTrack : l.mode ≠ .track

section
variable {s : State} {n : Nat} {d : LoopData} {l : LoopState} (hdue : LoopDue s n d l)
include hdue

theorem LoopDue.sampled_get (at' : Nat) : (sampled n at' s).loop.loops[n]? = some l := hdue.get

theorem LoopDue.not_idle : ¬ (!s.loopsRun || decide (32 ≤ n) || !(word (s.loopWords n) 0).testBit 31 ||
    (s.loopOf n).mode == .off || s.sampleAt d % wPeriod (s.loopWords n) != 0 || !s.loopTurn n (s.sampleAt d)) = true := by
  obtain ⟨hrun, hn, hl, hw, hm, hat, hturn⟩ := hdue
  rw [hrun, hw, hat, hturn, loopOf_of_get hl]
  simp [hn, hm]

theorem exec_loopSample_of_overrun (ho : d.overrun = true) :
    exec (.loopSample n d) s = .next (loopOverrun n (s.loopWords n) (sampled n (s.sampleAt d) s)) :=
  congrArg Host.Outcome.next ((if_neg hdue.not_idle).trans (if_pos ho))

theorem exec_loopSample_of_steady (ho : d.overrun = false) (hsteady : LoopSteady s n l) :
    exec (.loopSample n d) s = .next (
      let w := s.loopWords n
      let u := sampled n (s.sampleAt d) s
      if l.mode = .auto ∧ (s.samplePv w = none ∨ s.sampleSp l.mode w = none) then
        loopSkip n (s.sampleSp l.mode w).isNone (s.samplePv w).isNone u
      else loopComplete n w (s.sampleSp l.mode w) (s.samplePv w) none (s.sampleAt d) d.delay u) := by
  obtain ⟨hwords, hc, hadopt, hno, hchild, htarget, htrack⟩ := hsteady
  refine congrArg Host.Outcome.next ((if_neg hdue.not_idle).trans ((if_neg (ne_true_of_eq_false ho)).trans ?_))
  extract_lets engine was child s2 l2 s3 s4 s5 l5 pv follows sp want w u
  have hu : u.loop.loops[n]? = some l := hdue.get
  have hlu : u.loopOf n = l := loopOf_of_get hu
  have hchild' : child = none := hchild
  have hs2 : s2 = u := modLoop_of_fixed hu (by
    simp only [hwords, retuned_self, hchild', Bool.false_eq_true, and_false, if_false, modeStep_of_uncommanded hc hno htrack]
    rw [← hwords])
  have hl2 : l2 = l := (congrArg (·.loopOf n) hs2).trans hlu
  have hs3 : s3 = u := (if_pos (hl2.trans hlu.symm ▸ rfl)).trans hs2
  have hs4 : s4 = u := by simp only [s4, hl2, hadopt, hs3]
  have hs5 : s5 = u := by
    simp only [s5, hs4]
    exact judgeTarget_of_eq hu (by rw [LoopState.enabled, LoopState.config, hwords]; exact hdue.enabled) hdue.notOff
      (by rw [LoopState.config, hwords]; exact htarget)
  have hl5 : l5 = l := (congrArg (·.loopOf n) hs5).trans hlu
  have hpv : pv = s.samplePv w := by simp only [pv, hs5]; rfl
  have hsp : sp = s.sampleSp l.mode w := by simp only [sp, follows, hl5, hpv, hs5]; rfl
  have hwant : want = none := by simp only [want, hchild']
  rw [hl5, hpv, hsp, hwant, hs5]
  exact if_congr (by simp [htrack]) rfl rfl

end

/-! ### What a sample leaves (R433, R452, R453, R455) -/

section
variable {l : LoopState} {limit : Nat}

theorem afterOverrun_counts : (l.afterOverrun limit).totalOverruns = min 32767 (l.totalOverruns + 1) ∧
    (l.afterOverrun limit).overruns = min 255 (l.overruns + 1) := by
  unfold LoopState.afterOverrun
  split <;> exact ⟨rfl, rfl⟩

theorem afterOverrun_keeps : (l.afterOverrun limit).uPrev = l.uPrev ∧ (l.afterOverrun limit).integ = l.integ := by
  unfold LoopState.afterOverrun
  split <;> exact ⟨rfl, rfl⟩

theorem afterOverrun_of_limit (h : limit ≤ min 255 (l.overruns + 1)) (hm : l.mode ≠ .hold) :
    (l.afterOverrun limit).mode = .hold ∧ (l.afterOverrun limit).manual = l.uPrev := by
  rw [LoopState.afterOverrun, if_pos ⟨h, hm⟩]
  exact ⟨rfl, rfl⟩

theorem afterOverrun_of_below (h : min 255 (l.overruns + 1) < limit) :
    (l.afterOverrun limit).mode = l.mode ∧ (l.afterOverrun limit).manual = l.manual := by
  rw [LoopState.afterOverrun, if_neg fun hc => absurd hc.1 (Nat.not_le.mpr h)]
  exact ⟨rfl, rfl⟩

variable {spBad pvBad : Bool}

theorem afterSkip_keeps : (l.afterSkip limit spBad pvBad).invalids = min 255 (l.invalids + 1) ∧
    (l.afterSkip limit spBad pvBad).uPrev = l.uPrev ∧ (l.afterSkip limit spBad pvBad).integ = l.integ ∧
    (l.afterSkip limit spBad pvBad).samples = l.samples := by
  unfold LoopState.afterSkip
  split <;> exact ⟨rfl, rfl, rfl, rfl⟩

theorem afterSkip_of_limit (h : limit ≤ min 255 (l.invalids + 1)) :
    (l.afterSkip limit spBad pvBad).mode = .hold ∧ (l.afterSkip limit spBad pvBad).manual = l.uPrev := by
  rw [LoopState.afterSkip, if_pos h]
  exact ⟨rfl, rfl⟩

theorem afterSkip_of_below (h : min 255 (l.invalids + 1) < limit) : (l.afterSkip limit spBad pvBad).mode = l.mode := by
  rw [LoopState.afterSkip, if_neg (Nat.not_le.mpr h)]
  rfl

end

/-! ### The commands (R423, R424, R441) -/

/-- Only loop `n` differs between `s` and `t`, and in `t` it is `l`. -/
structure OnlyLoop (n : Nat) (l : LoopState) (s t : State) : Prop where
  frame : t.calm = ({ s with loop := t.loop } : State).calm
  others : ∀ j, j ≠ n → t.loopOf j = s.loopOf j
  self : t.loopOf n = l

theorem onlyLoop_of_calm {s t : State} {n : Nat} {l : LoopState} {f : LoopState → LoopState} (hl : s.loop.loops[n]? = some l)
    (h : t.calm = (modLoop n f s).calm) : OnlyLoop n (f l) s t where
  frame := calm_of_modLoop h
  others _ hj := loopOf_ne_of_loops (loops_of_calm h) hj
  self := loopOf_self_of_loops hl (loops_of_calm h)

/-- That a loop has sampled shows in the engine only. -/
theorem OnlyLoop.of_sampled {s t : State} {n at' : Nat} {l : LoopState} (h : OnlyLoop n l (sampled n at' s) t) :
    OnlyLoop n l s t := ⟨h.frame, h.others, h.self⟩

section
variable {s : State} {n : Nat} {d : LoopData} {l : LoopState} (hdue : LoopDue s n d l)
include hdue

theorem loopSample_overrun (ho : d.overrun = true) : ∃ t, exec (.loopSample n d) s = .next t ∧
    OnlyLoop n (l.afterOverrun (s.overrunLimit (s.loopWords n))) s t :=
  ⟨_, exec_loopSample_of_overrun hdue ho,
    (onlyLoop_of_calm (hdue.sampled_get _) (loopOverrun_calm (hdue.sampled_get _) _)).of_sampled⟩

variable (ho : d.overrun = false) (hsteady : LoopSteady s n l)
include ho hsteady

theorem loopSample_skip (hm : l.mode = .auto)
    (hbad : s.samplePv (s.loopWords n) = none ∨ s.sampleSp l.mode (s.loopWords n) = none) :
    ∃ t spBad pvBad, exec (.loopSample n d) s = .next t ∧ OnlyLoop n (l.afterSkip (s.pn 0x0B02) spBad pvBad) s t :=
  ⟨_, _, _, (exec_loopSample_of_steady hdue ho hsteady).trans (congrArg Host.Outcome.next (if_pos ⟨hm, hbad⟩)),
    (onlyLoop_of_calm (hdue.sampled_get _) (loopSkip_calm (hdue.sampled_get _) _ _)).of_sampled⟩

/-- A sample that completes enters the law's result, and reaches the field die, a ceiling, the recorder and its requester. -/
theorem loopSample_complete
    (hgood : l.mode ≠ .auto ∨ (s.samplePv (s.loopWords n) ≠ none ∧ s.sampleSp l.mode (s.loopWords n) ≠ none)) :
    ∃ t sp pv ff ffBad lim g b, exec (.loopSample n d) s = .next t ∧
      t.still = ({ modLoop n (LoopState.take s.free (s.loopWords n) sp pv
          (l.law (sampled n (s.sampleAt d) s) (s.loopWords n) sp pv ff l.uPrev) ffBad (s.sampleAt d) d.delay lim)
        (sampled n (s.sampleAt d) s) with field := g, bal := b, free := s.free + 1 } : State).still := by
  have hnot : ¬ (l.mode = .auto ∧ (s.samplePv (s.loopWords n) = none ∨ s.sampleSp l.mode (s.loopWords n) = none)) := by
    tauto
  obtain ⟨ff, ffBad, lim, g, b, h⟩ := loopComplete_still (n := n) (s.loopWords n) (s.sampleSp l.mode (s.loopWords n))
    (s.samplePv (s.loopWords n)) none (s.sampleAt d) d.delay (sampled n (s.sampleAt d) s)
  rw [show (sampled n (s.sampleAt d) s).loopOf n = l from loopOf_of_get (hdue.sampled_get _)] at h
  exact ⟨_, _, _, ff, ffBad, lim, g, b,
    (exec_loopSample_of_steady hdue ho hsteady).trans (congrArg Host.Outcome.next (if_neg hnot)), h⟩

end

section
variable {s : State} {n : Nat} {l : LoopState} (hrun : s.loopsRun = true) (hl : s.loop.loops[n]? = some l)
  (he : l.enabled = true) (hm : l.mode ≠ .off)
include hrun hl he hm

theorem loopTargetFault_of_eq (h : s.targetFails l.config = l.targetFault) : exec (.loopTargetFault n) s = .next s :=
  congrArg Host.Outcome.next ((if_pos hrun).trans (judgeTarget_of_eq hl he hm h))

theorem loopTargetFault_of_ne (h : s.targetFails l.config ≠ l.targetFault) : ∃ t, exec (.loopTargetFault n) s = .next t ∧
    OnlyLoop n (l.withTargetFault (!l.targetFault)) s t :=
  ⟨_, congrArg Host.Outcome.next (if_pos hrun), onlyLoop_of_calm hl (judgeTarget_calm_of_ne hl he hm h)⟩

end

/-- Settles O56: the idle sample, then the overrun, the skipped and the completed sample, and the target's judgement. -/
theorem loopSamples : Obligations.LoopSamples := by
  unfold Obligations.LoopSamples
  refine ⟨fun s n d l hrun hn hl => ⟨exec_loopSample_of_idle, fun hw hm hat hturn => ?_⟩,
    fun s n l hrun hl he hm => ⟨loopTargetFault_of_eq hrun hl he hm, fun h => ?_⟩⟩
  · have hdue : LoopDue s n d l := ⟨hrun, hn, hl, hw, hm, hat, hturn⟩
    refine ⟨fun ho => ?overrun, fun ho hwords hc hadopt hno hchild htarget htrack => ?steady⟩
    case overrun =>
      obtain ⟨t, hexec, hframe, hothers, hself⟩ := loopSample_overrun hdue ho
      obtain ⟨htotal, hcount⟩ := afterOverrun_counts (l := l) (limit := s.overrunLimit (s.loopWords n))
      obtain ⟨hu, hi⟩ := afterOverrun_keeps (l := l) (limit := s.overrunLimit (s.loopWords n))
      refine ⟨t, hexec, hframe, hothers, ?_⟩
      rw [hself]
      exact ⟨htotal, hcount, hu, hi, afterOverrun_of_limit, afterOverrun_of_below⟩
    case steady =>
      have hsteady : LoopSteady s n l := ⟨hwords, hc, hadopt, hno, hchild, htarget, htrack⟩
      refine ⟨fun hauto hbad => ?skip, fun hgood => ?complete⟩
      case skip =>
        obtain ⟨t, spBad, pvBad, hexec, hframe, hothers, hself⟩ :=
          loopSample_skip hdue ho hsteady hauto (hbad.imp_left samplePv_eq_none.mpr)
        obtain ⟨hcount, hu, hi, hsamples⟩ := afterSkip_keeps (l := l) (limit := s.pn 0x0B02) (spBad := spBad) (pvBad := pvBad)
        refine ⟨t, hexec, hframe, hothers, ?_⟩
        rw [hself]
        exact ⟨hcount, hu, hi, hsamples, afterSkip_of_limit, fun h => (afterSkip_of_below h).trans hauto⟩
      case complete =>
        obtain ⟨t, sp, pv, ff, ffBad, lim, g, b, hexec, h⟩ :=
          loopSample_complete hdue ho hsteady (hgood.imp_right (And.imp_left (mt samplePv_eq_none.mp)))
        have hloops : t.loop.loops = modAt s.loop.loops n _ := congrArg (·.loop.loops) h
        refine ⟨t, hexec, (congrArg State.sys h :), (congrArg State.param h :), (congrArg State.feed h :),
          (congrArg State.hv h :), (congrArg State.guard h :), (congrArg State.est h :), (congrArg State.meas h :),
          fun _ hj => loopOf_ne_of_loops hloops hj, ?_⟩
        rw [loopOf_self_of_loops hl hloops]
        refine ⟨rfl, rfl, rfl, fun hauto => ?_⟩
        have hman : l.mode = .manual ∨ l.mode = .hold := manual_or_hold hm hauto htrack
        exact ⟨law_integ_of_manual hman .., rfl, law_u_of_manual hman _ _ _ _ _ _⟩
  · obtain ⟨t, hexec, hframe, hothers, hself⟩ := loopTargetFault_of_ne hrun hl he hm h
    exact ⟨t, hexec, hframe, hothers, by rw [hself]; rfl⟩

end Sys2Proof.Machine
end

section
/-! SUPPORT. Path tests, the oscillator check and the guard configuration (O43). -/
namespace Sys2Proof.Machine
open Sys2Proof

/-! ### Runs of failures (R491, R493) -/

section
variable {s : State} {x : Nat} (he : s.evaluates = true) (ho : s.outputOn x = true)
include he ho

/-- A path test acts on an output that is on, with the safety functions evaluated. -/
theorem pathTest_acts : ¬(!s.evaluates || !s.outputOn x) = true := by simp [he, ho]

theorem enableTestGap_run {passed : Bool} {n : Nat} (hn : (if passed then 0 else s.guard.enableFails.getD x 0 + 1) = n) :
    exec (.enableTestGap x passed) s = .next (
      let t : State := { s with guard := { s.guard with enableFails := setAt s.guard.enableFails x n } }
      if n = 2 then lockout 0xBE (raise 0xBE 0 9 x [] t) else t) := by
  subst hn
  exact congrArg Host.Outcome.next (if_neg (pathTest_acts he ho))

theorem ac0CommandTest_run {passed : Bool} {n : Nat} (hn : (if passed then 0 else s.guard.commandFails.getD x 0 + 1) = n) :
    exec (.ac0CommandTest x passed) s = .next (
      let t : State := { s with guard := { s.guard with commandFails := setAt s.guard.commandFails x n } }
      if n = 2 then lockout 0xB9 (raise 0xB9 0 9 x [] (raise 0xCB 0 9 x [] (commandOff x
        { t with field := { t.field with so := modAt t.field.so x (fun o => { o with verdict := 7 }) } }))) else t) := by
  subst hn
  exact congrArg Host.Outcome.next (if_neg (pathTest_acts he ho))

end

section
variable {s : State} (he : s.evaluates = true)
include he

theorem oscillatorCheck_run {good : Bool} {n : Nat} (hn : (if good then 0 else s.guard.oscFails + 1) = n) :
    exec (.oscillatorCheck good) s = .next (
      let t : State := { s with guard := { s.guard with oscFails := n } }
      if n = 2 then lockout 0xBF (raise0 0xBF t) else t) := by
  subst hn
  exact congrArg Host.Outcome.next (if_neg (by simp [he]))

/-! ### A configuration that differs (R494) -/

variable (hv : s.guard.valid = true)
include hv

theorem guardConfigCrcCheck_of_bad : exec (.guardConfigCrcCheck false) s = .next (guardMismatch s) :=
  congrArg Host.Outcome.next (if_pos (by simp [he, hv]))

theorem guardConfigReadback_of_bad : exec (.guardConfigReadback false) s = .next (guardMismatch s) :=
  congrArg Host.Outcome.next (if_pos (by simp [he, hv]))

end

/-- Settles O43: the guard die's and AC0's tests of an output by a pass and a second failure, the oscillator check likewise,
and the two comparisons of the guard configuration. -/
theorem guardPathTests : Obligations.GuardPathTests := by
  unfold Obligations.GuardPathTests
  intro s x he
  have second {run : Nat} (h : run = 1) : (if false then 0 else run + 1) = 2 := by simp [h]
  refine ⟨fun ho => ⟨?enablePass, fun h => ?enableSecond, ?commandPass, fun h => ?commandSecond⟩, ?oscPass,
    fun h => ?oscSecond, fun hv => ⟨guardConfigCrcCheck_of_bad he hv, guardConfigReadback_of_bad he hv⟩⟩
  case enablePass => exact enableTestGap_run he ho (n := 0) rfl
  case enableSecond => exact (enableTestGap_run he ho (second h)).trans (congrArg Host.Outcome.next (if_pos rfl))
  case commandPass => exact ac0CommandTest_run he ho (n := 0) rfl
  case commandSecond => exact (ac0CommandTest_run he ho (second h)).trans (congrArg Host.Outcome.next (if_pos rfl))
  case oscPass => exact oscillatorCheck_run he (n := 0) rfl
  case oscSecond => exact (oscillatorCheck_run he (second h)).trans (congrArg Host.Outcome.next (if_pos rfl))

end Sys2Proof.Machine
end

section
/-! SUPPORT. Strand trips: the comparator and the clearing of a latch (O44). -/
namespace Sys2Proof.Machine
open Sys2Proof

/-! ### The trip of a strand after a change -/

theorem State.tripOf_eq (s : State) (k : Nat) : s.tripOf k = s.guard.trips[k]?.getD {} := List.getD_eq_getElem?_getD ..

/-- A change that keeps the active causes keeps those of the strand's trip, of one without a record too. -/
theorem State.modTrip_active (s : State) (k : Nat) {f : TripState → TripState} (hf : ∀ t, (f t).active = t.active) :
    ((s.modTrip k f).tripOf k).active = (s.tripOf k).active := by
  have hget : (s.modTrip k f).guard.trips[k]? = s.guard.trips[k]?.map f := modAt_get_self ..
  rw [State.tripOf_eq, State.tripOf_eq, hget]
  cases s.guard.trips[k]? with
  | none => rfl
  | some t => exact hf t

/-! ### OC_COMPARATOR (R471, R479) -/

section
variable {s : State} {k : Nat} (hp : s.sys.powered = true) (hk : k < 4)
include hp hk

/-- The comparator of a strand of a powered module is served. -/
theorem ocComparator_served : ¬(!s.sys.powered || decide (4 ≤ k)) = true := by simp [hp, hk]

theorem ocComparator_of_asserted (he : s.evaluates = true) (ho : (s.tripOf k).ocNow = false) :
    exec (.ocComparator k true) s = .next (overcurrent k (s.modTrip k (fun t => { t with ocNow := true }))) := by
  have hu : (s.modTrip k (fun t => { t with ocNow := true })).evaluates = true := he
  exact congrArg Host.Outcome.next ((if_neg (ocComparator_served hp hk)).trans
    ((if_pos rfl).trans (if_neg (by simp [ho, hu]))))

theorem ocComparator_of_released (h : (s.tripOf k).active = 0) :
    exec (.ocComparator k false) s = .next (s.modTrip k (fun t => { t with ocNow := false })) := by
  have hu : ((s.modTrip k (fun t => { t with ocNow := false })).tripOf k).active = 0 :=
    (s.modTrip_active k (f := fun t => { t with ocNow := false }) fun _ => rfl).trans h
  exact congrArg Host.Outcome.next ((if_neg (ocComparator_served hp hk)).trans
    ((if_neg Bool.false_ne_true).trans (if_neg (by simp [hu]))))

end

/-! ### STRAND_TRIP_CLEAR (R472) -/

section
variable {s : State} {k : Nat}

theorem strandTripClear_of_early (h : s.time.now < (s.tripOf k).endedAt + 1000 * s.pn 0x0C0E) :
    exec (.strandTripClear k) s = .next s :=
  congrArg Host.Outcome.next (if_pos (by simp [TripState.heldLongEnough, h]))

variable (ha : s.alive = true) (hk : k < 4) (hl : (s.tripOf k).guardLatch = true ∨ (s.tripOf k).ac0Latch = true)
  (hheld : (s.tripOf k).endedAt + 1000 * s.pn 0x0C0E ≤ s.time.now)
include ha hk hl hheld

/-- A latched trip is judged for its clearing once it was held for SAFE.TRIP_HOLD, unless a cause that only AC0 sees holds. -/
theorem strandTripClear_acts (hc : (s.tripOf k).active < 256) :
    ¬(!s.alive || decide (4 ≤ k) || !((s.tripOf k).guardLatch || (s.tripOf k).ac0Latch) || decide (256 ≤ (s.tripOf k).active) ||
      !(s.tripOf k).heldLongEnough s) = true := by
  have hlatch : ((s.tripOf k).guardLatch || (s.tripOf k).ac0Latch) = true := by simpa using hl
  simp [TripState.heldLongEnough, ha, hk, hlatch, hheld, hc]

theorem strandTripClear_of_ended (hc : (s.tripOf k).active = 0) : exec (.strandTripClear k) s =
    .next (raiseStrand 0xAF k (s.modTrip k (fun t => { t with ac0Latch := false, guardLatch := false, word := 0 }))) :=
  congrArg Host.Outcome.next ((if_neg (strandTripClear_acts ha hk hl hheld (by omega))).trans (if_neg (not_not.mpr hc)))

theorem strandTripClear_of_guardCause (hpos : 0 < (s.tripOf k).active) (hc : (s.tripOf k).active < 256) :
    exec (.strandTripClear k) s = .next (s.modTrip k (fun t => { t with ac0Latch := false })) :=
  congrArg Host.Outcome.next ((if_neg (strandTripClear_acts ha hk hl hheld hc)).trans (if_pos (by omega)))

end

/-- Settles O44: the comparator asserted, with a lock-out or a trip as SAFE.OC_LOCKOUT says, and released, then the clearing
before the hold time, without a cause, and with one of the guard die. -/
theorem strandTrips : Obligations.StrandTrips := by
  unfold Obligations.StrandTrips
  intro s k hp hk
  refine ⟨fun he ho => ⟨fun hlock => ?lockout, fun htrip => ?trip⟩, ocComparator_of_released hp hk, fun ha hl =>
    ⟨strandTripClear_of_early, fun hc hheld => strandTripClear_of_ended ha hk hl hheld hc,
      fun hpos hc hheld => strandTripClear_of_guardCause ha hk hl hheld hpos hc⟩⟩
  case lockout => exact (ocComparator_of_asserted hp hk he ho).trans (congrArg Host.Outcome.next (if_pos hlock))
  case trip => exact (ocComparator_of_asserted hp hk he ho).trans (congrArg Host.Outcome.next (if_neg (not_not.mpr htrip)))

end Sys2Proof.Machine
end

section
/-! SUPPORT. The inputs of the field die: digital, analogue and pulse (O58). -/
namespace Sys2Proof.Machine
open Sys2Proof

/-- What differs from a state with other field die values in events alone differs from it in the field die and in events. -/
theorem calm_of_field {s t : State} {g : FieldState} (h : t.calm = ({ s with field := g } : State).calm) :
    t.calm = ({ s with field := t.field } : State).calm ∧ t.field = g := by
  have hg : t.field = g := (congrArg State.field h :)
  exact ⟨hg ▸ h, hg⟩

/-! ### Digital inputs (R511) -/

theorem diFilter_of_filtered {s : State} {x : Nat} (ha : s.ac0On = true) (b : Bool) (hlo : 16 ≤ x) (hhi : x < 24) :
    exec (.diFilter x b) s =
      .next { s with field := { s.field with di := maskSet s.field.di x b, diRaw := maskSet s.field.diRaw x b } } :=
  congrArg Host.Outcome.next (if_pos (by simp [ha, hlo, hhi]))

theorem diFilter_of_other {s : State} {x : Nat} (b : Bool) (h : x < 16 ∨ 24 ≤ x) : exec (.diFilter x b) s = .next s :=
  congrArg Host.Outcome.next (if_neg (by simp; omega))

/-! ### The record of an analogue input -/

/-- The state with another record of an analogue input. -/
def withAi (i : Nat) (v : AiState) (s : State) : State := { s with field := { s.field with ai := setAt s.field.ai i v } }

section
variable {s : State} {i : Nat} {a : AiState} (hget : s.field.ai[i]? = some a)
include hget

theorem ai_of_get : s.field.ai.getD i {} = a := by simp [List.getD_eq_getElem?_getD, hget]

theorem modAi_of_get (f : AiState → AiState) : modAi i f s = withAi i (f a) s := by rw [modAi, modAt_eq_setAt f hget]; rfl

theorem withAi_get (v : AiState) : (withAi i v s).field.ai[i]? = some v := setAt_get_self v hget

/-- A status written over a record: 0xCC tells that it changes (R526). -/
theorem setAiStatus_withAi (v : AiState) (st : Nat) : setAiStatus i st (withAi i v s) =
    if v.status = st then withAi i v s else raise 0xCC 0 5 i [] (withAi i { v with status := st } s) := by
  have hv := withAi_get hget v
  have hput : withAi i { v with status := st } (withAi i v s) = withAi i { v with status := st } s := by
    simp [withAi, setAt_setAt]
  rw [setAiStatus, ai_of_get hv, modAi_of_get hv, hput]

theorem setAiStatus_withAi_calm (v : AiState) (st : Nat) :
    (setAiStatus i st (withAi i v s)).calm = (withAi i { v with status := st } s).calm := by
  rw [setAiStatus_withAi hget]
  split
  next h => rw [← h]
  next => exact raise_calm ..

end

/-! ### Analogue inputs (R526) -/

/-- Mode of an analogue input's configuration: 0 off, 1 current, 2 voltage. -/
def State.aiMode (s : State) (i : Nat) : Nat := s.pn (0x0D30 + i) / 2 ^ 30

/-- An analogue input after the filter took conversion `m`: a negative voltage counts as 0, and without a time constant the
conversion is taken as it is. -/
def AiState.filtered (mode tau : Nat) (m : Int) (a : AiState) : AiState :=
  let x : Rat := if mode = 2 ∧ m < 0 then 0 else (m : Rat)
  let f : Rat := if tau = 0 then 1 else 1 - expRat (-(1 / (tau : Rat)))
  { a with value := roundF32 (a.value + f * (x - a.value)) }

section
variable {s : State} {i : Nat} {a : AiState} (ha : s.ac0On = true) (hi : i < 2) (hget : s.field.ai[i]? = some a)
include hget

theorem aiSample_eq (m : Int) : ∃ st, exec (.aiSample i m) s = .next (
    if !s.ac0On || 2 ≤ i || s.aiMode i == 0 || (s.aiMode i == 1 && a.burdenOpen) then s
    else if s.aiMode i = 1 ∧ 25000 < m then withAi i { a with burdenOpen := true, openAt := s.time.now } s
    else setAiStatus i st (withAi i (a.filtered (s.aiMode i) (bits (s.pn (0x0D30 + i)) 15 0) m) s)) := by
  simp only [exec, execAiSample, ai_of_get hget, modAi_of_get hget, AiState.filtered, State.aiMode, Bool.and_eq_true,
    decide_eq_true_eq]
  exact ⟨_, rfl⟩

theorem aiSample_of_off (m : Int) (h : s.aiMode i = 0 ∨ s.aiMode i = 1 ∧ a.burdenOpen = true) :
    exec (.aiSample i m) s = .next s := by
  obtain ⟨st, hst⟩ := aiSample_eq hget m
  refine hst.trans (congrArg Host.Outcome.next (if_pos ?_))
  rcases h with h | ⟨h, hb⟩
  · simp [h]
  · simp [h, hb]

include ha

section
include hi

theorem aiSample_of_overcurrent {m : Int} (h : s.aiMode i = 1) (hb : a.burdenOpen = false) (hm : 25000 < m) :
    exec (.aiSample i m) s = .next (withAi i { a with burdenOpen := true, openAt := s.time.now } s) := by
  obtain ⟨st, hst⟩ := aiSample_eq hget m
  exact hst.trans (congrArg Host.Outcome.next ((if_neg (by simp [ha, hi, h, hb])).trans (if_pos ⟨h, hm⟩)))

/-- A conversion taken moves the filter, and a status follows. -/
theorem aiSample_of_taken {m : Int} (h : s.aiMode i = 2 ∨ s.aiMode i = 1 ∧ m ≤ 25000 ∧ a.burdenOpen = false) :
    ∃ st, exec (.aiSample i m) s =
      .next (setAiStatus i st (withAi i (a.filtered (s.aiMode i) (bits (s.pn (0x0D30 + i)) 15 0) m) s)) := by
  obtain ⟨st, hst⟩ := aiSample_eq hget m
  refine ⟨st, hst.trans (congrArg Host.Outcome.next ((if_neg ?_).trans (if_neg ?_)))⟩
  · rcases h with h | ⟨h, -, hb⟩
    · simp [ha, hi, h]
    · simp [ha, hi, h, hb]
  · omega

end

theorem aiBurdenReopen_of_elapsed (h : a.openAt + 1000000 ≤ s.time.now) :
    exec (.aiBurdenReopen i) s = .next (withAi i { a with burdenOpen := false } s) := by
  simp only [exec, execAiBurdenReopen, ai_of_get hget, modAi_of_get hget]
  exact congrArg Host.Outcome.next (if_pos (by simp [ha, h]))

omit ha in
theorem aiBurdenReopen_of_early (h : s.time.now < a.openAt + 1000000) : exec (.aiBurdenReopen i) s = .next s := by
  simp only [exec, execAiBurdenReopen, ai_of_get hget]
  exact congrArg Host.Outcome.next (if_neg (by simp [h]))

omit ha in
theorem aiWireBreak_eq (b : Bool) : exec (.aiWireBreak i b) s = .next (
    if !s.ac0On || 2 ≤ i || s.aiMode i != 1 || a.wireBreak == b then s
    else setAiStatus i (aiStatus 1 false b a.value) (withAi i { a with wireBreak := b } s)) := by
  simp only [exec, execAiWireBreak, ai_of_get hget, modAi_of_get hget, State.aiMode]
  rfl

omit ha in
theorem aiWireBreak_of_same {b : Bool} (h : s.aiMode i ≠ 1 ∨ a.wireBreak = b) : exec (.aiWireBreak i b) s = .next s := by
  refine (aiWireBreak_eq hget b).trans (congrArg Host.Outcome.next (if_pos ?_))
  rcases h with h | h <;> simp [h]

include hi

/-- A wire break that sets or ends is status 1 or 0, unless the current is above range. -/
theorem aiWireBreak_of_changed {b : Bool} (h : s.aiMode i = 1) (hne : a.wireBreak ≠ b) (hv : b = true ∨ a.value ≤ 21000) :
    exec (.aiWireBreak i b) s = .next (if a.status = bit b then withAi i { a with wireBreak := b } s
      else raise 0xCC 0 5 i [] (withAi i { a with wireBreak := b, status := bit b } s)) := by
  have hst : aiStatus 1 false b a.value = bit b := by
    rcases hv with rfl | hv
    · rfl
    · cases b <;> simp [aiStatus, bit, not_lt.mpr hv]
  rw [aiWireBreak_eq hget, hst, setAiStatus_withAi hget]
  exact congrArg Host.Outcome.next (if_neg (by simp [ha, hi, h, hne]))

end

/-! ### Pulse inputs (R528) -/

/-- The state with another record of a pulse input. -/
def withPi (i : Nat) (v : PiState) (s : State) : State := { s with field := { s.field with pi' := setAt s.field.pi' i v } }

/-- Frequency of a gate, mHz: from its first to its last edge, or with fewer than two from the last whole period. -/
def PiState.gateRate (q : PiState) : Nat :=
  if 2 ≤ q.count then milliHertz (q.count - 1) (q.last - q.first)
  else match q.period with | some x => milliHertz 1 x | none => 0

/-- A pulse input after a gate. -/
def PiState.gated (q : PiState) : PiState :=
  { q with mHz := min 125000000 q.gateRate, count := 0, tooFast := decide (100000000 < q.gateRate) }

/-- A pulse input after a good edge. -/
def PiState.counted (stamp : Nat) (q : PiState) : PiState :=
  { q with
    edges := (q.edges + 1) % 2 ^ 31, count := q.count + 1, first := if q.count = 0 then stamp else q.first, last := stamp,
    period := if q.edges = 0 ∨ stamp ≤ q.last then q.period else some (stamp - q.last) }

theorem PiState.gated_of_le {q : PiState} (h : q.gateRate ≤ 100000000) :
    q.gated = { q with mHz := q.gateRate, count := 0, tooFast := false } := by
  simp [gated, Nat.min_eq_right (h.trans (by decide : 100000000 ≤ 125000000)), Nat.not_lt.mpr h]

theorem PiState.gated_of_lt {q : PiState} (h : 100000000 < q.gateRate) :
    q.gated = { q with mHz := min 125000000 q.gateRate, count := 0, tooFast := true } := by
  simp [gated, h]

section
variable {s : State} {i : Nat} {q : PiState} (ha : s.ac0On = true) (hi : i < 2)
  (hon : (s.pn (0x0D36 + i)).testBit 31 = true)

include ha hi hon in
theorem piOn_of_enabled : s.piOn i = true := by simp [State.piOn, ha, hi, hon]

variable (hp : s.piOn i = true)
include hp

theorem piEdge_of_short (stamp : Nat) : exec (.piEdge i stamp true) s = .next (raise 0xCE 0 5 i [] s) := by
  simp [exec, execPiEdge, hp]

variable (hget : s.field.pi'[i]? = some q)
include hget

omit hp in
theorem modPi_of_get (f : PiState → PiState) : modPi i f s = withPi i (f q) s := by rw [modPi, modAt_eq_setAt f hget]; rfl

theorem piEdge_of_good (stamp : Nat) : exec (.piEdge i stamp false) s = .next (withPi i (q.counted stamp) s) := by
  simp only [exec, execPiEdge, hp, modPi_of_get hget, PiState.counted]
  rfl

/-- A gate enters its frequency; 0xCE tells that it has become too fast. -/
theorem piGate_eq : exec (.piGate i) s = .next (withPi i q.gated
    (if decide (100000000 < q.gateRate) && !q.tooFast then raise 0xCE 0 5 i [] s else s)) := by
  have hq : s.field.pi'.getD i {} = q := by simp [List.getD_eq_getElem?_getD, hget]
  have hget' (c : Bool) : (if c then raise 0xCE 0 5 i [] s else s).field.pi'[i]? = some q := by
    cases c
    · exact hget
    · simpa using hget
  refine Eq.trans ?_ (congrArg Host.Outcome.next (modPi_of_get (hget' _) (fun p => { p with
    mHz := min 125000000 q.gateRate, count := 0, tooFast := decide (100000000 < q.gateRate) })))
  simp only [exec, execPiGate, hp, hq]
  rfl

theorem piGate_of_slow (h : q.gateRate ≤ 100000000) :
    exec (.piGate i) s = .next (withPi i { q with mHz := q.gateRate, count := 0, tooFast := false } s) := by
  rw [piGate_eq hp hget, PiState.gated_of_le h, if_neg (by simp [Nat.not_lt.mpr h])]

theorem piGate_of_fast (h : 100000000 < q.gateRate) : ∃ t, exec (.piGate i) s = .next t ∧
    t.calm = (withPi i { q with mHz := min 125000000 q.gateRate, count := 0, tooFast := true } s).calm ∧
    (q.tooFast = true → t.router = s.router) := by
  refine ⟨_, piGate_eq hp hget, ?_, fun hf => ?_⟩
  · rw [PiState.gated_of_lt h]
    split
    · exact congrArg (withPi i _) (raise_calm 0xCE 0 5 i [] s)
    · rfl
  · rw [if_neg (by simp [hf])]
    rfl

theorem piNoInput_of_on :
    exec (.piNoInput i) s = .next (withPi i { q with mHz := 0, period := none, count := 0, tooFast := false } s) := by
  simp only [exec, execPiNoInput, hp, modPi_of_get hget]
  rfl

end

/-- Settles O58: a digital input filtered or refused; a conversion not taken, over-current or filtered, the burden's second and
a wire break; an edge, a gate and the silence of a pulse input. -/
theorem fieldInputs : Obligations.FieldInputs := by
  unfold Obligations.FieldInputs
  refine fun s ha => ⟨fun x b => ⟨diFilter_of_filtered ha b, diFilter_of_other b⟩, fun i a hi hget => ⟨fun m =>
      ⟨aiSample_of_off hget m, aiSample_of_overcurrent ha hi hget, fun h => ?sample⟩,
      aiBurdenReopen_of_elapsed ha hget, aiBurdenReopen_of_early hget, fun b =>
      ⟨aiWireBreak_of_same hget, aiWireBreak_of_changed ha hi hget⟩⟩, fun i q hi hget hon => ?pulse⟩
  case sample =>
    obtain ⟨st, hst⟩ := aiSample_of_taken ha hi hget h
    exact ⟨_, st, hst, calm_of_field (setAiStatus_withAi_calm hget _ st)⟩
  case pulse =>
    have hp := piOn_of_enabled ha hi hon
    refine ⟨fun stamp => ⟨piEdge_of_short hp stamp, fun he hl => ?next, fun he => ?first⟩, fun f hf => ?gate,
      piNoInput_of_on hp hget⟩
    case next => simpa [PiState.counted, he, Nat.not_le.mpr hl, withPi] using piEdge_of_good hp hget stamp
    case first => simpa [PiState.counted, he, withPi] using piEdge_of_good hp hget stamp
    case gate =>
      obtain rfl : f = q.gateRate := hf
      exact ⟨piGate_of_slow hp hget, piGate_of_fast hp hget⟩

end Sys2Proof.Machine
end

section
/-! SUPPORT. What leaves the guard die and the field die alone, on the way of a lock-out. -/
namespace Sys2Proof.Machine
open Sys2Proof

/-- The dies behind the barrier: the guard die and the field die. -/
def State.dies (s : State) : GuardState × FieldState := (s.guard, s.field)

@[simp] theorem dies_mk (time pins sys feed router silt port param rings meas hv bal guard field est mem loop thermal
    can clock disp tw twc banks upd ident free pending) :
    (State.mk time pins sys feed router silt port param rings meas hv bal guard field est mem loop thermal can clock disp tw twc
      banks upd ident free pending).dies = (guard, field) := rfl

@[simp] theorem dies_eta (s : State) : (s.guard, s.field) = s.dies := rfl

@[simp] theorem foldl_dies {α : Type} {f : State → α → State} (h : ∀ s a, (f s a).dies = s.dies) (l : List α) (s : State) :
    (l.foldl f s).dies = s.dies := foldl_field State.dies h l s

@[simp] theorem ite_dies (c : Prop) [Decidable c] (s t : State) : (if c then s else t).dies = if c then s.dies else t.dies :=
  apply_ite _ _ _ _

theorem guard_of_dies {s t : State} (h : t.dies = s.dies) : t.guard = s.guard := congrArg Prod.fst h
theorem field_of_dies {s t : State} (h : t.dies = s.dies) : t.field = s.field := congrArg Prod.snd h

section
variable (s : State)

@[simp] theorem raise_dies (src code kind index : Nat) (detail : List Byte) : (raise src code kind index detail s).dies = s.dies :=
  (congrArg State.dies (raise_calm src code kind index detail s) :)
@[simp] theorem raiseStrand_dies (src k : Nat) : (raiseStrand src k s).dies = s.dies := raise_dies ..
@[simp] theorem State.setOut_dies (p : Port) (o : OutState) : (s.setOut p o).dies = s.dies := by cases p <;> rfl
@[simp] theorem irq_dies (p : Port) (b : Nat) : (irq p b s).dies = s.dies := by cases p <;> rfl
@[simp] theorem owe_dies (p : Port) : (owe p s).2.dies = s.dies := by simp [owe]
@[simp] theorem dropped_dies (p : Port) (stamp sec : Nat) : (dropped p stamp sec s).dies = s.dies := by simp [dropped]
@[simp] theorem postDroppable_dies (p : Port) (pkt : OutPacket) : (postDroppable p pkt s).dies = s.dies := by
  unfold postDroppable
  dsimp only
  split
  · simp
  · split <;> simp
@[simp] theorem modeChanged_dies (old new : Mode) (cause : Nat) : (modeChanged old new cause s).dies = s.dies := by
  simp [modeChanged]
@[simp] theorem State.modRing_dies (r : Nat) (f : RingState → RingState) : (s.modRing r f).dies = s.dies := rfl
@[simp] theorem State.modMeas_dies (k : Nat) (f : MeasState → MeasState) : (s.modMeas k f).dies = s.dies := rfl
@[simp] theorem State.modBal_dies (k : Nat) (f : BalState → BalState) : (s.modBal k f).dies = s.dies := rfl
@[simp] theorem ringGap_dies (r : Nat) : (ringGap r s).dies = s.dies := by simp [ringGap]
@[simp] theorem askGap_dies (r : Nat) : (askGap r s).dies = s.dies := by simp [askGap]
@[simp] theorem endTransfers_dies (k : Nat) : (endTransfers k s).dies = s.dies := by simp [endTransfers, askStopAll]
@[simp] theorem stopTransfers_dies (k : Nat) : (stopTransfers k s).dies = s.dies := by simp [stopTransfers]
@[simp] theorem stopAllTransfers_dies : (stopAllTransfers s).dies = s.dies := by simp [stopAllTransfers]

end

end Sys2Proof.Machine
end

section
/-! SUPPORT. The outputs of the field die: their records, and what withdrawing commands and a lock-out leave of them. -/
namespace Sys2Proof.Machine
open Sys2Proof

/-! ### The record of an output -/

theorem outNo_lt (o : OutputId) : outNo o < 24 := by cases o <;> simp only [outNo] <;> omega

/-- The field die has a record of each of its 24 outputs. -/
structure FieldState.Full (f : FieldState) : Prop where
  so : f.so.length = 12
  go : f.go.length = 8
  ts : f.ts.length = 4

theorem getD_modAt_ne {α : Type} (l : List α) {i j : Nat} (f : α → α) (d : α) (h : i ≠ j) : (modAt l i f).getD j d = l.getD j d := by
  simp [List.getD_eq_getElem?_getD, modAt_get_ne l f h]

theorem getD_modAt_self {α : Type} {l : List α} {i : Nat} (f : α → α) (d : α) (h : i < l.length) :
    (modAt l i f).getD i d = f (l.getD i d) := by
  simp only [List.getD_eq_getElem?_getD, modAt_get_self, List.getElem?_eq_getElem h, Option.map_some, Option.getD_some]

/-- Two changes that agree on an entry do the same to a list. -/
theorem modAt_congr {α : Type} {l : List α} {i : Nat} {f f' : α → α} {d : α} (h : f (l.getD i d) = f' (l.getD i d)) :
    modAt l i f = modAt l i f' := by
  cases hi : l[i]? with
  | none => rw [modAt_none f hi, modAt_none f' hi]
  | some a =>
    have ha : l.getD i d = a := by simp [List.getD_eq_getElem?_getD, hi]
    rw [modAt_eq_setAt f hi, modAt_eq_setAt f' hi, ← ha, h]

/-- A change that a map does not see. -/
theorem map_modAt {α β : Type} {f : α → α} {g : α → β} (h : ∀ a, g (f a) = g a) (l : List α) (i : Nat) :
    (modAt l i f).map g = l.map g := by
  induction l generalizing i with
  | nil => rfl
  | cons a l ih => cases i <;> simp [modAt, h, ih]

theorem modAt_id {α : Type} (l : List α) (i : Nat) : modAt l i (fun a => a) = l := by
  induction l generalizing i with
  | nil => rfl
  | cons a l ih => cases i <;> simp [modAt, ih]

section
variable {s : State} {i : Nat} (f : OutputState → OutputState)

theorem modOut_full (h : s.field.Full) : (modOut i f s).field.Full := by
  unfold modOut
  dsimp only
  split
  · exact ⟨(modAt_length ..).trans h.so, h.go, h.ts⟩
  · split
    · exact ⟨h.so, (modAt_length ..).trans h.go, h.ts⟩
    · exact ⟨h.so, h.go, (modAt_length ..).trans h.ts⟩

theorem modOut_out_self (h : s.field.Full) (hi : i < 24) : (modOut i f s).field.out i = f (s.field.out i) := by
  obtain ⟨hso, hgo, hts⟩ := h
  unfold modOut FieldState.out
  dsimp only
  split
  next h1 => exact getD_modAt_self f {} (by omega)
  next h1 =>
    split
    next h2 => exact getD_modAt_self f {} (by omega)
    next h2 => exact getD_modAt_self f {} (by omega)

theorem modOut_out_ne {j : Nat} (h : i ≠ j) : (modOut i f s).field.out j = s.field.out j := by
  unfold modOut FieldState.out
  dsimp only
  by_cases h1 : j < 12
  · simp only [if_pos h1]
    split
    · exact getD_modAt_ne _ f {} h
    · split <;> rfl
  · simp only [if_neg h1]
    by_cases h2 : j < 20
    · simp only [if_pos h2]
      split
      · rfl
      · split
        · exact getD_modAt_ne _ f {} (by omega)
        · rfl
    · simp only [if_neg h2]
      split
      · rfl
      · split
        · rfl
        · exact getD_modAt_ne _ f {} (by omega)

theorem modOut_modOut (f' : OutputState → OutputState) : modOut i f' (modOut i f s) = modOut i (fun o => f' (f o)) s := by
  unfold modOut
  dsimp only
  split
  · simp only [modAt_modAt]
  · split <;> simp only [modAt_modAt]

variable {f}

/-- Two changes that agree on the record of an output do the same. -/
theorem modOut_congr {f' : OutputState → OutputState} (h : f (s.field.out i) = f' (s.field.out i)) :
    modOut i f s = modOut i f' s := by
  unfold FieldState.out at h
  unfold modOut
  dsimp only
  by_cases h1 : i < 12
  · simp only [if_pos h1] at h ⊢
    rw [modAt_congr h]
  · simp only [if_neg h1] at h ⊢
    by_cases h2 : i < 20
    · simp only [if_pos h2] at h ⊢
      rw [modAt_congr h]
    · simp only [if_neg h2] at h ⊢
      rw [modAt_congr h]

theorem modOut_of_fixed (h : f (s.field.out i) = s.field.out i) : modOut i f s = s := by
  rw [modOut_congr (f' := fun o => o) h]
  unfold modOut
  simp only [modAt_id, ite_self]

variable (f)

@[simp] theorem modOut_lplus : (modOut i f s).field.lplus = s.field.lplus := by
  unfold modOut
  dsimp only
  split
  · rfl
  · split <;> rfl

@[simp] theorem modOut_goDuty : (modOut i f s).field.goDuty = s.field.goDuty := by
  unfold modOut
  dsimp only
  split
  · rfl
  · split <;> rfl

@[simp] theorem modOut_schedule : (modOut i f s).schedule = s.schedule := rfl

@[simp] theorem modOut_outCommanded (j : Nat) : (modOut i f s).outCommanded j = s.outCommanded j := by
  unfold State.outCommanded
  rw [modOut_goDuty]
  rfl

@[simp] theorem modOut_supplyHeld (j : Nat) : (modOut i f s).supplyHeld j = s.supplyHeld j := by
  simp only [State.supplyHeld, modOut_lplus]

end

theorem setVerdict_out {s : State} {i : Nat} (v : Nat) (h : s.field.Full) (hi : i < 24) :
    (setVerdict i v s).field.out i = { s.field.out i with verdict := v, partner := 31, retry := false } := modOut_out_self _ h hi

/-! ### What commands do not touch -/

/-- The record of an output without the instant of its switch-on, which a command writes (R515). -/
def OutputState.judged (o : OutputState) : OutputState := { o with onSince := 0 }

/-- The field die without what commands of outputs write (R515, R518). -/
def FieldState.judged (f : FieldState) : FieldState :=
  { f with so := f.so.map OutputState.judged, go := f.go.map OutputState.judged, ts := f.ts.map OutputState.judged,
           soCmd := 0, goDuty := [], goCmd := [] }

theorem FieldState.judged_out (f : FieldState) (i : Nat) : f.judged.out i = (f.out i).judged := by
  have key (l : List OutputState) (n : Nat) : (l.map OutputState.judged).getD n {} = (l.getD n {}).judged := by
    cases h : l[n]? <;> simp only [List.getD_eq_getElem?_getD, List.getElem?_map, h] <;> rfl
  unfold FieldState.out judged
  dsimp only
  split
  · exact key ..
  · split <;> exact key ..

section
variable {f g : FieldState} (h : f.judged = g.judged)
include h

theorem out_of_judged (i : Nat) : (f.out i).judged = (g.out i).judged := by
  rw [← FieldState.judged_out, ← FieldState.judged_out, h]

theorem verdict_of_judged (i : Nat) : (f.out i).verdict = (g.out i).verdict :=
  (congrArg OutputState.verdict (out_of_judged h i) :)

theorem partner_of_judged (i : Nat) : (f.out i).partner = (g.out i).partner :=
  (congrArg OutputState.partner (out_of_judged h i) :)

theorem retry_of_judged (i : Nat) : (f.out i).retry = (g.out i).retry := (congrArg OutputState.retry (out_of_judged h i) :)

theorem cutoffs_of_judged (i : Nat) : (f.out i).cutoffs = (g.out i).cutoffs :=
  (congrArg OutputState.cutoffs (out_of_judged h i) :)

theorem lplus_of_judged : f.lplus = g.lplus := (congrArg FieldState.lplus h :)

theorem full_of_judged (hg : g.Full) : f.Full := by
  have key {l l' : List OutputState} (h : l.map OutputState.judged = l'.map OutputState.judged) : l.length = l'.length := by
    simpa using congrArg List.length h
  exact ⟨(key (congrArg FieldState.so h)).trans hg.so, (key (congrArg FieldState.go h)).trans hg.go,
    (key (congrArg FieldState.ts h)).trans hg.ts⟩

end

theorem foldl_judged {α : Type} {f : State → α → State} (h : ∀ s a, (f s a).field.judged = s.field.judged) (l : List α)
    (s : State) : (l.foldl f s).field.judged = s.field.judged := foldl_field (·.field.judged) h l s

section
variable (s : State)

@[simp] theorem commandOn_judged (x : Nat) : (commandOn x s).field.judged = s.field.judged := by
  unfold commandOn
  split
  · have key := map_modAt (f := fun o : OutputState => if s.commanded x then o else { o with onSince := s.time.now })
      (g := OutputState.judged) (fun o => by split <;> rfl) s.field.so x
    simp only [FieldState.judged, key]
  · rfl

@[simp] theorem commandOff_field (x : Nat) : (commandOff x s).field = s.field := by unfold commandOff; split <;> rfl
@[simp] theorem commandStrandOff_field (k : Nat) : (commandStrandOff k s).field = s.field := by simp [commandStrandOff]
@[simp] theorem enqueueWeld_field (k : Nat) : (enqueueWeld k s).field = s.field := by unfold enqueueWeld; split <;> rfl
@[simp] theorem withdraw_field (m : Nat) : (withdraw m s).field = s.field := rfl

@[simp] theorem connectNext_judged (l res : List Nat) (by' : Option Requester) :
    (connectNext l res by' s).field.judged = s.field.judged := by
  induction l generalizing res s with
  | nil => cases by' <;> simp [connectNext]
  | cons k l ih =>
    unfold connectNext
    split
    · exact ih _ _
    · split
      · simp [ih]
      · dsimp only
        split <;> simp

@[simp] theorem connectAbort_judged (q : ConnectSeq) : (connectAbort q s).field.judged = s.field.judged := by
  simp [connectAbort, connectFail]

@[simp] theorem openStrand_judged (k : Nat) : (openStrand k s).field.judged = s.field.judged := by
  unfold openStrand
  dsimp only
  split
  · split
    · simp
    · split <;> simp
  · split <;> simp

@[simp] theorem openStrands_judged (m : Nat) : (openStrands m s).field.judged = s.field.judged :=
  foldl_judged (fun s k => by split <;> simp) _ s

@[simp] theorem cancelConnect_judged : (cancelConnect s).field.judged = s.field.judged := by
  unfold cancelConnect
  split
  · rfl
  · rw [enqueueWeld_field, connectAbort_judged]
    exact foldl_judged (fun _ _ => congrArg FieldState.judged (note_field ..)) _ s

@[simp] theorem allOff_judged : (allOff s).field.judged = s.field.judged := by simp [allOff]

theorem allOff_commands : (allOff s).guard.commands = 0 := by simp [allOff, withdraw]

/-! ### The entry to LOCKOUT (R107, R471) -/

theorem leaveRun_judged : (leaveRun false s).field.judged = s.field.judged :=
  (rfl : (leaveRun false s).field.judged = (cancelConnect s).field.judged).trans (cancelConnect_judged s)

/-- The entry to LOCKOUT opens every strand and withdraws every command, and leaves the verdicts. -/
theorem enterLockout_dies {s : State} (cause : Nat) (h : s.sys.mode ≠ .lockout) :
    ∃ u, (enterMode .lockout cause s).dies = (allOff u).dies ∧ u.field.judged = s.field.judged := by
  unfold enterMode
  extract_lets old limp a b c d e _ f
  have hb : b.field.judged = s.field.judged := by
    have ha : a = s := rfl
    simp only [b, ha]
    split <;> rfl
  have hc : c.field.judged = s.field.judged := by
    refine Eq.trans ?_ hb
    simp only [c]
    split
    · exact leaveRun_judged b
    · rfl
  have he : e.dies = (allOff c).dies := stopAllTransfers_dies _
  rw [if_neg h]
  exact ⟨c, (modeChanged_dies ..).trans he, hc⟩

theorem enterLockout_judged (cause : Nat) : (enterMode .lockout cause s).field.judged = s.field.judged := by
  by_cases h : s.sys.mode = .lockout
  · simp [enterMode, h]
  · obtain ⟨u, hu, hj⟩ := enterLockout_dies cause h
    rw [field_of_dies hu, allOff_judged, hj]

theorem enterLockout_commands (cause : Nat) (h : s.guard.commands = 0) : (enterMode .lockout cause s).guard.commands = 0 := by
  by_cases hm : s.sys.mode = .lockout
  · simpa [enterMode, hm] using h
  · obtain ⟨u, hu, -⟩ := enterLockout_dies cause hm
    rw [guard_of_dies hu, allOff_commands]

/-- The first lockout fault: every command withdrawn. -/
theorem lockout_cases (src : Nat) : (lockout src s).dies = s.dies ∨
    (lockout src s).field.judged = s.field.judged ∧ (lockout src s).guard.commands = 0 := by
  unfold lockout
  extract_lets _ a _ _ b c _
  have ha : a.dies = s.dies := rfl
  have hb : b.field = s.field := rfl
  have hj : c.field.judged = s.field.judged := by
    simp only [c, allOff_judged, raise_field, hb]
  have hc : c.guard.commands = 0 := allOff_commands _
  clear_value c b a
  split
  · exact .inl rfl
  split
  · refine .inl ?_
    split
    · exact ha
    · exact (raise_dies ..).trans ha
  · refine .inr ?_
    split
    · exact ⟨hj, hc⟩
    · exact ⟨hj, hc⟩
    · exact ⟨(enterLockout_judged c src).trans hj, enterLockout_commands c src hc⟩

theorem lockout_judged (src : Nat) : (lockout src s).field.judged = s.field.judged := by
  rcases lockout_cases s src with h | h
  · rw [field_of_dies h]
  · exact h.1

variable {s}

theorem lockout_commanded {x : Nat} (src : Nat) (h : s.commanded x = false) : (lockout src s).commanded x = false := by
  rcases lockout_cases s src with hd | ⟨-, hc⟩
  · rwa [State.commanded, guard_of_dies hd]
  · rw [State.commanded, hc, Nat.zero_testBit]

end

/-! ### Withdrawn and locked outputs (R519 to R521, R524) -/

theorem maskSet_testBit_self (m i : Nat) : (maskSet m i false).testBit i = false := by
  unfold maskSet
  cases h : m.testBit i <;> simp [h]

section
variable (s : State) (i : Nat)

theorem withdrawOut_judged : (withdrawOut i s).field.judged = s.field.judged := by
  unfold withdrawOut
  dsimp only
  split
  · refine Eq.trans (b := (commandOff i ((List.range 4).foldl
      (fun s k => if s.soPos k = i ∨ s.soNeg k = i then openStrand k s else s) s)).field.judged) rfl ?_
    rw [commandOff_field]
    exact foldl_judged (fun s k => by split <;> simp) _ s
  · split <;> rfl

theorem withdrawOut_schedule : (withdrawOut i s).schedule = s.schedule := by simp [withdrawOut]

theorem soLock_judged : (soLock i s).field.judged = s.field.judged := by
  unfold soLock
  split
  · rw [lockout_judged, raise_field]
  · rfl

variable {s i}

theorem withdrawOut_commanded (h : i < 12) : (withdrawOut i s).commanded i = false := by
  simp only [withdrawOut, if_pos h, commandOff]
  exact maskSet_testBit_self ..

/-- A general output is withdrawn by its duty alone. -/
theorem withdrawOut_go (h : 12 ≤ i) (h' : i < 20) : withdrawOut i s = { s with field := { s.field with
    goDuty := setAt s.field.goDuty (i - 12) 0, goCmd := setAt s.field.goCmd (i - 12) 0 } } :=
  (if_neg (Nat.not_lt.mpr h)).trans (if_pos h')

theorem soLock_of_ge (h : 12 ≤ i) : soLock i s = s := if_neg (Nat.not_lt.mpr h)

theorem soLock_commanded (h : s.commanded i = false) : (soLock i s).commanded i = false := by
  unfold soLock
  split
  · refine lockout_commanded _ ?_
    rwa [State.commanded, raise_guard]
  · exact h

end

end Sys2Proof.Machine
end

section
/-! SUPPORT. Read-back, overload and short verdicts of an output (O57). -/
namespace Sys2Proof.Machine
open Sys2Proof

theorem alive_of_ac0On {s : State} (h : s.ac0On = true) : s.alive = true := by
  simp only [State.ac0On, Bool.and_eq_true] at h
  exact h.1.1.1

/-- Events do not come between a state and a change of one of its outputs. -/
theorem modOut_calm_congr {s t : State} {i : Nat} (f : OutputState → OutputState) (h : t.calm = s.calm) :
    (modOut i f t).calm = (modOut i f s).calm := congrArg (modOut i f) h

theorem calm_of_modOut {s t : State} {i : Nat} {f : OutputState → OutputState} (h : t.calm = (modOut i f s).calm) :
    t.calm = ({ s with field := t.field } : State).calm := (calm_of_field (g := (modOut i f s).field) h).1

/-! ### FIELD_READBACK (R519) -/

/-- A read-back entered. -/
def readBack (i : Nat) (d : Readback) (s : State) : State :=
  modOut i (fun x => { x with on := d.conducting, current := d.current })
    { s with field := { s.field with reportAt := s.time.now } }

/-- An output that carries current without a command: verdict 7, its command withdrawn. -/
def strayWithdrawn (i : Nat) (s : State) : State := soLock i (withdrawOut i (raise 0xCB 0 9 i [] (setVerdict i 7 s)))

section
variable {s : State} {i : Nat}

theorem readBack_full (d : Readback) (h : s.field.Full) : (readBack i d s).field.Full :=
  modOut_full _ (s := { s with field := { s.field with reportAt := s.time.now } }) ⟨h.so, h.go, h.ts⟩

theorem readBack_verdict (d : Readback) (h : s.field.Full) (hi : i < 24) :
    ((readBack i d s).field.out i).verdict = (s.field.out i).verdict := by
  rw [readBack, modOut_out_self _ (s := { s with field := { s.field with reportAt := s.time.now } }) ⟨h.so, h.go, h.ts⟩ hi]
  rfl

theorem readBack_outUsed (d : Readback) (j : Nat) : (readBack i d s).outUsed j = s.outUsed j := rfl

theorem strayWithdrawn_judged : (strayWithdrawn i s).field.judged = (setVerdict i 7 s).field.judged := by
  rw [strayWithdrawn, soLock_judged, withdrawOut_judged, raise_field]

theorem strayWithdrawn_verdict (h : s.field.Full) (hi : i < 24) : ((strayWithdrawn i s).field.out i).verdict = 7 := by
  rw [verdict_of_judged strayWithdrawn_judged, setVerdict_out 7 h hi]

theorem strayWithdrawn_retry (h : s.field.Full) (hi : i < 24) : ((strayWithdrawn i s).field.out i).retry = false := by
  rw [retry_of_judged strayWithdrawn_judged, setVerdict_out 7 h hi]

theorem strayWithdrawn_commanded (hi : i < 12) : (strayWithdrawn i s).commanded i = false :=
  soLock_commanded (withdrawOut_commanded hi)

/-- Of a general output only its duty is withdrawn, and no safety output is concerned. -/
theorem strayWithdrawn_go (h : 12 ≤ i) (h' : i < 20) :
    (strayWithdrawn i s).field.goDuty = setAt s.field.goDuty (i - 12) 0 ∧ (strayWithdrawn i s).sys = s.sys ∧
      (strayWithdrawn i s).guard = s.guard := by
  rw [strayWithdrawn, soLock_of_ge h, withdrawOut_go h h']
  simp [setVerdict]

end

section
variable {s : State} {o : OutputId} (ha : s.ac0On = true) (hfull : s.field.Full) (d : Readback)
  (hu : s.outUsed (outNo o) = true) (hm : (s.field.lplus.getD (outSupply (outNo o)) {}).missing = false)
include ha hfull hu hm

/-- The read-back of a supplied output in use. -/
theorem fieldReadback_eq : exec (.fieldReadback o d) s = .next (
    if !s.outCommanded (outNo o) ∧ 10 < d.pole ∧ outNo o < 20 ∧
        ((s.field.out (outNo o)).verdict ≤ 3 ∨ (s.field.out (outNo o)).verdict = 8) then
      strayWithdrawn (outNo o) (readBack (outNo o) d s)
    else if s.supplyHeld (outNo o) ∨ !s.openCheck (outNo o) then readBack (outNo o) d s
    else if (s.field.out (outNo o)).verdict = 0 ∧ d.openLoad = true then
      raise 0xC5 0 9 (outNo o) [] (setVerdict (outNo o) 1 (readBack (outNo o) d s))
    else if (s.field.out (outNo o)).verdict = 1 ∧ d.openLoad = false then
      raise 0xC5 0 9 (outNo o) [] (setVerdict (outNo o) 0 (readBack (outNo o) d s))
    else readBack (outNo o) d s) := by
  have hv := readBack_verdict d hfull (outNo_lt o)
  have hc : (readBack (outNo o) d s).outCommanded (outNo o) = s.outCommanded (outNo o) := modOut_outCommanded ..
  have hh : (readBack (outNo o) d s).supplyHeld (outNo o) = s.supplyHeld (outNo o) := modOut_supplyHeld ..
  have hu' : ¬ (!(readBack (outNo o) d s).outUsed (outNo o)) = true := by
    rw [readBack_outUsed, hu]
    decide
  have hm' : ¬ ((readBack (outNo o) d s).field.lplus.getD (outSupply (outNo o)) {}).missing = true := by
    rwa [readBack, modOut_lplus, Bool.not_eq_true]
  rw [← hv, ← hc, ← hh]
  refine congrArg Host.Outcome.next ((if_neg (by simp [ha])).trans ((if_neg hu').trans (if_neg hm')))

end

/-! ### OVERLOAD_CUTOFF, OVERLOAD_RETRY and OVERLOAD_SEQUENCE_END (R520, R525) -/

/-- The record of an output cut off, with one more cut-off counted and the retry due in a second. -/
def OutputState.cut (now : Nat) (o : OutputState) : OutputState :=
  { o with cutoffs := o.cutoffs + 1, on := false, current := 0, cutAt := now, retryAt := now + 1000000 }

/-- A cut-off counted and told by 0xC6. -/
def cutOff (i : Nat) (s : State) : State := raise 0xC6 0 9 i [] (modOut i (OutputState.cut s.time.now) s)

/-- The fourth cut-off of a sequence: verdict 3, the command withdrawn. -/
def cutLatched (i : Nat) (s : State) : State := withdrawOut i (raise 0xC7 0 9 i [] (setVerdict i 3 (cutOff i s)))

section
variable {s : State} {i : Nat}

theorem cutOff_full (h : s.field.Full) : (cutOff i s).field.Full := by
  rw [cutOff, raise_field]
  exact modOut_full _ h

theorem cutOff_out (h : s.field.Full) (hi : i < 24) :
    (cutOff i s).field.out i = (s.field.out i).cut s.time.now := by
  rw [cutOff, raise_field, modOut_out_self _ h hi]

theorem cutLatched_judged : (cutLatched i s).field.judged = (setVerdict i 3 (cutOff i s)).field.judged := by
  rw [cutLatched, withdrawOut_judged, raise_field]

theorem cutLatched_schedule : (cutLatched i s).schedule = s.schedule := by
  rw [cutLatched, withdrawOut_schedule, raise_schedule]
  exact raise_schedule (modOut i _ s) ..

end

section
variable {s : State} {o : OutputId}

section
variable (ha : s.ac0On = true) (hfull : s.field.Full) (hu : s.outUsed (outNo o) = true) (hh : s.supplyHeld (outNo o) = false)
  (hc : s.outCommanded (outNo o) = true) (hv : (s.field.out (outNo o)).verdict < 2)
include ha hu hh hc hv

theorem overloadCutoff_eq : exec (.overloadCutoff o) s = .next (
    if 4 ≤ (s.field.out (outNo o)).cutoffs + 1 then cutLatched (outNo o) s
    else modOut (outNo o) (fun o => { o with verdict := 2, retry := true }) (cutOff (outNo o) s)) := by
  have hcut : cutOff (outNo o) s = raise 0xC6 0 9 (outNo o) [] (modOut (outNo o) (fun x => { x with
      cutoffs := (s.field.out (outNo o)).cutoffs + 1, on := false, current := 0, cutAt := s.time.now,
      retryAt := s.time.now + 1000000 }) s) :=
    congrArg (raise 0xC6 0 9 (outNo o) []) (modOut_congr rfl)
  rw [cutLatched, hcut]
  exact congrArg Host.Outcome.next (if_neg (by simp [ha, hu, hh, hc, hv]))

include hfull

theorem overloadCutoff_of_retry (hn : (s.field.out (outNo o)).cutoffs < 3) : ∃ t, exec (.overloadCutoff o) s = .next t ∧
    t.calm = ({ s with field := t.field } : State).calm ∧ t.field.out (outNo o) = { s.field.out (outNo o) with
      cutoffs := (s.field.out (outNo o)).cutoffs + 1, on := false, current := 0, verdict := 2, retry := true,
      cutAt := s.time.now, retryAt := s.time.now + 1000000 } := by
  refine ⟨_, (overloadCutoff_eq ha hu hh hc hv).trans (congrArg Host.Outcome.next (if_neg (by omega))), ?_, ?_⟩
  · exact calm_of_modOut ((modOut_calm_congr _ (raise_calm ..)).trans (congrArg State.calm (modOut_modOut ..)))
  · rw [modOut_out_self _ (cutOff_full hfull) (outNo_lt o), cutOff_out hfull (outNo_lt o)]
    rfl

theorem overloadCutoff_of_latch (hn : 3 ≤ (s.field.out (outNo o)).cutoffs) : ∃ t, exec (.overloadCutoff o) s = .next t ∧
    (t.field.out (outNo o)).verdict = 3 ∧ (t.field.out (outNo o)).cutoffs = (s.field.out (outNo o)).cutoffs + 1 ∧
    (t.field.out (outNo o)).retry = false ∧ t.param = s.param ∧ t.sys.lock = s.sys.lock := by
  have hj := cutLatched_judged (s := s) (i := outNo o)
  have hq := cutLatched_schedule (s := s) (i := outNo o)
  have hout := setVerdict_out 3 (cutOff_full (i := outNo o) hfull) (outNo_lt o)
  refine ⟨_, (overloadCutoff_eq ha hu hh hc hv).trans (congrArg Host.Outcome.next (if_pos (by omega))), ?_, ?_, ?_,
    (congrArg Schedule.param hq :), (congrArg (·.sys.lock) hq :)⟩
  · rw [verdict_of_judged hj, hout]
  · rw [cutoffs_of_judged hj, hout, cutOff_out hfull (outNo_lt o)]
    rfl
  · rw [retry_of_judged hj, hout]

end

theorem overloadRetry_of_due (ha : s.ac0On = true) (hr : (s.field.out (outNo o)).retry = true)
    (hv : (s.field.out (outNo o)).verdict = 2) (hh : s.supplyHeld (outNo o) = false)
    (hd : (s.field.out (outNo o)).retryAt ≤ s.time.now) : exec (.overloadRetry o) s =
      .next (modOut (outNo o) (fun x => { x with verdict := 0, retry := false, onSince := s.time.now }) s) :=
  congrArg Host.Outcome.next (if_pos (by simp [alive_of_ac0On ha, hr, hv, hh, hd]))

theorem overloadRetry_of_not_due (h : (s.field.out (outNo o)).retry = false ∨ (s.field.out (outNo o)).verdict ≠ 2 ∨
    s.supplyHeld (outNo o) = true ∨ s.time.now < (s.field.out (outNo o)).retryAt) : exec (.overloadRetry o) s = .next s := by
  refine congrArg Host.Outcome.next (if_neg ?_)
  rcases h with h | h | h | h <;> simp [h]

theorem overloadSequenceEnd_of_elapsed (h : (s.field.out (outNo o)).cutAt + 60000000 ≤ s.time.now) :
    exec (.overloadSequenceEnd o) s = .next (modOut (outNo o) (fun x => { x with cutoffs := 0 }) s) :=
  congrArg Host.Outcome.next (modOut_congr (if_pos h))

theorem overloadSequenceEnd_of_early (h : s.time.now < (s.field.out (outNo o)).cutAt + 60000000) :
    exec (.overloadSequenceEnd o) s = .next s :=
  congrArg Host.Outcome.next (modOut_of_fixed (if_neg (by omega)))

end

/-! ### SHORT_SEARCH (R519, R521) -/

/-- An output found wired to another one, its partner. -/
def shortedTo (i p : Nat) (s : State) : State := modOut i (fun o => { o with verdict := 5, partner := p, retry := false }) s

section
variable {s : State} {o : OutputId} (ha : s.ac0On = true) (hfull : s.field.Full) (hi : outNo o < 20)
  (hu : s.outUsed (outNo o) = true) (hh : s.supplyHeld (outNo o) = false) (hc : s.outCommanded (outNo o) = false)
  (hv : (s.field.out (outNo o)).verdict < 4 ∨ 7 < (s.field.out (outNo o)).verdict)

section
include ha hi hu hh hc hv

theorem shortSearch_acts : ¬ (!s.ac0On || decide (20 ≤ outNo o) || !s.outUsed (outNo o) || s.supplyHeld (outNo o) ||
    s.outCommanded (outNo o) ||
    (decide (4 ≤ (s.field.out (outNo o)).verdict) && decide ((s.field.out (outNo o)).verdict ≤ 7))) = true := by
  simp [ha, hi, hu, hh, hc]
  omega

include hfull

theorem shortSearch_alone : ∃ t, exec (.shortSearch o none) s = .next t ∧ (t.field.out (outNo o)).verdict = 4 ∧
    (12 ≤ outNo o → t.sys = s.sys) := by
  refine ⟨_, congrArg Host.Outcome.next (if_neg (shortSearch_acts ha hi hu hh hc hv)), ?_, fun h => ?_⟩
  · have hj : (soLock (outNo o) (raise 0xC8 0 9 (outNo o) [] (withdrawOut (outNo o) (setVerdict (outNo o) 4 s)))).field.judged =
        (setVerdict (outNo o) 4 s).field.judged := by
      rw [soLock_judged, raise_field, withdrawOut_judged]
    exact (verdict_of_judged hj _).trans (congrArg OutputState.verdict (setVerdict_out 4 hfull (outNo_lt o)))
  · simp only [soLock_of_ge h, withdrawOut_go h hi, raise_sys]
    rfl

theorem shortSearch_pair {p : Nat} (hp : p < 20) (hne : p ≠ outNo o) (hcp : s.outCommanded p = true) :
    ∃ t, exec (.shortSearch o (some p)) s = .next t ∧ (t.field.out (outNo o)).verdict = 5 ∧
      (t.field.out (outNo o)).partner = p ∧ (t.field.out p).verdict = 5 ∧ (t.field.out p).partner = outNo o := by
  refine ⟨_, congrArg Host.Outcome.next ((if_neg (shortSearch_acts ha hi hu hh hc hv)).trans
    (if_neg (by simp [hcp, hne, hp]))), ?_⟩
  have hj : (soLock p (soLock (outNo o) (raise 0xC9 0 9 (outNo o) [] (withdrawOut p (withdrawOut (outNo o)
      (shortedTo p (outNo o) (shortedTo (outNo o) p s))))))).field.judged =
      (shortedTo p (outNo o) (shortedTo (outNo o) p s)).field.judged := by
    rw [soLock_judged, soLock_judged, raise_field, withdrawOut_judged, withdrawOut_judged]
  have hself : (shortedTo p (outNo o) (shortedTo (outNo o) p s)).field.out (outNo o) = _ :=
    (modOut_out_ne _ hne).trans (modOut_out_self _ hfull (outNo_lt o))
  have hpartner : (shortedTo p (outNo o) (shortedTo (outNo o) p s)).field.out p = _ :=
    modOut_out_self _ (modOut_full _ hfull) (by omega)
  refine ⟨(verdict_of_judged hj _).trans ?_, (partner_of_judged hj _).trans ?_, (verdict_of_judged hj _).trans ?_,
    (partner_of_judged hj _).trans ?_⟩
  · rw [hself]
  · rw [hself]
  · rw [hpartner]
  · rw [hpartner]

end

end

end Sys2Proof.Machine
end

section
/-! SUPPORT. The supervision of L+, and an analogue output's fault (O57). -/
namespace Sys2Proof.Machine
open Sys2Proof

/-! ### Folds over the outputs -/

section
variable {β : Type} {step : State → Nat → State} {P : State → Prop} {p : State → β} {i : Nat}
  (hP : ∀ s j, P s → P (step s j))
include hP

theorem foldl_keeps (l : List Nat) {s : State} (hs : P s) : P (l.foldl step s) := by
  induction l generalizing s with
  | nil => exact hs
  | cons j l ih => exact ih (hP s j hs)

variable (hne : ∀ s j, P s → j ≠ i → p (step s j) = p s)
include hne

/-- What the steps of other numbers leave alone, a fold without this number leaves alone. -/
theorem foldl_of_not_mem {l : List Nat} (hi : i ∉ l) {s : State} (hs : P s) : p (l.foldl step s) = p s := by
  induction l generalizing s with
  | nil => rfl
  | cons j l ih =>
    simp only [List.mem_cons, not_or] at hi
    exact (ih hi.2 (hP s j hs)).trans (hne s j hs (Ne.symm hi.1))

/-- Of a number that comes once, a fold does what its own step does. -/
theorem foldl_of_mem {l : List Nat} (hl : l.Nodup) (hi : i ∈ l) {s : State} (hs : P s) :
    ∃ u, P u ∧ p u = p s ∧ p (l.foldl step s) = p (step u i) := by
  induction l generalizing s with
  | nil => simp at hi
  | cons j l ih =>
    obtain ⟨hj, hl⟩ := List.nodup_cons.mp hl
    by_cases h : j = i
    · subst h
      exact ⟨s, hs, rfl, foldl_of_not_mem hP hne hj (hP s j hs)⟩
    · obtain ⟨u, hu, hpu, hstep⟩ := ih hl ((List.mem_cons.mp hi).resolve_left (Ne.symm h)) (hP s j hs)
      exact ⟨u, hu, hpu.trans (hne s j hs h), hstep⟩

end

/-- Numbers of the outputs that a supply serves. -/
def servedBy (x : Nat) : List Nat := (List.range 24).filter (fun i => outSupply i == x)

theorem servedBy_nodup (x : Nat) : (servedBy x).Nodup := List.nodup_range.filter _

theorem mem_servedBy {x i : Nat} : i ∈ servedBy x ↔ i < 24 ∧ outSupply i = x := by simp [servedBy]

/-! ### The record of a supply -/

/-- The state with another record of a supply. -/
def withLplus (x : Nat) (v : LPlus) (s : State) : State :=
  { s with field := { s.field with lplus := setAt s.field.lplus x v } }

theorem withLplus_full {s : State} {x : Nat} {v : LPlus} (h : s.field.Full) : (withLplus x v s).field.Full := ⟨h.so, h.go, h.ts⟩

theorem withLplus_withLplus (x : Nat) (v v' : LPlus) (s : State) : withLplus x v' (withLplus x v s) = withLplus x v' s := by
  simp [withLplus, setAt_setAt]

section
variable {s : State} {x : Nat} {l : LPlus} (hl : s.field.lplus[x]? = some l)
include hl

theorem lplus_of_get : s.field.lplus.getD x {} = l := by simp [List.getD_eq_getElem?_getD, hl]

theorem modLplus_of_get (f : LPlus → LPlus) : modLplus x f s = withLplus x (f l) s := by
  rw [modLplus, modAt_eq_setAt f hl]
  rfl

theorem withLplus_get (v : LPlus) : (withLplus x v s).field.lplus[x]? = some v := setAt_get_self v hl

end

/-! ### LPLUS_WARNING (R523) -/

section
variable {s : State} {x mv : Nat} {l : LPlus} (ha : s.ac0On = true) (hx : x < 2) (hl : s.field.lplus[x]? = some l)
include ha hx hl

/-- The warning after a reading: `now`, and with event 0xC0 or 0xC1 where it changes. -/
theorem lplusWarning_of_now {low now : Bool}
    (h : (if low then l.warning || decide (mv < 19200) else l.warning && !decide (19700 < mv)) = now) :
    exec (.lplusWarning x mv low) s = .next (if now == l.warning then withLplus x { l with mv := mv } s
      else raise (0xC0 + x) 0 5 x [] (withLplus x { l with mv := mv, warning := now } s)) := by
  have hget := withLplus_get hl { l with mv := mv }
  simp only [exec, execLplusWarning, lplus_of_get hl, modLplus_of_get hl, modLplus_of_get hget, withLplus_withLplus, h]
  exact congrArg Host.Outcome.next (if_neg (by simp [ha, hx]))

theorem lplusWarning_sets (hw : l.warning = false) (hmv : mv < 19200) : exec (.lplusWarning x mv true) s =
    .next (raise (0xC0 + x) 0 5 x [] (withLplus x { l with mv := mv, warning := true } s)) :=
  (lplusWarning_of_now ha hx hl (now := true) (by simp [hmv])).trans (congrArg Host.Outcome.next (if_neg (by simp [hw])))

theorem lplusWarning_clears (hw : l.warning = true) (hmv : 19700 < mv) : exec (.lplusWarning x mv false) s =
    .next (raise (0xC0 + x) 0 5 x [] (withLplus x { l with mv := mv, warning := false } s)) :=
  (lplusWarning_of_now ha hx hl (now := false) (by simp [hmv])).trans (congrArg Host.Outcome.next (if_neg (by simp [hw])))

theorem lplusWarning_between (hlo : 19200 ≤ mv) (hhi : mv ≤ 19700) (b : Bool) :
    exec (.lplusWarning x mv b) s = .next (withLplus x { l with mv := mv } s) :=
  (lplusWarning_of_now ha hx hl (now := l.warning) (by simp [Nat.not_lt.mpr hlo, Nat.not_lt.mpr hhi])).trans
    (congrArg Host.Outcome.next (if_pos (by simp)))

end

/-! ### LPLUS_LOW (R523 to R525) -/

/-- The command and the retry of an output whose supply gives way; one held already has been through this. -/
def outUnsupplied (was : Bool) (i : Nat) (s : State) : State :=
  let s := if 20 ≤ i ∨ was = true then s else withdrawOut i s
  if was = true then s else modOut i (fun o => { o with retryAt := o.retryAt - s.time.now }) s

theorem outUnsupplied_held (i : Nat) (s : State) : outUnsupplied true i s = s := by simp [outUnsupplied]

theorem outUnsupplied_first (i : Nat) (s : State) : outUnsupplied false i s =
    modOut i (fun o => { o with retryAt := o.retryAt - (if 20 ≤ i then s else withdrawOut i s).time.now })
      (if 20 ≤ i then s else withdrawOut i s) := by
  simp [outUnsupplied]

/-- An output of a supply that gives way, and its verdict. -/
def outLost (was missing : Bool) (s : State) (i : Nat) : State :=
  let v := (s.field.out i).verdict
  let s := outUnsupplied was i s
  if 3 ≤ v ∧ v ≤ 7 then s
  else if missing then modOut i (fun o => { o with verdict := 9, on := false, current := 0 }) s
  else if i < 20 then modOut i (fun o => { o with verdict := 8, on := false, current := 0 }) s
  else if v = 9 then modOut i (fun o => { o with verdict := 0 }) s else s

/-- What no output's loss of supply touches: parameters and lock-out, the supplies, and that every output has a record. -/
structure Unlost (s t : State) : Prop where
  schedule : t.schedule = s.schedule
  lplus : t.field.lplus = s.field.lplus
  full : t.field.Full

section
variable {s t : State} {i : Nat}

theorem Unlost.refl (h : s.field.Full) : Unlost s s := ⟨rfl, rfl, h⟩

theorem Unlost.modOut (h : Unlost s t) (f : OutputState → OutputState) : Unlost s (modOut i f t) :=
  ⟨h.schedule, (modOut_lplus f).trans h.lplus, modOut_full f h.full⟩

theorem Unlost.withdrawOut (h : Unlost s t) : Unlost s (withdrawOut i t) :=
  have hj := withdrawOut_judged t i
  ⟨(withdrawOut_schedule t i).trans h.schedule, (lplus_of_judged hj).trans h.lplus, full_of_judged hj h.full⟩

theorem Unlost.outUnsupplied (h : Unlost s t) (was : Bool) : Unlost s (outUnsupplied was i t) := by
  cases was with
  | true => rwa [outUnsupplied_held]
  | false =>
    rw [outUnsupplied_first]
    split
    · exact h.modOut _
    · exact h.withdrawOut.modOut _

theorem Unlost.outLost (h : Unlost s t) (was missing : Bool) : Unlost s (outLost was missing t i) := by
  have hu := h.outUnsupplied (i := i) was
  unfold Machine.outLost
  dsimp only
  split
  · exact hu
  split
  · exact hu.modOut _
  split
  · exact hu.modOut _
  split
  · exact hu.modOut _
  · exact hu

section
variable (h : s.field.Full) {j : Nat} (hj : j < 24)
include h hj

theorem modOut_verdict {f : OutputState → OutputState} (hf : ∀ o, (f o).verdict = o.verdict) :
    ((modOut i f s).field.out j).verdict = (s.field.out j).verdict := by
  by_cases hi : i = j
  · subst hi
    rw [modOut_out_self f h hj, hf]
  · rw [modOut_out_ne f hi]

theorem outUnsupplied_verdict (was : Bool) : ((outUnsupplied was i s).field.out j).verdict = (s.field.out j).verdict := by
  cases was with
  | true => rw [outUnsupplied_held]
  | false =>
    rw [outUnsupplied_first]
    split
    · exact modOut_verdict h hj fun _ => rfl
    · have hw := withdrawOut_judged s i
      refine (modOut_verdict (full_of_judged hw h) hj fun _ => ?_).trans (verdict_of_judged hw j)
      rfl

theorem outLost_verdict_ne (was missing : Bool) (hne : i ≠ j) :
    ((outLost was missing s i).field.out j).verdict = (s.field.out j).verdict := by
  have hu := outUnsupplied_verdict (i := i) h hj was
  unfold outLost
  dsimp only
  split
  · exact hu
  split
  · rw [modOut_out_ne _ hne, hu]
  split
  · rw [modOut_out_ne _ hne, hu]
  split
  · rw [modOut_out_ne _ hne, hu]
  · exact hu

end

/-- An output without a latched verdict takes 9 where its supply is missing, and else, unless it is a TS, 8. -/
theorem outLost_verdict (h : s.field.Full) (hi : i < 24) (was missing : Bool)
    (hv : (s.field.out i).verdict < 3 ∨ 7 < (s.field.out i).verdict) :
    (missing = true → ((outLost was missing s i).field.out i).verdict = 9) ∧
      (missing = false → i < 20 → ((outLost was missing s i).field.out i).verdict = 8) := by
  have hfull := ((Unlost.refl h).outUnsupplied (i := i) was).full
  have hlatch : ¬(3 ≤ (s.field.out i).verdict ∧ (s.field.out i).verdict ≤ 7) := by omega
  unfold outLost
  dsimp only
  rw [if_neg hlatch]
  refine ⟨fun hm => ?_, fun hm h20 => ?_⟩
  · rw [if_pos hm, modOut_out_self _ hfull hi]
  · rw [if_neg (by simp [hm]), if_pos h20, modOut_out_self _ hfull hi]

/-- A supply that gives way concerns each of its outputs by its own step. -/
theorem outsLost (h : s.field.Full) (x : Nat) (was missing : Bool) :
    Unlost s ((servedBy x).foldl (outLost was missing) s) ∧
      ∀ i, i < 24 → outSupply i = x → (s.field.out i).verdict < 3 ∨ 7 < (s.field.out i).verdict →
        (missing = true → (((servedBy x).foldl (outLost was missing) s).field.out i).verdict = 9) ∧
        (missing = false → i < 20 → (((servedBy x).foldl (outLost was missing) s).field.out i).verdict = 8) := by
  have hP (t : State) (j : Nat) (ht : Unlost s t) := ht.outLost (i := j) was missing
  refine ⟨foldl_keeps hP _ (.refl h), fun i hi hix hv => ?_⟩
  obtain ⟨u, hu, huv, hstep⟩ := foldl_of_mem (p := fun t => (t.field.out i).verdict) hP
    (fun t j ht hj => outLost_verdict_ne ht.full hi was missing hj) (servedBy_nodup x) (mem_servedBy.mpr ⟨hi, hix⟩) (.refl h)
  rw [hstep]
  exact outLost_verdict hu.full hi was missing (huv ▸ hv)

end

section
variable {s : State} {x mv : Nat} {l : LPlus}

theorem lplusLow_of_above (h : 14000 ≤ mv) : exec (.lplusLow x mv) s = .next s :=
  congrArg Host.Outcome.next (if_pos (by simp [h]))

variable (ha : s.ac0On = true) (hx : x < 2) (hl : s.field.lplus[x]? = some l) (hfull : s.field.Full)
include ha hx hl

/-- The supply is held, with 0xC2 or 0xC3 where it was not, and each of its outputs gives way. -/
theorem lplusLow_eq (h : mv < 14000) : exec (.lplusLow x mv) s = .next ((servedBy x).foldl (outLost l.held (decide (mv < 5000)))
    (let u := withLplus x { l with mv := mv, held := true, missing := decide (mv < 5000) } s
     if l.held then u else raise (0xC2 + x) 0 5 x [] u)) := by
  have hact : ¬(!s.ac0On || decide (2 ≤ x) || decide (14000 ≤ mv)) = true := by simp [ha, hx, h]
  simp only [exec, execLplusLow, lplus_of_get hl, modLplus_of_get hl, if_neg hact]
  rfl

include hfull

theorem lplusLow_of_below (h : mv < 14000) : ∃ t, exec (.lplusLow x mv) s = .next t ∧ t.param = s.param ∧
    t.sys.lock = s.sys.lock ∧
    t.field.lplus = setAt s.field.lplus x { l with mv := mv, held := true, missing := decide (mv < 5000) } ∧
    ∀ i, i < 24 → outSupply i = x → (s.field.out i).verdict < 3 ∨ 7 < (s.field.out i).verdict →
      (mv < 5000 → (t.field.out i).verdict = 9) ∧ (5000 ≤ mv → i < 20 → (t.field.out i).verdict = 8) := by
  refine ⟨_, lplusLow_eq ha hx hl h, ?_⟩
  extract_lets u
  generalize hr : (if l.held = true then u else raise (0xC2 + x) 0 5 x [] u) = r
  have hcalm : r.calm = u.calm := by
    rw [← hr]
    split
    · rfl
    · exact raise_calm ..
  have hf : r.field = u.field := (congrArg State.field hcalm :)
  obtain ⟨hkeep, hlost⟩ := outsLost (s := r) (hf ▸ withLplus_full hfull) x l.held (decide (mv < 5000))
  have hschedule := hkeep.schedule.trans (schedule_of_calm hcalm)
  refine ⟨(congrArg Schedule.param hschedule :), (congrArg (·.sys.lock) hschedule :),
    hkeep.lplus.trans (congrArg FieldState.lplus hf), fun i hi hix hv => ?_⟩
  obtain ⟨hnine, height⟩ := hlost i hi hix (hf ▸ hv)
  exact ⟨fun hm => hnine (by simp [hm]), fun hm => height (by simp [hm])⟩

end

/-! ### LPLUS_RELEASE (R523, R525) -/

/-- The record of an output whose supply has come back. -/
def OutputState.resupplied (now : Nat) (o : OutputState) : OutputState :=
  { o with retryAt := o.retryAt + now, verdict := if 8 ≤ o.verdict then (if o.retry = true then 2 else 0) else o.verdict }

/-- An output whose supply has come back. -/
def outRegained (s : State) (i : Nat) : State :=
  let s := modOut i (fun o => { o with retryAt := o.retryAt + s.time.now }) s
  if 8 ≤ (s.field.out i).verdict then modOut i (fun o => { o with verdict := if o.retry then 2 else 0 }) s else s

/-- What no output's regained supply touches: all but the field die, the supplies, and that every output has a record. -/
structure Unregained (s t : State) : Prop where
  state : t = { s with field := t.field }
  lplus : t.field.lplus = s.field.lplus
  full : t.field.Full

section
variable {s t : State} {i : Nat}

theorem Unregained.refl (h : s.field.Full) : Unregained s s := ⟨rfl, rfl, h⟩

theorem Unregained.modOut (h : Unregained s t) (f : OutputState → OutputState) : Unregained s (modOut i f t) :=
  ⟨congrArg (Machine.modOut i f) h.state, (modOut_lplus f).trans h.lplus, modOut_full f h.full⟩

theorem Unregained.outRegained (h : Unregained s t) : Unregained s (outRegained t i) := by
  unfold Machine.outRegained
  dsimp only
  split
  · exact (h.modOut _).modOut _
  · exact h.modOut _

theorem outRegained_out_ne {j : Nat} (hne : i ≠ j) : (outRegained s i).field.out j = s.field.out j := by
  unfold outRegained
  dsimp only
  split
  · rw [modOut_out_ne _ hne, modOut_out_ne _ hne]
  · rw [modOut_out_ne _ hne]

theorem outRegained_out (h : s.field.Full) (hi : i < 24) :
    (outRegained s i).field.out i = (s.field.out i).resupplied s.time.now := by
  unfold outRegained OutputState.resupplied
  dsimp only
  rw [modOut_out_self _ h hi]
  by_cases h8 : 8 ≤ (s.field.out i).verdict
  · simp only [if_pos h8]
    rw [modOut_out_self _ (modOut_full _ h) hi, modOut_out_self _ h hi]
  · simp only [if_neg h8]
    rw [modOut_out_self _ h hi]

/-- A supply that comes back concerns each of its outputs by its own step. -/
theorem outsRegained (h : s.field.Full) (x : Nat) : Unregained s ((servedBy x).foldl outRegained s) ∧ ∀ i, i < 24 →
    (outSupply i ≠ x → ((servedBy x).foldl outRegained s).field.out i = s.field.out i) ∧
    (outSupply i = x → ((servedBy x).foldl outRegained s).field.out i = (s.field.out i).resupplied s.time.now) := by
  have hP (t : State) (j : Nat) (ht : Unregained s t) := ht.outRegained (i := j)
  refine ⟨foldl_keeps hP _ (.refl h), fun i hi => ⟨fun hix => ?_, fun hix => ?_⟩⟩
  · exact foldl_of_not_mem (p := (·.field.out i)) hP (fun _ _ _ hj => outRegained_out_ne hj)
      (fun hm => hix (mem_servedBy.mp hm).2) (.refl h)
  · obtain ⟨u, hu, huo, hstep⟩ := foldl_of_mem (p := (·.field.out i)) hP (fun _ _ _ hj => outRegained_out_ne hj)
      (servedBy_nodup x) (mem_servedBy.mpr ⟨hi, hix⟩) (.refl h)
    rw [hstep, outRegained_out hu.full hi, huo, hu.state]

end

section
variable {s : State} {x mv : Nat} {l : LPlus} (hl : s.field.lplus[x]? = some l)
include hl

theorem lplusRelease_of_low (h : l.held = false ∨ mv ≤ 18000) : exec (.lplusRelease x mv) s = .next s := by
  simp only [exec, execLplusRelease, lplus_of_get hl]
  refine congrArg Host.Outcome.next (if_pos ?_)
  rcases h with h | h <;> simp [h]

variable (ha : s.ac0On = true) (hx : x < 2) (hh : l.held = true) (h : 18000 < mv)
include ha hx hh h

theorem lplusRelease_eq : exec (.lplusRelease x mv) s = .next (raise 0xC4 0 5 x [] ((servedBy x).foldl outRegained
    (withLplus x { l with mv := mv, held := false, missing := false } s))) := by
  have hact : ¬(!s.ac0On || decide (2 ≤ x) || !l.held || decide (mv ≤ 18000)) = true := by simp [ha, hx, hh, h]
  simp only [exec, execLplusRelease, lplus_of_get hl, modLplus_of_get hl, if_neg hact]
  rfl

theorem lplusRelease_of_above (hfull : s.field.Full) : ∃ t, exec (.lplusRelease x mv) s = .next t ∧
    t.calm = ({ s with field := t.field } : State).calm ∧
    t.field.lplus = setAt s.field.lplus x { l with mv := mv, held := false, missing := false } ∧
    ∀ i, i < 24 → (outSupply i ≠ x → t.field.out i = s.field.out i) ∧
      (outSupply i = x → t.field.out i = (s.field.out i).resupplied s.time.now) := by
  obtain ⟨hkeep, hout⟩ := outsRegained (withLplus_full (v := { l with mv := mv, held := false, missing := false }) hfull) x
  refine ⟨_, lplusRelease_eq hl ha hx hh h, (calm_of_field ((raise_calm ..).trans (congrArg State.calm hkeep.state))).1, ?_⟩
  rw [raise_field]
  exact ⟨hkeep.lplus, hout⟩

end

/-! ### AO_FAULT (R527) -/

/-- A state without events and loops: what a judgement of the loops' targets does not change (R441). -/
def State.unjudged (s : State) : State := { s.calm with loop := {} }

theorem unjudged_of_calm {s t : State} (h : t.calm = s.calm) : t.unjudged = s.unjudged :=
  congrArg (fun u => ({ u with loop := {} } : State)) h

theorem judgeTarget_unjudged (n : Nat) (s : State) : (judgeTarget n s).unjudged = s.unjudged := by
  unfold judgeTarget
  split
  · rfl
  · dsimp only
    split
    · rfl
    · exact (unjudged_of_calm (raise_calm ..)).trans rfl

theorem calm_of_unjudged {s t : State} (h : t.unjudged = s.unjudged) : t.calm = ({ s with loop := t.loop } : State).calm :=
  congrArg (fun u => ({ u with loop := { t.loop with trace := {} } } : State)) h

/-- Read-back of an analogue output at a status: nominal without a fault. -/
def AoState.faulted (mode code : Nat) (rb : Int) (a : AoState) : AoState :=
  { a with status := code, readback := if code = 0 then aoNominal mode a.command else rb }

/-- The loops that drive an analogue output, directly or as a current reference, judge their target. -/
def judgeAo (i : Nat) (s : State) : State :=
  (List.range 32).foldl (fun s n =>
    let c := (s.loop.loops.getD n {}).config
    if (bits c 10 8 == 2 && bits c 7 5 == i) || (bits c 10 8 == 4 && bits c 7 7 == i) then judgeTarget n s else s) s

theorem judgeAo_unjudged (i : Nat) (s : State) : (judgeAo i s).unjudged = s.unjudged :=
  foldl_field State.unjudged (fun s n => by dsimp only; split; exacts [judgeTarget_unjudged n s, rfl]) _ s

/-- The state with another record of an analogue output. -/
def withAo (i : Nat) (v : AoState) (s : State) : State := { s with field := { s.field with ao := setAt s.field.ao i v } }

section
variable {s : State} {i code : Nat} {a : AoState} (ha : s.ac0On = true) (hi : i < 2) (hget : s.field.ao[i]? = some a)
  (hm : s.pn (0x0D32 + i) / 2 ^ 30 ≠ 0) (hc : code = 0 ∨ code = s.pn (0x0D32 + i) / 2 ^ 30) (rb : Int)
include ha hi hget hm hc

theorem aoFault_eq : exec (.aoFault i code rb) s = .next (
    let u := withAo i (a.faulted (s.pn (0x0D32 + i) / 2 ^ 30) code rb) s
    if a.status = code then u else judgeAo i (raise 0xCD 0 5 i [] u)) := by
  have hag : s.field.ao.getD i {} = a := by simp [List.getD_eq_getElem?_getD, hget]
  generalize hmode : s.pn (0x0D32 + i) / 2 ^ 30 = mode at hm hc
  have hact : ¬(!s.ac0On || decide (2 ≤ i) || mode == 0 || (code != 0 && code != mode)) = true := by
    rcases hc with hc | hc <;> simp [ha, hi, hm, hc]
  simp only [exec, execAoFault, hmode, hag, if_neg hact, withAo, ← modAt_eq_setAt (AoState.faulted mode code rb) hget]
  rfl

theorem aoFault_takes : ∃ t, exec (.aoFault i code rb) s = .next t ∧
    t.calm = ({ s with field := t.field, loop := t.loop } : State).calm ∧
    t.field = (withAo i (a.faulted (s.pn (0x0D32 + i) / 2 ^ 30) code rb) s).field ∧
    (a.status = code → t.loop = s.loop ∧ t.router = s.router) := by
  refine ⟨_, aoFault_eq ha hi hget hm hc rb, ?_⟩
  extract_lets u
  by_cases h : a.status = code
  · rw [if_pos h]
    exact ⟨rfl, rfl, fun _ => ⟨rfl, rfl⟩⟩
  · rw [if_neg h]
    have hu : (judgeAo i (raise 0xCD 0 5 i [] u)).unjudged = u.unjudged :=
      (judgeAo_unjudged ..).trans (unjudged_of_calm (raise_calm ..))
    have hf : (judgeAo i (raise 0xCD 0 5 i [] u)).field = u.field := (congrArg State.field hu :)
    refine ⟨?_, hf, fun h' => absurd h' h⟩
    rw [hf]
    exact calm_of_unjudged hu

end

/-- Settles O57: a read-back that is stray, open or taken, the cut-offs of a sequence, their retry and its end, a short alone
or to a partner; the warning, the loss and the release of a supply; the status of an analogue output. -/
theorem outputVerdicts : Obligations.OutputVerdicts := by
  unfold Obligations.OutputVerdicts
  refine ⟨fun s o r ha hso hgo hts hr => ?output, fun s x mv l ha hx hl hso hgo hts => ?supply,
    fun s i code rb a ha hi hget hm hc => aoFault_takes ha hi hget hm hc rb⟩
  case output =>
    have hfull : s.field.Full := ⟨hso, hgo, hts⟩
    have hi := outNo_lt o
    subst hr
    refine ⟨fun d hu hm => ⟨fun hc hp h20 hv => ?stray, fun hc hh hk => ⟨fun hv hopen => ?opens, fun hv hclosed => ?closes⟩,
        fun hc hk => ?taken⟩,
      fun hu hh hc hv => ⟨overloadCutoff_of_retry ha hfull hu hh hc hv, overloadCutoff_of_latch ha hfull hu hh hc hv⟩,
      overloadRetry_of_due ha, overloadRetry_of_not_due, overloadSequenceEnd_of_elapsed, overloadSequenceEnd_of_early,
      fun h20 hu hh hc hv => ⟨shortSearch_alone ha hfull h20 hu hh hc hv, fun p => shortSearch_pair ha hfull h20 hu hh hc hv⟩⟩
    case stray =>
      have hb := readBack_full d hfull (i := outNo o)
      refine ⟨_, (fieldReadback_eq ha hfull d hu hm).trans (congrArg Host.Outcome.next (if_pos ?_)),
        strayWithdrawn_verdict hb hi, strayWithdrawn_retry hb hi, strayWithdrawn_commanded, fun h12 => ?_⟩
      · exact ⟨by simp [hc], hp, h20, hv⟩
      · simpa [readBack] using strayWithdrawn_go (s := readBack (outNo o) d s) h12 h20
    case opens =>
      exact (fieldReadback_eq ha hfull d hu hm).trans (congrArg Host.Outcome.next
        ((if_neg (by simp [hc])).trans ((if_neg (by simp [hh, hk])).trans (if_pos ⟨hv, hopen⟩))))
    case closes =>
      exact (fieldReadback_eq ha hfull d hu hm).trans (congrArg Host.Outcome.next
        ((if_neg (by simp [hc])).trans ((if_neg (by simp [hh, hk])).trans ((if_neg (by simp [hv])).trans (if_pos ⟨hv, hclosed⟩)))))
    case taken =>
      exact (fieldReadback_eq ha hfull d hu hm).trans (congrArg Host.Outcome.next
        ((if_neg (by simp [hc])).trans (if_pos (by simp [hk]))))
  case supply =>
    have hfull : s.field.Full := ⟨hso, hgo, hts⟩
    exact ⟨lplusWarning_sets ha hx hl, lplusWarning_clears ha hx hl, lplusWarning_between ha hx hl, lplusLow_of_above,
      lplusLow_of_below ha hx hl hfull, fun hh h => lplusRelease_of_above hl ha hx hh h hfull, lplusRelease_of_low hl⟩

end Sys2Proof.Machine
end

section
/-! SUPPORT. What every step keeps of the queue and of the banks' bytes (O3). -/
namespace Sys2Proof.Machine
open Sys2Proof

/-- No command touches the commands that wait behind it. -/
theorem exec_pending {c : Instr} {s t : State} (h : exec c s = .next t) : t.pending = s.pending := by
  cases hc : stirs c with
  | false => exact congrArg Quiet.pending (exec_quiet hc h)
  | true =>
    cases c with
    | moduleResetAfterReply => exact execModuleResetAfterReply_pending s h
    | marchTestComplete => exact execMarchTestComplete_pending _ s h
    | frameBoundary => exact execFrameBoundary_pending _ s h
    | powerOn => exact execPowerOn_pending _ s h
    | holdChargeComplete => exact execHoldChargeComplete_pending _ _ s h
    | holdChargeTimeout => exact execHoldChargeTimeout_pending _ s h
    | resetStart => exact execResetStart_pending _ _ s h
    | wakeSource => exact execWakeSource_pending _ _ _ s h
    | rtAlarm => exact execRtAlarm_pending _ _ s h
    | mrstN => exact execMrstN_pending s h
    | coreSupplyFault => exact execCoreSupplyFault_pending s h
    | fatalFault => exact execFatalFault_pending s h
    | lockRstRelease => exact execLockRstRelease_pending _ s h
    | orderedShutdown => exact execOrderedShutdown_pending s h
    | watchdogWindowClose => exact execWatchdogWindowClose_pending s h
    | thermalShutdown => exact execThermalShutdown_pending s h
    | ownerHandoverEffect => exact execOwnerHandoverEffect_pending _ s h
    | eccUncorrectable => exact execEccUncorrectable_pending _ _ s h
    | bankOwnerWrite => exact execBankOwnerWrite_pending _ _ _ s h
    | bankWrite => exact execBankWrite_pending _ _ _ _ s h
    | _ => exact Bool.noConfusion hc

/-- Every command keeps the banks' bytes in canonical form: most leave the bytes alone, and of the others each writes, clears or
drops them through `Memory`. -/
theorem exec_keeps_wf {c : Instr} {s t : State} (hw : Memory.wf s.banks.mem = true) (h : exec c s = .next t) :
    Memory.wf t.banks.mem = true := by
  cases hc : stirs c with
  | false => exact (congrArg (Memory.wf ·.mem) (exec_quiet hc h)).trans hw
  | true =>
    cases c with
    | moduleResetAfterReply => exact execModuleResetAfterReply_wf s h hw
    | marchTestComplete => exact execMarchTestComplete_wf _ s h hw
    | frameBoundary => exact execFrameBoundary_wf _ s h hw
    | powerOn => exact (congrArg Memory.wf (execPowerOn_mem _ s h)).trans hw
    | holdChargeComplete => exact execHoldChargeComplete_wf _ _ s h hw
    | holdChargeTimeout => exact execHoldChargeTimeout_wf _ s h hw
    | resetStart => exact execResetStart_wf _ _ s h hw
    | wakeSource => exact execWakeSource_wf _ _ _ s h hw
    | rtAlarm => exact execRtAlarm_wf _ _ s h hw
    | mrstN => exact execMrstN_wf s h hw
    | coreSupplyFault => exact execCoreSupplyFault_wf s h hw
    | fatalFault => exact execFatalFault_wf s h hw
    | lockRstRelease => exact execLockRstRelease_wf _ s h hw
    | orderedShutdown => exact execOrderedShutdown_wf s h hw
    | watchdogWindowClose => exact execWatchdogWindowClose_wf s h hw
    | thermalShutdown => exact (congrArg Memory.wf (execThermalShutdown_mem s h)).trans hw
    | ownerHandoverEffect => exact execOwnerHandoverEffect_wf _ s h hw
    | eccUncorrectable => exact execEccUncorrectable_wf _ _ s h hw
    | bankOwnerWrite => exact execBankOwnerWrite_wf _ _ _ s h hw
    | bankWrite => exact execBankWrite_wf _ _ _ _ s h hw
    | _ => exact Bool.noConfusion hc

/-- What one step can do: idle on an empty queue, or run its front on the state with the queue's rest. -/
theorem step_cases {s t : State} (h : step s = .next t) :
    (s.pending = [] ∧ t = s) ∨ ∃ c l, s.pending = c :: l ∧ exec c { s with pending := l } = .next t := by
  cases hp : s.pending with
  | nil => exact .inl ⟨rfl, (Host.Outcome.next.inj ((step_of_idle hp).symm.trans h)).symm⟩
  | cons c l => exact .inr ⟨c, l, rfl, by rwa [← step_cons, ← hp]⟩

/-- Settles O3, from what every command keeps: an idle step changes nothing, and any other runs a command. -/
theorem stepKeepsMemoryForm : Obligations.StepKeepsMemoryForm := by
  unfold Obligations.StepKeepsMemoryForm
  refine ⟨rfl, fun s t hw h => ?_, fun s t h => ?_⟩
  · obtain ⟨_, rfl⟩ | ⟨c, l, _, he⟩ := step_cases h
    · exact hw
    · exact exec_keeps_wf (s := { s with pending := l }) hw he
  · obtain ⟨hp, rfl⟩ | ⟨c, l, hp, he⟩ := step_cases h
    · rw [hp]; rfl
    · rw [exec_pending he, hp]; rfl

end Sys2Proof.Machine
end

section
/-! SUPPORT. One CAN channel: its record, its error counters, and what a received frame does (O27, O29). -/
namespace Sys2Proof.Machine
open Sys2Proof

/-! ### The record of a channel -/

/-- The state with another record of a CAN channel. -/
def withCan (c : Nat) (v : CanState) (s : State) : State := { s with can := setAt s.can c v }

/-- The record of a channel at its entry to bus-off (R566, R567). -/
def CanState.wentOff (now : Nat) (k : CanState) : CanState :=
  { k with state := 2, recovering := false, offAt := now, heard := false, busoffs := min 255 (k.busoffs + 1) }

/-- The record of an active channel that received a good frame (R566, R569). -/
def CanState.receivedGood (k : CanState) : CanState := { k with rec' := k.rec' - 1, heard := true, swapped := false }

/-- The record of a channel that comes back from bus-off (R568). -/
def CanState.recovered (k : CanState) : CanState :=
  { k with state := 0, tec := 0, rec' := 0, recovering := false, txdTimeout := false }

/-- What routing does with a data frame of a class, or of none (R562, R564). -/
def frameRouted (c : Nat) (f : CanFrame) (o : Option Nat) (s : State) : State :=
  match o with
  | some q => postRx c q f s
  | none => if s.sys.mode == .loader then s else s.modCan c (fun k => { k with unmatched := k.unmatched + 1 })

section
variable {s : State} {c : Nat} {k : CanState} (hk : s.can[c]? = some k)
include hk

theorem canOf_of_get : s.canOf c = k := by simp [State.canOf, List.getD_eq_getElem?_getD, hk]

theorem modCan_of_get (f : CanState → CanState) : s.modCan c f = withCan c (f k) s := by
  rw [State.modCan, modAt_eq_setAt f hk]; rfl

theorem withCan_get (v : CanState) : (withCan c v s).can[c]? = some v := setAt_get_self v hk

@[simp] theorem canOf_withCan (v : CanState) : (withCan c v s).canOf c = v := canOf_of_get (withCan_get hk v)

theorem withCan_modCan (v : CanState) (f : CanState → CanState) : (withCan c v s).modCan c f = withCan c (f v) s := by
  rw [modCan_of_get (withCan_get hk v)]
  simp [withCan, setAt_setAt]

theorem canUp_iff_of_get : s.canUp c = true ↔ s.canRuns c = true ∧ k.state ≤ 1 := by
  simp [State.canUp, canOf_of_get hk]

/-! ### The error counters (R566, R567) -/

/-- An active channel whose counters stay within 127 stays as it is. -/
theorem judgeErrors_active (v : CanState) (hs : v.state = 0) (ht : v.tec ≤ 127) (hr : v.rec' ≤ 127) :
    judgeErrors c (withCan c v s) = withCan c v s := by
  have h255 : ¬ 255 < v.tec := by omega
  simp [judgeErrors, canOf_withCan hk, CanState.active, hs, ht, hr, h255]

/-- An active channel becomes error-passive above 127. -/
theorem judgeErrors_passive (v : CanState) (hs : v.state = 0) (ht : v.tec ≤ 255) (h : 127 < v.tec ∨ 127 < v.rec') :
    judgeErrors c (withCan c v s) = raise 0xE0 0 5 c [] (withCan c { v with state := 1 } s) := by
  have h255 : ¬ 255 < v.tec := by omega
  have ha : v.active = false := by simp only [CanState.active, Bool.and_eq_false_iff, decide_eq_false_iff_not]; omega
  simp [judgeErrors, canOf_withCan hk, withCan_modCan hk, raiseCan, ha, hs, h255]

theorem busOff_withCan (v : CanState) :
    busOff c (withCan c v s) = raise 0xE1 0 5 c [] (withCan c (v.wentOff s.time.now) s) := by
  rw [busOff, withCan_modCan hk]; rfl

/-- A channel goes bus-off above 255 transmit errors. -/
theorem judgeErrors_off (v : CanState) (hs : v.state ≤ 1) (ht : 255 < v.tec) :
    judgeErrors c (withCan c v s) = busOff c (withCan c v s) := by
  have h1 : ¬ 1 < v.state := by omega
  simp [judgeErrors, canOf_withCan hk, h1, ht]

/-! ### A received frame (R552, R556, R561 to R564) -/

/-- A good reception takes one off the receive counter of an active channel. -/
theorem goodReception_active (hs : k.state = 0) (ht : k.tec ≤ 127) (hr : k.rec' ≤ 127) :
    goodReception c s = withCan c k.receivedGood s := by
  have hc := canOf_of_get hk
  have h127 : ¬ 127 < k.rec' := by omega
  have hv : k.rec' - 1 ≤ 127 := by omega
  simp only [goodReception, hc, if_neg h127]
  rw [modCan_of_get hk, withCan_modCan hk]
  exact judgeErrors_active hk k.receivedGood hs ht hv

/-- A frame that the channel's mode can receive goes to its class. -/
theorem canFrameReceived_eq {f : CanFrame} (hl : lengthOk f.fd f.data.length = true) (hu : s.canUp c = true)
    (hf : f.fd = true → s.canMode c = 2) (hs : k.state = 0) (ht : k.tec ≤ 127) (hr : k.rec' ≤ 127) :
    exec (.canFrameReceived c f) s = .next (
      if f.remote then (withCan c k.receivedGood s).modCan c (fun k => { k with remote := k.remote + 1 }) else
      frameRouted c f (s.rxClass c f) (withCan c k.receivedGood s)) := by
  have hm : (f.fd && s.canMode c != 2) = false := by
    cases hfd : f.fd with
    | false => rfl
    | true => simp [hf hfd]
  have he : exec (.canFrameReceived c f) s = execCanFrameReceived c f s := rfl
  rw [he, execCanFrameReceived, hl, hu, hm]
  simp only [Bool.not_true, Bool.or_self, Bool.false_eq_true, if_false]
  rw [goodReception_active hk hs ht hr]
  rfl

/-- A received frame joins the queue of its class, or advances the class's drop counter where the queue is full (R561). -/
theorem postRx_withCan (v : CanState) (q : Nat) (f : CanFrame) :
    postRx c q f (withCan c v s) =
      if (v.rx.getD q []).length < s.qDepth (20 + 8 * c + q) then
        withCan c { v with rx := modAt v.rx q (fun l => l ++ [⟨f, s.time.now⟩]), dropLatched := setAt v.dropLatched q false } s
      else
        let t := withCan c { v with drops := modAt v.drops q (satAdd 32 · 1), dropLatched := setAt v.dropLatched q true } s
        if v.dropLatched.getD q false = true then t else raise 0xE3 0 5 c [] t := by
  simp only [postRx, canOf_withCan hk, withCan_modCan hk, raiseCan, Bool.not_eq_true', ← Bool.not_eq_true, ite_not]
  rfl

end

/-- Settles O27: a length no DLC spells, then a remote frame, a frame of no class, and a frame of a class by the room it finds. -/
theorem canReception : Obligations.CanReception := by
  unfold Obligations.CanReception
  refine fun s c f k => ⟨fun hl => ?_, fun hl hu hf hk hs ht hr => ?_⟩
  · exact if_pos (by simp [hl])
  · have he := canFrameReceived_eq hk hl hu hf hs ht hr
    refine ⟨fun hm => ?remote, fun hm => ⟨fun hq hb => ?unmatched, fun q hq _ => ?posted⟩⟩
    case remote => rw [he, if_pos hm, withCan_modCan hk]; rfl
    case unmatched =>
      have hl : (s.sys.mode == .loader) = false := beq_false_of_ne hb
      rw [he, if_neg (by simp [hm]), hq]
      exact congrArg Host.Outcome.next ((if_neg (ne_true_of_eq_false hl)).trans (withCan_modCan hk _ _))
    case posted =>
      rw [if_neg (by simp [hm]), hq, frameRouted, postRx_withCan hk] at he
      exact ⟨fun hroom => he.trans (congrArg Host.Outcome.next (if_pos hroom)),
        fun hfull => he.trans (congrArg Host.Outcome.next (if_neg (Nat.not_lt.mpr hfull)))⟩

/-! ### Error states and recovery (R557, R566 to R569) -/

section
variable {s : State} {c : Nat} {k : CanState} (hrun : s.canRuns c = true) (hk : s.can[c]? = some k)
include hrun hk

theorem canUp_of_on (hs : k.state ≤ 1) : s.canUp c = true := (canUp_iff_of_get hk).mpr ⟨hrun, hs⟩

theorem canBusError_receive (hs : k.state ≤ 1) {w : Nat} (hw : w ≤ 8) :
    exec (.canBusError c false w) s = .next (judgeErrors c (withCan c { k with rec' := min 255 (k.rec' + w) } s)) := by
  rw [← modCan_of_get hk (fun k => { k with rec' := min 255 (k.rec' + w) })]
  exact congrArg Host.Outcome.next (if_neg (by simp [canUp_of_on hrun hk hs, hw]))

/-- A transmit error with no frame on offer. -/
theorem canBusError_transmit_idle (hs : k.state ≤ 1) {w : Nat} (hw : w ≤ 8) (ho : k.offered (1000 * s.time.now) = none) :
    exec (.canBusError c true w) s = .next (judgeErrors c (withCan c { k with tec := k.tec + w } s)) := by
  have h : (!s.canUp c || decide (8 < w)) = false := by simp [canUp_of_on hrun hk hs, hw]
  have he : exec (.canBusError c true w) s = execCanBusError c true w s := rfl
  rw [he, execCanBusError, h]
  simp only [Bool.false_eq_true, if_false, if_true, canOf_of_get hk, ho, modCan_of_get hk]

/-- A transmit error of the frame on offer: it is not offered again where its cancellation was requested (R565). -/
theorem canBusError_transmit_offered (hs : k.state ≤ 1) {w : Nat} (hw : w ≤ 8) {p : Nat} {d : TxDesc} {l : List TxDesc}
    (ho : k.offered (1000 * s.time.now) = some p) (hp : k.tx[p]? = some (d :: l)) :
    exec (.canBusError c true w) s = .next (judgeErrors c (withCan c
      { k with tec := k.tec + w, tx := if d.cancel = true then setAt k.tx p l else k.tx } s)) := by
  have h : (!s.canUp c || decide (8 < w)) = false := by simp [canUp_of_on hrun hk hs, hw]
  have hq : k.tx.getD p [] = d :: l := by simp [List.getD_eq_getElem?_getD, hp]
  have he : exec (.canBusError c true w) s = execCanBusError c true w s := rfl
  rw [he, execCanBusError, h]
  simp only [Bool.false_eq_true, if_false, if_true, canOf_of_get hk, ho, hq, popTx]
  cases d.cancel with
  | false => simp only [Bool.false_eq_true, if_false, modCan_of_get hk]
  | true => simp only [if_true, modCan_of_get hk, withCan_modCan hk, modAt_eq_setAt _ hp, List.drop_succ_cons, List.drop_zero]

theorem txdTimeout_of_on (hs : k.state ≤ 1) : exec (.txdTimeout c) s =
    .next (busOff c (raise 0xE6 0 5 c [] (withCan c { k with txdTimeout := true } s))) := by
  rw [← modCan_of_get hk (fun k => { k with txdTimeout := true })]
  exact congrArg Host.Outcome.next (if_pos (canUp_of_on hrun hk hs))

theorem canBusoffHoldoff_of_off (hs : k.state = 2) (hh : s.pn 0x0F01 ≠ 65535) : exec (.canBusoffHoldoff c) s =
    .next (if k.offAt + 1000 * s.pn 0x0F01 ≤ s.time.now then withCan c { k with recovering := true } s else s) := by
  have he : exec (.canBusoffHoldoff c) s = execCanBusoffHoldoff c s := rfl
  rw [he, execCanBusoffHoldoff, canOf_of_get hk, modCan_of_get hk]
  simp [hrun, hs, hh]

/-- The end of recovery where no deadline has passed meanwhile: every descriptor stays (R560, R568). -/
theorem canRecoveryComplete_of_fresh (hs : k.state = 2) (hr : k.recovering = true)
    (hd : ∀ q ∈ k.tx, ∀ d ∈ q, d.late s.time.now = false) : exec (.canRecoveryComplete c) s =
    .next (raise 0xE2 0 5 c [] (withCan c k.recovered s)) := by
  have hcount : ∀ q ∈ k.tx, q.countP (·.late s.time.now) = 0 := fun q hq => by
    simpa [List.countP_eq_zero] using hd q hq
  have hfold : k.tx.foldl (fun a q => a + q.countP (·.late s.time.now)) 0 = 0 := by
    rw [List.foldl_ext _ (fun a _ => a) 0 (fun a q hq => by rw [hcount q hq, Nat.add_zero])]
    exact List.foldl_fixed _
  have hkeep : k.tx.map (fun q => q.filter (fun d => !d.late s.time.now)) = k.tx :=
    (List.map_congr_left fun q hq => List.filter_eq_self.mpr fun d hm => by simp [hd q hq d hm]).trans (List.map_id _)
  have he : exec (.canRecoveryComplete c) s = execCanRecoveryComplete c s := rfl
  rw [he, execCanRecoveryComplete, canOf_of_get hk]
  simp only [hrun, hs, hr, hfold, modCan_of_get hk, hkeep, List.range_zero, List.foldl_nil, raiseCan]
  rfl

theorem canLinesSwapped_of_deaf (hh : k.heard = false) (hw : k.swapped = false) : exec (.canLinesSwapped c) s =
    .next (raise 0xE4 0 5 c [] (withCan c { k with swapped := true } s)) := by
  have he : exec (.canLinesSwapped c) s = execCanLinesSwapped c s := rfl
  rw [he, execCanLinesSwapped, canOf_of_get hk, modCan_of_get hk]
  simp [hrun, hh, hw, raiseCan]

end

/-- An event meanwhile does not change what bus-off notes. -/
theorem busOff_raise_withCan {s : State} {c : Nat} {k : CanState} (hk : s.can[c]? = some k) (src code kind index : Nat)
    (detail : List Byte) (v : CanState) :
    busOff c (raise src code kind index detail (withCan c v s)) =
      raise 0xE1 0 5 c [] { raise src code kind index detail (withCan c v s) with
        can := setAt s.can c (v.wentOff s.time.now) } := by
  have hv : (raise src code kind index detail (withCan c v s)).can[c]? = some v := by rw [raise_can]; exact withCan_get hk v
  have hc : setAt (raise src code kind index detail (withCan c v s)).can c (v.wentOff s.time.now) =
      setAt s.can c (v.wentOff s.time.now) := by rw [raise_can]; exact setAt_setAt ..
  rw [busOff, modCan_of_get hv, raise_time, ← hc]
  rfl

/-- Settles O29: the receive errors, the transmit errors, TXD_TIMEOUT, bus-off and its recovery, and swapped lines. -/
theorem canErrorStates : Obligations.CanErrorStates := by
  unfold Obligations.CanErrorStates
  intro s c k hrun hk after off
  refine ⟨fun hs w hw => ?errors, fun hs => ?txd, canBusoffHoldoff_of_off hrun hk, fun hs hr hd => ?recovery,
    canLinesSwapped_of_deaf hrun hk⟩
  case errors =>
    have h1 : k.state ≤ 1 := by omega
    refine ⟨fun ht hr => ?_, fun ht hr hm => ?_, fun ho ht hr => ?_, fun p d l ho hp ht hr => ?_, fun ho ht => ?_⟩
    · rw [canBusError_receive hrun hk h1 hw, Nat.min_eq_right (by omega)]
      exact congrArg Host.Outcome.next (judgeErrors_active hk { k with rec' := k.rec' + w } hs ht hr)
    · rw [canBusError_receive hrun hk h1 hw, Nat.min_eq_right hm]
      exact congrArg Host.Outcome.next
        (judgeErrors_passive hk { k with rec' := k.rec' + w } hs (Nat.le_trans ht (by decide)) (.inr hr))
    · rw [canBusError_transmit_idle hrun hk h1 hw ho]
      exact congrArg Host.Outcome.next (judgeErrors_active hk { k with tec := k.tec + w } hs ht hr)
    · rw [canBusError_transmit_offered hrun hk h1 hw ho hp]
      exact congrArg Host.Outcome.next (judgeErrors_active hk
        { k with tec := k.tec + w, tx := if d.cancel = true then setAt k.tx p l else k.tx } hs ht hr)
    · rw [canBusError_transmit_idle hrun hk h1 hw ho]
      exact congrArg Host.Outcome.next ((judgeErrors_off hk { k with tec := k.tec + w } h1 ht).trans (busOff_withCan hk _))
  case txd =>
    rw [txdTimeout_of_on hrun hk hs, busOff_raise_withCan hk]
    rfl
  case recovery =>
    refine canRecoveryComplete_of_fresh hrun hk hs hr fun q hq d hm => ?_
    have := hd q hq d hm
    unfold TxDesc.late
    split
    · next t ht => exact decide_eq_false (Nat.not_lt.mpr (this t ht))
    · rfl

end Sys2Proof.Machine
end

section
/-! SUPPORT. Network time: SYNC and FOLLOW_UP, the pair they make, and the states without pairs (O30, O31). -/
namespace Sys2Proof.Machine
open Sys2Proof

/-! ### Silt records of the module's own accord (R655 to R659) -/

@[simp] theorem closeOldest_corrAt (t : SiltState) : t.closeOldest.corrAt = t.corrAt := by
  unfold SiltState.closeOldest
  extract_lets op oldest shut o p i
  split
  · rfl
  · split
    · rfl
    · split
      · rfl
      · split <;> rfl

/-- An occurrence that reaches the silt writer changes the silt log only, and not the instant of the latest correlation. -/
theorem siltEvent_frame (src code kind index : Nat) (detail : List Byte) (s : State) :
    (siltEvent src code kind index detail s).1 = { s with silt := (siltEvent src code kind index detail s).1.silt } ∧
    (siltEvent src code kind index detail s).1.silt.corrAt = s.silt.corrAt := by
  unfold siltEvent
  extract_lets t window now m coal pin r u rec'
  have hcoal (c : SiltState) (hc : coal = some c) : c.corrAt = s.silt.corrAt := by
    simp only [coal] at hc
    split at hc
    · contradiction
    · split at hc
      · exact Option.some.inj hc ▸ rfl
      · split at hc
        · exact Option.some.inj hc ▸ rfl
        · split at hc
          · exact Option.some.inj hc ▸ rfl
          · obtain ⟨l, _, rfl⟩ := Option.map_eq_some_iff.mp hc
            rfl
  have hu : u.corrAt = s.silt.corrAt := rfl
  clear_value coal u rec' r
  split
  next c => exact ⟨rfl, hcoal c rfl⟩
  next =>
    split
    · exact ⟨rfl, rfl⟩
    · split
      · split
        · exact ⟨rfl, (closeOldest_corrAt u).trans hu⟩
        · exact ⟨rfl, hu⟩
      · generalize (if pin then 256 else 224) = room
        split
        · exact ⟨rfl, (closeOldest_corrAt u).trans hu⟩
        · exact ⟨rfl, hu⟩

/-- A correlation record changes the silt log only, and notes the operating second (R662). -/
theorem correlate_frame (s : State) :
    correlate s = { s with silt := (correlate s).silt } ∧ (correlate s).silt.corrAt = s.time.opSec := by
  unfold correlate note
  extract_lets at' c data
  obtain ⟨hs, hc⟩ := siltEvent_frame 0xFE 0 (field data 0 1) (field data 1 3) (data.drop 4)
    { s with silt := { s.silt with corrAt := s.time.opSec } }
  exact ⟨hs.trans rfl, hc⟩

@[simp] theorem correlate_clock (s : State) : (correlate s).clock = s.clock := (congrArg State.clock (correlate_frame s).1 :)

/-! ### The states of network time (R580, R586) -/

/-- Network time leaves its state for another one that is not SYNCED. -/
theorem setNtState_of_ne {s : State} {n : Nat} (src : Nat) (h : s.clock.state ≠ n) (h2 : n ≠ 2) : setNtState n src s =
    raise src 0 5 s.clock.channel [] { s with clock := { s.clock with state := n } } := by
  rw [setNtState, if_neg h, if_neg h2]
  rfl

/-- A change of state changes nothing else of the clock. -/
theorem setNtState_clock (n src : Nat) (s : State) : (setNtState n src s).clock = { s.clock with state := n } := by
  unfold setNtState
  split
  · next h => rw [← h]
  · split <;> simp [raiseNt, modClock]

section
variable {s : State} (ha : s.alive = true)
include ha

/-- Three reference periods without a pair, where the module follows a master. -/
theorem execNtPairTimeout_of_late (ho : s.ntOwn = false) (hp : s.clock.lastPair + 3000 * s.pn 0x1004 ≤ s.time.now) :
    exec .ntPairTimeout s = .next (match s.clock.state with
      | 1 => setNtState 0 0xEA (modClock (fun c => { c with prev := none, goodRun := 0 }) s)
      | 2 => setNtState 3 0xE9 (modClock (fun c => { c with corr := c.rate, lastPair := s.time.now }) s)
      | _ => s) := by
  have hlate : ¬ s.time.now + 1000 < s.clock.lastPair + 3000 * s.refMs := by unfold State.refMs; omega
  exact congrArg Host.Outcome.next (if_neg (by simp [ha, ho, hlate]))

theorem execNtHoldoverExpiry_of_expired (hs : s.clock.state = 3)
    (hp : s.clock.lastPair + 1000000 * s.pn 0x1009 ≤ s.time.now) : exec .ntHoldoverExpiry s =
    .next (setNtState 0 0xEA (modClock (fun c => { c with prev := none, goodRun := 0 }) s)) := by
  have h : s.clock.lastPair + 1000000 * s.pn 0x1009 ≤ s.time.now + 1000 := by omega
  exact congrArg Host.Outcome.next (if_pos (by simp [ha, hs, h]))

theorem execNtCorrelation_of_due (hs : s.clock.state = 2) (hd : s.silt.corrAt + 86400 ≤ s.time.opSec) :
    exec .ntCorrelation s = .next (correlate s) :=
  congrArg Host.Outcome.next (if_pos (by simp [ha, hs, hd]))

end

/-- Settles O31: the time-out by the state it finds, the end of HOLDOVER, and the daily correlation record. -/
theorem networkTimeStates : Obligations.NetworkTimeStates := by
  unfold Obligations.NetworkTimeStates
  refine fun s ha => ⟨fun ho hp => ?timeout, fun hs hp => ?expiry, fun hs hd => ?correlation⟩
  case timeout =>
    rw [execNtPairTimeout_of_late ha ho hp]
    refine ⟨fun hs => ?_, fun hs => ?_, fun hs => ?_⟩
    · rw [hs]
      exact congrArg Host.Outcome.next (setNtState_of_ne _ (show s.clock.state ≠ 0 by omega) (by decide))
    · rw [hs]
      exact congrArg Host.Outcome.next (setNtState_of_ne _ (show s.clock.state ≠ 3 by omega) (by decide))
    · rcases hs with hs | hs <;> rw [hs] <;> rfl
  case expiry =>
    rw [execNtHoldoverExpiry_of_expired ha hs hp]
    exact congrArg Host.Outcome.next (setNtState_of_ne _ (show s.clock.state ≠ 0 by omega) (by decide))
  case correlation =>
    exact ⟨_, execNtCorrelation_of_due ha hs hd, correlate_frame s⟩

/-! ### A master's SYNC (R575) -/

/-- A descriptor joins its transmit queue where there is room (R43). -/
theorem postTx_of_room {s : State} {c p : Nat} (d : TxDesc)
    (h : ((s.canOf c).tx.getD p []).length < s.qDepth (16 + 8 * c + p)) : postTx c p d s =
    (s.modCan c (fun k => { k with tx := modAt k.tx p (· ++ [{ d with posted := s.time.now }]) }), true) := if_pos h

theorem postTx_of_full {s : State} {c p : Nat} (d : TxDesc)
    (h : s.qDepth (16 + 8 * c + p) ≤ ((s.canOf c).tx.getD p []).length) : postTx c p d s =
    (raise 0x09 0 0 0 (leBytes 1 (16 + 8 * c + p)) s, false) := if_neg (Nat.not_lt.mpr h)

/-- The frame of a SYNC: its eight bytes begin with the sequence number. -/
def syncData (seq tier flags epoch master high : Nat) : List Byte :=
  leBytes 1 seq ++ leBytes 1 tier ++ leBytes 1 flags ++ leBytes 1 epoch ++ leBytes 2 master ++ leBytes 2 high

theorem syncData_length (seq tier flags epoch master high : Nat) : (syncData seq tier flags epoch master high).length = 8 := rfl

theorem syncData_take (seq tier flags epoch master high : Nat) : (syncData seq tier flags epoch master high).take 2 =
    [BitVec.ofNat 8 seq, (syncData seq tier flags epoch master high).getD 1 0] := rfl

/-- What a master does with a SYNC that is due: it posts the descriptor, and the sequence number advances with it. -/
theorem execSync_of_master {s : State} {c : Nat} (hr : s.canRuns c = true) (hl : s.sys.mode ≠ .loader)
    (hm : s.masterOn c = true) (hc : s.feed.commit = none) :
    ∃ d : TxDesc, d.kind = .sync (s.clock.seq.getD c 0) ∧
      (∃ tier flags epoch master high, d.frame.data = syncData (s.clock.seq.getD c 0) tier flags epoch master high) ∧
      exec (.sync c) s = .next (
        let r := postTx c 0 d s
        if r.2 then modClock (fun k => { k with seq := modAt k.seq c (fun n => (n + 1) % 256) }) r.1 else r.1) := by
  refine ⟨_, ?_, ?_, congrArg Host.Outcome.next (if_neg (by simp [hr, hl, hm, hc]))⟩
  · rfl
  · exact ⟨_, _, _, _, _, rfl⟩

/-- A power-fail commit has stopped transmission (R92). -/
theorem execSync_of_commit {s : State} (c : Nat) (hc : s.feed.commit ≠ none) : exec (.sync c) s = .next s := by
  have h : s.feed.commit.isSome = true := Option.isSome_iff_ne_none.mpr hc
  exact congrArg Host.Outcome.next (if_pos (by simp [h]))

/-! ### A follower's pair (R577 to R580) -/

/-- What a follower keeps of a SYNC. -/
def syncHeard (c : Nat) (b : List Byte) (capture : Nat) : SyncHeard :=
  ⟨c, field b 0 1, field b 2 1, field b 3 1, field b 4 2, field b 6 2, capture⟩

/-- A SYNC is acknowledged, and on the channel followed it waits for its FOLLOW_UP. -/
theorem execSyncReceived_of_up {s : State} {c : Nat} (hu : s.canUp c = true) (hl : s.sys.mode ≠ .loader) {b : List Byte}
    (hb : b.length = 8) (capture : Nat) : exec (.syncReceived c b capture) s = .next (
      if s.followCh ≠ some c then ackRx c 0 b s else
      modClock (fun k => { k with awaited := some (syncHeard c b capture) }) (ackRx c 0 b s)) :=
  congrArg Host.Outcome.next ((if_neg (by simp [hu, hl, hb])).trans (if_congr bne_iff_ne rfl rfl))

/-- The clock of a follower that counts a pair as failed. -/
def ClockState.pairFailed (k : ClockState) : ClockState := { k with failed := k.failed + 1, awaited := none }

/-- Why a FOLLOW_UP makes no pair with the SYNC that waits (R578). -/
def pairBad (s : State) (c : Nat) (b : List Byte) (late : Bool) (y : SyncHeard) : Prop :=
  late = true ∨ y.capture + 500000 * s.pn 0x1004 < 1000 * s.time.now ∨ y.channel ≠ c ∨ field b 0 1 ≠ y.seq ∨
    s.masterFits y = false

section
variable {s : State} {c : Nat} (hu : s.canUp c = true) (hl : s.sys.mode ≠ .loader) (hf : s.followCh = some c)
  {b : List Byte} (hb : b.length = 8) {y : SyncHeard} (hy : s.clock.awaited = some y) (late : Bool)
include hu hl hf hb hy

/-- A FOLLOW_UP on the channel followed, while its SYNC waits. -/
theorem execFollowUpReceived_of_awaited : exec (.followUpReceived c b late) s = .next (
    if late || 1000 * s.time.now > y.capture + 500000 * s.pn 0x1004 || y.channel != c || field b 0 1 != y.seq || !s.masterFits y
    then { ackRx c 0 b s with clock := s.clock.pairFailed }
    else usePair y (masterTime y.high (field b 1 7)) { ackRx c 0 b s with clock := { s.clock with awaited := none } }) := by
  have hf' : (ackRx c 0 b s).followCh = some c := hf
  have hy' : (ackRx c 0 b s).clock.awaited = some y := hy
  have he : exec (.followUpReceived c b late) s = execFollowUpReceived c b late s := rfl
  rw [he, execFollowUpReceived]
  simp only [hu, hb, hf', hy', beq_iff_eq, hl, Bool.not_true, Bool.false_or, bne_self_eq_false, Bool.or_false, Option.isNone_some,
    Bool.false_eq_true, if_false]
  rfl

theorem execFollowUpReceived_of_bad (h : pairBad s c b late y) :
    exec (.followUpReceived c b late) s = .next { ackRx c 0 b s with clock := s.clock.pairFailed } := by
  rw [execFollowUpReceived_of_awaited hu hl hf hb hy late]
  refine congrArg Host.Outcome.next (if_pos ?_)
  simpa [pairBad, or_assoc] using h

theorem execFollowUpReceived_of_good (h : ¬ pairBad s c b late y) : exec (.followUpReceived c b late) s =
    .next (usePair y (masterTime y.high (field b 1 7)) { ackRx c 0 b s with clock := { s.clock with awaited := none } }) := by
  rw [execFollowUpReceived_of_awaited hu hl hf hb hy late]
  refine congrArg Host.Outcome.next (if_neg ?_)
  simpa [pairBad, or_assoc] using h

end

/-- The clock that has used a pair: what both a step and a correction note of it. -/
def ClockState.pairUsed (y : SyncHeard) (tm : Nat) (r : Int) (c : ClockState) : ClockState :=
  { c with
    used := c.used + 1, prev := some ((tm : Int), (y.capture : Int) * 1000000 - c.drift), masterEpoch := some y.epoch,
    master := some y.master, channel := y.channel, residual := r, traceable := y.flags.testBit 0 }

/-- The pair makes network time step (R579, R580). -/
def pairSteps (s : State) (y : SyncHeard) (tm : Nat) : Prop :=
  s.clock.state = 0 ∨ 100000 < (s.pairResidual y tm).natAbs ∨ s.clock.masterEpoch.getD y.epoch ≠ y.epoch

@[simp] theorem ntStepped_clock (s : State) : (ntStepped s).clock = s.clock := by simp [ntStepped, raiseNt]

@[simp] theorem ntStepped_schedule (s : State) : (ntStepped s).schedule = s.schedule := by simp [ntStepped]

theorem usePair_schedule (y : SyncHeard) (tm : Nat) (s : State) : (usePair y tm s).schedule = s.schedule := by
  simp [usePair]

/-- A step moves the offset by the residual and starts to acquire; an UNSYNCED clock forgets its rate. -/
theorem usePair_clock_of_step {s : State} {y : SyncHeard} {tm : Nat} (h : pairSteps s y tm) :
    ∃ epoch, (usePair y tm s).clock = { s.clock.pairUsed y tm (s.pairResidual y tm) with
      offset := s.clock.offset + s.pairResidual y tm, rate := if s.clock.state = 0 then 0 else s.clock.rate,
      corr := if s.clock.state = 0 then 0 else s.clock.rate, goodRun := 0, state := 1, lastPair := s.time.now,
      epoch := epoch } := by
  unfold usePair
  extract_lets c r own fresh rate u
  split
  next =>
    split
    · exact ⟨_, rfl⟩
    · exact ⟨_, ntStepped_clock u⟩
  next hn => exact absurd h hn

/-- A correction leaves the offset alone. -/
theorem usePair_clock_of_slew {s : State} {y : SyncHeard} {tm : Nat} (h : ¬ pairSteps s y tm) :
    ∃ rate corr run epoch last state, (usePair y tm s).clock = { s.clock.pairUsed y tm (s.pairResidual y tm) with
      rate := rate, corr := corr, goodRun := run, epoch := epoch, lastPair := last, state := state } := by
  unfold usePair
  extract_lets c r own fresh rate₀ u₀ rate corr good run u
  split
  next hs => exact absurd hs h
  next =>
  split
  · split
    · exact ⟨_, _, _, _, _, _, setNtState_clock 2 0xE8 u⟩
    · exact ⟨_, _, _, _, _, s.clock.state, rfl⟩
  · split
    · exact ⟨_, _, _, _, _, _, congrArg (fun k : ClockState => { k with lastPair := s.time.now }) (setNtState_clock 2 0xE8 u)⟩
    · exact ⟨_, _, _, _, _, s.clock.state, rfl⟩

/-- Every usable pair counts as used and gives the residual; what waits and what failed stays. -/
theorem usePair_counts (y : SyncHeard) (tm : Nat) (s : State) :
    (usePair y tm s).clock.used = s.clock.used + 1 ∧ (usePair y tm s).clock.awaited = s.clock.awaited ∧
    (usePair y tm s).clock.residual = s.pairResidual y tm ∧ (usePair y tm s).clock.failed = s.clock.failed := by
  by_cases h : pairSteps s y tm
  · obtain ⟨_, he⟩ := usePair_clock_of_step h
    simp [he, ClockState.pairUsed]
  · obtain ⟨_, _, _, _, _, _, he⟩ := usePair_clock_of_slew h
    simp [he, ClockState.pairUsed]

/-- Settles O30: the master's SYNC, the SYNC received, and the FOLLOW_UP by what makes a pair. -/
theorem networkTimePairs : Obligations.NetworkTimePairs := by
  unfold Obligations.NetworkTimePairs
  intro s c hl
  refine ⟨fun _ _ hc => execSync_of_commit c hc, fun hr hm hc hlen => ?master, fun hu b capture hb => ?heard,
    fun hu hf b y hb hy => ?pair⟩
  case master =>
    obtain ⟨d, hk, ⟨tier, flags, epoch, master, high, hd⟩, he⟩ := execSync_of_master hr hl hm hc
    refine ⟨_, { d with posted := s.time.now }, he, hk, ?_, ?_, rfl, fun hroom htx => ?_, fun hfull => ?_⟩
    · show d.frame.data.length = 8
      rw [hd, syncData_length]
    · show d.frame.data.take 2 = [_, d.frame.data.getD 1 0]
      rw [hd, syncData_take]
    · rw [postTx_of_room d hroom]
      have hget : s.can[c]? = some (s.canOf c) := by simp [State.canOf, hlen]
      refine ⟨?_, rfl⟩
      show (((s.modCan c _).canOf c).tx.getD 0 []) = _
      rw [modCan_of_get hget, canOf_withCan hget]
      exact getD_modAt_self _ _ (by omega)
    · rw [postTx_of_full d hfull]
      rfl
  case heard => exact execSyncReceived_of_up hu hl hb capture
  case pair =>
    refine ⟨fun h => execFollowUpReceived_of_bad hu hl hf hb hy false ?_,
      execFollowUpReceived_of_bad hu hl hf hb hy true (.inl rfl), fun hc hs hm ht => ?good⟩
    · rcases h with h | h | h | h
      · exact .inr (.inr (.inl h))
      · exact .inr (.inr (.inr (.inl h)))
      · exact .inr (.inr (.inr (.inr h)))
      · exact .inr (.inl (Nat.lt_of_not_le h))
    case good =>
      have hgood : ¬ pairBad s c b false y := by
        rintro (h | h | h | h | h)
        · exact Bool.noConfusion h
        · omega
        · exact h hc
        · exact h hs
        · simp [hm] at h
      have hsch := usePair_schedule y (masterTime y.high (field b 1 7))
        { ackRx c 0 b s with clock := { s.clock with awaited := none } }
      obtain ⟨hused, hwait, hres, hfail⟩ := usePair_counts y (masterTime y.high (field b 1 7))
        { ackRx c 0 b s with clock := { s.clock with awaited := none } }
      refine ⟨_, execFollowUpReceived_of_good hu hl hf hb hy false hgood, hused, hwait, hres, hfail,
        congrArg Schedule.sys hsch, congrArg Schedule.param hsch, congrArg Schedule.time hsch, fun h0 => ?_, fun h0 hr he => ?_⟩
      · obtain ⟨_, hstep⟩ := usePair_clock_of_step (s := { ackRx c 0 b s with clock := { s.clock with awaited := none } })
          (y := y) (tm := masterTime y.high (field b 1 7)) (.inl h0)
        rw [hstep]
        exact ⟨rfl, rfl, if_pos h0, rfl⟩
      · have hns : ¬ pairSteps { ackRx c 0 b s with clock := { s.clock with awaited := none } } y
            (masterTime y.high (field b 1 7)) := by
          rintro (h | h | h)
          · exact h0 h
          · exact Nat.not_lt.mpr hr h
          · exact h (by simp [he])
        obtain ⟨_, _, _, _, _, _, hslew⟩ := usePair_clock_of_slew hns
        rw [hslew]
        rfl

end Sys2Proof.Machine
end

section
/-! SUPPORT. The start of a dispatch cycle, and what follows without allocation or set-point (O32). -/
namespace Sys2Proof.Machine
open Sys2Proof

/-! ### What dispatch may change -/

/-- A state without dispatch, CAN channels and open values, and without what events change. -/
def State.netless (s : State) : State := { s.calm with disp := {}, can := [], free := 0 }

theorem calm_of_netless {s t : State} (h : t.netless = s.netless) :
    t.calm = { s with disp := t.disp, can := t.can, free := t.free }.calm :=
  (congrArg (fun u : State => { u with disp := t.disp, can := t.can, free := t.free }) h :)

@[simp] theorem modDisp_netless (f : DispState → DispState) (s : State) : (modDisp f s).netless = s.netless := rfl

@[simp] theorem raise_netless (src code kind index : Nat) (detail : List Byte) (s : State) :
    (raise src code kind index detail s).netless = s.netless :=
  congrArg (fun u : State => ({ u with disp := {}, can := [], free := 0 } : State)) (raise_calm src code kind index detail s)

@[simp] theorem cancelDispatch_netless (ch : Nat) (s : State) : (cancelDispatch ch s).netless = s.netless := rfl

@[simp] theorem cancelDispatch_disp (ch : Nat) (s : State) : (cancelDispatch ch s).disp = s.disp := rfl

@[simp] theorem postTx_netless (c p : Nat) (d : TxDesc) (s : State) : (postTx c p d s).1.netless = s.netless := by
  unfold postTx
  split
  · rfl
  · exact raise_netless ..

@[simp] theorem postTx_disp (c p : Nat) (d : TxDesc) (s : State) : (postTx c p d s).1.disp = s.disp := by
  unfold postTx
  split
  · rfl
  · exact raise_disp ..

@[simp] theorem sendStatus_netless (s : State) : (sendStatus s).netless = s.netless := by
  unfold sendStatus postDispatch
  split
  · exact postTx_netless ..
  · rfl

@[simp] theorem sendStatus_disp (s : State) : (sendStatus s).disp = s.disp := by
  unfold sendStatus postDispatch
  split
  · exact postTx_disp ..
  · rfl

/-- The ledger is all that a refresh of it changes (R601). -/
theorem refreshLedger_frame (m : Member) (s : State) :
    (refreshLedger m s).netless = s.netless ∧ ∃ ledger, (refreshLedger m s).disp = { s.disp with ledger := ledger } := by
  unfold refreshLedger
  split
  · exact ⟨rfl, s.disp.ledger, rfl⟩
  · exact ⟨rfl, _, rfl⟩

/-! ### An allocation takes effect (R599) -/

/-- The current that an allocation of `a` W gives a connected strand: clamped to its limits, `unset` where there is no voltage. -/
def State.allocCurrent (s : State) (unset a : Int) (k : Nat) : Int :=
  clampInt (-((s.limits k).2 : Int)) ((s.limits k).1 : Int)
    (if a = 0 then 0 else match s.strandPoint 0x20 k with
      | some v => if v = 0 then unset else Int.tdiv (1000000 * a) v
      | none => unset)

theorem effectAlloc_netless (l : List Int) (s : State) : (effectAlloc l s).netless = s.netless := rfl

/-- What takes effect: the powers, the currents of the connected strands, and an end of the missed cycles. -/
theorem effectAlloc_disp (l : List Int) (s : State) : (effectAlloc l s).disp = { s.disp with
    allocW := (List.range 4).map (fun k => l.getD k 0)
    allocI := (List.range 4).map (fun k =>
      if s.connected k then s.allocCurrent (Config.freeInt s.free) (l.getD k 0) k else 0)
    staleRun := 0
    allocStale := false
    pendingAlloc := none } := rfl

/-- A strand with a voltage takes its power over its voltage. -/
theorem allocCurrent_of_voltage {s : State} {k : Nat} {v : Int} (hv : s.strandPoint 0x20 k = some v) (h0 : v ≠ 0) (unset a : Int) :
    s.allocCurrent unset a k =
      clampInt (-((s.limits k).2 : Int)) ((s.limits k).1 : Int) (Int.tdiv (1000000 * a) v) := by
  unfold State.allocCurrent
  rw [hv]
  by_cases ha : a = 0 <;> simp [ha, h0]

/-! ### The start of a cycle (R589) -/

/-- The number of the cycle is taken, what was heard is forgotten, and the frames that still wait are cancelled. -/
def cycleBegun (s : State) : State :=
  modDisp (fun d => { d with cycle := s.cycleNumber, members := [], segments := [] })
    (cancelDispatch s.trunkCh (cancelDispatch s.segCh s))

theorem cycleBegun_strandPoint (s : State) (cls k : Nat) : (cycleBegun s).strandPoint cls k = s.strandPoint cls k := rfl

theorem cycleBegun_limits (s : State) (k : Nat) : (cycleBegun s).limits k = s.limits k := rfl

theorem cycleBegun_connected (s : State) (k : Nat) : (cycleBegun s).connected k = s.connected k := rfl

/-- The allocation that waits for cycle `n` takes effect; any other state of it is a missed cycle. -/
def allocDue (n : Nat) (s : State) : State :=
  match s.disp.pendingAlloc with
  | some (c, l) => if c = n then effectAlloc l s
                   else modDisp (fun d => { d with pendingAlloc := none, staleRun := d.staleRun + 1 }) s
  | none => modDisp (fun d => { d with staleRun := d.staleRun + 1 }) s

/-- The module's own entries of the ledger are refreshed, and STATUS is sent. -/
def cycleReported (s : State) : State :=
  if 2 ≤ (refreshLedger s.ownMember s).tier then sendStatus (refreshLedger s.ownMember s) else refreshLedger s.ownMember s

theorem cycleReported_frame (s : State) :
    (cycleReported s).netless = s.netless ∧ ∃ ledger, (cycleReported s).disp = { s.disp with ledger := ledger } := by
  have h := refreshLedger_frame s.ownMember s
  unfold cycleReported
  split
  · rwa [sendStatus_netless, sendStatus_disp]
  · exact h

theorem allocDue_of_due {n : Nat} {l : List Int} {s : State} (h : s.disp.pendingAlloc = some (n, l)) :
    allocDue n s = effectAlloc l s := by
  simp [allocDue, h]

theorem allocDue_of_missed {n : Nat} {s : State} (h : ∀ l, s.disp.pendingAlloc ≠ some (n, l)) :
    allocDue n s = modDisp (fun d => { d with pendingAlloc := none, staleRun := d.staleRun + 1 }) s := by
  unfold allocDue
  split
  next c l hp =>
    have hc : c ≠ n := fun hc => h l (hc ▸ hp)
    exact if_neg hc
  next hp => rw [modDisp, modDisp, ← hp]

theorem allocDue_netless (n : Nat) (s : State) : (allocDue n s).netless = s.netless := by
  unfold allocDue
  split
  · split <;> rfl
  · rfl

theorem execDispatchCycleStart_of_running {s : State} (hd : s.dispatches = true) (hc : s.feed.commit = none) :
    exec .dispatchCycleStart s = .next (cycleReported (allocDue s.cycleNumber (cycleBegun s))) :=
  congrArg Host.Outcome.next (if_neg (by simp [State.dispatchRuns, hd, hc]))

theorem execDispatchCycleStart_of_commit {s : State} (hc : s.feed.commit ≠ none) : exec .dispatchCycleStart s = .next s := by
  have h : s.feed.commit.isNone = false := by simpa [Option.isSome_iff_ne_none] using hc
  exact congrArg Host.Outcome.next (if_pos (by simp [State.dispatchRuns, h]))

/-- Settles O32: the cycle's start by the allocation that waits, then the two leases that run out. -/
theorem dispatchCycle : Obligations.DispatchCycle := by
  unfold Obligations.DispatchCycle
  refine fun s hd => ⟨execDispatchCycleStart_of_commit, fun hc => ?starts, fun hrun hfresh => ?stale,
    fun ht hrun hfresh => ?targetless⟩
  case starts =>
    obtain ⟨hn, ledger, hr⟩ := cycleReported_frame (allocDue s.cycleNumber (cycleBegun s))
    refine ⟨_, execDispatchCycleStart_of_running hd hc, ?_⟩
    generalize cycleReported (allocDue s.cycleNumber (cycleBegun s)) = t at hn hr ⊢
    have hcalm := calm_of_netless (hn.trans (allocDue_netless s.cycleNumber (cycleBegun s)))
    rw [hr]
    by_cases hdue : ∃ l, s.disp.pendingAlloc = some (s.cycleNumber, l)
    · obtain ⟨l, hl⟩ := hdue
      rw [allocDue_of_due (s := cycleBegun s) hl, effectAlloc_disp] at hr ⊢
      refine ⟨rfl, rfl, rfl, hr ▸ hcalm, rfl, fun l' hl' => ?_, fun h => absurd hl (h l)⟩
      obtain rfl : l = l' := by simpa [hl] using hl'
      refine ⟨rfl, rfl, rfl, fun k hk => ?_⟩
      simp only [List.getElem?_map, List.getElem?_range hk, Option.map_some]
      refine ⟨fun hoff => by rw [if_neg (by simp [cycleBegun_connected, hoff])], fun v hon hv h0 => ?_⟩
      rw [if_pos ((cycleBegun_connected s k).trans hon),
        allocCurrent_of_voltage ((cycleBegun_strandPoint s 0x20 k).trans hv) h0, cycleBegun_limits]
    · have hne : ∀ l, s.disp.pendingAlloc ≠ some (s.cycleNumber, l) := fun l hl => hdue ⟨l, hl⟩
      rw [allocDue_of_missed (s := cycleBegun s) hne] at hr ⊢
      exact ⟨rfl, rfl, rfl, hr ▸ hcalm, rfl, fun l hl => absurd hl (hne l), fun _ => ⟨rfl, rfl, rfl⟩⟩
  case stale => exact congrArg Host.Outcome.next (if_pos (by simp [hd, hrun, hfresh]))
  case targetless => exact congrArg Host.Outcome.next (if_pos (by simp [hd, ht, hrun, hfresh]))

end Sys2Proof.Machine
end

section
/-! SUPPORT. The two-wire controller: its slots, its transactions and the state of the bus (O21, O22). -/
namespace Sys2Proof.Machine
open Sys2Proof

/-! ### The end of a transaction (R615, R617, R619) -/

/-- The controller once the transaction of slot `j` at the head of Q56 has ended, `l` waiting behind it. -/
def TwController.ended (j : Nat) (l : List (Nat × Nat)) (value : Option Int) (ok : Bool) (c : TwController) : TwController :=
  { c with queue := l, retries := 0, slots := modAt c.slots j (fun x => { x with pending := false, failed := !ok, value := value }) }

section
variable {s : State} {j at' : Nat} {l : List (Nat × Nat)} (hq : s.twc.queue = (j, at') :: l)
include hq

theorem endTransaction_of_head (value : Option Int) (ok : Bool) : endTransaction j value ok s =
    if (s.twc.slots.getD j {}).failed = ok then raise 0xF2 0 0 0 (leBytes 1 j) { s with twc := s.twc.ended j l value ok }
    else { s with twc := s.twc.ended j l value ok } := by
  simp [endTransaction, modTwc, TwController.ended, hq]

theorem failTransaction_of_head : failTransaction s =
    if (s.twc.slots.getD j {}).failed = true then { s with twc := s.twc.ended j l none false }
    else raise 0xF2 0 0 0 (leBytes 1 j) { s with twc := s.twc.ended j l none false } := by
  have h : failTransaction s = endTransaction j none false s := by simp [failTransaction, hq]
  rw [h, endTransaction_of_head hq]
  cases (s.twc.slots.getD j {}).failed <;> rfl

variable (hs : s.twServes = true)
include hs

theorem execArbLost_of_head (byteIndex bitIndex : Nat) :
    let u := raise 0xF1 0 0 0 (leBytes 1 j ++ leBytes 1 byteIndex ++ leBytes 1 bitIndex) s
    exec (.arbLost byteIndex bitIndex) s = .next (
      if u.twc.retries < u.pn 0x1206 then modTwc (fun c => { c with retries := c.retries + 1 }) u else failTransaction u) := by
  have he : exec (.arbLost byteIndex bitIndex) s = execArbLost byteIndex bitIndex s := rfl
  rw [he, execArbLost]
  simp [hs, hq]

theorem execTwTransactionDone_of_read {data : List Byte} (hr : (s.twCfg j).testBit 30 = false)
    (hl : data.length = twDataLen (s.twCfg j)) : exec (.twTransactionDone true data) s =
    .next (endTransaction j (some (twReadValue (s.twCfg j) data)) true s) := by
  have he : exec (.twTransactionDone true data) s = execTwTransactionDone true data s := rfl
  rw [he, execTwTransactionDone]
  simp [hs, hq, hr, hl]

theorem execTwTransactionDone_of_silence (data : List Byte) : exec (.twTransactionDone false data) s = .next (failTransaction s) := by
  have he : exec (.twTransactionDone false data) s = execTwTransactionDone false data s := rfl
  rw [he, execTwTransactionDone]
  simp [hs, hq]

end

/-- Settles O21, by the retries made. -/
theorem arbitrationRetried : Obligations.ArbitrationRetried := by
  unfold Obligations.ArbitrationRetried
  intro s j at' byteIndex bitIndex l hs hq u
  have htwc : u.twc = s.twc := raise_twc ..
  have hpn : u.pn 0x1206 = s.pn 0x1206 := congrArg (fun q : ParamState => q.nat 0x1206) (raise_param ..)
  have he := execArbLost_of_head hq hs byteIndex bitIndex
  refine ⟨fun h => ?_, fun h => ?_⟩
  · rw [he, if_pos (by rw [htwc, hpn]; exact h), modTwc, htwc]
  · rw [he, if_neg (by rw [htwc, hpn]; exact Nat.not_lt.mpr h), failTransaction_of_head (htwc ▸ hq), htwc]
    rfl

/-! ### A slot that falls due (R616) -/

/-- The controller once slot `j` has fallen due in the frame of an instant. -/
def TwController.dueAt (now j : Nat) (c : TwController) : TwController := { c with due := some (now / 1000, j) }

theorem execTwSlotDue_of_no_turn {s : State} {j : Nat} (h : s.twTurn j = false) : exec (.twSlotDue j) s = .next s :=
  congrArg Host.Outcome.next (if_pos (by simp [h]))

section
variable {s : State} {j : Nat} {x : TwSlot} (hj : j < 8) (hx : s.twc.slots[j]? = some x) (hs : s.twServes = true)
  (he : (s.twCfg j).testBit 31 = true) (ht : s.twTurn j = true)
include hj hx hs he ht

/-- While its transaction is pending a slot skips the period. -/
theorem execTwSlotDue_of_pending (hp : x.pending = true) :
    exec (.twSlotDue j) s = .next { s with twc := s.twc.dueAt s.time.now j } := by
  have hd : exec (.twSlotDue j) s = execTwSlotDue j s := rfl
  have hg : s.twc.slots.getD j {} = x := by simp [List.getD_eq_getElem?_getD, hx]
  have h8 : ¬ 8 ≤ j := by omega
  rw [hd, execTwSlotDue]
  simp only [h8, hs, he, ht, modTwc, hg, hp, decide_false, Bool.not_true, Bool.or_self, Bool.false_eq_true, if_false, if_true]
  rfl

/-- A free read slot joins Q56 where it has room. -/
theorem execTwSlotDue_of_read (hr : (s.twCfg j).testBit 30 = false) (hp : x.pending = false) :
    exec (.twSlotDue j) s = .next (
      if s.qDepth 56 ≤ s.twc.queue.length then raise 0x09 0 0 0 (leBytes 1 56) { s with twc := s.twc.dueAt s.time.now j }
      else { s with twc := { s.twc.dueAt s.time.now j with
        queue := s.twc.queue ++ [(j, s.time.now)], slots := setAt s.twc.slots j { x with pending := true, data := [] } } }) := by
  have hd : exec (.twSlotDue j) s = execTwSlotDue j s := rfl
  have hg : s.twc.slots.getD j {} = x := by simp [List.getD_eq_getElem?_getD, hx]
  have h8 : ¬ 8 ≤ j := by omega
  rw [hd, execTwSlotDue]
  simp only [h8, hs, he, ht, modTwc, hg, hp, hr, modAt_eq_setAt _ hx, decide_false, Bool.not_true, Bool.or_self, Bool.false_eq_true,
    if_false]
  rfl

end

/-! ### The state of the bus (R622) -/

theorem twBus_iff (s : State) :
    s.twBus = true ↔ s.pins.vio = true ∧ s.alive = true ∧ s.sys.ready = true ∧ s.twc.stuck = false := by
  simp [State.twBus, and_assoc]

theorem twBus_of_serves {s : State} (h : s.twServes = true) : s.twBus = true := (Bool.and_eq_true_iff.mp h).1

/-- Noting that a free bus is free changes nothing. -/
theorem withStuck_of_free {s : State} (h : s.twc.stuck = false) : ({ s with twc := { s.twc with stuck := false } } : State) = s := by
  rw [← h]

theorem execTwBusStuck_of_bus {s : State} (h : s.twBus = true) (recovered : Bool) : exec (.twBusStuck recovered) s =
    .next (raise 0xF3 0 0 0 (leBytes 1 (bit !recovered)) { s with twc := { s.twc with stuck := !recovered } }) :=
  congrArg Host.Outcome.next (if_pos h)

theorem execTwBusFree_of_stuck {s : State} (ha : s.alive = true) (hv : s.pins.vio = true) (h : s.twc.stuck = true) :
    exec .twBusFree s = .next (raise0 0xF3 { s with twc := { s.twc with stuck := false } }) :=
  congrArg Host.Outcome.next (if_pos (by simp [ha, hv, h]))

/-- Settles O22: the slot that falls due, the end of its transaction, and the stuck bus. -/
theorem controllerSlots : Obligations.ControllerSlots := by
  unfold Obligations.ControllerSlots
  intro s j cfg x hj hcfg hx hs
  subst hcfg
  have hbus := twBus_of_serves hs
  obtain ⟨hv, ha, _, hfree⟩ := (twBus_iff s).mp hbus
  have hg : s.twc.slots.getD j {} = x := by simp [List.getD_eq_getElem?_getD, hx]
  refine ⟨execTwSlotDue_of_no_turn, fun he ht => ?due, fun l at' hq => ?ends, execTwBusStuck_of_bus hbus false, ?recovered, ?free⟩
  case due =>
    refine ⟨execTwSlotDue_of_pending hj hx hs he ht, fun hr hp => ⟨fun hroom => ?_, fun hfull => ?_⟩⟩
    · exact (execTwSlotDue_of_read hj hx hs he ht hr hp).trans (congrArg Host.Outcome.next (if_neg (Nat.not_le.mpr hroom)))
    · exact (execTwSlotDue_of_read hj hx hs he ht hr hp).trans (congrArg Host.Outcome.next (if_pos hfull))
  case ends =>
    have hended (ok : Bool) (v : Option Int) : s.twc.ended j l v ok = { s.twc with
        queue := l, retries := 0, slots := setAt s.twc.slots j { x with pending := false, failed := !ok, value := v } } := by
      rw [TwController.ended, modAt_eq_setAt _ hx]
    have htime : exec .twCtrlTimeout s = .next (failTransaction s) := congrArg Host.Outcome.next (if_pos hs)
    refine ⟨fun data hr hl => ?_, ?_, fun data => (execTwTransactionDone_of_silence hq hs data).trans htime.symm⟩
    · rw [execTwTransactionDone_of_read hq hs hr hl, endTransaction_of_head hq, hg, hended]
      rfl
    · rw [htime, failTransaction_of_head hq, hg, hended]
  case recovered =>
    rw [execTwBusStuck_of_bus hbus true, Bool.not_true, withStuck_of_free hfree]
    rfl
  case free =>
    rw [execTwBusFree_of_stuck (s := { s with twc := { s.twc with stuck := true } }) ha hv rfl]
    exact congrArg (fun t => Host.Outcome.next (raise0 0xF3 t)) (withStuck_of_free hfree)

end Sys2Proof.Machine
end

section
/-! SUPPORT. An update session: its opening, its pieces, and the verdict on the image (O17). -/
namespace Sys2Proof.Machine
open Sys2Proof

/-! ### Components and pieces -/

/-- The record of a component after a change of it. -/
theorem comp_modComp {s : State} {c : Nat} (h : c < s.upd.comps.length) (f : CompState → CompState) :
    (modComp c f s).comp c = f (s.comp c) := getD_modAt_self f {} h

theorem assocGet_assocSet_self {β : Type} (k : Nat) (v : β) (l : List (Nat × β)) : assocGet k (assocSet k v l) = some v := by
  induction l with
  | nil => simp [assocSet, assocGet]
  | cons e l ih =>
    obtain ⟨j, w⟩ := e
    by_cases h₁ : k < j
    · simp [assocSet, assocGet, h₁]
    · by_cases h₂ : k = j
      · simp [assocSet, assocGet, h₂]
      · simp [assocSet, assocGet, h₁, h₂, ih]

theorem assocGet_storePiece (i : Nat) (x : Piece) (s : State) : assocGet i (storePiece i x s).upd.pieces = some x := by
  unfold storePiece
  extract_lets
  exact assocGet_assocSet_self ..

/-! ### UPD_BEGIN (R674) -/

/-- The session that a well-formed and trusted manifest opens. -/
def sessionOpened (m : List Byte) (s : State) : State :=
  modComp (mComp m) (fun c => { c with state := 1 }) { s with upd := { s.upd with session := 1, manifest := m, pieces := [] } }

section
variable {s : State} {pl : List Byte} (h : s.serves 0x0601 modesAll = true) (hl : pl.length = 260) (hc : field pl 0 1 = 0)
  (hz : field pl 1 3 = 0) (hm : manifestOk (pl.drop 4) = true) (h4 : mComp (pl.drop 4) ≠ 4) (p : Port) (tag : Half)
include h hl hc hz hm h4

theorem execUpdBegin_of_trusted (ht : s.manifestTrusted (pl.drop 4) = true) (hs : s.upd.session ≠ 1) (hw : s.inWindow = false) :
    exec (.updBegin p tag pl) s = .next (updEvent 0xF4 0 (mComp (pl.drop 4)) (reply p 0x0601 tag stOk noDetail
      ((sessionOpened (pl.drop 4) s).upd.heldBytes ++ leBytes 4 0) (sessionOpened (pl.drop 4) s))) := by
  refine (congrArg Host.Outcome.next (hostRow_of_serves h (ok := fun pl => pl.length == 260) (beq_iff_eq.mpr hl) _ p tag)).trans ?_
  simp [hc, hz, hm, h4, ht, hs, hw, opUpd, sessionOpened]

theorem execUpdBegin_of_untrusted (ht : s.manifestTrusted (pl.drop 4) = false) :
    exec (.updBegin p tag pl) s = .next (reply p 0x0601 tag stNotPermitted noDetail [] s) := by
  refine (congrArg Host.Outcome.next (hostRow_of_serves h (ok := fun pl => pl.length == 260) (beq_iff_eq.mpr hl) _ p tag)).trans ?_
  simp [hc, hz, hm, h4, ht, opUpd]

end

/-! ### UPD_PIECE (R676) -/

/-- The payload of UPD_PIECE: index, two reserved bytes, check value, data. -/
def piecePayload (i : Nat) (check data : List Byte) : List Byte := leBytes 2 i ++ [0, 0] ++ check ++ data

theorem piecePayload_index {i : Nat} (hi : i < 65536) (check data : List Byte) : field (piecePayload i check data) 0 2 = i := by
  have : field (piecePayload i check data) 0 2 = leNat (leBytes 2 i) := rfl
  rw [this, leNat_leBytes, Nat.mod_eq_of_lt (show i < 256 ^ 2 from hi)]

theorem piecePayload_check {check : List Byte} (hc : check.length = 8) (i : Nat) (data : List Byte) :
    ((piecePayload i check data).drop 4).take 8 = check := List.take_left' hc

theorem piecePayload_data {check : List Byte} (hc : check.length = 8) (i : Nat) (data : List Byte) :
    (piecePayload i check data).drop 12 = data := List.drop_left' (by simp [hc])

/-- Past the quiesce mark aside, a command goes straight to its opcode's handling. -/
theorem hostRow_of_serving {op : Nat} {modes : List Mode} {s : State} (h : s.serves op modes = true)
    (body : Port → Half → List Byte → State → State) (p : Port) (tag : Half) (pl : List Byte) :
    hostRow op body p tag pl s = body p tag pl s := by
  simp only [State.serves, Bool.and_eq_true, Bool.not_eq_true'] at h
  simp [hostRow, h]

/-- A command of a length that is allowed gets past the shared refusals. -/
theorem serve_of_serves {op : Nat} {modes : List Mode} {s : State} (h : s.serves op modes = true) {lenOk : Bool}
    (hl : lenOk = true) (p : Port) (tag : Half) (body : State → State) : serve op modes lenOk p tag body s = body s := by
  simp only [State.serves, Bool.and_eq_true] at h
  simp [serve, h, hl]

section
variable {s : State} {i : Nat} {check data : List Byte} (h : s.serves 0x0602 modesAll = true) (hs : s.upd.session = 1)
  (hn : i < mCount s.upd.manifest) (hi : i < 65536) (hc : check.length = 8) (hd : data.length = pieceLength s.upd.manifest i)
  (hg : assocGet i s.upd.pieces = none) (p : Port) (tag : Half)
include h hs hn hi hc hd hg

/-- A missing piece of an open session, of its length in the image. -/
theorem execUpdPiece_of_open : exec (.updPiece p tag (piecePayload i check data)) s = .next (
    if (sha256 data).take 8 ≠ check then updEvent 0xF5 0 (mComp s.upd.manifest) (reply p 0x0602 tag stBadCrc i [] s)
    else reply p 0x0602 tag stOk noDetail [] (storePiece i { check := check, data := data } s)) := by
  have hlen : (piecePayload i check data).length = 12 + data.length := by simp [piecePayload, hc]; omega
  have hmax : data.length ≤ 2048 := hd ▸ Nat.min_le_left ..
  have hz : field (piecePayload i check data) 2 2 = 0 := rfl
  have hfits : (12 ≤ (piecePayload i check data).length && (piecePayload i check data).length ≤ 2060 &&
      (s.upd.session != 1 || mCount s.upd.manifest ≤ field (piecePayload i check data) 0 2 ||
        (piecePayload i check data).length ==
          12 + pieceLength s.upd.manifest (field (piecePayload i check data) 0 2))) = true := by
    rw [piecePayload_index hi, hlen, ← hd]
    simp only [Bool.and_eq_true, decide_eq_true_eq, Bool.or_eq_true, beq_iff_eq]
    exact ⟨⟨by omega, by omega⟩, .inr trivial⟩
  have hin : ¬ mCount s.upd.manifest ≤ i := by omega
  refine (congrArg Host.Outcome.next (hostRow_of_serving h serveUpdPiece p tag (piecePayload i check data))).trans ?_
  unfold serveUpdPiece
  extract_lets i' m fits
  rw [serve_of_serves (op := opUpd 2) h hfits]
  simp +zetaDelta [piecePayload_index hi, piecePayload_check hc, piecePayload_data hc, hz, hs, hin, hg, opUpd]

theorem execUpdPiece_of_good (hk : (sha256 data).take 8 = check) :
    exec (.updPiece p tag (piecePayload i check data)) s =
      .next (reply p 0x0602 tag stOk noDetail [] (storePiece i { check := check, data := data } s)) := by
  rw [execUpdPiece_of_open h hs hn hi hc hd hg, if_neg (not_not_intro hk)]

theorem execUpdPiece_of_bad (hk : (sha256 data).take 8 ≠ check) : exec (.updPiece p tag (piecePayload i check data)) s =
    .next (updEvent 0xF5 0 (mComp s.upd.manifest) (reply p 0x0602 tag stBadCrc i [] s)) := by
  rw [execUpdPiece_of_open h hs hn hi hc hd hg, if_pos hk]

end

/-! ### UPD_VERIFY and its verdict (R678, R679) -/

theorem execUpdVerify_of_whole {s : State} (h : s.serves 0x0604 modesAll = true) (hs : s.upd.session = 1)
    (hv : s.upd.verify = none) (hf : s.upd.firstMissing = 0xFFFF) (p : Port) (tag : Half) : exec (.updVerify p tag []) s =
    .next (reply p 0x0604 tag stAccepted noDetail [] { s with upd := { s.upd with verify := some (.packet p tag) } }) := by
  refine (congrArg Host.Outcome.next (hostRow_of_serves h (ok := fun pl => pl.length == 0) rfl _ p tag)).trans ?_
  simp [hs, hv, hf, opUpd]

/-- The image as its verdict leaves it: verified by 0, and without pieces by any other. -/
def imageJudged (v : Nat) (s : State) : State :=
  if v = 0 then
    modComp (mComp s.upd.manifest) (fun x => { x with state := 2, stored := mVersion s.upd.manifest, image := s.upd.manifest })
      { s with upd := { s.upd with verify := none, session := 2 } }
  else { s with upd := { s.upd with verify := none, pieces := [] } }

theorem imageJudged_mode (v : Nat) (s : State) : (imageJudged v s).sys.mode = s.sys.mode := by
  unfold imageJudged
  split <;> rfl

/-- Outside LOADER no reset follows a verification (R680). -/
theorem execVerificationComplete_of_packet {s : State} {p : Port} {tag : Half} (hv : s.upd.verify = some (.packet p tag))
    (hm : s.sys.mode ≠ .loader) (good : Bool) : exec (.verificationComplete good) s =
    .next (complete (.packet p tag) 0x0604 stOk noDetail [BitVec.ofNat 8 (s.verdict good)]
      (updEvent 0xF6 (s.verdict good) (mComp s.upd.manifest) (imageJudged (s.verdict good) s))) := by
  have hmode : (complete (.packet p tag) (opUpd 4) stOk noDetail [BitVec.ofNat 8 (s.verdict good)]
      (updEvent 0xF6 (s.verdict good) (mComp s.upd.manifest) (imageJudged (s.verdict good) s))).sys.mode ≠ .loader := by
    simpa [updEvent, imageJudged_mode] using hm
  have he : exec (.verificationComplete good) s = execVerificationComplete good s := rfl
  rw [he, execVerificationComplete, hv]
  exact congrArg Host.Outcome.next (if_neg fun h => hmode h.2.2)

/-- Settles O17: the manifest trusted or not, the piece good or not, the request to verify, and the verdict. -/
theorem updateTransfer : Obligations.UpdateTransfer := by
  unfold Obligations.UpdateTransfer
  refine fun s p tag => ⟨fun pl h hl hc hz hm h4 hs hw => ⟨fun ht => ?begin, execUpdBegin_of_untrusted h hl hc hz hm h4 p tag⟩,
    fun i check data h hs hn hi hc hd hg => ⟨fun hk => ⟨execUpdPiece_of_good h hs hn hi hc hd hg p tag hk, ?stored⟩,
      execUpdPiece_of_bad h hs hn hi hc hd hg p tag⟩,
    fun h hs hv hf => execUpdVerify_of_whole h hs hv hf p tag, fun good hv hm hlen hcomp => ?verdict⟩
  case begin => exact ⟨_, execUpdBegin_of_trusted h hl hc hz hm h4 p tag ht hs hw, rfl, rfl, rfl, rfl, rfl, rfl⟩
  case stored => exact assocGet_storePiece ..
  case verdict =>
    refine ⟨_, execVerificationComplete_of_packet hv hm good, fun h0 => ?_, fun h0 => if_neg h0⟩
    have hcomp' := comp_modComp (s := { s with upd := { s.upd with verify := none, session := 2 } }) (c := mComp s.upd.manifest)
      (show mComp s.upd.manifest < s.upd.comps.length by omega)
      (fun x => { x with state := 2, stored := mVersion s.upd.manifest, image := s.upd.manifest })
    rw [imageJudged, if_pos h0]
    refine ⟨rfl, rfl, ?_, ?_⟩
    · rw [State.verified, hcomp']
      rfl
    · rw [hcomp']

end Sys2Proof.Machine
end

section
/-! SUPPORT. What follows a verified image: handover, copy, switch, confirmation, abort and restore (O18). -/
namespace Sys2Proof.Machine
open Sys2Proof

/-! ### Payloads that name a component -/

/-- The payload that names component `c`, with no flag and no strand. -/
def componentPayload (c : Nat) : List Byte := [BitVec.ofNat 8 c, 0, 0, 0]

theorem componentPayload_component {c : Nat} (h : c < 5) : field (componentPayload c) 0 1 = c := field_loopNumber (by omega) _

theorem componentPayload_zeros (c : Nat) : field (componentPayload c) 1 1 = 0 ∧ field (componentPayload c) 2 1 = 0 ∧
    field (componentPayload c) 3 1 = 0 ∧ field (componentPayload c) 1 3 = 0 := ⟨rfl, rfl, rfl, rfl⟩

@[simp] theorem updEvent_upd (src code c : Nat) (s : State) : (updEvent src code c s).upd = s.upd := raise_upd ..

/-! ### UPD_HANDOVER (R682) -/

/-- A verified and compatible component other than the main image waits for its handover. -/
theorem execUpdHandover_of_verified {s : State} {c : Nat} (hc : c < 5) (h2 : 2 ≤ c)
    (h : s.serves 0x0605 [.standby, .run, .service] = true) (hv : s.verified c = true) (hi : s.incompatible c = false)
    (hn : s.upd.handover = none) (p : Port) (tag : Half) : exec (.updHandover p tag (componentPayload c)) s =
    .next (reply p 0x0605 tag stAccepted noDetail []
      { s with upd := { s.upd with handover := some { comp := c, flags := 0, strands := 0, by' := .packet p tag } } }) := by
  have h4 : ¬ 4 < c := by omega
  have h1 : c ≠ 1 := by omega
  have hm : c ≠ 0 := by omega
  refine (congrArg Host.Outcome.next (hostRow_of_serves h (ok := fun pl => pl.length == 4) rfl _ p tag)).trans ?_
  simp [componentPayload_component hc, componentPayload_zeros c, h4, h1, hm, hv, hi, hn, opUpd]

/-! ### IMAGE_COPY_COMPLETE (R683, R688) -/

section
variable {s : State} {h : Handover} (hh : s.upd.handover = some h) (hr : h.ready = false)
include hh hr

/-- The image of the main processor or of a die waits for the saddle point. -/
theorem execImageCopyComplete_of_die (h4 : h.comp ≠ 4) (h1 : h.comp ≠ 1) : exec (.imageCopyComplete true) s =
    .next { s with upd := { s.upd with handover := some { h with ready := true } } } := by
  have he : exec (.imageCopyComplete true) s = execImageCopyComplete true s := rfl
  rw [he, execImageCopyComplete, hh]
  simp [hr, h4, h1]

/-- The satellites that take the image are switched one after another. -/
theorem execImageCopyComplete_of_satellites (h1 : h.comp = 1) (hl : s.switchList h ≠ []) : exec (.imageCopyComplete true) s =
    .next { s with upd := { s.upd with handover := some h, toSwitch := s.switchList h, switched := [] } } := by
  have hready : ({ { h with ready := true } with ready := false } : Handover) = h := by rw [← hr]
  have h4 : h.comp ≠ 4 := by omega
  have he : exec (.imageCopyComplete true) s = execImageCopyComplete true s := rfl
  rw [he, execImageCopyComplete, hh]
  simp only [hr, Bool.not_true, Bool.false_eq_true, if_false, h4]
  exact congrArg Host.Outcome.next ((if_pos h1).trans ((if_neg hl).trans (by rw [hready]; rfl)))

/-- A copy that failed completes the request (R686). -/
theorem execImageCopyComplete_of_failed (h4 : h.comp ≠ 4) : exec (.imageCopyComplete false) s =
    .next (complete h.by' 0x0605 stInternalFault noDetail [] { s with upd := { s.upd with handover := none } }) := by
  have he : exec (.imageCopyComplete false) s = execImageCopyComplete false s := rfl
  have hb : (s.upd.loaderBody && h.comp != 4) = s.upd.loaderBody := by simp [h4]
  rw [he, execImageCopyComplete, hh]
  simp only [hr, hb, Bool.not_false, Bool.false_eq_true, if_false, if_true]
  rfl

end

/-! ### SATELLITE_SWITCH (R688) -/

theorem execSatelliteSwitch_of_next {s : State} {h : Handover} {r n : Nat} {e : Nat × Nat} {rest : List (Nat × Nat)}
    (hh : s.upd.handover = some h) (hl : s.upd.toSwitch = (r, n) :: e :: rest) (hn : (r, n) ∉ e :: rest) :
    exec (.satelliteSwitch r n true) s = .next { s.modSat r n (flipImage (s.comp 1).stored) with
      upd := { s.upd with toSwitch := e :: rest, switched := s.upd.switched ++ [(r, n)] } } := by
  have hrest : (e :: rest).filter (fun x => x != (r, n)) = e :: rest :=
    List.filter_eq_self.mpr fun x hx => by simpa using fun hxe : x = (r, n) => hn (hxe ▸ hx)
  have hfilter : ((r, n) :: e :: rest).filter (fun x => x != (r, n)) = e :: rest := by
    rw [List.filter_cons_of_neg (by simp), hrest]
  have he : exec (.satelliteSwitch r n true) s = execSatelliteSwitch r n true s := rfl
  rw [he, execSatelliteSwitch, hh]
  simp only [hl, List.find?_cons_of_pos, beq_self_eq_true, bne_self_eq_false, Bool.false_eq_true, if_false, if_true,
    State.modSat_upd, hfilter, List.isEmpty_cons]

/-! ### Confirmation and the health window (R691, R692) -/

@[simp] theorem setIdent_upd (c v : Nat) (s : State) : (setIdent c v s).upd = s.upd := by
  unfold setIdent
  extract_lets i
  cases i <;> rfl

/-- A confirmed component runs for good. -/
theorem comp_confirm {s : State} {c : Nat} (h : c < s.upd.comps.length) :
    ((confirm c s).comp c).state = 0 ∧ ((confirm c s).comp c).window = none := by
  have hget := comp_modComp h (fun x => { x with
    state := 0, window := none, old := none, floor := max x.floor (mLevel x.image), running := x.stored })
  have hcomps : (confirm c s).upd.comps = (modComp c (fun x => { x with
      state := 0, window := none, old := none, floor := max x.floor (mLevel x.image), running := x.stored }) s).upd.comps := by
    unfold confirm
    rw [updEvent_upd, setIdent_upd]
    split <;> rfl
  rw [State.comp, hcomps, ← State.comp, hget]
  exact ⟨rfl, rfl⟩

section
variable {s : State} {c : Nat} (hf : s.upd.fallback = none) (hh : s.healthy c = true)
include hf hh

theorem execUpdConfirm_of_healthy (hc : c < 5) (hw : (s.comp c).window ≠ none) (h : s.serves 0x0606 modesAll = true) (p : Port)
    (tag : Half) : exec (.updConfirm p tag (componentPayload c)) s =
    .next (reply p 0x0606 tag stOk noDetail [] (confirm c s)) := by
  have h4 : ¬ 4 < c := by omega
  refine (congrArg Host.Outcome.next (hostRow_of_serves h (ok := fun pl => pl.length == 4) rfl _ p tag)).trans ?_
  simp [componentPayload_component hc, componentPayload_zeros c, h4, hw, hf, hh, opUpd]

theorem execHealthWindowEnd_of_healthy (hi : s.upd.comps.findIdx? (fun x => x.window.isSome) = some c)
    (ha : s.pn 0x1402 = 1) : exec .healthWindowEnd s = .next (confirm c s) := by
  have he : exec .healthWindowEnd s = execHealthWindowEnd s := rfl
  rw [he, execHealthWindowEnd, hi]
  simp [hf, hh, ha]

end

/-- Without UPD.AUTO_CONFIRM the end of the window fails it. -/
theorem execHealthWindowEnd_of_manual {s : State} {c : Nat} (hi : s.upd.comps.findIdx? (fun x => x.window.isSome) = some c)
    (ha : s.pn 0x1402 ≠ 1) : exec .healthWindowEnd s = .next { s with upd := { s.upd with fallback := some c } } := by
  have he : exec .healthWindowEnd s = execHealthWindowEnd s := rfl
  rw [he, execHealthWindowEnd, hi]
  simp [ha, failWindow, hi]

/-! ### UPD_ABORT (R696) -/

/-- The session of component `c` closed, its pieces lost and the component back to what it runs. -/
def transferAborted (c : Nat) (s : State) : State :=
  modComp c (fun x => { x with state := 0, stored := x.running })
    { s with upd := { s.upd with session := 3, pieces := [], verify := none } }

theorem closeSession_of_transfer {s : State} {c : Nat} (hs : s.upd.session = 1) (hm : mComp s.upd.manifest = c)
    (hn : s.upd.handover = none) :
    closeSession c s = { s with upd := { s.upd with session := 3, pieces := [], verify := none } } := by
  simp [closeSession, hs, hm, hn]

theorem execUpdAbort_of_transfer {s : State} {c : Nat} (hc : c < 5) (h1 : 1 ≤ c) (h : s.serves 0x0607 modesAll = true)
    (hw : (s.comp c).window = none) (ht : (s.comp c).state = 1) (hn : s.upd.handover = none) (hs : s.upd.session = 1)
    (hm : mComp s.upd.manifest = c) (p : Port) (tag : Half) : exec (.updAbort p tag (componentPayload c)) s =
    .next (reply p 0x0607 tag stOk noDetail [] (transferAborted c s)) := by
  have h4 : ¬ 4 < c := by omega
  have h0 : c ≠ 0 := by omega
  refine (congrArg Host.Outcome.next (hostRow_of_serves h (ok := fun pl => pl.length == 4) rfl _ p tag)).trans ?_
  simp [componentPayload_component hc, componentPayload_zeros c, h4, h0, hw, ht, closeSession_of_transfer hs hm hn,
    transferAborted, opUpd]

/-! ### RESTORE_COMPLETE (R695) -/

/-- Where no UPD_ABORT waits, nobody is told. -/
theorem tellAbort_of_none {s : State} (h : s.upd.abortBy = []) (st : Nat) : tellAbort st s = s := by
  rw [tellAbort, h]
  show { s with upd := { s.upd with abortBy := [] } } = s
  rw [← h]

/-- The state once the restore has ended. -/
def restoreEnded (s : State) : State := { s with upd := { s.upd with restoring := false } }

theorem execRestoreComplete_of_alone {s : State} (hr : s.upd.restoring = true) (ha : s.upd.abortBy = [])
    (hh : s.upd.hibernateAfter = none) (good : Bool) : exec (.restoreComplete good) s = .next (
      if good then updEvent 0xFB 1 0 (modComp 0 (fun x => { x with state := 0, stored := x.running }) (restoreEnded s))
      else updEvent 0xFB 2 0 (restoreEnded s)) := by
  have hu : ({ s.upd with restoring := false, hibernateAfter := none } : UpdState) = { s.upd with restoring := false } := by
    rw [← hh]
  have he : exec (.restoreComplete good) s = execRestoreComplete good s := rfl
  rw [he, execRestoreComplete, hr, hh, hu]
  cases good with
  | false => exact congrArg Host.Outcome.next (tellAbort_of_none (by simpa using ha) _)
  | true => exact congrArg Host.Outcome.next (tellAbort_of_none (by simpa [modComp] using ha) _)

/-- Settles O18, from the handover to the restore. -/
theorem updateHandover : Obligations.UpdateHandover := by
  unfold Obligations.UpdateHandover
  intro s p tag c hc hlen
  refine ⟨fun h h2 hv hi hn => execUpdHandover_of_verified hc h2 h hv hi hn p tag, fun h hh hr he => ?copied,
    fun h r n e rest hh hl hn => execSatelliteSwitch_of_next hh hl hn,
    fun hw hf hok => ⟨fun h => execUpdConfirm_of_healthy hf hok hc hw h p tag,
      fun hi ha => execHealthWindowEnd_of_healthy hf hok hi ha, comp_confirm (hlen ▸ hc)⟩,
    fun hi ha => execHealthWindowEnd_of_manual hi ha, fun h h1 hw ht hn hs hm => ?aborted, fun hr ha hh => ?restored⟩
  case copied =>
    refine ⟨fun h3 => execImageCopyComplete_of_die hh hr (by omega) (by omega),
      fun h1 hl => execImageCopyComplete_of_satellites hh hr (he.trans h1) hl,
      fun h4 => execImageCopyComplete_of_failed hh hr (he ▸ h4)⟩
  case aborted =>
    refine ⟨_, execUpdAbort_of_transfer hc h1 h hw ht hn hs hm p tag, rfl, rfl, ?_⟩
    rw [transferAborted, comp_modComp (hlen ▸ hc)]
  case restored =>
    refine ⟨execRestoreComplete_of_alone hr ha hh false, _, execRestoreComplete_of_alone hr ha hh true, rfl, ?_⟩
    rw [comp_modComp (s := restoreEnded s) (show 0 < s.upd.comps.length by omega)]

end Sys2Proof.Machine
end
